-- ==== Sys2Proof/Word.lean ====
section
/-! DEFINITION. Sys2Proof/Word.lean: the word types of the device and their plainest arithmetic. -/
namespace Sys2Proof

/-- A byte. -/
abbrev Byte := BitVec 8

/-- A register word (R8). -/
abbrev Word := BitVec 32

/-- The 18-bit native word of the lamps and the Lens. -/
abbrev Native := BitVec 18

end Sys2Proof
end

