-- ==== Sys2Proof/Syntax.lean ====
section
/-! DEFINITION. Sys2Proof/Syntax.lean: the commands of the device, one constructor per row of spec/opcode_table.json. Operands named
m are the bus master that writes or reads; err is the error a memory check of the command meets (0 none, 1 single, 2 double); host is
what host memory answers. -/
namespace Sys2Proof

/-- The descriptor of a packet (R112). -/
abbrev Desc := BitVec 256

/-- A configuration request of the host (R506, R508, R526). -/
inductive CfgReq where
  /-- Read the word at an offset. -/
  | read (off : Nat)
  /-- Write the word at an offset. -/
  | write (off v : Nat)
  /-- Set the CXL.cache and CXL.mem enables, the base of HDM decoder 0 and the MSI-X enable. -/
  | control (cache mem : Bool) (base : Nat) (msixEn : Bool)
deriving DecidableEq, Repr

/-- A command. -/
inductive Instr where
  /-- REGISTER_WRITE. Master m writes a word to the register at offset off of the register pages. err and host: what a read that the write makes (a DMA doorbell's read of NEXT) meets and finds in host memory. -/
  | registerWrite (m off : Nat) (w : Word) (host : List Byte) (err : Nat)
  /-- BROADCAST_WRITE. Master m writes a word through a broadcast or group page. -/
  | broadcastWrite (m off : Nat) (w : Word)
  /-- BROADCAST_READ. Master m reads a word through a broadcast or group page. -/
  | broadcastRead (m off : Nat)
  /-- BUS_ACCESS. Master m reads or writes len bytes at addr. en: the byte enables of a write; err: the errors that the checks it meets find, by base-4 digit: 0 none, 1 correctable, 2 not, 3 a TAG error; host: what host memory answers. -/
  | busAccess (m : Nat) (write : Bool) (addr len en : Nat) (data : List Byte) (err : Nat) (host : List Byte)
  /-- PERIPHERAL_TIMEOUT. An access of master m to a register page at addr times out. -/
  | peripheralTimeout (m addr : Nat) (write : Bool)
  /-- BMX_CNT_UNDEF_READ. Master m reads BMX_CNT_UNDEF. -/
  | bmxCntUndefRead (m : Nat)
  /-- TOP_REMAP_SWAP. Master m writes 1 to TOP_REMAP.SWAP. -/
  | topRemapSwap (m : Nat)
  /-- TIME_CTRL_SRC_WRITE. Master m writes TIME_CTRL. -/
  | timeCtrlSrcWrite (m : Nat) (w : Word)
  /-- PTP_MESSAGE. A PTP message, from its header on, arrives on management port via % 2; via / 2: 0 Layer 2, 1 UDP/IPv4. -/
  | ptpMessage (via : Nat) (bytes : List Byte)
  /-- PTP_FORWARD. A PTP message is forwarded from port via % 2 to the other; residence: its residence time in 2^-16 ns. -/
  | ptpForward (via residence : Nat) (bytes : List Byte)
  /-- PPS_IN_EDGE. An edge of PPS_IN after its filter. -/
  | ppsInEdge (rising : Bool)
  /-- HOLDOVER_TIMEOUT. The selected source has been silent for longer than HOLDOVER_DELAY. -/
  | holdoverTimeout
  /-- PPS_LOST_TIMEOUT. No PPS_IN edge for 1.5 s. -/
  | ppsLostTimeout
  /-- STEP_NOW. Master m writes TIME_COMMIT.STEP_NOW. -/
  | stepNow (m : Nat)
  /-- STEP_AT_PPS. Master m writes TIME_COMMIT.STEP_AT_PPS. -/
  | stepAtPps (m : Nat)
  /-- SD_COMMIT. Master m writes TIME_COMMIT.SD_COMMIT[d]. -/
  | sdCommit (m d : Nat)
  /-- TB0_CAPTURE. Master m writes TB0_CAPTURE. -/
  | tb0Capture (m : Nat)
  /-- PPS_OUT_RISE. A TB0 second boundary at PPS_OUT. -/
  | ppsOutRise
  /-- PPS_OUT_FALL. WIDTH_US after PPS_OUT rose. -/
  | ppsOutFall
  /-- BEACON_FALL. WIDTH_NS after BEACONk became active. -/
  | beaconFall (k : Nat)
  /-- SLOT_ARM. Master m writes SLOT_CTRL of slot n with ARM: w gives the other fields. -/
  | slotArm (m n : Nat) (w : Word)
  /-- SLOT_CANCEL. Master m writes SLOT_CTRL.CANCEL of slot n. -/
  | slotCancel (m n : Nat)
  /-- SLOT_DELIVER. The scheduler delivers the occurrence in progress of slot n. -/
  | slotDeliver (n : Nat)
  /-- ACTION_STARVE. The estimate exceeds the pending trigger of slot n by STARVE_US. -/
  | actionStarve (n : Nat)
  /-- SCHED_BLOCK_RESET. A block reset of SCHED. -/
  | schedBlockReset
  /-- DUMP_BOUNDARY. The lantern array reaches the count of slot n. -/
  | dumpBoundary (n : Nat)
  /-- LENS_TABLE_SWAP. The Lens reaches the count of slot n. -/
  | lensTableSwap (n : Nat)
  /-- LAMP_TABLE_SWAP. Lamp k reaches the count of slot n. -/
  | lampTableSwap (n k : Nat)
  /-- WEIGHT_TABLE_SWAP. The Candelabra takes the delivered slot n. -/
  | weightTableSwap (n : Nat)
  /-- APPLY_SET. The ingest stage or the Lens input reaches the count of slot n. -/
  | applySet (n : Nat)
  /-- DELAY_STEP. The delay stage reaches the count of slot n. -/
  | delayStep (n : Nat)
  /-- BEACON. TB0 reaches the time of slot n. -/
  | beacon (n : Nat)
  /-- CAPTURE_FREEZE. A matching record reaches the count of slot n. -/
  | captureFreeze (n : Nat)
  /-- COUNTER_SNAPSHOT. The ingest stage or the Lens input reaches the count of slot n. -/
  | counterSnapshot (n : Nat)
  /-- BEAM_ENABLE. The Candelabra reaches the count of slot n. -/
  | beamEnable (n : Nat)
  /-- BEAM_DISABLE. The Candelabra reaches the count of slot n. -/
  | beamDisable (n : Nat)
  /-- TRIM. The outputs reach the count of slot n. -/
  | trim (n : Nat)
  /-- LAMP_EVENT. Lamp k reaches the count of slot n. -/
  | lampEvent (n k : Nat)
  /-- HEAD_WICK. A CRC-good HEAD wick on receive lane l with SYNC good or not, SEQ and CREDIT. used: buffer positions that other packets of an OPEN lane hold. -/
  | headWick (l : Nat) (sync : Bool) (seq credit : Nat) (desc : Desc) (used : Nat)
  /-- BODY_WICK. A CRC-good BODY wick; overload: places of its samples that the Candelabra cannot take. -/
  | bodyWick (l : Nat) (sync : Bool) (seq credit : Nat) (payload : List Byte) (overload : List Nat)
  /-- BODY_LAST_WICK. A CRC-good BODY_LAST wick; capOk: a capture record of it can be written. -/
  | bodyLastWick (l : Nat) (sync : Bool) (seq credit : Nat) (payload : List Byte) (overload : List Nat) (capOk : Bool)
  /-- IDLE_WICK. A CRC-good IDLE wick. -/
  | idleWick (l : Nat) (sync : Bool) (seq credit : Nat)
  /-- CTRL_WICK. A CRC-good CTRL wick. -/
  | ctrlWick (l : Nat) (sync : Bool) (seq credit : Nat) (payload : List Byte)
  /-- TRAIN_WICK. A CRC-good TRAIN wick. -/
  | trainWick (l : Nat) (sync : Bool) (seq credit : Nat) (payload : List Byte)
  /-- CREDIT_SYNC_WICK. A CRC-good CREDIT_SYNC wick. -/
  | creditSyncWick (l : Nat) (sync : Bool) (seq credit : Nat) (payload : List Byte)
  /-- FLAGGED_IDLE_WICK. A CRC-good FLAGGED_IDLE wick. -/
  | flaggedIdleWick (l : Nat) (sync : Bool) (seq credit : Nat)
  /-- WICK_CRC_FAIL. A wick whose CRC fails; header and payload: as received. -/
  | wickCrcFail (l : Nat) (sync : Bool) (header : Nat) (payload : List Byte)
  /-- WICK_TRANSMIT. Transmit lane l sends its next wick. -/
  | wickTransmit (l : Nat)
  /-- CLOCK_ACQUIRED. The clock of group g is acquired. -/
  | clockAcquired (g : Nat)
  /-- EQUALISER_ADAPTED. The equaliser of lane l has adapted with the eye above LNK_EYE_MIN. -/
  | equaliserAdapted (l : Nat)
  /-- TRAIN_STAGE_TIMEOUT. The training stage of lane l times out; activity: transitions are seen on the lane. -/
  | trainStageTimeout (l : Nat) (activity : Bool)
  /-- FFE_FALLBACK. No TRAIN wick on lane l within 2 ms of FFE_ADAPT. -/
  | ffeFallback (l : Nat)
  /-- BACKOFF_EXPIRY. The backoff of lane l ends. -/
  | backoffExpiry (l : Nat)
  /-- CLOCK_ACTIVITY_START. The forwarded clock of group g starts. -/
  | clockActivityStart (g : Nat)
  /-- GROUP_CLOCK_LOSS. The clock of group g is lost; activity: transitions remain on its clock lane. -/
  | groupClockLoss (g : Nat) (activity : Bool)
  /-- CREDIT_RESET. Step 3 of the credit handshake on lane l. -/
  | creditReset (l : Nat)
  /-- RETRAIN. Master m writes LANE_CMD.RETRAIN of lane l. -/
  | retrain (m l : Nat)
  /-- SEND_RETRAIN_REQ. Master m writes LANE_CMD.SEND_RETRAIN_REQ of lane l. -/
  | sendRetrainReq (m l : Nat)
  /-- LANE_CLEAR_CNT. Master m writes LANE_CMD.CLEAR_CNT of lane l. -/
  | laneClearCnt (m l : Nat)
  /-- LNK_COMMIT. Master m writes LNK_COMMIT.COMMIT of group g. -/
  | lnkCommit (m g : Nat)
  /-- RETRAIN_ALL. Master m writes LNK_COMMIT.RETRAIN_ALL of group g. -/
  | retrainAll (m g : Nat)
  /-- EGR_COMMIT. Master m writes EGR_COMMIT.COMMIT. -/
  | egrCommit (m : Nat)
  /-- EGRESS_PACKET. The egress packetiser is due to form a packet of map entry e; blocked: it cannot be sent in time. -/
  | egressPacket (e : Nat) (blocked : Bool)
  /-- COUNT_MARKER. The count marker that entry e owes its lane is sent. -/
  | countMarker (e : Nat)
  /-- DESKEW_DONE. Lane l has centred its phase and found SYNC alignment. -/
  | deskewDone (l : Nat)
  /-- RESERVED_TYPE_WICK. A CRC-good wick of a reserved TYPE. -/
  | reservedTypeWick (l : Nat) (sync : Bool) (seq credit type : Nat) (payload : List Byte)
  /-- PRBS_LOCK. Pattern bits arrive at the PRBS checker of lane l. -/
  | prbsLock (l : Nat) (bits : List Bool)
  /-- LENS_COMMIT. Master m writes LENS_COMMIT.COMMIT. -/
  | lensCommit (m : Nat)
  /-- LENS_COEF_DATA. Master m writes LENS_COEF_DATA. -/
  | lensCoefData (m : Nat) (w : Word)
  /-- LENS_SEAL. Master m writes LENS_COEF_CTRL.SEAL. -/
  | lensSeal (m : Nat)
  /-- LENS_UNSEAL. Master m writes LENS_COEF_CTRL.UNSEAL. -/
  | lensUnseal (m : Nat)
  /-- LENS_SWAP_NOW. Master m writes LENS_COEF_CTRL.SWAP_NOW. -/
  | lensSwapNow (m : Nat)
  /-- LENS_RESET_PTR. Master m writes LENS_COEF_CTRL.RESET_PTR. -/
  | lensResetPtr (m : Nat)
  /-- LENS_OUTPUT_COUNT. The Lens takes its next output count; first: the one it starts at after its enabling. -/
  | lensOutputCount (first : Nat)
  /-- LAMP_RUN. Master m writes LMP_CTRL.RUN of lamp n. -/
  | lampRun (m n : Nat)
  /-- LAMP_HALT. Master m writes LMP_CTRL.HALT of lamp n. -/
  | lampHalt (m n : Nat)
  /-- LAMP_STEP. Master m writes LMP_CTRL.STEP of lamp n; err: the errors the memory checks of the instruction meet, as in BUS_ACCESS. -/
  | lampStep (m n err : Nat)
  /-- LAMP_RESET. Master m writes LMP_CTRL.RESET of lamp n. -/
  | lampReset (m n : Nat)
  /-- LMP_DOORBELL. Master m writes LMP_DOORBELL of lamp n. -/
  | lmpDoorbell (m n v : Nat)
  /-- LMP_COMMIT. Master m writes LMP_COMMIT.COMMIT of lamp n. -/
  | lmpCommit (m n : Nat)
  /-- LAMP_SEAL. Master m writes LMP_COEF_CTRL.SEAL of lamp n. -/
  | lampSeal (m n : Nat)
  /-- LAMP_UNSEAL. Master m writes LMP_COEF_CTRL.UNSEAL of lamp n. -/
  | lampUnseal (m n : Nat)
  /-- LAMP_SWAP_NOW. Master m writes LMP_COEF_CTRL.SWAP_NOW of lamp n. -/
  | lampSwapNow (m n : Nat)
  /-- DBG_DATA_WRITE. Master m writes LMP_DBG_DATA_LO of lamp n. -/
  | dbgDataWrite (m n : Nat) (w : Word)
  /-- INTERRUPT_ENTRY. Lamp n takes an interrupt. -/
  | interruptEntry (n : Nat)
  /-- LAMP_TIMER_EXPIRY. TIMER of lamp n reaches zero. -/
  | lampTimerExpiry (n : Nat)
  /-- FETCH_COMPLETE. The copy of lamp n's fetch unit ends; err: the errors its checks meet, row k's from digit 16 × k on: the lamp's side, then from digit 8 the bus's. -/
  | fetchComplete (n err : Nat)
  /-- OUTBOX_READ. An aligned 64-byte read of the outbox read port of lamp n. -/
  | outboxRead (n : Nat)
  /-- SOUT_RECORD_ENTER. The oldest produced record of lamp n that is ready enters SOUT; overload: the Candelabra cannot take its samples. -/
  | soutRecordEnter (n : Nat) (overload : Bool)
  /-- ILLEGAL_INSTRUCTION. The word w at LMP_PC of lamp n issues and is illegal. -/
  | illegalInstruction (n w : Nat)
  /-- NOP. nop -/
  | nop (n : Nat)
  /-- HALT. halt -/
  | halt (n : Nat)
  /-- B. b{cnd} tgt -/
  | b (n cnd tgt : Nat)
  /-- CALL. call tgt -/
  | call (n tgt : Nat)
  /-- JR. jr{cnd} s[a] -/
  | jr (n cnd a : Nat)
  /-- RETI. reti -/
  | reti (n : Nat)
  /-- LOOP. loop level k, last address e, count c -/
  | loop (n k e c : Nat)
  /-- LOOP_REG. loop level k, last address e, count s[a] -/
  | loopReg (n k e a : Nat)
  /-- ADD. s[d] = s[a] + s[b] -/
  | add (n d a b : Nat)
  /-- SUB. s[d] = s[a] - s[b] -/
  | sub (n d a b : Nat)
  /-- AND. s[d] = s[a] AND s[b] -/
  | and (n d a b : Nat)
  /-- OR. s[d] = s[a] OR s[b] -/
  | or (n d a b : Nat)
  /-- XOR. s[d] = s[a] XOR s[b] -/
  | xor (n d a b : Nat)
  /-- LSL. s[d] = s[a] shifted left by k -/
  | lsl (n d a k : Nat)
  /-- ASR. s[d] = s[a] shifted right by k, arithmetic -/
  | asr (n d a k : Nat)
  /-- LSR. s[d] = s[a] shifted right by k, logical -/
  | lsr (n d a k : Nat)
  /-- ADD_IMM. s[d] = s[a] + imm -/
  | addImm (n d a imm : Nat)
  /-- MOV_IMM. s[d] = imm -/
  | movImm (n d imm : Nat)
  /-- MOVH. s[d][35:18] = imm -/
  | movh (n d imm : Nat)
  /-- CMP. flags of s[a] - s[b] -/
  | cmp (n a b : Nat)
  /-- CMP_IMM. flags of s[a] - imm -/
  | cmpImm (n a imm : Nat)
  /-- GETL. s[d] = lane k of v[a] -/
  | getl (n d a k : Nat)
  /-- SETL. lane k of v[d] = s[a] -/
  | setl (n d a k : Nat)
  /-- RSUM. s[d] = sum of lanes of accumulator ac -/
  | rsum (n d ac sh x : Nat)
  /-- GETA. s[d] = field x of lane k of accumulator ac -/
  | geta (n d ac k x : Nat)
  /-- OBX. push v[a] to the outbox -/
  | obx (n a : Nat)
  /-- ADD_A_IMM. a[p] = a[p] + imm -/
  | addAImm (n p imm : Nat)
  /-- MOV_A_S. a[p] = s[q] -/
  | movAS (n p q : Nat)
  /-- MOV_S_A. s[q] = a[p] -/
  | movSA (n p q : Nat)
  /-- MOV_M_S. m[p] = s[q] -/
  | movMS (n p q : Nat)
  /-- MOV_A_IMM. a[p] = imm -/
  | movAImm (n p imm : Nat)
  /-- MOVL_M. m[p][11:0] = imm -/
  | movlM (n p imm : Nat)
  /-- MOVH_M. m[p][23:12] = imm -/
  | movhM (n p imm : Nat)
  /-- MTS. special register sp = s[d] -/
  | mts (n d sp : Nat)
  /-- MFS. s[d] = special register sp -/
  | mfs (n d sp : Nat)
  /-- LD. v[d] = a data row, at a[aa] + off with post-modify mm, pm -/
  | ld (n d aa mm pm off err : Nat)
  /-- ST. a data row = v[d], at a[aa] + off with post-modify mm, pm -/
  | st (n d aa mm pm off : Nat)
  /-- LDC. v[d] = a coefficient row, at a[aa] + off with post-modify mm, pm -/
  | ldc (n d aa mm pm off err : Nat)
  /-- LDCB. v[d] = a coefficient word or pair in every lane, at a[aa] + off with post-modify mm, pm -/
  | ldcb (n d aa mm pm off err : Nat)
  /-- LD_S. s[d] = a data word, at a[aa] + off with post-modify mm, pm -/
  | ldS (n d aa mm pm off err : Nat)
  /-- ST_S. a data word = s[d], at a[aa] + off with post-modify mm, pm -/
  | stS (n d aa mm pm off : Nat)
  /-- LDW. s[d] = two data words, at a[aa] + off with post-modify mm, pm -/
  | ldw (n d aa mm pm off err : Nat)
  /-- STW. two data words = s[d], at a[aa] + off with post-modify mm, pm -/
  | stw (n d aa mm pm off : Nat)
  /-- SIN. pop the oldest SIN record into v[d] -/
  | sin (n d : Nat)
  /-- SOUT. append v[a] to SOUT -/
  | sout (n a : Nat)
  /-- PASS. pop one SIN record and append it to SOUT -/
  | pass (n : Nat)
  /-- XMUL. pop one SIN record and append it, data times a coefficient row, to SOUT -/
  | xmul (n sh cj aa mm pm err : Nat)
  /-- TAP. multiply a data row into accumulator ac and move it along its delay line -/
  | tap (n ac d aa mm pm off err : Nat)
  /-- SRCH. update the extremum search with a data row -/
  | srch (n d aa mm pm off : Nat)
  /-- SRCHI. start the extremum search -/
  | srchi (n : Nat)
  /-- FETCH. start a copy between data memory and the bus -/
  | fetch (n a b aa rows dir pk : Nat)
  /-- VECTOR_ADD. v[d] = lane-wise sum of v[a] and v[b] -/
  | vadd (n d a b : Nat)
  /-- VECTOR_SUB. v[d] = lane-wise difference of v[a] and v[b] -/
  | vsub (n d a b : Nat)
  /-- MIN. v[d] = lane-wise minimum of v[a] and v[b] -/
  | vmin (n d a b : Nat)
  /-- MAX. v[d] = lane-wise maximum of v[a] and v[b] -/
  | vmax (n d a b : Nat)
  /-- VECTOR_AND. v[d] = lane-wise AND of v[a] and v[b] -/
  | vand (n d a b : Nat)
  /-- VECTOR_OR. v[d] = lane-wise OR of v[a] and v[b] -/
  | vor (n d a b : Nat)
  /-- VECTOR_XOR. v[d] = lane-wise XOR of v[a] and v[b] -/
  | vxor (n d a b : Nat)
  /-- VECTOR_ASR. v[d] = v[a] shifted right by sh, floored (x 0) or rounded -/
  | vasr (n d a sh x : Nat)
  /-- VECTOR_LSL. v[d] = v[a] shifted left by sh, saturated -/
  | vlsl (n d a sh : Nat)
  /-- BCAST. v[d] = s[a] in every lane -/
  | bcast (n d a : Nat)
  /-- MUL. v[d] = product of v[a] and v[b], rounded and saturated -/
  | mul (n d a b sh cj : Nat)
  /-- MPY. accumulator ac = product of v[a] and v[b] -/
  | mpy (n ac a b cj : Nat)
  /-- MAC. accumulator ac += product of v[a] and v[b] -/
  | mac (n ac a b cj : Nat)
  /-- MSU. accumulator ac -= product of v[a] and v[b] -/
  | msu (n ac a b cj : Nat)
  /-- PWR. accumulator ac += power of v[a] -/
  | pwr (n ac a : Nat)
  /-- RND. v[d] = accumulator ac, rounded and saturated -/
  | rnd (n d ac sh : Nat)
  /-- STG_COMMIT. Master m writes STG_COMMIT.COMMIT. -/
  | stgCommit (m : Nat)
  /-- STG_CLEAR_CNT. Master m writes STG_COMMIT.CLEAR_CNT. -/
  | stgClearCnt (m : Nat)
  /-- WINDOW_TIMEOUT. Window k of set j has been filling for TIMEOUT_US. -/
  | windowTimeout (j k : Nat)
  /-- VERDICT_WAIT_EXPIRY. VERDICT_WAIT has passed since window k of set j closed. -/
  | verdictWaitExpiry (j k : Nat)
  /-- WINDOW_HAND_OUT. Channel index c of the oldest closed window of set j is handed to the lantern array. -/
  | windowHandOut (j c : Nat)
  /-- CAP_ARM. Master m writes CAP_CTRL.ARM. -/
  | capArm (m : Nat)
  /-- CAP_STOP. Master m writes CAP_CTRL.STOP. -/
  | capStop (m : Nat)
  /-- FREEZE_NOW. Master m writes CAP_CTRL.FREEZE_NOW. -/
  | freezeNow (m : Nat)
  /-- CAPTURE_TRIG_IN. An edge of CAPTURE_TRIG_IN after its filter. -/
  | captureTrigIn (rising : Bool)
  /-- LAN_COMMIT. Master m writes LAN_COMMIT.COMMIT. -/
  | lanCommit (m : Nat)
  /-- LAN_RESEED. Master m writes LAN_COMMIT.RESEED. -/
  | lanReseed (m : Nat)
  /-- TASK_DISPATCH. The next task of job j is assigned to its lantern. -/
  | taskDispatch (j : Nat)
  /-- TASK_START. Lantern l starts its next queued task. -/
  | taskStart (l : Nat)
  /-- TASK_COMPLETE. The task of lantern l completes. -/
  | taskComplete (l : Nat)
  /-- LAN_DEBUG_WRITE. Master m writes LAN_DEBUG.EN (off 0x300) or a mask word. -/
  | lanDebugWrite (m off : Nat) (w : Word)
  /-- PROMOTION. The promotion at the head of the stream of job j enters the mantle; parity: plane parity errors found; errs: check errors of mantle entries, entry number (4096 the header) and 1 single or 2 double; 8192 × (slot + 1) + entry number names stored bits of any slot, which stay wrong until they are read. -/
  | promotion (j parity : Nat) (errs : List (Nat × Nat))
  /-- NOTICE. The notice at the head of the stream of job j is applied. -/
  | notice (j : Nat)
  /-- PERIOD_END_MARKER. A period-end marker of job j leaves the adder pipeline of slice k. -/
  | periodEndMarker (j k : Nat)
  /-- SLOT_DRAIN. The drain at the head of mantle slot n runs. -/
  | slotDrain (n : Nat) (errs : List (Nat × Nat))
  /-- DUMP_COPY_COMPLETE. The header of an LPDDR6 dump copy of job j becomes readable. -/
  | dumpCopyComplete (j : Nat)
  /-- SLOT_CLEAR. The clear at the head of mantle slot n runs. -/
  | slotClear (n : Nat)
  /-- TAG_SET. The tag set at the head of mantle slot n runs. -/
  | tagSet (n : Nat)
  /-- MANTLE_INIT_CLEAR. The mantle has cleared every slot after reset. -/
  | mantleInitClear
  /-- MNT_COMMIT. Master m writes MNT_COMMIT.COMMIT. -/
  | mntCommit (m : Nat)
  /-- CAN_COMMIT. Master m writes CAN_COMMIT.COMMIT. -/
  | canCommit (m : Nat)
  /-- BLOCK_SKEW_TIMEOUT. Block b of stream k has been open for CAN_SKEW_NS. -/
  | blockSkewTimeout (k b : Nat)
  /-- CAN_W_DATA. Master m writes CAN_W_DATA. -/
  | canWData (m : Nat) (w : Word)
  /-- COPY_LIVE. Master m writes CAN_W_CTRL.COPY_LIVE. -/
  | copyLive (m : Nat)
  /-- COPY_COMPLETE. The copy of the live bank finishes. -/
  | copyComplete
  /-- CAN_SEAL. Master m writes CAN_W_CTRL.SEAL. -/
  | canSeal (m : Nat)
  /-- CAN_UNSEAL. Master m writes CAN_W_CTRL.UNSEAL. -/
  | canUnseal (m : Nat)
  /-- CAN_SWAP_NOW. Master m writes CAN_W_CTRL.SWAP_NOW. -/
  | canSwapNow (m : Nat)
  /-- DMA_START. Master m writes CH_CTRL.START of channel c. -/
  | dmaStart (m c : Nat)
  /-- DMA_DOORBELL. Master m writes CH_CTRL.DOORBELL of channel c; err, host: what the read of NEXT meets and finds in host memory. -/
  | dmaDoorbell (m c err : Nat) (host : List Byte)
  /-- DMA_ABORT. Master m writes CH_CTRL.ABORT of channel c. -/
  | dmaAbort (m c : Nat)
  /-- DMA_CLEAR_CNT. Master m writes CH_CTRL.CLEAR_CNT of channel c. -/
  | dmaClearCnt (m c : Nat)
  /-- DMA_EN_WRITE. Master m writes DMA_CTRL.EN. -/
  | dmaEnWrite (m : Nat) (en : Bool)
  /-- DMA_BLOCK_RESET. A block reset of DMA. -/
  | dmaBlockReset
  /-- DESCRIPTOR_FETCH. Channel c fetches its next descriptor. -/
  | descriptorFetch (c err : Nat) (host : List Byte)
  /-- READ_BURST. Channel c issues a read burst, of its source or, comparing, of its destination. -/
  | readBurst (c : Nat) (dst : Bool)
  /-- WRITE_BURST. Channel c issues a write burst. -/
  | writeBurst (c : Nat)
  /-- READ_RESPONSE. Outstanding read k of channel c is answered. -/
  | readResponse (c k err : Nat) (host : List Byte)
  /-- WRITE_ACK. Outstanding write k of channel c is acknowledged. -/
  | writeAck (c k err : Nat)
  /-- DESCRIPTOR_END. The descriptor of channel c ends; host and again: what host memory answers to the reads of NEXT. -/
  | descriptorEnd (c err : Nat) (host again : List Byte)
  /-- CMP_RD_WRITE. Master m writes CMP_RD of channel c. -/
  | cmpRdWrite (m c v err : Nat) (host : List Byte)
  /-- MEM_INIT. Master m writes MEM_CTRL.INIT. -/
  | memInit (m : Nat)
  /-- MEM_TRAINING_COMPLETE. Full training after INIT ends; fail: the channels that failed. -/
  | memTrainingComplete (fail : Nat)
  /-- PERIODIC_RETRAIN. RETRAIN_MS has passed for channel c. -/
  | periodicRetrain (c : Nat)
  /-- PERIODIC_RETRAIN_COMPLETE. The periodic retraining of channel c ends. -/
  | periodicRetrainComplete (c : Nat)
  /-- FSP_REQ. Master m writes MEM_FSP_CTRL.REQ. -/
  | fspReq (m : Nat)
  /-- FSP_INVALIDATE. Master m writes MEM_FSP_CTRL.INVALIDATE. -/
  | fspInvalidate (m : Nat)
  /-- FSP_RATE_WRITE. Master m writes the rate code of set point k. -/
  | fspRateWrite (m k v : Nat)
  /-- FSP_SWITCH_COMPLETE. A set-point switch ends; fail: the channels that failed to train. -/
  | fspSwitchComplete (fail : Nat)
  /-- TEMP_POLL. The temperatures of the eight channels are read. -/
  | tempPoll (ts : List Int)
  /-- SR_ENTRY. Channel c has been idle for MEM_SR_IDLE. -/
  | srEntry (c : Nat)
  /-- SR_EXIT. A request makes channel c leave self-refresh; entering: it was still entering it. -/
  | srExit (c : Nat) (entering : Bool)
  /-- MEM_REQUEST. A request of master m arrives at port q. -/
  | memRequest (q m : Nat) (write : Bool) (off len : Nat) (data : List Byte)
  /-- MEM_ISSUE. Channel c issues a request; e0, e1: the errors its bursts' halves meet, by digit; slip: how many bursts away from their
  addresses a fault makes its reads land. -/
  | memIssue (c e0 e1 slip : Nat)
  /-- BURST_READ_CHECK. A burst read for master m returns; e0, e1, slip as in MEM_ISSUE. -/
  | burstReadCheck (off e0 e1 slip m : Nat)
  /-- PATROL_SCRUB. The patrol scrubber reads its next burst; e0, e1, slip as in MEM_ISSUE. -/
  | patrolScrub (e0 e1 slip : Nat)
  /-- MEM_COMMIT. Master m writes MEM_COMMIT.COMMIT. -/
  | memCommit (m : Nat)
  /-- MEM_ERR_ADDR_READ. Master m reads MEM_ERR_ADDR_HI. -/
  | memErrAddrRead (m : Nat)
  /-- HIF_LINK_UP. The host link trains at a width and a rate, coded as HIF_STATUS. -/
  | hifLinkUp (width rate : Nat) (cxl flit256 : Bool)
  /-- HIF_LINK_DOWN. The host link is lost; retired: outstanding transactions of masters 0x02 and 0x03 (R490). -/
  | hifLinkDown (retired : Nat)
  /-- HIF_RETRAIN. Master m writes HIF_CTRL.RETRAIN. -/
  | hifRetrain (m : Nat)
  /-- CONFIG_REQUEST. A configuration request; loaded: the subsystem IDs have been loaded. -/
  | configRequest (loaded : Bool) (q : CfgReq)
  /-- BAR0_ACCESS. The host reads or writes len bytes at an offset of BAR0. -/
  | bar0Access (write : Bool) (off len : Nat) (w : Word) (err : Nat) (host : List Byte)
  /-- APERTURE_ACCESS. The host reads or writes len bytes at an offset of BAR4. -/
  | apertureAccess (write : Bool) (off len en : Nat) (data : List Byte) (err : Nat)
  /-- CXL_MEM_READ. A CXL.mem read of the line at a host physical address. -/
  | cxlMemRead (addr err : Nat)
  /-- CXL_MEM_WRITE. A CXL.mem write of bytes of the line at a host physical address. -/
  | cxlMemWrite (addr en : Nat) (data : List Byte) (err : Nat)
  /-- SNOOP. A host snoop of a line. -/
  | snoop (addr : Nat)
  /-- MBX_DOORBELL. Master m writes MBX_CTRL.DOORBELL. -/
  | mbxDoorbell (m : Nat)
  /-- MBX_RESPONSE. The Lamplighter completes the mailbox request; host: host memory a command register reads; bad: an MRAM write fails. -/
  | mbxResponse (host : List Byte) (bad : Bool)
  /-- MSIX_MESSAGE. Vector v sends its message. -/
  | msixMessage (v : Nat)
  /-- BAR2_ACCESS. The host reads or writes a word of BAR2. -/
  | bar2Access (write : Bool) (off : Nat) (w : Word)
  /-- HIF_PERST_N. HIF_PERST_N takes a level. -/
  | hifPerstN (high : Bool)
  /-- ZMP_DATAGRAM. A datagram for zmp_port arrives on management port port from an address and UDP port; dst: 0, or the IPv4 group address it was sent to. -/
  | zmpDatagram (port ip udp dst : Nat) (bytes host : List Byte) (bad : Bool)
  /-- READ. A READ request of an origin class (0 H, 1 N, 2 F, 3 M). -/
  | read (origin session ix el count : Nat)
  /-- WRITE. A WRITE request. -/
  | write (origin session ix el count : Nat) (value host : List Byte) (bad : Bool)
  /-- WRITE_STAGED. A WRITE_STAGED request to parameter set p. -/
  | writeStaged (p origin session ix el count : Nat) (value : List Byte)
  /-- APPLY_NOW. An immediate APPLY of parameter set p. -/
  | applyNow (origin session p : Nat)
  /-- APPLY_SCHEDULED. A scheduled APPLY of parameter set p in slot n. -/
  | applyScheduled (origin session p n dom policy trig ns : Nat)
  /-- SUBSCRIBE. A SUBSCRIBE request of a session. -/
  | subscribe (session ix el count mode interval : Nat)
  /-- BLOCK_READ. A BLOCK_READ request. -/
  | blockRead (origin ix el off len : Nat)
  /-- BLOCK_WRITE. A BLOCK_WRITE request. -/
  | blockWrite (origin session ix el off : Nat) (data : List Byte)
  /-- LOG_READ. A LOG_READ request for up to len entries. -/
  | logRead (origin first len : Nat)
  /-- DISCOVER. A DISCOVER request. -/
  | discover (ip udp seq : Nat)
  /-- NOTIFY_SEND. Subscription k of session n is due. -/
  | notifySend (n k : Nat)
  /-- SESSION_TIMEOUT. Session n has accepted no request for session_timeout_s. -/
  | sessionTimeout (n : Nat)
  /-- PSET_CLEAR. A WRITE of 1 to pset_command of set p. -/
  | psetClear (origin session p : Nat)
  /-- PSET_APPLY_NOW. A WRITE of 2 to pset_command of set p. -/
  | psetApplyNow (origin session p : Nat)
  /-- PSET_CHECK. A WRITE of 3 to pset_command of set p. -/
  | psetCheck (origin session p : Nat)
  /-- RESTORE_DEFAULTS. A WRITE of v to restore_defaults. -/
  | restoreDefaults (origin session v : Nat)
  /-- JOURNAL_WRITE. The changed persistent objects are journaled. -/
  | journalWrite
  /-- LOG_PERSIST. The change log reaches its MRAM region. -/
  | logPersist
  /-- BOOT_ROM_START. The boot ROM runs; its reads find uncorrectable errors in these MRAM words of the slots, the update area and the boot area. -/
  | bootRomStart (slots update boot : List Nat)
  /-- FIRMWARE_INIT. The firmware starts; its reads find uncorrectable errors in these MRAM words of the dictionary store and of the others. -/
  | firmwareInit (dict stores : List Nat)
  /-- LAMPLIGHTER_RESET. A Lamplighter reset; retired: its outstanding transactions (R490). -/
  | lamplighterReset (retired : Nat)
  /-- NVM_WORD_WRITE. Master m writes NVM_WDATA_HI; maker: for a request of origin class M. -/
  | nvmWordWrite (m : Nat) (w : Word) (maker : Bool)
  /-- NVM_WRITE_COMPLETE. The MRAM word write ends; bad: attempts whose read-back did not match. -/
  | nvmWriteComplete (bad : Nat)
  /-- NVM_ERR_ADDR_READ. Master m reads NVM_ERR_ADDR. -/
  | nvmErrAddrRead (m : Nat)
  /-- THERMAL_SAMPLE. The 32 thermal sensors are sampled. -/
  | thermalSample (vals : List Nat)
  /-- VOLTAGE_SAMPLE. The 24 voltage monitors are sampled, in mV. -/
  | voltageSample (vals : List Nat)
  /-- EYE_START. Master m writes SNS_EYE_SEL.START for receive lane l. -/
  | eyeStart (m l : Nat)
  /-- EYE_COMPLETE. The eye measurement ends. -/
  | eyeComplete (height width : Nat)
  /-- LIFETIME_WRITE. Ten minutes have passed since the lifetime record was written. -/
  | lifetimeWrite
  /-- TEMP_HISTOGRAM_MINUTE. A minute has passed. -/
  | tempHistogramMinute
  /-- LIFETIME_CLEAR. A WRITE of v to lifetime_clear. -/
  | lifetimeClear (v : Nat)
  /-- UPDATE_BEGIN. A WRITE of 1 to update_command. -/
  | updateBegin (origin session : Nat)
  /-- UPDATE_COMMIT. A WRITE of 2 to update_command. bad: the commit record cannot be written. -/
  | updateCommit (origin session : Nat) (bad : Bool)
  /-- UPDATE_ACTIVATE. A WRITE of 3 to update_command. -/
  | updateActivate (origin session : Nat)
  /-- UPDATE_CONFIRM. A WRITE of 4 to update_command. -/
  | updateConfirm (origin session : Nat)
  /-- UPDATE_REVERT. A WRITE of 5 to update_command. -/
  | updateRevert (origin session : Nat)
  /-- UPDATE_ABORT. A WRITE of 6 to update_command. -/
  | updateAbort (origin session : Nat)
  /-- FAULT_EVENT. A checker's event reaches the collector. -/
  | faultEvent (kind src sub addr access m : Nat)
  /-- FAULT_NOTIFY. The Lamplighter sends the NOTIFY messages of the oldest message that calls for them. -/
  | faultNotify
  /-- SNUFF_IN_ASSERT. SNUFF_IN_N is asserted. -/
  | snuffInAssert
  /-- SNUFF_IN_DEASSERT. SNUFF_IN_N is deasserted. -/
  | snuffInDeassert
  /-- SNUFF_NOW. Master m writes FLT_CTRL.SNUFF_NOW. -/
  | snuffNow (m : Nat)
  /-- SNUFF_CLEAR. Master m writes FLT_CTRL.SNUFF_CLEAR. -/
  | snuffClear (m : Nat)
  /-- QUIET_PERIOD_END. FLT_SNUFF_QUIET_MS has passed quietly. -/
  | quietPeriodEnd
  /-- RECOVERY_WINDOW_END. FLT_RECOV_WINDOW_S has passed since the first recovery. -/
  | recoveryWindowEnd
  /-- FIRST_CLEAR. Master m writes FLT_CTRL.FIRST_CLEAR. -/
  | firstClear (m : Nat)
  /-- FLT_COMMIT. Master m writes FLT_COMMIT.COMMIT. -/
  | fltCommit (m : Nat)
  /-- INJECT_ARM. Master m writes FLT_INJ_CTRL.ARM. -/
  | injectArm (m : Nat)
  /-- INJECT_CANCEL. Master m writes FLT_INJ_CTRL.CANCEL. -/
  | injectCancel (m : Nat)
  /-- C4_RESET_HOLD. 1 µs has passed since the snuff of a C4 event. -/
  | c4ResetHold
  /-- C4_RESET_RELEASE. 10 µs have passed in the reset of a C4 event. -/
  | c4ResetRelease
  /-- PAIR_SENSE_CHANGE. PAIR_SENSE_IN takes a level after its filter. -/
  | pairSenseChange (level : Bool)
  /-- CLAIM_ASSERT. The sense has shown no claim for the claim time. -/
  | claimAssert
  /-- CLAIM_CONFIRM. The claim has been held for 500 ns. -/
  | claimConfirm
  /-- DUAL_CLAIM. The partner's claim has been sensed for 100 ns. -/
  | dualClaim
  /-- CLAIM_RELEASE. The outputs of a unit that gives up its claim are gated. -/
  | claimRelease
  /-- PAIR_HOLD_WRITE. Master m writes PAIR_CTRL.HOLD. -/
  | pairHoldWrite (m : Nat) (hold : Bool)
  /-- PAIR_COMMIT. Master m writes PAIR_COMMIT.COMMIT. -/
  | pairCommit (m : Nat)
  /-- PAIR_CLEAR_CNT. Master m writes PAIR_CTRL.CLEAR_CNT. -/
  | pairClearCnt (m : Nat)
  /-- HEARTBEAT. A CRC-good HEARTBEAT frame arrives. -/
  | heartbeat (payload : List Byte)
  /-- HEARTBEAT_SEND. 10 µs have passed since the last HEARTBEAT frame. -/
  | heartbeatSend
  /-- DUMP_DIGEST. A CRC-good DUMP_DIGEST frame arrives. -/
  | dumpDigest (payload : List Byte)
  /-- BEAM_DIGEST. A CRC-good BEAM_DIGEST frame arrives. -/
  | beamDigest (payload : List Byte)
  /-- DIGEST_SEND. The next digest frame is sent. -/
  | digestSend
  /-- PILOT_FRAME_ERROR. A pilot frame with a bad CRC, or with a reserved TYPE, arrives. -/
  | pilotFrameError (crcBad : Bool)
  /-- PILOT_DOWN. No good heartbeat for 50 µs. -/
  | pilotDown
  /-- DIGEST_WAIT_TIMEOUT. The partner's digest is missing after PAIR_DIG_WAIT_MS. -/
  | digestWaitTimeout (cause unit key : Nat)
  /-- TRIM_WAIT_TIMEOUT. No release sensed within PAIR_TRIM_WAIT_US. -/
  | trimWaitTimeout
  /-- SNAP_NOW. Master m writes PMR_CTRL.SNAP_NOW. -/
  | snapNow (m : Nat)
  /-- PMR_FREEZE. Master m writes PMR_CTRL.FREEZE. -/
  | pmrFreeze (m : Nat)
  /-- PMR_UNFREEZE. Master m writes PMR_CTRL.UNFREEZE. -/
  | pmrUnfreeze (m : Nat)
  /-- CLEAR_ALL. Master m writes PMR_CTRL.CLEAR_ALL. -/
  | clearAll (m : Nat)
  /-- PMR_COMMIT. Master m writes PMR_COMMIT.COMMIT. -/
  | pmrCommit (m : Nat)
  /-- SNAPSHOT_COLLECT_COMPLETE. The collection of a snapshot ends. -/
  | snapshotCollectComplete
  /-- SNAP_LOST_READ. Master m reads PMR_CNT_SNAP_LOST. -/
  | snapLostRead (m : Nat)
  /-- PORST_ASSERT. PORST_N is asserted. -/
  | porstAssert
  /-- RESET_RELEASE. A cause of reset clears (0 PORST_N, 1 WRST_N, 2 key, 5 reference clock, 6 brown-out), with the straps at the levels given. -/
  | resetRelease (cause pers : Nat) (prio : Bool)
  /-- BROWN_OUT. VDD_AON falls below its threshold. -/
  | brownOut
  /-- WRST_N. WRST_N has been low for 1 µs. -/
  | wrstN
  /-- RESET_KEY. Master m writes TOP_RST_CTRL.KEY. -/
  | resetKey (m : Nat) (w : Word)
  /-- REFCLK_LOSS. REFCLK_LINK is absent or off frequency. -/
  | refclkLoss
  /-- PLL_UNLOCK. PLL k (0 PLL_SYS, 1 PLL_CORE, 2 link) has been out of lock for 1 µs; k = 3: REFCLK_HIF or the HIF PLL is lost. -/
  | pllUnlock (k : Nat)
  /-- TOP_PERS_SEL. Master m writes TOP_PERS_SEL. -/
  | topPersSel (m v : Nat)
  /-- WATCHDOG_ENABLE. Master m sets TOP_LL_WDOG.EN. -/
  | watchdogEnable (m : Nat)
  /-- WATCHDOG_KICK. Master m writes TOP_LL_WDOG.KICK. -/
  | watchdogKick (m : Nat)
  /-- WATCHDOG_EXPIRY. The watchdog count expires. -/
  | watchdogExpiry
  /-- TRST_N. TRST_N takes a level; retired: outstanding transactions of master 0x20 (R490). -/
  | trstN (high : Bool) (retired : Nat)
  /-- PLL_LOCK. PLL k (0 PLL_SYS, 1 PLL_CORE, 2 link, 3 host interface) reaches lock. -/
  | pllLock (k : Nat)
  /-- SMB_ALERT. SMB_ALERT_N changes. -/
  | smbAlert (asserted : Bool)
  /-- TCK. An edge of TCK with TMS and TDI. -/
  | tck (rising tms tdi : Bool)
  /-- MANAGEMENT_PORT_LINK. The link of a management port comes up or goes down. -/
  | managementPortLink (port : Nat) (up : Bool)
  /-- MANAGEMENT_FRAME. A frame that is neither PTP nor ZMP arrives; inward, onward: the switch gives it to the Lamplighter, to the other port. -/
  | managementFrame (port : Nat) (inward onward : Bool) (bytes : List Byte)
  /-- DHCP_MESSAGE. A DHCPv4 message of a type, offering an address. -/
  | dhcpMessage (port type addr : Nat)
  /-- LINK_LOCAL_FALLBACK. 30 s have passed without a DHCP lease. -/
  | linkLocalFallback
  /-- DELAY_REQ_SEND. The time receiver sends a Delay_Req. -/
  | delayReqSend
  /-- ANNOUNCE_TIMEOUT. The announce messages of the selected time transmitter time out. -/
  | announceTimeout
deriving DecidableEq, Repr

end Sys2Proof
end

