-- ==== Sys2Proof/Decode.lean ====
section
/-! DEFINITION. Sys2Proof/Decode.lean: the command that a word spells. spec/opcode_table.json gives no row bits: commands arrive as
register accesses, wicks, frames and pin events, not as words. -/
namespace Sys2Proof

/-- No word spells a command. (DESIGN CHOICE, log 9.) -/
def decodeTableWord (_nbits _w : Nat) : Option Instr := none

end Sys2Proof
end

