-- ==== Sys2Proof/Config.lean ====
section
/-! DEFINITION. Sys2Proof/Config.lean: what the spec leaves free. Every constant here is opaque: nothing in Lean can
evaluate it, and a theorem about the model holds whatever it is. -/
namespace Sys2Proof.Config

/-- A value the spec does not state. The step applies it to a counter that State carries (`State.fresh`) and that it
then advances, so that two uses are unrelated. -/
opaque freeValue : Nat → Nat

/-- The transform's freedoms (R185): the spec gives the transform, its stages and their widths. Whether the stages decimate in frequency
or in time; which of its two nearest codes a component of a twiddle factor takes (log2 of the size, number, component); which of its two
nearest values a component of a stage's result takes (stage, point, component, exact value). -/
opaque fftDif : Bool
opaque twiddleUp : Nat → Nat → Nat → Nat
opaque fftUp : Nat → Nat → Nat → Int → Nat

/-- The boot ROM's bytes by offset (R16, R569): the spec gives what the ROM does and not its code. -/
opaque bootRom : Nat → BitVec 8

/-- Check code of a mantle entry (first argument 0, R351) or slot header (1, R353): the spec gives its width and strength and
not the code. (DESIGN CHOICE, log 26.) -/
opaque checkCode : Nat → Nat → Nat

/-- The 9-bit SEC-DED check code of half a burst over 132 bits, whose matrix the spec does not give (R454). -/
opaque memCode : Nat → BitVec 9

/-- Words of configuration space (R509) and of the CXL registers of BAR2 (R510) at offsets whose contents the spec leaves to
the standards. -/
opaque cfgSpace : Nat → BitVec 32
opaque compSpace : Nat → BitVec 32

/-- The public keys that the boot ROM holds, points of P-384 (R571, R592), by key number. The spec does not give them. -/
opaque romKey : Nat → Nat × Nat

end Sys2Proof.Config
end

