-- ==== Sys2Proof/Machine/Bits.lean ====
section
/-! DEFINITION. Sys2Proof/Machine/Bits.lean: bit fields, sign, saturation, rounding, byte order (R4) and check codes. -/
namespace Sys2Proof.Machine

/-- Bits [hi:lo] of a word, as a number. -/
def getBits (w : Word) (hi lo : Nat) : Nat := (w.toNat >>> lo) % 2 ^ (hi - lo + 1)

/-- `w` with bits [hi:lo] replaced by the low bits of `v`. -/
def setBits (w : Word) (hi lo v : Nat) : Word :=
  let m := (2 ^ (hi - lo + 1) - 1) <<< lo
  (w &&& ~~~(BitVec.ofNat 32 m)) ||| BitVec.ofNat 32 ((v % 2 ^ (hi - lo + 1)) <<< lo)

/-- Bits [hi:lo] of a natural number. -/
def natBits (n hi lo : Nat) : Nat := (n >>> lo) % 2 ^ (hi - lo + 1)

/-- Bit `i` of a natural number. -/
def natBit (n i : Nat) : Bool := n.testBit i

def b2n (b : Bool) : Nat := if b then 1 else 0

/-- The signed value of the low `w` bits of `n`. -/
def sext (w n : Nat) : Int := (BitVec.ofNat w n).toInt

/-- The `w`-bit two's complement encoding of an integer, wrapping. -/
def wrap (w : Nat) (i : Int) : Nat := (BitVec.ofInt w i).toNat

/-- Saturation to `w` signed bits. -/
def satS (w : Nat) (i : Int) : Int :=
  if i > 2 ^ (w - 1) - 1 then 2 ^ (w - 1) - 1 else if i < -(2 ^ (w - 1)) then -(2 ^ (w - 1)) else i

/-- Saturation to `w` unsigned bits. -/
def satU (w : Nat) (i : Int) : Int :=
  if i > 2 ^ w - 1 then 2 ^ w - 1 else if i < 0 then 0 else i

/-- Whether a value lies outside `w` signed bits. -/
def outS (w : Nat) (i : Int) : Bool := decide (i > 2 ^ (w - 1) - 1) || decide (i < -(2 ^ (w - 1)))

/-- Divide by 2^n and round to the nearest integer, ties to the even one (convergent rounding). -/
def roundEven (i : Int) (n : Nat) : Int :=
  let q := i >>> n
  let r := i - q * 2 ^ n
  if n = 0 then i
  else if 2 * r > 2 ^ n then q + 1
  else if 2 * r < 2 ^ n then q
  else if q % 2 = 0 then q else q + 1

/-- Ceiling division. -/
def ceilDiv (a b : Nat) : Nat := (a + b - 1) / b

/-- The `n` bytes of `v`, least significant first (R4). -/
def leBytes : Nat → Nat → List Byte
  | 0, _ => []
  | n + 1, v => BitVec.ofNat 8 v :: leBytes n (v / 256)

/-- The number a little-endian byte list spells (R4). -/
def ofLe : List Byte → Nat
  | [] => 0
  | b :: r => b.toNat + 256 * ofLe r

/-- The `n` bytes of `v`, most significant first. -/
def beBytes (n v : Nat) : List Byte := (leBytes n v).reverse

/-- The number a big-endian byte list spells. -/
def ofBe (l : List Byte) : Nat := ofLe l.reverse

/-- Little-endian number at bytes [o, o+n) of a list; missing bytes read as zero. -/
def leAt (l : List Byte) (o n : Nat) : Nat := ofLe ((l.drop o).take n)

/-- Big-endian number at bytes [o, o+n) of a list. -/
def beAt (l : List Byte) (o n : Nat) : Nat := ofBe ((l.drop o).take n)

/-- A list cut or padded with zero bytes to `n` bytes. -/
def fitBytes (n : Nat) (l : List Byte) : List Byte := l.take n ++ List.replicate (n - l.length) 0

/-- One bit of a most-significant-first cyclic redundancy check of width `w`. -/
def crcBit (w poly : Nat) (reg : Nat) (bit : Bool) : Nat :=
  let top := reg.testBit (w - 1)
  let sh := (reg * 2) % 2 ^ w
  if top != bit then sh ^^^ poly else sh

/-- One byte, most significant bit first. -/
def crcByte (w poly : Nat) (reg : Nat) (b : Byte) : Nat :=
  [7, 6, 5, 4, 3, 2, 1, 0].foldl (fun r i => crcBit w poly r (b.toNat.testBit i)) reg

/-- CRC of bytes, register from all ones, no reflection, result inverted (the form of R103 and R640). -/
def crcBytes (w poly : Nat) (l : List Byte) : Nat :=
  (2 ^ w - 1) ^^^ (l.foldl (crcByte w poly) (2 ^ w - 1))

/-- The sum of a list. -/
def sumOf (l : List Nat) : Nat := l.foldl (· + ·) 0

/-- The checks of one access find errors, given as one number: its base-4 digit i is what check i finds, 0 none, 1 a correctable error,
2 an uncorrectable one, and 3, where a burst has a TAG, a TAG error. -/
def errDigit (err i : Nat) : Nat := err / 4 ^ i % 4

/-- Words of 8 bytes of the region [lo, hi). -/
def wordsIn (lo hi : Nat) (ws : List Nat) : Bool := ws.all fun w => decide (lo ≤ 8 * w) && decide (8 * w < hi)

/-! ## Ports of the LPDDR6 controller -/

/-- The port of a master (R469); the ingest stage's ring writers, and the patrol, have no master: 0xFF. -/
def masterPort (m : Nat) : Nat :=
  if m = 0x23 then 0 else if m = 0xFF then 1 else if m = 0x03 then 2 else if 0x10 ≤ m ∧ m ≤ 0x17 then 3
  else if 0x18 ≤ m ∧ m ≤ 0x1F then 4 else if 0x08 ≤ m ∧ m ≤ 0x0F then 5 else 6

end Sys2Proof.Machine
end

