-- ==== Sys2Proof/Machine/FaultTable.lean ====
section
/-! DEFINITION. Sys2Proof/Machine/FaultTable.lean: the fault kinds, their codes and default classes (R601). -/
namespace Sys2Proof.Machine

namespace FK

/-- FK_DICT_APPLY_REJECT, block TOP, default class C1 (R601). -/
def DICT_APPLY_REJECT : Nat := 0x0
/-- FK_DICT_GROUP_HELD, block TOP, default class C0 (R601). -/
def DICT_GROUP_HELD : Nat := 0x1
/-- FK_TOP_LL_WATCHDOG, block TOP, default class C3 (R601). -/
def TOP_LL_WATCHDOG : Nat := 0x2
/-- FK_TOP_PLL_UNLOCK, block TOP, default class C4 (R601). -/
def TOP_PLL_UNLOCK : Nat := 0x3
/-- FK_TIME_HOLDOVER, block TIME, default class C1 (R601). -/
def TIME_HOLDOVER : Nat := 0x10
/-- FK_TIME_SD_DEV, block TIME, default class C1 (R601). -/
def TIME_SD_DEV : Nat := 0x11
/-- FK_TIME_PPS_LOST, block TIME, default class C1 (R601). -/
def TIME_PPS_LOST : Nat := 0x12
/-- FK_SCHED_INVALID, block SCHED, default class C1 (R601). -/
def SCHED_INVALID : Nat := 0x20
/-- FK_SCHED_LEAD_SHORT, block SCHED, default class C1 (R601). -/
def SCHED_LEAD_SHORT : Nat := 0x21
/-- FK_SCHED_LATE, block SCHED, default class C1 (R601). -/
def SCHED_LATE : Nat := 0x22
/-- FK_SCHED_STARVED, block SCHED, default class C1 (R601). -/
def SCHED_STARVED : Nat := 0x23
/-- FK_SCHED_RING_FULL, block SCHED, default class C1 (R601). -/
def SCHED_RING_FULL : Nat := 0x24
/-- FK_SCHED_RESET, block SCHED, default class C1 (R601). -/
def SCHED_RESET : Nat := 0x25
/-- FK_FLT_RING_FULL, block FLT, default class C0 (R601). -/
def FLT_RING_FULL : Nat := 0x30
/-- FK_FLT_SNUFF_IN, block FLT, default class C2 (R601). -/
def FLT_SNUFF_IN : Nat := 0x31
/-- FK_FLT_SNUFF_LATCHED, block FLT, default class C1 (R601). -/
def FLT_SNUFF_LATCHED : Nat := 0x32
/-- FK_PMR_SNAP_OVERRUN, block PMR, default class C0 (R601). -/
def PMR_SNAP_OVERRUN : Nat := 0x40
/-- FK_PAIR_DIVERGE, block PAIR, default class C1 (R601). -/
def PAIR_DIVERGE : Nat := 0x50
/-- FK_PAIR_PILOT_LOSS, block PAIR, default class C1 (R601). -/
def PAIR_PILOT_LOSS : Nat := 0x51
/-- FK_PAIR_ISOLATED, block PAIR, default class C1 (R601). -/
def PAIR_ISOLATED : Nat := 0x52
/-- FK_PAIR_TAKEOVER, block PAIR, default class C1 (R601). -/
def PAIR_TAKEOVER : Nat := 0x53
/-- FK_PAIR_DUAL_CLAIM, block PAIR, default class C2 (R601). -/
def PAIR_DUAL_CLAIM : Nat := 0x54
/-- FK_DICT_AUTH, block MNET, default class C0 (R601). -/
def DICT_AUTH : Nat := 0x60
/-- FK_BMX_DECODE, block BMX, default class C1 (R601). -/
def BMX_DECODE : Nat := 0x70
/-- FK_BMX_ACCESS, block BMX, default class C1 (R601). -/
def BMX_ACCESS : Nat := 0x71
/-- FK_BMX_TIMEOUT, block BMX, default class C1 (R601). -/
def BMX_TIMEOUT : Nat := 0x72
/-- FK_BMX_UNDEF_REG, block BMX, default class C0 (R601). -/
def BMX_UNDEF_REG : Nat := 0x73
/-- FK_NVM_CE, block NVM, default class C0 (R601). -/
def NVM_CE : Nat := 0x80
/-- FK_NVM_UE, block NVM, default class C1 (R601). -/
def NVM_UE : Nat := 0x81
/-- FK_NVM_WRITE_FAIL, block NVM, default class C1 (R601). -/
def NVM_WRITE_FAIL : Nat := 0x82
/-- FK_NVM_REFUSED, block NVM, default class C0 (R601). -/
def NVM_REFUSED : Nat := 0x83
/-- FK_NVM_STORE_CORRUPT, block NVM, default class C1 (R601). -/
def NVM_STORE_CORRUPT : Nat := 0x84
/-- FK_UPD_REFUSED, block NVM, default class C1 (R601). -/
def UPD_REFUSED : Nat := 0x85
/-- FK_UPD_TRIAL_REVERT, block NVM, default class C1 (R601). -/
def UPD_TRIAL_REVERT : Nat := 0x86
/-- FK_SNS_TEMP_WARN, block SNS, default class C1 (R601). -/
def SNS_TEMP_WARN : Nat := 0x90
/-- FK_SNS_TSHUT, block SNS, default class C4 (R601). -/
def SNS_TSHUT : Nat := 0x91
/-- FK_SNS_VOLT, block SNS, default class C1 (R601). -/
def SNS_VOLT : Nat := 0x92
/-- FK_HIF_LINK_DOWN, block HIF, default class C1 (R601). -/
def HIF_LINK_DOWN : Nat := 0xb0
/-- FK_HIF_LINK_DEGRADED, block HIF, default class C1 (R601). -/
def HIF_LINK_DEGRADED : Nat := 0xb1
/-- FK_HIF_MEM_WPROT, block HIF, default class C1 (R601). -/
def HIF_MEM_WPROT : Nat := 0xb2
/-- FK_HIF_MEM_POISON, block HIF, default class C1 (R601). -/
def HIF_MEM_POISON : Nat := 0xb3
/-- FK_HIF_MBX_OVERRUN, block HIF, default class C0 (R601). -/
def HIF_MBX_OVERRUN : Nat := 0xb4
/-- FK_MEM_CE, block MEM, default class C0 (R601). -/
def MEM_CE : Nat := 0xc0
/-- FK_MEM_UE, block MEM, default class C1 (R601). -/
def MEM_UE : Nat := 0xc1
/-- FK_MEM_TAG, block MEM, default class C1 (R601). -/
def MEM_TAG : Nat := 0xc2
/-- FK_MEM_TRAIN_FAIL, block MEM, default class C1 (R601). -/
def MEM_TRAIN_FAIL : Nat := 0xc3
/-- FK_MEM_FSP_DEFER, block MEM, default class C0 (R601). -/
def MEM_FSP_DEFER : Nat := 0xc4
/-- FK_MEM_FSP_SWITCH, block MEM, default class C0 (R601). -/
def MEM_FSP_SWITCH : Nat := 0xc5
/-- FK_MEM_REFRESH_X2, block MEM, default class C1 (R601). -/
def MEM_REFRESH_X2 : Nat := 0xc6
/-- FK_DMA_BUS_ERR, block DMA, default class C1 (R601). -/
def DMA_BUS_ERR : Nat := 0xd0
/-- FK_DMA_DESC_INVALID, block DMA, default class C1 (R601). -/
def DMA_DESC_INVALID : Nat := 0xd1
/-- FK_DMA_NEXT_BAD, block DMA, default class C1 (R601). -/
def DMA_NEXT_BAD : Nat := 0xd2
/-- FK_DMA_CMP_FULL, block DMA, default class C0 (R601). -/
def DMA_CMP_FULL : Nat := 0xd3
/-- FK_LENS_INPUT_REJ, block LENS, default class C1 (R601). -/
def LENS_INPUT_REJ : Nat := 0xe0
/-- FK_LENS_OVERRUN, block LENS, default class C1 (R601). -/
def LENS_OVERRUN : Nat := 0xe1
/-- FK_LENS_DELAY_RANGE, block LENS, default class C1 (R601). -/
def LENS_DELAY_RANGE : Nat := 0xe2
/-- FK_LENS_SAT, block LENS, default class C0 (R601). -/
def LENS_SAT : Nat := 0xe3
/-- FK_LENS_SWAP_SKIP, block LENS, default class C1 (R601). -/
def LENS_SWAP_SKIP : Nat := 0xe4
/-- FK_LENS_OUT_OVERFLOW, block LENS, default class C1 (R601). -/
def LENS_OUT_OVERFLOW : Nat := 0xe5
/-- FK_STG_HALF_DISCARD, block STG, default class C1 (R601). -/
def STG_HALF_DISCARD : Nat := 0xf0
/-- FK_STG_WINDOW_TIMEOUT, block STG, default class C1 (R601). -/
def STG_WINDOW_TIMEOUT : Nat := 0xf1
/-- FK_STG_VERDICT_MISS, block STG, default class C1 (R601). -/
def STG_VERDICT_MISS : Nat := 0xf2
/-- FK_STG_RELAY_FULL, block STG, default class C1 (R601). -/
def STG_RELAY_FULL : Nat := 0xf3
/-- FK_CAP_DROP, block STG, default class C0 (R601). -/
def CAP_DROP : Nat := 0xf4
/-- FK_LAN_ABANDON, block LAN, default class C1 (R601). -/
def LAN_ABANDON : Nat := 0x100
/-- FK_LAN_PARITY, block LAN, default class C2 (R601). -/
def LAN_PARITY : Nat := 0x101
/-- FK_LAN_DEBUG_ACCESS, block LAN, default class C0 (R601). -/
def LAN_DEBUG_ACCESS : Nat := 0x102
/-- FK_MNT_TAG, block MNT, default class C2 (R601). -/
def MNT_TAG : Nat := 0x110
/-- FK_MNT_EXP_MAX, block MNT, default class C1 (R601). -/
def MNT_EXP_MAX : Nat := 0x111
/-- FK_MNT_SAT, block MNT, default class C1 (R601). -/
def MNT_SAT : Nat := 0x112
/-- FK_MNT_ECC_CE, block MNT, default class C0 (R601). -/
def MNT_ECC_CE : Nat := 0x113
/-- FK_MNT_ECC_UE, block MNT, default class C1 (R601). -/
def MNT_ECC_UE : Nat := 0x114
/-- FK_MNT_DRAIN_LATE, block MNT, default class C1 (R601). -/
def MNT_DRAIN_LATE : Nat := 0x115
/-- FK_MNT_DUMP_LOST, block MNT, default class C1 (R601). -/
def MNT_DUMP_LOST : Nat := 0x116
/-- FK_MNT_DEBUG_ACCESS, block MNT, default class C0 (R601). -/
def MNT_DEBUG_ACCESS : Nat := 0x117
/-- FK_CAN_OVERLOAD, block CAN, default class C1 (R601). -/
def CAN_OVERLOAD : Nat := 0x120
/-- FK_CAN_LATE, block CAN, default class C0 (R601). -/
def CAN_LATE : Nat := 0x121
/-- FK_CAN_PART_REJ, block CAN, default class C0 (R601). -/
def CAN_PART_REJ : Nat := 0x122
/-- FK_CAN_OUT_OVERFLOW, block CAN, default class C1 (R601). -/
def CAN_OUT_OVERFLOW : Nat := 0x123
/-- FK_CAN_SWAP_SKIP, block CAN, default class C1 (R601). -/
def CAN_SWAP_SKIP : Nat := 0x124
/-- FK_EGR_OVERFLOW, block EGR, default class C1 (R601). -/
def EGR_OVERFLOW : Nat := 0x130
/-- FK_LNK_LOCK_LOSS, block LNK0 to LNK15, default class C1 (R601). -/
def LNK_LOCK_LOSS : Nat := 0x200
/-- FK_LNK_CLK_LOSS, block LNK0 to LNK15, default class C1 (R601). -/
def LNK_CLK_LOSS : Nat := 0x201
/-- FK_LNK_ABSENT, block LNK0 to LNK15, default class C1 (R601). -/
def LNK_ABSENT : Nat := 0x202
/-- FK_LNK_TRAIN_FAIL, block LNK0 to LNK15, default class C1 (R601). -/
def LNK_TRAIN_FAIL : Nat := 0x203
/-- FK_LNK_MODE, block LNK0 to LNK15, default class C1 (R601). -/
def LNK_MODE : Nat := 0x204
/-- FK_LNK_CREDIT_RECON, block LNK0 to LNK15, default class C0 (R601). -/
def LNK_CREDIT_RECON : Nat := 0x205
/-- FK_LNK_CREDIT_ERR, block LNK0 to LNK15, default class C1 (R601). -/
def LNK_CREDIT_ERR : Nat := 0x206
/-- FK_LNK_CRC, block LNK0 to LNK15, default class C0 (R601). -/
def LNK_CRC : Nat := 0x207
/-- FK_LNK_MALFORMED, block LNK0 to LNK15, default class C0 (R601). -/
def LNK_MALFORMED : Nat := 0x208
/-- FK_LNK_RX_OVERFLOW, block LNK0 to LNK15, default class C1 (R601). -/
def LNK_RX_OVERFLOW : Nat := 0x209
/-- FK_LNK_PEER_SNUFF, block LNK0 to LNK15, default class C0 (R601). -/
def LNK_PEER_SNUFF : Nat := 0x20a
/-- FK_LMP_ILLEGAL, block LMP0 to LMP63, default class C1 (R601). -/
def LMP_ILLEGAL : Nat := 0x400
/-- FK_LMP_MEM_CE, block LMP0 to LMP63, default class C0 (R601). -/
def LMP_MEM_CE : Nat := 0x401
/-- FK_LMP_MEM_UE, block LMP0 to LMP63, default class C2 (R601). -/
def LMP_MEM_UE : Nat := 0x402
/-- FK_LMP_IMEM_BUSY, block LMP0 to LMP63, default class C0 (R601). -/
def LMP_IMEM_BUSY : Nat := 0x403
/-- FK_LMP_OUT_ORDER, block LMP0 to LMP63, default class C1 (R601). -/
def LMP_OUT_ORDER : Nat := 0x404
/-- FK_LMP_SOUT_OVERFLOW, block LMP0 to LMP63, default class C1 (R601). -/
def LMP_SOUT_OVERFLOW : Nat := 0x405
/-- FK_LMP_OBX_OVERFLOW, block LMP0 to LMP63, default class C1 (R601). -/
def LMP_OBX_OVERFLOW : Nat := 0x406
/-- FK_LMP_EVT_LOST, block LMP0 to LMP63, default class C1 (R601). -/
def LMP_EVT_LOST : Nat := 0x407
/-- FK_LMP_FETCH_ERR, block LMP0 to LMP63, default class C1 (R601). -/
def LMP_FETCH_ERR : Nat := 0x408
/-- FK_LMP_SWAP_SKIP, block LMP0 to LMP63, default class C1 (R601). -/
def LMP_SWAP_SKIP : Nat := 0x409

end FK

/-- Every kind code of R601 with its default class. -/
def faultKinds : List (Nat × Nat) := [
  (0x0, 1), (0x1, 0), (0x2, 3), (0x3, 4), (0x10, 1), (0x11, 1), (0x12, 1), (0x20, 1),
  (0x21, 1), (0x22, 1), (0x23, 1), (0x24, 1), (0x25, 1), (0x30, 0), (0x31, 2), (0x32, 1),
  (0x40, 0), (0x50, 1), (0x51, 1), (0x52, 1), (0x53, 1), (0x54, 2), (0x60, 0), (0x70, 1),
  (0x71, 1), (0x72, 1), (0x73, 0), (0x80, 0), (0x81, 1), (0x82, 1), (0x83, 0), (0x84, 1),
  (0x85, 1), (0x86, 1), (0x90, 1), (0x91, 4), (0x92, 1), (0xb0, 1), (0xb1, 1), (0xb2, 1),
  (0xb3, 1), (0xb4, 0), (0xc0, 0), (0xc1, 1), (0xc2, 1), (0xc3, 1), (0xc4, 0), (0xc5, 0),
  (0xc6, 1), (0xd0, 1), (0xd1, 1), (0xd2, 1), (0xd3, 0), (0xe0, 1), (0xe1, 1), (0xe2, 1),
  (0xe3, 0), (0xe4, 1), (0xe5, 1), (0xf0, 1), (0xf1, 1), (0xf2, 1), (0xf3, 1), (0xf4, 0),
  (0x100, 1), (0x101, 2), (0x102, 0), (0x110, 2), (0x111, 1), (0x112, 1), (0x113, 0), (0x114, 1),
  (0x115, 1), (0x116, 1), (0x117, 0), (0x120, 1), (0x121, 0), (0x122, 0), (0x123, 1), (0x124, 1),
  (0x130, 1), (0x200, 1), (0x201, 1), (0x202, 1), (0x203, 1), (0x204, 1), (0x205, 0), (0x206, 1),
  (0x207, 0), (0x208, 0), (0x209, 1), (0x20a, 0), (0x400, 1), (0x401, 0), (0x402, 2), (0x403, 0),
  (0x404, 1), (0x405, 1), (0x406, 1), (0x407, 1), (0x408, 1), (0x409, 1)]

/-- The default class of a kind; a reserved code has the class 0 its table entry reads as (R609). -/
def defaultClass (kind : Nat) : Nat := ((faultKinds.find? (fun p => p.1 == kind)).map Prod.snd).getD 0

/-- A code that R601 lists. -/
def isFaultKind (kind : Nat) : Bool := faultKinds.any (fun p => p.1 == kind)

end Sys2Proof.Machine
end

