-- ==== Sys2Proof/Machine/Map.lean ====
section
/-! DEFINITION. Sys2Proof/Machine/Map.lean: sparse stores. A store is a list of (key, value) pairs in one canonical form:
keys strictly rising, and no entry equal to what an unlisted key reads as. Equal stores are equal lists. -/
namespace Sys2Proof.Machine

/-- What key `k` reads as; an unlisted key reads as `d`. -/
def mapGet {β : Type} (d : β) : List (Nat × β) → Nat → β
  | [], _ => d
  | (k', v) :: r, k => if k' = k then v else mapGet d r k

/-- Put `v` at key `k`, in key order. -/
def mapIns {β : Type} (k : Nat) (v : β) : List (Nat × β) → List (Nat × β)
  | [] => [(k, v)]
  | (k', v') :: r =>
    if k' < k then (k', v') :: mapIns k v r
    else if k' = k then (k, v) :: r
    else (k, v) :: (k', v') :: r

/-- Remove every entry of key `k`. -/
def mapDel {β : Type} (k : Nat) : List (Nat × β) → List (Nat × β)
  | [] => []
  | (k', v') :: r => if k' = k then mapDel k r else (k', v') :: mapDel k r

/-- Write `v` at key `k` of a store whose unlisted keys read as `d`. (DESIGN CHOICE, log 106.) -/
def mapSet {β : Type} [DecidableEq β] (d : β) (m : List (Nat × β)) (k : Nat) (v : β) : List (Nat × β) :=
  if v = d then mapDel k m else mapIns k v m

/-- Every key of the list is above `k`. -/
def mapAbove {β : Type} (k : Nat) : List (Nat × β) → Bool
  | [] => true
  | (k', _) :: r => decide (k < k') && mapAbove k r

/-- The canonical form, for a store whose unlisted key `k` reads as `d k`. -/
def mapWf {β : Type} [DecidableEq β] (d : Nat → β) : List (Nat × β) → Bool
  | [] => true
  | (k, v) :: r => decide (v ≠ d k) && mapAbove k r && mapWf d r

/-- Write the values of `vs` at `k`, `k + 1`, … . -/
def mapSetList {β : Type} [DecidableEq β] (d : β) (m : List (Nat × β)) (k : Nat) : List β → List (Nat × β)
  | [] => m
  | v :: vs => mapSetList d (mapSet d m k v) (k + 1) vs

/-- The `n` values from key `k` on. -/
def mapGetList {β : Type} (d : β) (m : List (Nat × β)) (k : Nat) : Nat → List β
  | 0 => []
  | n + 1 => mapGet d m k :: mapGetList d m (k + 1) n

end Sys2Proof.Machine
end

