-- ==== Sys2Proof/Machine/Regs.lean ====
section
/-! DEFINITION. Sys2Proof/Machine/Regs.lean: one named bit field for every register field the register tables of the
spec give (offsets are within the block page, page base R13). Indices: `u` the page of a replicated block, then the
register array index or indices. -/
namespace Sys2Proof.Machine

/-- A bit field of a register: `key` is block ID × 0x10000 + offset (R13), bits [hi:lo]. -/
structure Field where
  key : Nat
  hi : Nat
  lo : Nat
deriving DecidableEq, Repr

namespace Reg

/-! TIME page (02_time.md). -/
def TIME_CTRL_SRC : Field := ⟨0x10000, 1, 0⟩
def TIME_CTRL_PPS_EDGE : Field := ⟨0x10000, 2, 2⟩
def TIME_STATUS_QUALITY : Field := ⟨0x10004, 2, 0⟩
def TIME_STATUS_MASTER_SEEN : Field := ⟨0x10004, 3, 3⟩
def TIME_STATUS_PPS_SEEN : Field := ⟨0x10004, 4, 4⟩
def TIME_STATUS_STEP_REFUSED : Field := ⟨0x10004, 5, 5⟩
def TIME_HOLD_SEC_SECONDS : Field := ⟨0x10008, 31, 0⟩
def HOLDOVER_DELAY_MS : Field := ⟨0x1000c, 31, 0⟩
def TB0_CAPTURE : Field := ⟨0x10010, 0, 0⟩
def TB0_SEC_LO_SEC_LO : Field := ⟨0x10014, 31, 0⟩
def TB0_SEC_HI_SEC_HI : Field := ⟨0x10018, 31, 0⟩
def TB0_NS_NS : Field := ⟨0x1001c, 31, 0⟩
def TB0_FRAC_FRAC : Field := ⟨0x10020, 31, 0⟩
def TB0_SET_SEC_LO_SEC_LO : Field := ⟨0x10024, 31, 0⟩
def TB0_SET_SEC_HI_SEC_HI : Field := ⟨0x10028, 31, 0⟩
def TB0_SET_NS_NS : Field := ⟨0x1002c, 31, 0⟩
def TIME_COMMIT_STEP_NOW : Field := ⟨0x10030, 0, 0⟩
def TIME_COMMIT_STEP_AT_PPS : Field := ⟨0x10030, 1, 1⟩
def TIME_COMMIT_SD_COMMIT : Field := ⟨0x10030, 7, 4⟩
def TB0_RATE_RATE : Field := ⟨0x10034, 31, 0⟩
def PPS_IN_COMP_PS : Field := ⟨0x10038, 31, 0⟩
def PPS_OUT_CFG_WIDTH_US : Field := ⟨0x1003c, 15, 0⟩
def PPS_OUT_CFG_EN : Field := ⟨0x1003c, 16, 16⟩
def PTP_CFG_DOMAIN_NUM : Field := ⟨0x10040, 7, 0⟩
def PTP_CFG_TRANSPORT : Field := ⟨0x10040, 9, 8⟩
def PTP_CFG_TC_EN : Field := ⟨0x10040, 10, 10⟩
def SD_CTRL_EN (i : Nat) : Field := ⟨0x10100 + i * 64, 0, 0⟩
def SD_CTRL_AUTO_EPOCH (i : Nat) : Field := ⟨0x10100 + i * 64, 1, 1⟩
def SD_NUM (i : Nat) : Field := ⟨0x10104 + i * 64, 31, 0⟩
def SD_DEN (i : Nat) : Field := ⟨0x10108 + i * 64, 31, 0⟩
def SD_EPOCH_CNT_LO (i : Nat) : Field := ⟨0x1010c + i * 64, 31, 0⟩
def SD_EPOCH_CNT_HI (i : Nat) : Field := ⟨0x10110 + i * 64, 31, 0⟩
def SD_EPOCH_SEC_LO (i : Nat) : Field := ⟨0x10114 + i * 64, 31, 0⟩
def SD_EPOCH_SEC_HI (i : Nat) : Field := ⟨0x10118 + i * 64, 31, 0⟩
def SD_EPOCH_NS (i : Nat) : Field := ⟨0x1011c + i * 64, 31, 0⟩
def SD_EST_LO (i : Nat) : Field := ⟨0x10120 + i * 64, 31, 0⟩
def SD_EST_HI (i : Nat) : Field := ⟨0x10124 + i * 64, 31, 0⟩
def SD_SEEN_LO (i : Nat) : Field := ⟨0x10128 + i * 64, 31, 0⟩
def SD_SEEN_HI (i : Nat) : Field := ⟨0x1012c + i * 64, 31, 0⟩
def SD_DEV (i : Nat) : Field := ⟨0x10130 + i * 64, 31, 0⟩
def SD_DEV_LIMIT (i : Nat) : Field := ⟨0x10134 + i * 64, 31, 0⟩
def SD_ARR_OFFSET (i : Nat) : Field := ⟨0x10138 + i * 64, 31, 0⟩
def BEACON_CFG_WIDTH_NS (i : Nat) : Field := ⟨0x10200 + i * 16, 15, 0⟩
def BEACON_CFG_POL (i : Nat) : Field := ⟨0x10200 + i * 16, 16, 16⟩
def BEACON_CFG_EN (i : Nat) : Field := ⟨0x10200 + i * 16, 17, 17⟩
/-! SCHED page (02_time.md). -/
def SCHED_CTRL_EN : Field := ⟨0x20000, 0, 0⟩
def SCHED_CTRL_STARVE_US : Field := ⟨0x20000, 31, 16⟩
def SCHED_RING_WR_WR : Field := ⟨0x20004, 10, 0⟩
def SCHED_RING_RD_RD : Field := ⟨0x20008, 10, 0⟩
def SCHED_RING_STATUS_FULL : Field := ⟨0x2000c, 0, 0⟩
def SCHED_RING_STATUS_LOST : Field := ⟨0x2000c, 1, 1⟩
def SCHED_RING_STATUS_FILL : Field := ⟨0x2000c, 26, 16⟩
def SCHED_CNT_DONE : Field := ⟨0x20010, 31, 0⟩
def SCHED_CNT_REJ : Field := ⟨0x20014, 31, 0⟩
def SCHED_CNT_LOST : Field := ⟨0x20018, 31, 0⟩
def SLOT_CTRL_ACTION (i : Nat) : Field := ⟨0x21000 + i * 32, 7, 0⟩
def SLOT_CTRL_DOMAIN (i : Nat) : Field := ⟨0x21000 + i * 32, 10, 8⟩
def SLOT_CTRL_POLICY (i : Nat) : Field := ⟨0x21000 + i * 32, 11, 11⟩
def SLOT_CTRL_PERIODIC (i : Nat) : Field := ⟨0x21000 + i * 32, 12, 12⟩
def SLOT_CTRL_ARM (i : Nat) : Field := ⟨0x21000 + i * 32, 24, 24⟩
def SLOT_CTRL_CANCEL (i : Nat) : Field := ⟨0x21000 + i * 32, 25, 25⟩
def SLOT_CTRL_STATE (i : Nat) : Field := ⟨0x21000 + i * 32, 29, 28⟩
def SLOT_TRIG_LO (i : Nat) : Field := ⟨0x21004 + i * 32, 31, 0⟩
def SLOT_TRIG_HI (i : Nat) : Field := ⟨0x21008 + i * 32, 31, 0⟩
def SLOT_TRIG_NS (i : Nat) : Field := ⟨0x2100c + i * 32, 31, 0⟩
def SLOT_PER_LO (i : Nat) : Field := ⟨0x21010 + i * 32, 31, 0⟩
def SLOT_PER_HI (i : Nat) : Field := ⟨0x21014 + i * 32, 31, 0⟩
def SLOT_TARGET_TARGET (i : Nat) : Field := ⟨0x21018 + i * 32, 15, 0⟩
def SLOT_TARGET_REPEAT (i : Nat) : Field := ⟨0x21018 + i * 32, 31, 16⟩
def SLOT_ARG (i : Nat) : Field := ⟨0x2101c + i * 32, 31, 0⟩
/-! LNK page (03_steras_links.md). -/
def LNK_GRP_CTRL_EN (u : Nat) : Field := ⟨0x200000 + u * 0x10000, 0, 0⟩
def LNK_GRP_CTRL_RATE (u : Nat) : Field := ⟨0x200000 + u * 0x10000, 2, 1⟩
def LNK_GRP_CTRL_SPLIT (u : Nat) : Field := ⟨0x200000 + u * 0x10000, 3, 3⟩
def LNK_GRP_CTRL_TX_SSC (u : Nat) : Field := ⟨0x200000 + u * 0x10000, 4, 4⟩
def LNK_GRP_CTRL_FAR_LOOP (u : Nat) : Field := ⟨0x200000 + u * 0x10000, 5, 5⟩
def LNK_COMMIT_COMMIT (u : Nat) : Field := ⟨0x200004 + u * 0x10000, 0, 0⟩
def LNK_COMMIT_RETRAIN_ALL (u : Nat) : Field := ⟨0x200004 + u * 0x10000, 1, 1⟩
def LNK_GRP_STATUS_CLK_STATE (u : Nat) : Field := ⟨0x200008 + u * 0x10000, 3, 0⟩
def LNK_GRP_STATUS_CLK_ACTIVITY (u : Nat) : Field := ⟨0x200008 + u * 0x10000, 4, 4⟩
def LNK_GRP_STATUS_FAR_LOOP_ON (u : Nat) : Field := ⟨0x200008 + u * 0x10000, 5, 5⟩
def LNK_GRP_STATUS_COMMIT_ERR (u : Nat) : Field := ⟨0x200008 + u * 0x10000, 6, 6⟩
def LNK_GRP_STATUS_ERR_CODE (u : Nat) : Field := ⟨0x200008 + u * 0x10000, 10, 7⟩
def LNK_GRP_STATUS_ERR_LANE (u : Nat) : Field := ⟨0x200008 + u * 0x10000, 13, 11⟩
def LNK_SOURCE_CHIP_ID (u : Nat) : Field := ⟨0x20000c + u * 0x10000, 15, 0⟩
def LNK_EYE_MIN_HEIGHT_MV (u : Nat) : Field := ⟨0x200010 + u * 0x10000, 15, 0⟩
def LNK_EYE_MIN_WIDTH (u : Nat) : Field := ⟨0x200010 + u * 0x10000, 23, 16⟩
def LANE_CFG_RX_EN (u i : Nat) : Field := ⟨0x200100 + u * 0x10000 + i * 128, 0, 0⟩
def LANE_CFG_TX_EN (u i : Nat) : Field := ⟨0x200100 + u * 0x10000 + i * 128, 1, 1⟩
def LANE_CFG_RX_MODE (u i : Nat) : Field := ⟨0x200100 + u * 0x10000 + i * 128, 2, 2⟩
def LANE_CFG_TX_MODE (u i : Nat) : Field := ⟨0x200100 + u * 0x10000 + i * 128, 3, 3⟩
def LANE_CFG_REVERSE (u i : Nat) : Field := ⟨0x200100 + u * 0x10000 + i * 128, 4, 4⟩
def LANE_CFG_PRESET (u i : Nat) : Field := ⟨0x200100 + u * 0x10000 + i * 128, 7, 5⟩
def LANE_CFG_FFE_MAN (u i : Nat) : Field := ⟨0x200100 + u * 0x10000 + i * 128, 8, 8⟩
def LANE_CFG_TX_SRC (u i : Nat) : Field := ⟨0x200100 + u * 0x10000 + i * 128, 11, 9⟩
def LANE_CFG_LOOP (u i : Nat) : Field := ⟨0x200100 + u * 0x10000 + i * 128, 13, 12⟩
def LANE_CFG_PRBS_GEN (u i : Nat) : Field := ⟨0x200100 + u * 0x10000 + i * 128, 16, 14⟩
def LANE_CFG_PRBS_CHK (u i : Nat) : Field := ⟨0x200100 + u * 0x10000 + i * 128, 19, 17⟩
def LANE_FFE_CM1 (u i : Nat) : Field := ⟨0x200104 + u * 0x10000 + i * 128, 3, 0⟩
def LANE_FFE_C0 (u i : Nat) : Field := ⟨0x200104 + u * 0x10000 + i * 128, 9, 4⟩
def LANE_FFE_CP1 (u i : Nat) : Field := ⟨0x200104 + u * 0x10000 + i * 128, 14, 10⟩
def LANE_CMD_RETRAIN (u i : Nat) : Field := ⟨0x200108 + u * 0x10000 + i * 128, 0, 0⟩
def LANE_CMD_SEND_RETRAIN_REQ (u i : Nat) : Field := ⟨0x200108 + u * 0x10000 + i * 128, 1, 1⟩
def LANE_CMD_CLEAR_CNT (u i : Nat) : Field := ⟨0x200108 + u * 0x10000 + i * 128, 2, 2⟩
def LANE_STATUS_STATE (u i : Nat) : Field := ⟨0x20010c + u * 0x10000 + i * 128, 3, 0⟩
def LANE_STATUS_LOCK (u i : Nat) : Field := ⟨0x20010c + u * 0x10000 + i * 128, 4, 4⟩
def LANE_STATUS_PEER_SNUFF (u i : Nat) : Field := ⟨0x20010c + u * 0x10000 + i * 128, 5, 5⟩
def LANE_STATUS_PRBS_LOCK (u i : Nat) : Field := ⟨0x20010c + u * 0x10000 + i * 128, 6, 6⟩
def LANE_STATUS_LAST_FAIL (u i : Nat) : Field := ⟨0x20010c + u * 0x10000 + i * 128, 10, 7⟩
def LANE_STATUS_FFE_FALLBACK (u i : Nat) : Field := ⟨0x20010c + u * 0x10000 + i * 128, 11, 11⟩
def LANE_STATUS_PEER_STATE (u i : Nat) : Field := ⟨0x20010c + u * 0x10000 + i * 128, 15, 12⟩
def LANE_STATUS_PEER_CHIP (u i : Nat) : Field := ⟨0x20010c + u * 0x10000 + i * 128, 31, 16⟩
def LANE_COEF_CM1 (u i : Nat) : Field := ⟨0x200110 + u * 0x10000 + i * 128, 3, 0⟩
def LANE_COEF_C0 (u i : Nat) : Field := ⟨0x200110 + u * 0x10000 + i * 128, 9, 4⟩
def LANE_COEF_CP1 (u i : Nat) : Field := ⟨0x200110 + u * 0x10000 + i * 128, 14, 10⟩
def LANE_COEF_PEER_LG (u i : Nat) : Field := ⟨0x200110 + u * 0x10000 + i * 128, 18, 15⟩
def LANE_COEF_PEER_LANE (u i : Nat) : Field := ⟨0x200110 + u * 0x10000 + i * 128, 21, 19⟩
def LANE_CREDIT_TX_LIMIT (u i : Nat) : Field := ⟨0x200114 + u * 0x10000 + i * 128, 7, 0⟩
def LANE_CREDIT_TX_OUTSTANDING (u i : Nat) : Field := ⟨0x200114 + u * 0x10000 + i * 128, 15, 8⟩
def LANE_CREDIT_RX_LIMIT (u i : Nat) : Field := ⟨0x200114 + u * 0x10000 + i * 128, 23, 16⟩
def LANE_CREDIT_RX_FILL (u i : Nat) : Field := ⟨0x200114 + u * 0x10000 + i * 128, 31, 24⟩
def LANE_BACKOFF_MS (u i : Nat) : Field := ⟨0x200118 + u * 0x10000 + i * 128, 10, 0⟩
def LANE_BACKOFF_ATTEMPTS (u i : Nat) : Field := ⟨0x200118 + u * 0x10000 + i * 128, 31, 16⟩
def CNT_WICK_RX (u i : Nat) : Field := ⟨0x200120 + u * 0x10000 + i * 128, 31, 0⟩
def CNT_CRC_ERR (u i : Nat) : Field := ⟨0x200124 + u * 0x10000 + i * 128, 31, 0⟩
def CNT_SYNC_BAD (u i : Nat) : Field := ⟨0x200128 + u * 0x10000 + i * 128, 31, 0⟩
def CNT_WICK_LOST (u i : Nat) : Field := ⟨0x20012c + u * 0x10000 + i * 128, 31, 0⟩
def CNT_LOCK_LOSS (u i : Nat) : Field := ⟨0x200130 + u * 0x10000 + i * 128, 31, 0⟩
def CNT_TRAIN_ATTEMPT (u i : Nat) : Field := ⟨0x200134 + u * 0x10000 + i * 128, 31, 0⟩
def CNT_PKT_RX (u i : Nat) : Field := ⟨0x200138 + u * 0x10000 + i * 128, 31, 0⟩
def CNT_PKT_OVF (u i : Nat) : Field := ⟨0x20013c + u * 0x10000 + i * 128, 31, 0⟩
def CNT_PKT_MALFORMED (u i : Nat) : Field := ⟨0x200140 + u * 0x10000 + i * 128, 31, 0⟩
def CNT_PKT_ABANDON_RX (u i : Nat) : Field := ⟨0x200144 + u * 0x10000 + i * 128, 31, 0⟩
def CNT_ORPHAN (u i : Nat) : Field := ⟨0x200148 + u * 0x10000 + i * 128, 31, 0⟩
def CNT_PKT_TX (u i : Nat) : Field := ⟨0x20014c + u * 0x10000 + i * 128, 31, 0⟩
def CNT_PKT_ABANDON_TX (u i : Nat) : Field := ⟨0x200150 + u * 0x10000 + i * 128, 31, 0⟩
def CNT_CREDIT_RECON (u i : Nat) : Field := ⟨0x200154 + u * 0x10000 + i * 128, 31, 0⟩
def CNT_FLAGGED_IDLE (u i : Nat) : Field := ⟨0x200158 + u * 0x10000 + i * 128, 31, 0⟩
def CNT_CTRL_RX (u i : Nat) : Field := ⟨0x20015c + u * 0x10000 + i * 128, 31, 0⟩
def PRBS_ERR_LO (u i : Nat) : Field := ⟨0x200160 + u * 0x10000 + i * 128, 31, 0⟩
def PRBS_ERR_HI (u i : Nat) : Field := ⟨0x200164 + u * 0x10000 + i * 128, 15, 0⟩
/-! EGR page (03_steras_links.md). -/
def EGR_CTRL_EN : Field := ⟨0x130000, 0, 0⟩
def EGR_COMMIT_COMMIT : Field := ⟨0x130004, 0, 0⟩
def EGR_STATUS_COMMIT_ERR : Field := ⟨0x130008, 0, 0⟩
def EGR_STATUS_ERR_ENTRY : Field := ⟨0x130008, 15, 8⟩
def EGR_INPUT_BASE : Field := ⟨0x13000c, 13, 0⟩
def EGR_CNT_DROP (i : Nat) : Field := ⟨0x132000 + i * 4, 31, 0⟩
def EGR_ENT0_EN (i : Nat) : Field := ⟨0x131000 + i * 16, 0, 0⟩
def EGR_ENT0_DOMAIN (i : Nat) : Field := ⟨0x131000 + i * 16, 2, 1⟩
def EGR_ENT0_FORMAT (i : Nat) : Field := ⟨0x131000 + i * 16, 6, 3⟩
def EGR_ENT0_LOCAL_FIRST (i : Nat) : Field := ⟨0x131000 + i * 16, 14, 8⟩
def EGR_ENT0_LOCAL_COUNT (i : Nat) : Field := ⟨0x131000 + i * 16, 23, 16⟩
def EGR_ENT1_CHAN_FIRST (i : Nat) : Field := ⟨0x131004 + i * 16, 16, 0⟩
def EGR_ENT2_CHAN_COUNT (i : Nat) : Field := ⟨0x131008 + i * 16, 16, 0⟩
def EGR_ENT3_TPP (i : Nat) : Field := ⟨0x13100c + i * 16, 11, 0⟩
def EGR_ENT3_CPP (i : Nat) : Field := ⟨0x13100c + i * 16, 19, 12⟩
def EGR_ENT3_LANE_FIRST (i : Nat) : Field := ⟨0x13100c + i * 16, 26, 20⟩
def EGR_ENT3_LANE_COUNT_M1 (i : Nat) : Field := ⟨0x13100c + i * 16, 31, 27⟩
/-! LENS page (04_lens.md). -/
def LENS_CTRL_EN : Field := ⟨0xe0000, 0, 0⟩
def LENS_CTRL_FMT : Field := ⟨0xe0000, 2, 1⟩
def LENS_CTRL_TAPS : Field := ⟨0xe0000, 4, 3⟩
def LENS_CTRL_FFT_LOG2 : Field := ⟨0xe0000, 9, 5⟩
def LENS_CTRL_FRAME_HALF : Field := ⟨0xe0000, 10, 10⟩
def LENS_CTRL_DOMAIN : Field := ⟨0xe0000, 12, 11⟩
def LENS_COMMIT_COMMIT : Field := ⟨0xe0004, 0, 0⟩
def LENS_STATUS_RUNNING : Field := ⟨0xe0008, 0, 0⟩
def LENS_STATUS_COMMIT_ERR : Field := ⟨0xe0008, 1, 1⟩
def LENS_STATUS_ERR_CODE : Field := ⟨0xe0008, 5, 2⟩
def LENS_STATUS_STALE : Field := ⟨0xe0008, 6, 6⟩
def LENS_STATUS_LIVE_BANK : Field := ⟨0xe0008, 7, 7⟩
def LENS_GAIN_FIR_SHIFT : Field := ⟨0xe000c, 3, 0⟩
def LENS_GAIN_SHIFT_MASK : Field := ⟨0xe000c, 31, 16⟩
def LENS_CHAN_FIRST : Field := ⟨0xe0010, 16, 0⟩
def LENS_CHAN_COUNT : Field := ⟨0xe0014, 16, 0⟩
def LENS_OUT_LAMP_FIRST : Field := ⟨0xe0018, 5, 0⟩
def LENS_OUT_LAMP_COUNT : Field := ⟨0xe0018, 12, 6⟩
def LENS_SKEW_LIMIT_SAMPLES : Field := ⟨0xe001c, 12, 0⟩
def LENS_COEF_CTRL_SEAL : Field := ⟨0xe0020, 0, 0⟩
def LENS_COEF_CTRL_UNSEAL : Field := ⟨0xe0020, 1, 1⟩
def LENS_COEF_CTRL_SWAP_NOW : Field := ⟨0xe0020, 2, 2⟩
def LENS_COEF_CTRL_RESET_PTR : Field := ⟨0xe0020, 3, 3⟩
def LENS_COEF_STATUS_SEALED : Field := ⟨0xe0024, 0, 0⟩
def LENS_COEF_STATUS_REFUSED : Field := ⟨0xe0024, 1, 1⟩
def LENS_COEF_STATUS_SEAL_ERR : Field := ⟨0xe0024, 2, 2⟩
def LENS_COEF_STATUS_WR_COUNT : Field := ⟨0xe0024, 23, 3⟩
def LENS_COEF_DATA : Field := ⟨0xe0028, 31, 0⟩
def LENS_SWAP_CNT : Field := ⟨0xe002c, 31, 0⟩
def LENS_SKIP_CNT : Field := ⟨0xe0030, 31, 0⟩
def LENS_CNT_OUT_DROP : Field := ⟨0xe0034, 31, 0⟩
def LENS_IN_CFG_EN (i : Nat) : Field := ⟨0xe1000 + i * 64, 0, 0⟩
def LENS_IN_CFG_INPUT_ID (i : Nat) : Field := ⟨0xe1000 + i * 64, 14, 1⟩
def LENS_IN_DELAY (i : Nat) : Field := ⟨0xe1004 + i * 64, 17, 0⟩
def LENS_IN_STATUS_DELAY (i : Nat) : Field := ⟨0xe1008 + i * 64, 17, 0⟩
def LENS_IN_STATUS_CLAMP (i : Nat) : Field := ⟨0xe1008 + i * 64, 18, 18⟩
def LENS_IN_STATUS_BEHIND (i : Nat) : Field := ⟨0xe1008 + i * 64, 19, 19⟩
def LENS_IN_ACCEPT (i : Nat) : Field := ⟨0xe1010 + i * 64, 31, 0⟩
def LENS_IN_DROP (i : Nat) : Field := ⟨0xe1014 + i * 64, 31, 0⟩
def LENS_IN_FILL (i : Nat) : Field := ⟨0xe1018 + i * 64, 31, 0⟩
def LENS_IN_PKT_REJ (i : Nat) : Field := ⟨0xe101c + i * 64, 31, 0⟩
def LENS_IN_SAT_FIR (i : Nat) : Field := ⟨0xe1020 + i * 64, 31, 0⟩
def LENS_IN_SAT_FFT (i : Nat) : Field := ⟨0xe1024 + i * 64, 31, 0⟩
/-! LMP page (05_lamps.md). -/
def LMP_CTRL_RUN (u : Nat) : Field := ⟨0x400000 + u * 0x10000, 0, 0⟩
def LMP_CTRL_HALT (u : Nat) : Field := ⟨0x400000 + u * 0x10000, 1, 1⟩
def LMP_CTRL_STEP (u : Nat) : Field := ⟨0x400000 + u * 0x10000, 2, 2⟩
def LMP_CTRL_RESET (u : Nat) : Field := ⟨0x400000 + u * 0x10000, 3, 3⟩
def LMP_STATE_STATE (u : Nat) : Field := ⟨0x400004 + u * 0x10000, 1, 0⟩
def LMP_STATE_CAUSE (u : Nat) : Field := ⟨0x400004 + u * 0x10000, 5, 2⟩
def LMP_PC (u : Nat) : Field := ⟨0x400008 + u * 0x10000, 12, 0⟩
def LMP_INT_PEND (u : Nat) : Field := ⟨0x40000c + u * 0x10000, 5, 0⟩
def LMP_DOORBELL_VALUE (u : Nat) : Field := ⟨0x400010 + u * 0x10000, 15, 0⟩
def LMP_PORT_CFG_SIN_EN (u : Nat) : Field := ⟨0x400014 + u * 0x10000, 0, 0⟩
def LMP_PORT_CFG_SOUT_EN (u : Nat) : Field := ⟨0x400014 + u * 0x10000, 1, 1⟩
def LMP_PORT_CFG_OUT_W (u : Nat) : Field := ⟨0x400014 + u * 0x10000, 2, 2⟩
def LMP_PORT_CFG_COEF_BANKED (u : Nat) : Field := ⟨0x400014 + u * 0x10000, 3, 3⟩
def LMP_COMMIT_COMMIT (u : Nat) : Field := ⟨0x400018 + u * 0x10000, 0, 0⟩
def LMP_COEF_CTRL_SEAL (u : Nat) : Field := ⟨0x40001c + u * 0x10000, 0, 0⟩
def LMP_COEF_CTRL_UNSEAL (u : Nat) : Field := ⟨0x40001c + u * 0x10000, 1, 1⟩
def LMP_COEF_CTRL_SWAP_NOW (u : Nat) : Field := ⟨0x40001c + u * 0x10000, 2, 2⟩
def LMP_COEF_STATUS_SEALED (u : Nat) : Field := ⟨0x400020 + u * 0x10000, 0, 0⟩
def LMP_COEF_STATUS_LIVE_BANK (u : Nat) : Field := ⟨0x400020 + u * 0x10000, 1, 1⟩
def LMP_COEF_STATUS_STALE (u : Nat) : Field := ⟨0x400020 + u * 0x10000, 2, 2⟩
def LMP_COEF_STATUS_REFUSED (u : Nat) : Field := ⟨0x400020 + u * 0x10000, 3, 3⟩
def LMP_COEF_STATUS_SEAL_ERR (u : Nat) : Field := ⟨0x400020 + u * 0x10000, 4, 4⟩
def LMP_PORT_STATUS_SIN_FILL (u : Nat) : Field := ⟨0x400024 + u * 0x10000, 9, 0⟩
def LMP_PORT_STATUS_SOUT_FILL (u : Nat) : Field := ⟨0x400024 + u * 0x10000, 19, 10⟩
def LMP_PORT_STATUS_OBX_FILL (u : Nat) : Field := ⟨0x400024 + u * 0x10000, 28, 20⟩
def LMP_PORT_STATUS_SOUT_OVF (u : Nat) : Field := ⟨0x400024 + u * 0x10000, 29, 29⟩
def LMP_DBG_SEL_REG (u : Nat) : Field := ⟨0x400030 + u * 0x10000, 7, 0⟩
def LMP_DBG_SEL_LANE (u : Nat) : Field := ⟨0x400030 + u * 0x10000, 11, 8⟩
def LMP_DBG_DATA_LO (u : Nat) : Field := ⟨0x400034 + u * 0x10000, 31, 0⟩
def LMP_DBG_DATA_HI (u : Nat) : Field := ⟨0x400038 + u * 0x10000, 15, 0⟩
def LMP_CNT_SWAP (u : Nat) : Field := ⟨0x400040 + u * 0x10000, 31, 0⟩
def LMP_CNT_SKIP (u : Nat) : Field := ⟨0x400044 + u * 0x10000, 31, 0⟩
def LMP_CNT_OUT_SAT (u : Nat) : Field := ⟨0x400048 + u * 0x10000, 31, 0⟩
def LMP_CNT_SOUT_DROP (u : Nat) : Field := ⟨0x40004c + u * 0x10000, 31, 0⟩
def LMP_CNT_OBX_DROP (u : Nat) : Field := ⟨0x400050 + u * 0x10000, 31, 0⟩
def LMP_CNT_OBX_UNDER (u : Nat) : Field := ⟨0x400054 + u * 0x10000, 31, 0⟩
def LMP_CNT_EVT_LOST (u : Nat) : Field := ⟨0x400058 + u * 0x10000, 31, 0⟩
def LMP_CNT_SIN_FLUSH (u : Nat) : Field := ⟨0x40005c + u * 0x10000, 31, 0⟩
def LMP_CNT_ECC_CORR (u : Nat) : Field := ⟨0x400060 + u * 0x10000, 31, 0⟩
/-! STG page (07_staging.md). -/
def STG_CTRL_EN : Field := ⟨0xf0000, 0, 0⟩
def STG_COMMIT_COMMIT : Field := ⟨0xf0004, 0, 0⟩
def STG_COMMIT_CLEAR_CNT : Field := ⟨0xf0004, 1, 1⟩
def STG_STATUS_COMMIT_ERR : Field := ⟨0xf0008, 0, 0⟩
def STG_STATUS_ERR_CODE : Field := ⟨0xf0008, 4, 1⟩
def STG_VERDICT_WAIT : Field := ⟨0xf000c, 15, 0⟩
def SET_CFG_EN (i : Nat) : Field := ⟨0xf0100 + i * 64, 0, 0⟩
def SET_CFG_STAGE (i : Nat) : Field := ⟨0xf0100 + i * 64, 1, 1⟩
def SET_CFG_BEAM (i : Nat) : Field := ⟨0xf0100 + i * 64, 2, 2⟩
def SET_CFG_LAMPS (i : Nat) : Field := ⟨0xf0100 + i * 64, 3, 3⟩
def SET_CFG_DOMAIN (i : Nat) : Field := ⟨0xf0100 + i * 64, 5, 4⟩
def SET_CFG_FMT (i : Nat) : Field := ⟨0xf0100 + i * 64, 6, 6⟩
def SET_CFG_DWELL (i : Nat) : Field := ⟨0xf0100 + i * 64, 8, 7⟩
def SET_CFG_DECIM (i : Nat) : Field := ⟨0xf0100 + i * 64, 11, 9⟩
def SET_CFG_MISS_VALID (i : Nat) : Field := ⟨0xf0100 + i * 64, 12, 12⟩
def SET_SHAPE_NIN (i : Nat) : Field := ⟨0xf0104 + i * 64, 13, 0⟩
def SET_SHAPE_NCH (i : Nat) : Field := ⟨0xf0104 + i * 64, 23, 14⟩
def SET_PLACE_BASE (i : Nat) : Field := ⟨0xf0108 + i * 64, 8, 0⟩
def SET_PLACE_POS_FIRST (i : Nat) : Field := ⟨0xf0108 + i * 64, 22, 9⟩
def SET_CH_BASE (i : Nat) : Field := ⟨0xf010c + i * 64, 9, 0⟩
def SET_LAMP_FIRST (i : Nat) : Field := ⟨0xf0110 + i * 64, 5, 0⟩
def SET_LAMP_COUNT (i : Nat) : Field := ⟨0xf0110 + i * 64, 12, 6⟩
def SET_LAG (i : Nat) : Field := ⟨0xf0114 + i * 64, 11, 0⟩
def SET_TIMEOUT_US (i : Nat) : Field := ⟨0xf0118 + i * 64, 15, 0⟩
def SET_STATE_HALF0 (i : Nat) : Field := ⟨0xf011c + i * 64, 1, 0⟩
def SET_STATE_HALF1 (i : Nat) : Field := ⟨0xf011c + i * 64, 3, 2⟩
def RELAY_CFG_EN : Field := ⟨0xf0400, 0, 0⟩
def RELAY_BASE : Field := ⟨0xf0404, 19, 0⟩
def RELAY_SIZE : Field := ⟨0xf0408, 19, 0⟩
def RELAY_WR : Field := ⟨0xf040c, 29, 0⟩
def RELAY_RD : Field := ⟨0xf0410, 29, 0⟩
def RELAY_DROP : Field := ⟨0xf0414, 31, 0⟩
def CAP_CTRL_ARM : Field := ⟨0xf0500, 0, 0⟩
def CAP_CTRL_STOP : Field := ⟨0xf0500, 1, 1⟩
def CAP_CTRL_FREEZE_NOW : Field := ⟨0xf0500, 2, 2⟩
def CAP_CTRL_TRIG_EN : Field := ⟨0xf0500, 3, 3⟩
def CAP_CTRL_TRIG_EDGE : Field := ⟨0xf0500, 4, 4⟩
def CAP_BASE : Field := ⟨0xf0504, 19, 0⟩
def CAP_SIZE : Field := ⟨0xf0508, 19, 0⟩
def CAP_POST : Field := ⟨0xf050c, 19, 0⟩
def CAP_STATUS_STATE : Field := ⟨0xf0510, 1, 0⟩
def CAP_STATUS_ERR : Field := ⟨0xf0510, 2, 2⟩
def CAP_WR : Field := ⟨0xf0514, 29, 0⟩
def CAP_TRIG_POS : Field := ⟨0xf0518, 29, 0⟩
def CAP_TRIG_TIME_SEC : Field := ⟨0xf051c, 31, 0⟩
def CAP_TRIG_TIME_NS : Field := ⟨0xf0520, 31, 0⟩
def CAP_DROP : Field := ⟨0xf0524, 31, 0⟩
def CAP_IGNORED : Field := ⟨0xf0528, 31, 0⟩
/-! LAN page (08_lanterns.md). -/
def LAN_CTRL_EN : Field := ⟨0x100000, 0, 0⟩
def LAN_COMMIT_COMMIT : Field := ⟨0x100004, 0, 0⟩
def LAN_COMMIT_RESEED : Field := ⟨0x100004, 1, 1⟩
def LAN_STATUS_COMMIT_ERR : Field := ⟨0x100008, 0, 0⟩
def LAN_STATUS_ERR_CODE : Field := ⟨0x100008, 4, 1⟩
def LAN_STATUS_ERR_JOB : Field := ⟨0x100008, 6, 5⟩
def LAN_ABANDON_CNT_ABANDON_CNT : Field := ⟨0x10000c, 31, 0⟩
def LAN_PARITY_CNT_PARITY_CNT : Field := ⟨0x100010, 31, 0⟩
def JOB_CFG_EN (i : Nat) : Field := ⟨0x100100 + i * 32, 0, 0⟩
def JOB_CFG_TYPE (i : Nat) : Field := ⟨0x100100 + i * 32, 1, 1⟩
def JOB_CFG_PINGPONG (i : Nat) : Field := ⟨0x100100 + i * 32, 2, 2⟩
def JOB_CFG_ROWS64 (i : Nat) : Field := ⟨0x100100 + i * 32, 9, 3⟩
def JOB_CFG_LANT_OFFSET (i : Nat) : Field := ⟨0x100100 + i * 32, 17, 10⟩
def JOB_SLOT_SLOT_FIRST (i : Nat) : Field := ⟨0x100104 + i * 32, 13, 0⟩
def JOB_SLOT_SLOT_COUNT (i : Nat) : Field := ⟨0x100104 + i * 32, 29, 16⟩
def JOB_STATE_STATE (i : Nat) : Field := ⟨0x100108 + i * 32, 1, 0⟩
def JOB_STATE_BANK (i : Nat) : Field := ⟨0x100108 + i * 32, 2, 2⟩
def JOB_STATE_BLOCKS (i : Nat) : Field := ⟨0x100108 + i * 32, 28, 16⟩
def JOB_PERIOD (i : Nat) : Field := ⟨0x10010c + i * 32, 31, 0⟩
def JOB_TASKS_LO (i : Nat) : Field := ⟨0x100110 + i * 32, 31, 0⟩
def JOB_TASKS_HI (i : Nat) : Field := ⟨0x100114 + i * 32, 31, 0⟩
def JOB_CLAMP (i : Nat) : Field := ⟨0x100118 + i * 32, 31, 0⟩
def JOB_SKIP_WIN (i : Nat) : Field := ⟨0x10011c + i * 32, 31, 0⟩
def LAN_WIN_SEL_LANTERN : Field := ⟨0x100200, 7, 0⟩
def LAN_WIN_STATUS_STATE : Field := ⟨0x100204, 1, 0⟩
def LAN_WIN_STATUS_QUEUE : Field := ⟨0x100204, 8, 2⟩
def LAN_WIN_STATUS_ACTIVE : Field := ⟨0x100204, 9, 9⟩
def LAN_WIN_SEED_LO : Field := ⟨0x100208, 31, 0⟩
def LAN_WIN_SEED_HI : Field := ⟨0x10020c, 31, 0⟩
def LAN_WIN_TASKS : Field := ⟨0x100210, 31, 0⟩
def LAN_WIN_HOLD : Field := ⟨0x100214, 31, 0⟩
def LAN_WIN_GEN_LO : Field := ⟨0x100218, 31, 0⟩
def LAN_WIN_GEN_HI : Field := ⟨0x10021c, 31, 0⟩
def LAN_WIN_PLANE_SLOT (i : Nat) : Field := ⟨0x100220 + i * 4, 13, 0⟩
def LAN_WIN_PLANE_QUARTER (i : Nat) : Field := ⟨0x100220 + i * 4, 15, 14⟩
def LAN_WIN_PLANE_C8 (i : Nat) : Field := ⟨0x100220 + i * 4, 16, 16⟩
def LAN_WIN_PLANE_HELD (i : Nat) : Field := ⟨0x100220 + i * 4, 17, 17⟩
def LAN_DEBUG_EN : Field := ⟨0x100300, 0, 0⟩
def LAN_DEBUG_ALL_HALTED : Field := ⟨0x100304, 0, 0⟩
def LAN_DEBUG_MASK (i : Nat) : Field := ⟨0x100310 + i * 4, 31, 0⟩
/-! MNT page (09_mantle.md). -/
def MNT_COMMIT_COMMIT : Field := ⟨0x110000, 0, 0⟩
def MNT_STATUS_INIT_DONE : Field := ⟨0x110004, 0, 0⟩
def MNT_STATUS_COMMIT_ERR : Field := ⟨0x110004, 1, 1⟩
def MNT_STATUS_ERR_CODE : Field := ⟨0x110004, 5, 2⟩
def MNT_SAT_CNT : Field := ⟨0x110010, 31, 0⟩
def MNT_DIM_CNT : Field := ⟨0x110014, 31, 0⟩
def MNT_ECC_CORR : Field := ⟨0x110018, 31, 0⟩
def MNT_ECC_UNCORR : Field := ⟨0x11001c, 31, 0⟩
def MNT_TAG_ERR : Field := ⟨0x110020, 31, 0⟩
def DUMP_CFG_DEST (i : Nat) : Field := ⟨0x110100 + i * 64, 1, 0⟩
def DUMP_CFG_FORMAT (i : Nat) : Field := ⟨0x110100 + i * 64, 2, 2⟩
def DUMP_BASE (i : Nat) : Field := ⟨0x110104 + i * 64, 19, 0⟩
def DUMP_STRIDE (i : Nat) : Field := ⟨0x110108 + i * 64, 19, 0⟩
def DUMP_BUFS (i : Nat) : Field := ⟨0x11010c + i * 64, 4, 0⟩
def DUMP_LANES_LANE_FIRST (i : Nat) : Field := ⟨0x110110 + i * 64, 6, 0⟩
def DUMP_LANES_LANE_COUNT_M1 (i : Nat) : Field := ⟨0x110110 + i * 64, 11, 7⟩
def DUMP_SIZE (i : Nat) : Field := ⟨0x110114 + i * 64, 29, 0⟩
def DUMP_WR (i : Nat) : Field := ⟨0x110118 + i * 64, 15, 0⟩
def DUMP_RD (i : Nat) : Field := ⟨0x11011c + i * 64, 15, 0⟩
def DUMP_STATE_STATE (i : Nat) : Field := ⟨0x110120 + i * 64, 1, 0⟩
def DUMP_STATE_CLEARING (i : Nat) : Field := ⟨0x110120 + i * 64, 2, 2⟩
def DUMP_STATE_BANK (i : Nat) : Field := ⟨0x110120 + i * 64, 3, 3⟩
def DUMP_SEQ_LO (i : Nat) : Field := ⟨0x110124 + i * 64, 31, 0⟩
def DUMP_SEQ_HI (i : Nat) : Field := ⟨0x110128 + i * 64, 31, 0⟩
def DUMP_LOST (i : Nat) : Field := ⟨0x11012c + i * 64, 31, 0⟩
def DEAD_WIN (i : Nat) : Field := ⟨0x110130 + i * 64, 31, 0⟩
def DRAIN_LATE (i : Nat) : Field := ⟨0x110134 + i * 64, 31, 0⟩
/-! CAN page (10_candelabra.md). -/
def CAN_CTRL_EN : Field := ⟨0x120000, 0, 0⟩
def CAN_COMMIT_COMMIT : Field := ⟨0x120004, 0, 0⟩
def CAN_STATUS_COMMIT_ERR : Field := ⟨0x120008, 0, 0⟩
def CAN_STATUS_ERR_CODE : Field := ⟨0x120008, 4, 1⟩
def CAN_STATUS_STALE : Field := ⟨0x120008, 5, 5⟩
def CAN_STATUS_LIVE_BANK : Field := ⟨0x120008, 6, 6⟩
def CAN_STATUS_RETIRING : Field := ⟨0x120008, 7, 7⟩
def CAN_SKEW_NS : Field := ⟨0x12000c, 10, 0⟩
def CAN_W_CTRL_SEAL : Field := ⟨0x120010, 0, 0⟩
def CAN_W_CTRL_UNSEAL : Field := ⟨0x120010, 1, 1⟩
def CAN_W_CTRL_SWAP_NOW : Field := ⟨0x120010, 2, 2⟩
def CAN_W_CTRL_COPY_LIVE : Field := ⟨0x120010, 3, 3⟩
def CAN_W_STATUS_SEALED : Field := ⟨0x120014, 0, 0⟩
def CAN_W_STATUS_BUSY : Field := ⟨0x120014, 1, 1⟩
def CAN_W_STATUS_REFUSED : Field := ⟨0x120014, 2, 2⟩
def CAN_W_STATUS_SEAL_ERR : Field := ⟨0x120014, 3, 3⟩
def CAN_W_PTR : Field := ⟨0x120018, 22, 0⟩
def CAN_W_DATA : Field := ⟨0x12001c, 31, 0⟩
def CAN_SWAP_CNT : Field := ⟨0x120020, 31, 0⟩
def CAN_SKIP_CNT : Field := ⟨0x120024, 31, 0⟩
def CAN_ABANDON_CNT : Field := ⟨0x120028, 31, 0⟩
def CAN_PKT_SNUFFED : Field := ⟨0x12002c, 31, 0⟩
def CAN_BEAM_EN (i : Nat) : Field := ⟨0x120040 + i * 4, 31, 0⟩
def STR_CFG_EN (i : Nat) : Field := ⟨0x120100 + i * 64, 0, 0⟩
def STR_CFG_SET (i : Nat) : Field := ⟨0x120100 + i * 64, 2, 1⟩
def STR_CFG_FMT (i : Nat) : Field := ⟨0x120100 + i * 64, 4, 3⟩
def STR_CFG_SHIFT (i : Nat) : Field := ⟨0x120100 + i * 64, 10, 5⟩
def STR_CFG_PART_SHIFT (i : Nat) : Field := ⟨0x120100 + i * 64, 15, 11⟩
def STR_CFG_PART_EN (i : Nat) : Field := ⟨0x120100 + i * 64, 19, 16⟩
def STR_BEAMS_BEAM_FIRST (i : Nat) : Field := ⟨0x120104 + i * 64, 7, 0⟩
def STR_BEAMS_BEAM_COUNT (i : Nat) : Field := ⟨0x120104 + i * 64, 16, 8⟩
def STR_CHAN_CH_FIRST (i : Nat) : Field := ⟨0x120108 + i * 64, 8, 0⟩
def STR_CHAN_CH_COUNT (i : Nat) : Field := ⟨0x120108 + i * 64, 18, 9⟩
def STR_TIME_TPP (i : Nat) : Field := ⟨0x12010c + i * 64, 11, 0⟩
def STR_TIME_INTEG (i : Nat) : Field := ⟨0x12010c + i * 64, 23, 12⟩
def STR_LANES_LANE_FIRST (i : Nat) : Field := ⟨0x120110 + i * 64, 6, 0⟩
def STR_LANES_LANE_COUNT_M1 (i : Nat) : Field := ⟨0x120110 + i * 64, 11, 7⟩
def STR_PART_SRC0 (i : Nat) : Field := ⟨0x120114 + i * 64, 15, 0⟩
def STR_PART_SRC0_SRC1 (i : Nat) : Field := ⟨0x120114 + i * 64, 31, 16⟩
def STR_PART_SRC2 (i : Nat) : Field := ⟨0x120118 + i * 64, 15, 0⟩
def STR_PART_SRC2_SRC3 (i : Nat) : Field := ⟨0x120118 + i * 64, 31, 16⟩
def STR_MISS_LIMIT (i : Nat) : Field := ⟨0x12011c + i * 64, 31, 0⟩
def STR_STATUS_OPEN (i : Nat) : Field := ⟨0x120120 + i * 64, 2, 0⟩
def STR_STATUS_QUEUE (i : Nat) : Field := ⟨0x120120 + i * 64, 5, 3⟩
def STR_CNT_PKT_TX (i : Nat) : Field := ⟨0x120124 + i * 64, 31, 0⟩
def STR_CNT_MISS (i : Nat) : Field := ⟨0x120128 + i * 64, 31, 0⟩
def STR_CNT_LATE (i : Nat) : Field := ⟨0x12012c + i * 64, 31, 0⟩
def STR_CNT_DUP (i : Nat) : Field := ⟨0x120130 + i * 64, 31, 0⟩
def STR_CNT_PART_REJ (i : Nat) : Field := ⟨0x120134 + i * 64, 31, 0⟩
def STR_CNT_OVF (i : Nat) : Field := ⟨0x120138 + i * 64, 31, 0⟩
def STR_CNT_PKT_DROP (i : Nat) : Field := ⟨0x12013c + i * 64, 31, 0⟩
def BEAM_W_WBASE (i : Nat) : Field := ⟨0x121000 + i * 4, 22, 0⟩
def BEAM_W_WCH (i : Nat) : Field := ⟨0x121000 + i * 4, 23, 23⟩
/-! DMA page (11_dma.md). -/
def DMA_CTRL_EN : Field := ⟨0xd0000, 0, 0⟩
def DMA_INT_STATUS_DONE : Field := ⟨0xd0004, 15, 0⟩
def CH_CTRL_START (i : Nat) : Field := ⟨0xd0100 + i * 64, 0, 0⟩
def CH_CTRL_DOORBELL (i : Nat) : Field := ⟨0xd0100 + i * 64, 1, 1⟩
def CH_CTRL_ABORT (i : Nat) : Field := ⟨0xd0100 + i * 64, 2, 2⟩
def CH_CTRL_CLEAR_CNT (i : Nat) : Field := ⟨0xd0100 + i * 64, 3, 3⟩
def CH_CFG_PRIO (i : Nat) : Field := ⟨0xd0104 + i * 64, 0, 0⟩
def CH_CFG_CLASS (i : Nat) : Field := ⟨0xd0104 + i * 64, 1, 1⟩
def CH_CFG_CMP_LOG2 (i : Nat) : Field := ⟨0xd0104 + i * 64, 5, 2⟩
def CH_DESC_LO (i : Nat) : Field := ⟨0xd0108 + i * 64, 31, 0⟩
def CH_DESC_HI (i : Nat) : Field := ⟨0xd010c + i * 64, 31, 0⟩
def CH_LAST_LO (i : Nat) : Field := ⟨0xd0110 + i * 64, 31, 0⟩
def CH_LAST_HI (i : Nat) : Field := ⟨0xd0114 + i * 64, 31, 0⟩
def CH_STATUS_STATE (i : Nat) : Field := ⟨0xd0118 + i * 64, 1, 0⟩
def CH_STATUS_DB_PEND (i : Nat) : Field := ⟨0xd0118 + i * 64, 2, 2⟩
def CH_STATUS_PACE_REQ (i : Nat) : Field := ⟨0xd0118 + i * 64, 3, 3⟩
def CH_STATUS_LAST_ERR (i : Nat) : Field := ⟨0xd0118 + i * 64, 11, 4⟩
def CMP_BASE_LO (i : Nat) : Field := ⟨0xd011c + i * 64, 31, 0⟩
def CMP_BASE_HI (i : Nat) : Field := ⟨0xd0120 + i * 64, 31, 0⟩
def CMP_WR (i : Nat) : Field := ⟨0xd0124 + i * 64, 16, 0⟩
def CMP_RD (i : Nat) : Field := ⟨0xd0128 + i * 64, 16, 0⟩
def CNT_DESC (i : Nat) : Field := ⟨0xd012c + i * 64, 31, 0⟩
def CNT_BYTES_LO (i : Nat) : Field := ⟨0xd0130 + i * 64, 31, 0⟩
def CNT_BYTES_HI (i : Nat) : Field := ⟨0xd0134 + i * 64, 31, 0⟩
def PACE_FILL (i : Nat) : Field := ⟨0xd0138 + i * 64, 31, 0⟩
def CNT_ERR (i : Nat) : Field := ⟨0xd013c + i * 64, 31, 0⟩
/-! MEM page (12_memory.md). -/
def MEM_CTRL_INIT : Field := ⟨0xc0000, 0, 0⟩
def MEM_CTRL_SR_EN : Field := ⟨0xc0000, 1, 1⟩
def MEM_CTRL_SCRUB_EN : Field := ⟨0xc0000, 2, 2⟩
def MEM_CTRL_WB_EN : Field := ⟨0xc0000, 3, 3⟩
def MEM_GEOM_CHANNELS : Field := ⟨0xc0004, 1, 0⟩
def MEM_GEOM_DENSITY : Field := ⟨0xc0004, 3, 2⟩
def MEM_COMMIT_COMMIT : Field := ⟨0xc0008, 0, 0⟩
def MEM_STATUS_READY : Field := ⟨0xc000c, 0, 0⟩
def MEM_STATUS_MODE : Field := ⟨0xc000c, 1, 1⟩
def MEM_STATUS_FSP_ACTIVE : Field := ⟨0xc000c, 2, 2⟩
def MEM_STATUS_SWITCHING : Field := ⟨0xc000c, 3, 3⟩
def MEM_STATUS_TRAINING : Field := ⟨0xc000c, 4, 4⟩
def MEM_STATUS_REFUSED : Field := ⟨0xc000c, 5, 5⟩
def MEM_STATUS_COMMIT_ERR : Field := ⟨0xc000c, 6, 6⟩
def MEM_STATUS_ERR_CODE : Field := ⟨0xc000c, 9, 7⟩
def MEM_FSP0_RATE : Field := ⟨0xc0010, 2, 0⟩
def MEM_FSP1_RATE : Field := ⟨0xc0014, 2, 0⟩
def MEM_FSP_CTRL_REQ : Field := ⟨0xc0018, 0, 0⟩
def MEM_FSP_CTRL_INVALIDATE : Field := ⟨0xc0018, 1, 1⟩
def MEM_TRAIN_STATUS_SET0_VALID : Field := ⟨0xc001c, 0, 0⟩
def MEM_TRAIN_STATUS_SET1_VALID : Field := ⟨0xc001c, 1, 1⟩
def MEM_TRAIN_STATUS_DEFERRED : Field := ⟨0xc001c, 2, 2⟩
def MEM_TRAIN_STATUS_FAIL_CH : Field := ⟨0xc001c, 15, 8⟩
def MEM_AGE_LIMIT_NS : Field := ⟨0xc0020, 15, 0⟩
def MEM_SR_IDLE : Field := ⟨0xc0024, 15, 0⟩
def MEM_PERIODIC_RETRAIN_MS : Field := ⟨0xc0028, 15, 0⟩
def MEM_SCRUB_HOURS : Field := ⟨0xc002c, 15, 0⟩
def MEM_PORT_CFG0_TARGET_NS : Field := ⟨0xc0030, 15, 0⟩
def MEM_PORT_CFG1_TARGET_NS : Field := ⟨0xc0034, 15, 0⟩
def MEM_PORT_CFG2_TARGET_NS : Field := ⟨0xc0038, 15, 0⟩
def MEM_PORT_CFG3_TARGET_NS : Field := ⟨0xc003c, 15, 0⟩
def MEM_PORT_CFG4_TARGET_NS : Field := ⟨0xc0040, 15, 0⟩
def MEM_PORT_CFG5_TARGET_NS : Field := ⟨0xc0044, 15, 0⟩
def MEM_PORT_CFG6_TARGET_NS : Field := ⟨0xc0048, 15, 0⟩
def MEM_PORT_CFG0_PRIO : Field := ⟨0xc0030, 18, 16⟩
def MEM_PORT_CFG1_PRIO : Field := ⟨0xc0034, 18, 16⟩
def MEM_PORT_CFG2_PRIO : Field := ⟨0xc0038, 18, 16⟩
def MEM_PORT_CFG3_PRIO : Field := ⟨0xc003c, 18, 16⟩
def MEM_PORT_CFG4_PRIO : Field := ⟨0xc0040, 18, 16⟩
def MEM_PORT_CFG5_PRIO : Field := ⟨0xc0044, 18, 16⟩
def MEM_PORT_CFG6_PRIO : Field := ⟨0xc0048, 18, 16⟩
def MEM_MASTER_CLASS : Field := ⟨0xc0050, 13, 0⟩
def MEM_ERR_ADDR_LO : Field := ⟨0xc0054, 31, 0⟩
def MEM_ERR_ADDR_HI : Field := ⟨0xc0058, 15, 0⟩
def CNT_SWITCH : Field := ⟨0xc0060, 31, 0⟩
def CNT_SWITCH_FAIL : Field := ⟨0xc0064, 31, 0⟩
def CNT_DEFER : Field := ⟨0xc0068, 31, 0⟩
def CH_CE (i : Nat) : Field := ⟨0xc0100 + i * 32, 31, 0⟩
def CH_UE (i : Nat) : Field := ⟨0xc0104 + i * 32, 31, 0⟩
def CH_TAG (i : Nat) : Field := ⟨0xc0108 + i * 32, 31, 0⟩
def CH_SR_ENTRY (i : Nat) : Field := ⟨0xc010c + i * 32, 31, 0⟩
def CH_SR_WAKE (i : Nat) : Field := ⟨0xc0110 + i * 32, 31, 0⟩
def CH_TEMP_VALUE (i : Nat) : Field := ⟨0xc0114 + i * 32, 7, 0⟩
def CH_TEMP_REFRESH_X2 (i : Nat) : Field := ⟨0xc0114 + i * 32, 8, 8⟩
def CH_TEMP_IN_SR (i : Nat) : Field := ⟨0xc0114 + i * 32, 9, 9⟩
/-! TOP page (13_fabric.md). -/
def TOP_REMAP_SWAP : Field := ⟨0x100, 0, 0⟩
def TOP_BCAST_STATUS_DISAGREE : Field := ⟨0x104, 0, 0⟩
def LMP_GROUP_MASK_LO : Field := ⟨0x108, 31, 0⟩
def LMP_GROUP_MASK_HI : Field := ⟨0x10c, 31, 0⟩
def LNK_GROUP_MASK : Field := ⟨0x110, 15, 0⟩
/-! BMX page (13_fabric.md). -/
def BMX_CTRL_TIMEOUT : Field := ⟨0x70000, 15, 0⟩
def BMX_CNT_DECODE : Field := ⟨0x70004, 31, 0⟩
def BMX_CNT_TIMEOUT : Field := ⟨0x70008, 31, 0⟩
def BMX_CNT_RETIRE : Field := ⟨0x7000c, 31, 0⟩
def BMX_CNT_UNDEF : Field := ⟨0x70010, 31, 0⟩
def BMX_CNT_STAGE_LOST : Field := ⟨0x70014, 31, 0⟩
def BMX_CNT_LOG_HOLD : Field := ⟨0x70018, 31, 0⟩
/-! HIF page (14_host.md). -/
def HIF_CTRL_MAX_WIDTH : Field := ⟨0xb0000, 1, 0⟩
def HIF_CTRL_MAX_RATE : Field := ⟨0xb0000, 4, 2⟩
def HIF_CTRL_RETRAIN : Field := ⟨0xb0000, 5, 5⟩
def HIF_CTRL_WPROT_EN : Field := ⟨0xb0000, 6, 6⟩
def HIF_STATUS_LINK_UP : Field := ⟨0xb0004, 0, 0⟩
def HIF_STATUS_WIDTH : Field := ⟨0xb0004, 2, 1⟩
def HIF_STATUS_RATE : Field := ⟨0xb0004, 5, 3⟩
def HIF_STATUS_FLIT256 : Field := ⟨0xb0004, 6, 6⟩
def HIF_STATUS_CXL_MODE : Field := ⟨0xb0004, 7, 7⟩
def HIF_STATUS_CACHE_EN : Field := ⟨0xb0004, 8, 8⟩
def HIF_STATUS_MEM_EN : Field := ⟨0xb0004, 9, 9⟩
def HIF_STATUS_SNUFFED : Field := ⟨0xb0004, 10, 10⟩
def HIF_APERTURE_LO : Field := ⟨0xb0008, 31, 20⟩
def HIF_APERTURE_HI : Field := ⟨0xb000c, 15, 0⟩
def HIF_INT_PEND : Field := ⟨0xb0010, 31, 0⟩
def HIF_CNT_LINK_DOWN : Field := ⟨0xb0014, 31, 0⟩
def HIF_CNT_MEM_POISON : Field := ⟨0xb0018, 31, 0⟩
def HIF_CNT_MEM_WPROT : Field := ⟨0xb001c, 31, 0⟩
def HIF_CNT_MBX_OVERRUN : Field := ⟨0xb0020, 31, 0⟩
def HIF_CNT_MBX_DONE : Field := ⟨0xb0024, 31, 0⟩
def HIF_VEC_CFG_GAP_US (i : Nat) : Field := ⟨0xb0100 + i * 4, 15, 0⟩
def MBX_CTRL_DOORBELL : Field := ⟨0xb0200, 0, 0⟩
def MBX_STATUS_BUSY : Field := ⟨0xb0204, 0, 0⟩
def MBX_STATUS_DONE : Field := ⟨0xb0204, 1, 1⟩
def MBX_STATUS_RESULT : Field := ⟨0xb0204, 3, 2⟩
def MBX_STATUS_RSP_LEN : Field := ⟨0xb0204, 28, 16⟩
def MBX_REQ (i : Nat) : Field := ⟨0xb1000 + i * 4, 31, 0⟩
def MBX_RSP (i : Nat) : Field := ⟨0xb2000 + i * 4, 31, 0⟩
/-! NVM page (16_management.md). -/
def NVM_WADDR : Field := ⟨0x80000, 23, 3⟩
def NVM_WDATA_LO : Field := ⟨0x80004, 31, 0⟩
def NVM_WDATA_HI : Field := ⟨0x80008, 31, 0⟩
def NVM_STATUS_BUSY : Field := ⟨0x8000c, 0, 0⟩
def NVM_STATUS_REFUSED : Field := ⟨0x8000c, 1, 1⟩
def NVM_STATUS_WRITE_ERR : Field := ⟨0x8000c, 2, 2⟩
def NVM_STATUS_BOOT_LOCK : Field := ⟨0x8000c, 3, 3⟩
def NVM_STATUS_RUN_SLOT : Field := ⟨0x8000c, 4, 4⟩
def NVM_STATUS_RECOVERY : Field := ⟨0x8000c, 5, 5⟩
def NVM_CNT_WRITES : Field := ⟨0x80010, 31, 0⟩
def NVM_CNT_CE : Field := ⟨0x80014, 31, 0⟩
def NVM_CNT_UE : Field := ⟨0x80018, 31, 0⟩
def NVM_ERR_ADDR : Field := ⟨0x8001c, 23, 0⟩
def NVM_CNT_STALE : Field := ⟨0x80020, 31, 0⟩
/-! SNS page (16_management.md). -/
def SNS_CTRL_PERIOD_US : Field := ⟨0x90000, 15, 0⟩
def SNS_STATUS_WARN : Field := ⟨0x90004, 0, 0⟩
def SNS_STATUS_TSHUT_SEEN : Field := ⟨0x90004, 1, 1⟩
def SNS_STATUS_VEXC : Field := ⟨0x90004, 2, 2⟩
def SNS_STATUS_HOTTEST : Field := ⟨0x90004, 12, 8⟩
def SNS_TEMP_LIMIT_WARN_C : Field := ⟨0x90008, 7, 0⟩
def SNS_TEMP_LIMIT_CLEAR_C : Field := ⟨0x90008, 15, 8⟩
def SNS_TEMP_VALUE (i : Nat) : Field := ⟨0x90040 + i * 4, 11, 0⟩
def SNS_TEMP_VALID (i : Nat) : Field := ⟨0x90040 + i * 4, 12, 12⟩
def SNS_VOLT_MV (i : Nat) : Field := ⟨0x90100 + i * 16, 15, 0⟩
def SNS_VLIM_UNDER_MV (i : Nat) : Field := ⟨0x90104 + i * 16, 15, 0⟩
def SNS_VLIM_OVER_MV (i : Nat) : Field := ⟨0x90104 + i * 16, 31, 16⟩
def SNS_CNT_UNDER (i : Nat) : Field := ⟨0x90108 + i * 16, 31, 0⟩
def SNS_CNT_OVER (i : Nat) : Field := ⟨0x9010c + i * 16, 31, 0⟩
def SNS_EYE_SEL_LANE : Field := ⟨0x90300, 6, 0⟩
def SNS_EYE_SEL_START : Field := ⟨0x90300, 7, 7⟩
def SNS_EYE_HEIGHT_MV : Field := ⟨0x90304, 15, 0⟩
def SNS_EYE_WIDTH : Field := ⟨0x90304, 23, 16⟩
def SNS_EYE_DONE : Field := ⟨0x90304, 24, 24⟩
def SNS_EYE_INVALID : Field := ⟨0x90304, 25, 25⟩
/-! FLT page (17_faults.md). -/
def FLT_CTRL_SNUFF_NOW : Field := ⟨0x30000, 0, 0⟩
def FLT_CTRL_SNUFF_CLEAR : Field := ⟨0x30000, 1, 1⟩
def FLT_CTRL_FIRST_CLEAR : Field := ⟨0x30000, 2, 2⟩
def FLT_CFG_FIRST_MIN : Field := ⟨0x30004, 2, 0⟩
def FLT_CFG_AUTO : Field := ⟨0x30004, 3, 3⟩
def FLT_CFG_RECOV_LIMIT : Field := ⟨0x30004, 15, 8⟩
def FLT_CFG_NOTIFY_PER_S : Field := ⟨0x30004, 31, 16⟩
def FLT_SNUFF_QUIET_MS : Field := ⟨0x30008, 31, 0⟩
def FLT_RECOV_WINDOW_S : Field := ⟨0x3000c, 31, 0⟩
def FLT_STATUS_SNUFFED : Field := ⟨0x30010, 0, 0⟩
def FLT_STATUS_LATCHED : Field := ⟨0x30010, 1, 1⟩
def FLT_STATUS_IN_PIN : Field := ⟨0x30010, 2, 2⟩
def FLT_STATUS_INJ_REFUSED : Field := ⟨0x30010, 3, 3⟩
def FLT_STATUS_COMMIT_ERR : Field := ⟨0x30010, 4, 4⟩
def FLT_STATUS_ERR_CODE : Field := ⟨0x30010, 8, 5⟩
def FLT_STATUS_RECOVERIES : Field := ⟨0x30010, 23, 16⟩
def FLT_COMMIT_COMMIT : Field := ⟨0x30014, 0, 0⟩
def FLT_RING_WR : Field := ⟨0x30018, 10, 0⟩
def FLT_RING_RD : Field := ⟨0x3001c, 10, 0⟩
def FLT_CNT_DROP : Field := ⟨0x30020, 31, 0⟩
def FLT_CNT_NOTIFY_DROP : Field := ⟨0x30024, 31, 0⟩
def FLT_CNT_INJ : Field := ⟨0x30028, 31, 0⟩
def FLT_CNT_SNUFF : Field := ⟨0x3002c, 31, 0⟩
def FLT_FIRST_MSG (i : Nat) : Field := ⟨0x30040 + i * 4, 31, 0⟩
def FLT_FIRST_SEC_LO : Field := ⟨0x30050, 31, 0⟩
def FLT_FIRST_SEC_HI : Field := ⟨0x30054, 31, 0⟩
def FLT_FIRST_NS : Field := ⟨0x30058, 31, 0⟩
def FLT_FIRST_VALID : Field := ⟨0x3005c, 0, 0⟩
def FLT_LAST_C4_MSG (i : Nat) : Field := ⟨0x30060 + i * 4, 31, 0⟩
def FLT_INJ_CFG_SRC : Field := ⟨0x30080, 7, 0⟩
def FLT_INJ_CFG_SUB : Field := ⟨0x30080, 15, 8⟩
def FLT_INJ_CFG_CHK : Field := ⟨0x30080, 17, 16⟩
def FLT_INJ_CFG_DOUBLE : Field := ⟨0x30080, 18, 18⟩
def FLT_INJ_CFG_COUNT : Field := ⟨0x30080, 31, 24⟩
def FLT_INJ_CTRL_ARM : Field := ⟨0x30084, 0, 0⟩
def FLT_INJ_CTRL_CANCEL : Field := ⟨0x30084, 1, 1⟩
def FLT_INJ_STATUS_REMAINING : Field := ⟨0x30088, 7, 0⟩
def FLT_INJ_STATUS_ACTIVE : Field := ⟨0x30088, 8, 8⟩
def FLT_CLASS_C0 (i : Nat) : Field := ⟨0x32000 + i * 4, 3, 0⟩
def FLT_CLASS_C1 (i : Nat) : Field := ⟨0x32000 + i * 4, 7, 4⟩
def FLT_CLASS_C2 (i : Nat) : Field := ⟨0x32000 + i * 4, 11, 8⟩
def FLT_CLASS_C3 (i : Nat) : Field := ⟨0x32000 + i * 4, 15, 12⟩
def FLT_CLASS_C4 (i : Nat) : Field := ⟨0x32000 + i * 4, 19, 16⟩
def FLT_CLASS_C5 (i : Nat) : Field := ⟨0x32000 + i * 4, 23, 20⟩
def FLT_CLASS_C6 (i : Nat) : Field := ⟨0x32000 + i * 4, 27, 24⟩
def FLT_CLASS_C7 (i : Nat) : Field := ⟨0x32000 + i * 4, 31, 28⟩
def FLT_KIND_CNT (i : Nat) : Field := ⟨0x34000 + i * 4, 31, 0⟩
def FLT_RING0 (i : Nat) : Field := ⟨0x38000 + i * 16, 31, 0⟩
def FLT_RING1 (i : Nat) : Field := ⟨0x38004 + i * 16, 31, 0⟩
def FLT_RING2 (i : Nat) : Field := ⟨0x38008 + i * 16, 31, 0⟩
def FLT_RING3 (i : Nat) : Field := ⟨0x3800c + i * 16, 31, 0⟩
/-! PAIR page (18_pairs.md). -/
def PAIR_CFG_EN : Field := ⟨0x50000, 0, 0⟩
def PAIR_CFG_GATE_HOST : Field := ⟨0x50000, 1, 1⟩
def PAIR_CFG_RESEED : Field := ⟨0x50000, 2, 2⟩
def PAIR_CFG_BEAM_CMP : Field := ⟨0x50000, 3, 3⟩
def PAIR_CFG_DUMP_CMP : Field := ⟨0x50000, 7, 4⟩
def PAIR_COMMIT_COMMIT : Field := ⟨0x50004, 0, 0⟩
def PAIR_CTRL_HOLD : Field := ⟨0x50008, 0, 0⟩
def PAIR_CTRL_CLEAR_CNT : Field := ⟨0x50008, 1, 1⟩
def PAIR_STATUS_STATE : Field := ⟨0x5000c, 2, 0⟩
def PAIR_STATUS_CLAIM_OUT : Field := ⟨0x5000c, 3, 3⟩
def PAIR_STATUS_SENSE : Field := ⟨0x5000c, 4, 4⟩
def PAIR_STATUS_PRIO : Field := ⟨0x5000c, 5, 5⟩
def PAIR_STATUS_PILOT_UP : Field := ⟨0x5000c, 6, 6⟩
def PAIR_STATUS_COMPARING : Field := ⟨0x5000c, 7, 7⟩
def PAIR_STATUS_TRIM_PENDING : Field := ⟨0x5000c, 8, 8⟩
def PAIR_STATUS_PARTNER_STATE : Field := ⟨0x5000c, 11, 9⟩
def PAIR_STATUS_COMMIT_ERR : Field := ⟨0x5000c, 12, 12⟩
def PAIR_STATUS_ERR_CODE : Field := ⟨0x5000c, 15, 13⟩
def PAIR_STATUS_PARTNER_CHIP : Field := ⟨0x5000c, 31, 16⟩
def PAIR_BEAM_INTERVAL : Field := ⟨0x50010, 31, 0⟩
def PAIR_DIG_WAIT_MS : Field := ⟨0x50014, 15, 0⟩
def PAIR_TRIM_WAIT_US : Field := ⟨0x50018, 15, 0⟩
def PAIR_CNT_TAKEOVER : Field := ⟨0x50020, 31, 0⟩
def PAIR_CNT_TRIM : Field := ⟨0x50024, 31, 0⟩
def PAIR_CNT_TRIM_FAIL : Field := ⟨0x50028, 31, 0⟩
def PAIR_CNT_DUAL : Field := ⟨0x5002c, 31, 0⟩
def PAIR_CNT_GATED : Field := ⟨0x50030, 31, 0⟩
def PAIR_CNT_PILOT_BAD : Field := ⟨0x50034, 31, 0⟩
def PAIR_CNT_DUMP_CMP : Field := ⟨0x50038, 31, 0⟩
def PAIR_CNT_DUMP_DIV : Field := ⟨0x5003c, 31, 0⟩
def PAIR_CNT_BEAM_CMP : Field := ⟨0x50040, 31, 0⟩
def PAIR_CNT_BEAM_DIV : Field := ⟨0x50044, 31, 0⟩
def PAIR_CNT_DIG_MISS : Field := ⟨0x50048, 31, 0⟩
def PAIR_LAST_DIV_CAUSE : Field := ⟨0x50050, 3, 0⟩
def PAIR_LAST_DIV_ID : Field := ⟨0x50050, 15, 8⟩
def PAIR_LAST_DIV_KEY_LO : Field := ⟨0x50054, 31, 0⟩
def PAIR_LAST_DIV_KEY_HI : Field := ⟨0x50058, 31, 0⟩
def PAIR_LAST_DIV_OWN_LO : Field := ⟨0x5005c, 31, 0⟩
def PAIR_LAST_DIV_OWN_HI : Field := ⟨0x50060, 31, 0⟩
def PAIR_LAST_DIV_PARTNER_LO : Field := ⟨0x50064, 31, 0⟩
def PAIR_LAST_DIV_PARTNER_HI : Field := ⟨0x50068, 31, 0⟩
/-! PMR page (19_counters.md). -/
def PMR_CTRL_SNAP_NOW : Field := ⟨0x40000, 0, 0⟩
def PMR_CTRL_FREEZE : Field := ⟨0x40000, 1, 1⟩
def PMR_CTRL_UNFREEZE : Field := ⟨0x40000, 2, 2⟩
def PMR_CTRL_CLEAR_ALL : Field := ⟨0x40000, 3, 3⟩
def PMR_COMMIT_COMMIT : Field := ⟨0x40004, 0, 0⟩
def PMR_CFG_FAULT_MIN : Field := ⟨0x40008, 2, 0⟩
def PMR_CFG_FAULT_FREEZE : Field := ⟨0x40008, 3, 3⟩
def PMR_STATUS_FROZEN : Field := ⟨0x4000c, 0, 0⟩
def PMR_STATUS_COLLECTING : Field := ⟨0x4000c, 1, 1⟩
def PMR_STATUS_COMMIT_ERR : Field := ⟨0x4000c, 2, 2⟩
def PMR_STATUS_ERR_CODE : Field := ⟨0x4000c, 5, 3⟩
def PMR_STATUS_ERR_BANK : Field := ⟨0x4000c, 14, 8⟩
def PMR_STATUS_ERR_CTR : Field := ⟨0x4000c, 19, 16⟩
def PMR_SNAP_WR : Field := ⟨0x40010, 7, 0⟩
def PMR_SNAP_RD : Field := ⟨0x40014, 7, 0⟩
def PMR_CNT_SNAP_LOST : Field := ⟨0x40018, 31, 0⟩
def CTR_CFG_EVENT (i j : Nat) : Field := ⟨0x41000 + i * 64 + j * 4, 7, 0⟩
def CTR_CFG_MODE (i j : Nat) : Field := ⟨0x41000 + i * 64 + j * 4, 9, 8⟩
def CTR_CFG_CHAIN (i j : Nat) : Field := ⟨0x41000 + i * 64 + j * 4, 10, 10⟩
def CTR_CFG_THRESH (i j : Nat) : Field := ⟨0x41000 + i * 64 + j * 4, 31, 16⟩
def CTR_LO (i j : Nat) : Field := ⟨0x4c000 + i * 128 + j * 8, 31, 0⟩
def CTR_HI (i j : Nat) : Field := ⟨0x4c004 + i * 128 + j * 8, 15, 0⟩
def CTR_HI_OVF (i j : Nat) : Field := ⟨0x4c004 + i * 128 + j * 8, 16, 16⟩
/-! TOP page (20_bringup.md). -/
def TOP_STRAP_PERS : Field := ⟨0x0, 1, 0⟩
def TOP_STRAP_PAIR_PRIO : Field := ⟨0x0, 2, 2⟩
def TOP_STATUS_PERSONALITY : Field := ⟨0x4, 1, 0⟩
def TOP_STATUS_STAGE : Field := ⟨0x4, 4, 2⟩
def TOP_RST_CTRL_KEY : Field := ⟨0x8, 31, 0⟩
def TOP_RST_CAUSE_LAST : Field := ⟨0xc, 2, 0⟩
def TOP_RST_CAUSE_COUNT : Field := ⟨0xc, 15, 8⟩
def TOP_CLK_CFG_SSC_EN : Field := ⟨0x10, 0, 0⟩
def TOP_PLL_STATUS_SYS_LOCK : Field := ⟨0x14, 0, 0⟩
def TOP_PLL_STATUS_CORE_LOCK : Field := ⟨0x14, 1, 1⟩
def TOP_PLL_STATUS_LINK_LOCK : Field := ⟨0x14, 2, 2⟩
def TOP_PLL_STATUS_SSC_ON : Field := ⟨0x14, 3, 3⟩
def TOP_PLL_STATUS_REF_LINK_OK : Field := ⟨0x14, 4, 4⟩
def TOP_PLL_STATUS_REF_HIF_OK : Field := ⟨0x14, 5, 5⟩
def TOP_PERS_SEL_VALUE : Field := ⟨0x18, 1, 0⟩
def TOP_PERS_SEL_DONE : Field := ⟨0x18, 2, 2⟩
def TOP_LL_WDOG_PERIOD_MS : Field := ⟨0x1c, 15, 0⟩
def TOP_LL_WDOG_EN : Field := ⟨0x1c, 16, 16⟩
def TOP_LL_WDOG_KICK : Field := ⟨0x1c, 17, 17⟩
def TOP_LL_WDOG_EXPIRED : Field := ⟨0x1c, 31, 24⟩
def TOP_IO_SLEW_TIME_OUT : Field := ⟨0x20, 1, 0⟩
def TOP_IO_SLEW_PAIR_SNUFF : Field := ⟨0x20, 3, 2⟩
def TOP_IO_SLEW_PERIPH : Field := ⟨0x20, 5, 4⟩
def TOP_IO_SLEW_JTAG : Field := ⟨0x20, 7, 6⟩
def TOP_GLITCH_PPS_IN : Field := ⟨0x24, 2, 0⟩
def TOP_GLITCH_SNUFF_IN : Field := ⟨0x24, 5, 3⟩
def TOP_GLITCH_PAIR_SENSE : Field := ⟨0x24, 8, 6⟩
def TOP_GLITCH_CAPTURE_TRIG : Field := ⟨0x24, 11, 9⟩
def TOP_GLITCH_RESET_PINS : Field := ⟨0x24, 14, 12⟩
def TOP_GLITCH_STRAPS : Field := ⟨0x24, 17, 15⟩
/-! MNET page (15_dictionary.md). -/
def MNET_PORT_CFG_EN (i : Nat) : Field := ⟨0x60100 + i * 16, 0, 0⟩
def MNET_PORT_CFG_SPEED (i : Nat) : Field := ⟨0x60100 + i * 16, 1, 1⟩
def MNET_PORT_STATUS_LINK (i : Nat) : Field := ⟨0x60104 + i * 16, 0, 0⟩
def MNET_PORT_STATUS_SPEED (i : Nat) : Field := ⟨0x60104 + i * 16, 1, 1⟩
def MNET_CNT_RX (i : Nat) : Field := ⟨0x60108 + i * 16, 31, 0⟩
def MNET_CNT_DROP (i : Nat) : Field := ⟨0x6010c + i * 16, 31, 0⟩
/-! STG page (07_staging.md). -/
def SETC_ARRIVED_LO (i : Nat) : Field := ⟨0xf0800 + i * 256, 31, 0⟩
def SETC_ARRIVED_HI (i : Nat) : Field := ⟨0xf0804 + i * 256, 31, 0⟩
def SETC_ACCUM_LO (i : Nat) : Field := ⟨0xf0808 + i * 256, 31, 0⟩
def SETC_ACCUM_HI (i : Nat) : Field := ⟨0xf080c + i * 256, 31, 0⟩
def SETC_EXCL_LO (i : Nat) : Field := ⟨0xf0810 + i * 256, 31, 0⟩
def SETC_EXCL_HI (i : Nat) : Field := ⟨0xf0814 + i * 256, 31, 0⟩
def SETC_PENDING_LO (i : Nat) : Field := ⟨0xf0818 + i * 256, 31, 0⟩
def SETC_PENDING_HI (i : Nat) : Field := ⟨0xf081c + i * 256, 31, 0⟩
def SETC_DROP_PKT_LO (i : Nat) : Field := ⟨0xf0820 + i * 256, 31, 0⟩
def SETC_DROP_PKT_HI (i : Nat) : Field := ⟨0xf0824 + i * 256, 31, 0⟩
def SETC_DROP_LATE_LO (i : Nat) : Field := ⟨0xf0828 + i * 256, 31, 0⟩
def SETC_DROP_LATE_HI (i : Nat) : Field := ⟨0xf082c + i * 256, 31, 0⟩
def SETC_DROP_DUP_LO (i : Nat) : Field := ⟨0xf0830 + i * 256, 31, 0⟩
def SETC_DROP_DUP_HI (i : Nat) : Field := ⟨0xf0834 + i * 256, 31, 0⟩
def SETC_DROP_MISMATCH_LO (i : Nat) : Field := ⟨0xf0838 + i * 256, 31, 0⟩
def SETC_DROP_MISMATCH_HI (i : Nat) : Field := ⟨0xf083c + i * 256, 31, 0⟩
def SETC_DROP_NOSTAGE_LO (i : Nat) : Field := ⟨0xf0840 + i * 256, 31, 0⟩
def SETC_DROP_NOSTAGE_HI (i : Nat) : Field := ⟨0xf0844 + i * 256, 31, 0⟩
def SETC_DROP_HALF_LO (i : Nat) : Field := ⟨0xf0848 + i * 256, 31, 0⟩
def SETC_DROP_HALF_HI (i : Nat) : Field := ⟨0xf084c + i * 256, 31, 0⟩
def SETC_DROP_SKIP_LO (i : Nat) : Field := ⟨0xf0850 + i * 256, 31, 0⟩
def SETC_DROP_SKIP_HI (i : Nat) : Field := ⟨0xf0854 + i * 256, 31, 0⟩
def SETC_WIN_HANDED_LO (i : Nat) : Field := ⟨0xf0858 + i * 256, 31, 0⟩
def SETC_WIN_HANDED_HI (i : Nat) : Field := ⟨0xf085c + i * 256, 31, 0⟩
def SETC_WIN_DISCARDED_LO (i : Nat) : Field := ⟨0xf0860 + i * 256, 31, 0⟩
def SETC_WIN_DISCARDED_HI (i : Nat) : Field := ⟨0xf0864 + i * 256, 31, 0⟩
def SETC_WIN_ABSENT_LO (i : Nat) : Field := ⟨0xf0868 + i * 256, 31, 0⟩
def SETC_WIN_ABSENT_HI (i : Nat) : Field := ⟨0xf086c + i * 256, 31, 0⟩
def SETC_VERDICT_MISS_LO (i : Nat) : Field := ⟨0xf0870 + i * 256, 31, 0⟩
def SETC_VERDICT_MISS_HI (i : Nat) : Field := ⟨0xf0874 + i * 256, 31, 0⟩
def SETC_VERDICT_STRAY_LO (i : Nat) : Field := ⟨0xf0878 + i * 256, 31, 0⟩
def SETC_VERDICT_STRAY_HI (i : Nat) : Field := ⟨0xf087c + i * 256, 31, 0⟩
def SETC_INSPECT_DROP_LO (i : Nat) : Field := ⟨0xf0880 + i * 256, 31, 0⟩
def SETC_INSPECT_DROP_HI (i : Nat) : Field := ⟨0xf0884 + i * 256, 31, 0⟩
def SETC_RFI_MARKS_LO (i : Nat) : Field := ⟨0xf0888 + i * 256, 31, 0⟩
def SETC_RFI_MARKS_HI (i : Nat) : Field := ⟨0xf088c + i * 256, 31, 0⟩
def SETSNAP_ARRIVED_LO (i : Nat) : Field := ⟨0xf0c00 + i * 256, 31, 0⟩
def SETSNAP_ARRIVED_HI (i : Nat) : Field := ⟨0xf0c04 + i * 256, 31, 0⟩
def SETSNAP_ACCUM_LO (i : Nat) : Field := ⟨0xf0c08 + i * 256, 31, 0⟩
def SETSNAP_ACCUM_HI (i : Nat) : Field := ⟨0xf0c0c + i * 256, 31, 0⟩
def SETSNAP_EXCL_LO (i : Nat) : Field := ⟨0xf0c10 + i * 256, 31, 0⟩
def SETSNAP_EXCL_HI (i : Nat) : Field := ⟨0xf0c14 + i * 256, 31, 0⟩
def SETSNAP_PENDING_LO (i : Nat) : Field := ⟨0xf0c18 + i * 256, 31, 0⟩
def SETSNAP_PENDING_HI (i : Nat) : Field := ⟨0xf0c1c + i * 256, 31, 0⟩
def SETSNAP_DROP_PKT_LO (i : Nat) : Field := ⟨0xf0c20 + i * 256, 31, 0⟩
def SETSNAP_DROP_PKT_HI (i : Nat) : Field := ⟨0xf0c24 + i * 256, 31, 0⟩
def SETSNAP_DROP_LATE_LO (i : Nat) : Field := ⟨0xf0c28 + i * 256, 31, 0⟩
def SETSNAP_DROP_LATE_HI (i : Nat) : Field := ⟨0xf0c2c + i * 256, 31, 0⟩
def SETSNAP_DROP_DUP_LO (i : Nat) : Field := ⟨0xf0c30 + i * 256, 31, 0⟩
def SETSNAP_DROP_DUP_HI (i : Nat) : Field := ⟨0xf0c34 + i * 256, 31, 0⟩
def SETSNAP_DROP_MISMATCH_LO (i : Nat) : Field := ⟨0xf0c38 + i * 256, 31, 0⟩
def SETSNAP_DROP_MISMATCH_HI (i : Nat) : Field := ⟨0xf0c3c + i * 256, 31, 0⟩
def SETSNAP_DROP_NOSTAGE_LO (i : Nat) : Field := ⟨0xf0c40 + i * 256, 31, 0⟩
def SETSNAP_DROP_NOSTAGE_HI (i : Nat) : Field := ⟨0xf0c44 + i * 256, 31, 0⟩
def SETSNAP_DROP_HALF_LO (i : Nat) : Field := ⟨0xf0c48 + i * 256, 31, 0⟩
def SETSNAP_DROP_HALF_HI (i : Nat) : Field := ⟨0xf0c4c + i * 256, 31, 0⟩
def SETSNAP_DROP_SKIP_LO (i : Nat) : Field := ⟨0xf0c50 + i * 256, 31, 0⟩
def SETSNAP_DROP_SKIP_HI (i : Nat) : Field := ⟨0xf0c54 + i * 256, 31, 0⟩
def SETSNAP_WIN_HANDED_LO (i : Nat) : Field := ⟨0xf0c58 + i * 256, 31, 0⟩
def SETSNAP_WIN_HANDED_HI (i : Nat) : Field := ⟨0xf0c5c + i * 256, 31, 0⟩
def SETSNAP_WIN_DISCARDED_LO (i : Nat) : Field := ⟨0xf0c60 + i * 256, 31, 0⟩
def SETSNAP_WIN_DISCARDED_HI (i : Nat) : Field := ⟨0xf0c64 + i * 256, 31, 0⟩
def SETSNAP_WIN_ABSENT_LO (i : Nat) : Field := ⟨0xf0c68 + i * 256, 31, 0⟩
def SETSNAP_WIN_ABSENT_HI (i : Nat) : Field := ⟨0xf0c6c + i * 256, 31, 0⟩
def SETSNAP_VERDICT_MISS_LO (i : Nat) : Field := ⟨0xf0c70 + i * 256, 31, 0⟩
def SETSNAP_VERDICT_MISS_HI (i : Nat) : Field := ⟨0xf0c74 + i * 256, 31, 0⟩
def SETSNAP_VERDICT_STRAY_LO (i : Nat) : Field := ⟨0xf0c78 + i * 256, 31, 0⟩
def SETSNAP_VERDICT_STRAY_HI (i : Nat) : Field := ⟨0xf0c7c + i * 256, 31, 0⟩
def SETSNAP_INSPECT_DROP_LO (i : Nat) : Field := ⟨0xf0c80 + i * 256, 31, 0⟩
def SETSNAP_INSPECT_DROP_HI (i : Nat) : Field := ⟨0xf0c84 + i * 256, 31, 0⟩
def SETSNAP_RFI_MARKS_LO (i : Nat) : Field := ⟨0xf0c88 + i * 256, 31, 0⟩
def SETSNAP_RFI_MARKS_HI (i : Nat) : Field := ⟨0xf0c8c + i * 256, 31, 0⟩
def STG_MAP0_EN (i : Nat) : Field := ⟨0xf1000 + i * 8, 0, 0⟩
def STG_MAP0_DOMAIN (i : Nat) : Field := ⟨0xf1000 + i * 8, 2, 1⟩
def STG_MAP0_SET (i : Nat) : Field := ⟨0xf1000 + i * 8, 4, 3⟩
def STG_MAP0_INPUT_FIRST (i : Nat) : Field := ⟨0xf1000 + i * 8, 18, 5⟩
def STG_MAP1_COUNT (i : Nat) : Field := ⟨0xf1004 + i * 8, 13, 0⟩
def STG_MAP1_POS_FIRST (i : Nat) : Field := ⟨0xf1004 + i * 8, 27, 14⟩
def STG_CHAN (i : Nat) : Field := ⟨0xf2000 + i * 4, 16, 0⟩
def STG_LANE_UNMAPPED_LO (i : Nat) : Field := ⟨0xf3000 + i * 16, 31, 0⟩
def STG_LANE_UNMAPPED_HI (i : Nat) : Field := ⟨0xf3004 + i * 16, 31, 0⟩
def STG_LANE_FMT (i : Nat) : Field := ⟨0xf3008 + i * 16, 31, 0⟩
def CAP_FILT0_EN (i : Nat) : Field := ⟨0xf0600 + i * 16, 0, 0⟩
def CAP_FILT0_SRC (i : Nat) : Field := ⟨0xf0600 + i * 16, 1, 1⟩
def CAP_FILT0_DOMAIN (i : Nat) : Field := ⟨0xf0600 + i * 16, 3, 2⟩
def CAP_FILT1_INPUT_FIRST (i : Nat) : Field := ⟨0xf0604 + i * 16, 13, 0⟩
def CAP_FILT1_INPUT_LAST (i : Nat) : Field := ⟨0xf0604 + i * 16, 29, 16⟩
def CAP_FILT_CHAN_FIRST (i : Nat) : Field := ⟨0xf0608 + i * 16, 16, 0⟩
def CAP_FILT_CHAN_LAST (i : Nat) : Field := ⟨0xf060c + i * 16, 16, 0⟩
/-! SCHED page (02_time.md). -/
def SCHED_RING (i j : Nat) : Field := ⟨0x28000 + i * 32 + j * 4, 31, 0⟩
/-! PMR page (19_counters.md). -/
def PMR_SNAP_BUF0 (i : Nat) : Field := ⟨0x44000 + i * 4, 31, 0⟩
def PMR_SNAP_BUF1 (i : Nat) : Field := ⟨0x48000 + i * 4, 31, 0⟩

end Reg
end Sys2Proof.Machine
end

