-- ==== Sys2Proof/Machine/RegTable.lean ====
section
/-! DEFINITION. Sys2Proof/Machine/RegTable.lean: the register tables of the spec as data: for every register its page,
offset and replication, and for every field its bits, access code (R5) and reset value. Bits no field covers are
reserved (R6). -/
namespace Sys2Proof.Machine

/-- The register field access codes of R5. -/
inductive Access where
  | ro | rw | wo | w1c | w1s | rc | rws
deriving DecidableEq, Repr

/-- One field of a register row. -/
structure FieldRow where
  hi : Nat
  lo : Nat
  acc : Access
  reset : Nat
deriving DecidableEq, Repr

/-- One register, or one array of registers (`dims`: stride and count, outermost first). -/
structure RegRow where
  name : String
  off : Nat
  dims : List (Nat × Nat)
  fields : List FieldRow
deriving DecidableEq, Repr

def regTableTime0 : List RegRow := [
  ⟨"TIME_CTRL", 0x0, [], [⟨1, 0, .rw, 1⟩, ⟨2, 2, .rw, 0⟩]⟩,
  ⟨"TIME_STATUS", 0x4, [], [⟨2, 0, .ro, 0⟩, ⟨3, 3, .ro, 0⟩, ⟨4, 4, .ro, 0⟩, ⟨5, 5, .w1c, 0⟩]⟩,
  ⟨"TIME_HOLD_SEC", 0x8, [], [⟨31, 0, .ro, 0⟩]⟩,
  ⟨"HOLDOVER_DELAY", 0xc, [], [⟨31, 0, .rw, 3000⟩]⟩,
  ⟨"TB0_CAPTURE", 0x10, [], [⟨0, 0, .wo, 0⟩]⟩,
  ⟨"TB0_SEC_LO", 0x14, [], [⟨31, 0, .ro, 0⟩]⟩,
  ⟨"TB0_SEC_HI", 0x18, [], [⟨31, 0, .ro, 0⟩]⟩,
  ⟨"TB0_NS", 0x1c, [], [⟨31, 0, .ro, 0⟩]⟩,
  ⟨"TB0_FRAC", 0x20, [], [⟨31, 0, .ro, 0⟩]⟩,
  ⟨"TB0_SET_SEC_LO", 0x24, [], [⟨31, 0, .rws, 0⟩]⟩,
  ⟨"TB0_SET_SEC_HI", 0x28, [], [⟨31, 0, .rws, 0⟩]⟩,
  ⟨"TB0_SET_NS", 0x2c, [], [⟨31, 0, .rws, 0⟩]⟩,
  ⟨"TIME_COMMIT", 0x30, [], [⟨0, 0, .wo, 0⟩, ⟨1, 1, .wo, 0⟩, ⟨7, 4, .wo, 0⟩]⟩,
  ⟨"TB0_RATE", 0x34, [], [⟨31, 0, .ro, 0⟩]⟩,
  ⟨"PPS_IN_COMP", 0x38, [], [⟨31, 0, .rw, 0⟩]⟩,
  ⟨"PPS_OUT_CFG", 0x3c, [], [⟨15, 0, .rw, 100⟩, ⟨16, 16, .rw, 1⟩]⟩,
  ⟨"PTP_CFG", 0x40, [], [⟨7, 0, .rw, 0⟩, ⟨9, 8, .rw, 3⟩, ⟨10, 10, .rw, 1⟩]⟩,
  ⟨"SD_CTRL", 0x100, [(64, 4)], [⟨0, 0, .rws, 0⟩, ⟨1, 1, .rws, 0⟩]⟩,
  ⟨"SD_NUM", 0x104, [(64, 4)], [⟨31, 0, .rws, 0⟩]⟩,
  ⟨"SD_DEN", 0x108, [(64, 4)], [⟨31, 0, .rws, 1⟩]⟩,
  ⟨"SD_EPOCH_CNT_LO", 0x10c, [(64, 4)], [⟨31, 0, .rws, 0⟩]⟩,
  ⟨"SD_EPOCH_CNT_HI", 0x110, [(64, 4)], [⟨31, 0, .rws, 0⟩]⟩,
  ⟨"SD_EPOCH_SEC_LO", 0x114, [(64, 4)], [⟨31, 0, .rws, 0⟩]⟩,
  ⟨"SD_EPOCH_SEC_HI", 0x118, [(64, 4)], [⟨31, 0, .rws, 0⟩]⟩,
  ⟨"SD_EPOCH_NS", 0x11c, [(64, 4)], [⟨31, 0, .rws, 0⟩]⟩,
  ⟨"SD_EST_LO", 0x120, [(64, 4)], [⟨31, 0, .ro, 0⟩]⟩,
  ⟨"SD_EST_HI", 0x124, [(64, 4)], [⟨31, 0, .ro, 0⟩]⟩,
  ⟨"SD_SEEN_LO", 0x128, [(64, 4)], [⟨31, 0, .ro, 0⟩]⟩,
  ⟨"SD_SEEN_HI", 0x12c, [(64, 4)], [⟨31, 0, .ro, 0⟩]⟩,
  ⟨"SD_DEV", 0x130, [(64, 4)], [⟨31, 0, .ro, 0⟩]⟩]

def regTableTime1 : List RegRow := [
  ⟨"SD_DEV_LIMIT", 0x134, [(64, 4)], [⟨31, 0, .rw, 4096⟩]⟩,
  ⟨"SD_ARR_OFFSET", 0x138, [(64, 4)], [⟨31, 0, .rw, 0⟩]⟩,
  ⟨"BEACON_CFG", 0x200, [(16, 4)], [⟨15, 0, .rw, 1000⟩, ⟨16, 16, .rw, 0⟩, ⟨17, 17, .rw, 0⟩]⟩]

/-- The registers of the TIME page. -/
def regTableTime : List RegRow := regTableTime0 ++ regTableTime1

def regTableSched0 : List RegRow := [
  ⟨"SCHED_CTRL", 0x0, [], [⟨0, 0, .rw, 1⟩, ⟨31, 16, .rw, 1000⟩]⟩,
  ⟨"SCHED_RING_WR", 0x4, [], [⟨10, 0, .ro, 0⟩]⟩,
  ⟨"SCHED_RING_RD", 0x8, [], [⟨10, 0, .rw, 0⟩]⟩,
  ⟨"SCHED_RING_STATUS", 0xc, [], [⟨0, 0, .ro, 0⟩, ⟨1, 1, .w1c, 0⟩, ⟨26, 16, .ro, 0⟩]⟩,
  ⟨"SCHED_CNT_DONE", 0x10, [], [⟨31, 0, .ro, 0⟩]⟩,
  ⟨"SCHED_CNT_REJ", 0x14, [], [⟨31, 0, .ro, 0⟩]⟩,
  ⟨"SCHED_CNT_LOST", 0x18, [], [⟨31, 0, .ro, 0⟩]⟩,
  ⟨"SLOT_CTRL", 0x1000, [(32, 256)], [⟨7, 0, .rw, 0⟩, ⟨10, 8, .rw, 0⟩, ⟨11, 11, .rw, 0⟩, ⟨12, 12, .rw, 0⟩, ⟨24, 24, .wo, 0⟩, ⟨25, 25, .wo, 0⟩, ⟨29, 28, .ro, 0⟩]⟩,
  ⟨"SLOT_TRIG_LO", 0x1004, [(32, 256)], [⟨31, 0, .rws, 0⟩]⟩,
  ⟨"SLOT_TRIG_HI", 0x1008, [(32, 256)], [⟨31, 0, .rws, 0⟩]⟩,
  ⟨"SLOT_TRIG_NS", 0x100c, [(32, 256)], [⟨31, 0, .rws, 0⟩]⟩,
  ⟨"SLOT_PER_LO", 0x1010, [(32, 256)], [⟨31, 0, .rws, 0⟩]⟩,
  ⟨"SLOT_PER_HI", 0x1014, [(32, 256)], [⟨31, 0, .rws, 0⟩]⟩,
  ⟨"SLOT_TARGET", 0x1018, [(32, 256)], [⟨15, 0, .rws, 0⟩, ⟨31, 16, .rws, 0⟩]⟩,
  ⟨"SLOT_ARG", 0x101c, [(32, 256)], [⟨31, 0, .rws, 0⟩]⟩,
  ⟨"SCHED_RING", 0x8000, [(32, 1024), (4, 8)], [⟨31, 0, .ro, 0⟩]⟩]

/-- The registers of the SCHED page. -/
def regTableSched : List RegRow := regTableSched0

def regTableLnk0 : List RegRow := [
  ⟨"LNK_GRP_CTRL", 0x0, [], [⟨0, 0, .rws, 0⟩, ⟨2, 1, .rws, 0⟩, ⟨3, 3, .rws, 0⟩, ⟨4, 4, .rws, 0⟩, ⟨5, 5, .rws, 0⟩]⟩,
  ⟨"LNK_COMMIT", 0x4, [], [⟨0, 0, .wo, 0⟩, ⟨1, 1, .wo, 0⟩]⟩,
  ⟨"LNK_GRP_STATUS", 0x8, [], [⟨3, 0, .ro, 0⟩, ⟨4, 4, .ro, 0⟩, ⟨5, 5, .ro, 0⟩, ⟨6, 6, .w1c, 0⟩, ⟨10, 7, .ro, 0⟩, ⟨13, 11, .ro, 0⟩]⟩,
  ⟨"LNK_SOURCE_CHIP", 0xc, [], [⟨15, 0, .rw, 0⟩]⟩,
  ⟨"LNK_EYE_MIN", 0x10, [], [⟨15, 0, .rw, 40⟩, ⟨23, 16, .rw, 20⟩]⟩,
  ⟨"LANE_CFG", 0x100, [(128, 8)], [⟨0, 0, .rws, 0⟩, ⟨1, 1, .rws, 0⟩, ⟨2, 2, .rws, 0⟩, ⟨3, 3, .rws, 0⟩, ⟨4, 4, .rws, 0⟩, ⟨7, 5, .rws, 2⟩, ⟨8, 8, .rws, 0⟩, ⟨11, 9, .rws, 0⟩, ⟨13, 12, .rws, 0⟩, ⟨16, 14, .rws, 0⟩, ⟨19, 17, .rws, 0⟩]⟩,
  ⟨"LANE_FFE", 0x104, [(128, 8)], [⟨3, 0, .rws, 0⟩, ⟨9, 4, .rws, 49⟩, ⟨14, 10, .rws, 14⟩]⟩,
  ⟨"LANE_CMD", 0x108, [(128, 8)], [⟨0, 0, .wo, 0⟩, ⟨1, 1, .wo, 0⟩, ⟨2, 2, .wo, 0⟩]⟩,
  ⟨"LANE_STATUS", 0x10c, [(128, 8)], [⟨3, 0, .ro, 0⟩, ⟨4, 4, .ro, 0⟩, ⟨5, 5, .ro, 0⟩, ⟨6, 6, .ro, 0⟩, ⟨10, 7, .ro, 0⟩, ⟨11, 11, .ro, 0⟩, ⟨15, 12, .ro, 0⟩, ⟨31, 16, .ro, 0⟩]⟩,
  ⟨"LANE_COEF", 0x110, [(128, 8)], [⟨3, 0, .ro, 0⟩, ⟨9, 4, .ro, 49⟩, ⟨14, 10, .ro, 14⟩, ⟨18, 15, .ro, 0⟩, ⟨21, 19, .ro, 0⟩]⟩,
  ⟨"LANE_CREDIT", 0x114, [(128, 8)], [⟨7, 0, .ro, 0⟩, ⟨15, 8, .ro, 0⟩, ⟨23, 16, .ro, 0⟩, ⟨31, 24, .ro, 0⟩]⟩,
  ⟨"LANE_BACKOFF", 0x118, [(128, 8)], [⟨10, 0, .ro, 0⟩, ⟨31, 16, .ro, 0⟩]⟩,
  ⟨"CNT_WICK_RX", 0x120, [(128, 8)], [⟨31, 0, .ro, 0⟩]⟩,
  ⟨"CNT_CRC_ERR", 0x124, [(128, 8)], [⟨31, 0, .ro, 0⟩]⟩,
  ⟨"CNT_SYNC_BAD", 0x128, [(128, 8)], [⟨31, 0, .ro, 0⟩]⟩,
  ⟨"CNT_WICK_LOST", 0x12c, [(128, 8)], [⟨31, 0, .ro, 0⟩]⟩,
  ⟨"CNT_LOCK_LOSS", 0x130, [(128, 8)], [⟨31, 0, .ro, 0⟩]⟩,
  ⟨"CNT_TRAIN_ATTEMPT", 0x134, [(128, 8)], [⟨31, 0, .ro, 0⟩]⟩,
  ⟨"CNT_PKT_RX", 0x138, [(128, 8)], [⟨31, 0, .ro, 0⟩]⟩,
  ⟨"CNT_PKT_OVF", 0x13c, [(128, 8)], [⟨31, 0, .ro, 0⟩]⟩,
  ⟨"CNT_PKT_MALFORMED", 0x140, [(128, 8)], [⟨31, 0, .ro, 0⟩]⟩,
  ⟨"CNT_PKT_ABANDON_RX", 0x144, [(128, 8)], [⟨31, 0, .ro, 0⟩]⟩,
  ⟨"CNT_ORPHAN", 0x148, [(128, 8)], [⟨31, 0, .ro, 0⟩]⟩,
  ⟨"CNT_PKT_TX", 0x14c, [(128, 8)], [⟨31, 0, .ro, 0⟩]⟩,
  ⟨"CNT_PKT_ABANDON_TX", 0x150, [(128, 8)], [⟨31, 0, .ro, 0⟩]⟩,
  ⟨"CNT_CREDIT_RECON", 0x154, [(128, 8)], [⟨31, 0, .ro, 0⟩]⟩,
  ⟨"CNT_FLAGGED_IDLE", 0x158, [(128, 8)], [⟨31, 0, .ro, 0⟩]⟩,
  ⟨"CNT_CTRL_RX", 0x15c, [(128, 8)], [⟨31, 0, .ro, 0⟩]⟩,
  ⟨"PRBS_ERR_LO", 0x160, [(128, 8)], [⟨31, 0, .ro, 0⟩]⟩,
  ⟨"PRBS_ERR_HI", 0x164, [(128, 8)], [⟨15, 0, .ro, 0⟩]⟩]

/-- The registers of the LNK page. -/
def regTableLnk : List RegRow := regTableLnk0

def regTableEgr0 : List RegRow := [
  ⟨"EGR_CTRL", 0x0, [], [⟨0, 0, .rws, 0⟩]⟩,
  ⟨"EGR_COMMIT", 0x4, [], [⟨0, 0, .wo, 0⟩]⟩,
  ⟨"EGR_STATUS", 0x8, [], [⟨0, 0, .w1c, 0⟩, ⟨15, 8, .ro, 0⟩]⟩,
  ⟨"EGR_INPUT_BASE", 0xc, [], [⟨13, 0, .rws, 0⟩]⟩,
  ⟨"EGR_ENT0", 0x1000, [(16, 256)], [⟨0, 0, .rws, 0⟩, ⟨2, 1, .rws, 0⟩, ⟨6, 3, .rws, 0⟩, ⟨14, 8, .rws, 0⟩, ⟨23, 16, .rws, 0⟩]⟩,
  ⟨"EGR_ENT1", 0x1004, [(16, 256)], [⟨16, 0, .rws, 0⟩]⟩,
  ⟨"EGR_ENT2", 0x1008, [(16, 256)], [⟨16, 0, .rws, 0⟩]⟩,
  ⟨"EGR_ENT3", 0x100c, [(16, 256)], [⟨11, 0, .rws, 0⟩, ⟨19, 12, .rws, 0⟩, ⟨26, 20, .rws, 0⟩, ⟨31, 27, .rws, 0⟩]⟩,
  ⟨"EGR_CNT_DROP", 0x2000, [(4, 256)], [⟨31, 0, .ro, 0⟩]⟩]

/-- The registers of the EGR page. -/
def regTableEgr : List RegRow := regTableEgr0

def regTableLens0 : List RegRow := [
  ⟨"LENS_CTRL", 0x0, [], [⟨0, 0, .rws, 0⟩, ⟨2, 1, .rws, 0⟩, ⟨4, 3, .rws, 3⟩, ⟨9, 5, .rws, 8⟩, ⟨10, 10, .rws, 0⟩, ⟨12, 11, .rws, 0⟩]⟩,
  ⟨"LENS_COMMIT", 0x4, [], [⟨0, 0, .wo, 0⟩]⟩,
  ⟨"LENS_STATUS", 0x8, [], [⟨0, 0, .ro, 0⟩, ⟨1, 1, .w1c, 0⟩, ⟨5, 2, .ro, 0⟩, ⟨6, 6, .ro, 0⟩, ⟨7, 7, .ro, 0⟩]⟩,
  ⟨"LENS_GAIN", 0xc, [], [⟨3, 0, .rws, 0⟩, ⟨31, 16, .rws, 0⟩]⟩,
  ⟨"LENS_CHAN_FIRST", 0x10, [], [⟨16, 0, .rws, 0⟩]⟩,
  ⟨"LENS_CHAN_COUNT", 0x14, [], [⟨16, 0, .rws, 0⟩]⟩,
  ⟨"LENS_OUT", 0x18, [], [⟨5, 0, .rws, 0⟩, ⟨12, 6, .rws, 64⟩]⟩,
  ⟨"LENS_SKEW_LIMIT", 0x1c, [], [⟨12, 0, .rws, 4096⟩]⟩,
  ⟨"LENS_COEF_CTRL", 0x20, [], [⟨0, 0, .wo, 0⟩, ⟨1, 1, .wo, 0⟩, ⟨2, 2, .wo, 0⟩, ⟨3, 3, .wo, 0⟩]⟩,
  ⟨"LENS_COEF_STATUS", 0x24, [], [⟨0, 0, .ro, 0⟩, ⟨1, 1, .w1c, 0⟩, ⟨2, 2, .w1c, 0⟩, ⟨23, 3, .ro, 0⟩]⟩,
  ⟨"LENS_COEF_DATA", 0x28, [], [⟨31, 0, .wo, 0⟩]⟩,
  ⟨"LENS_SWAP_CNT", 0x2c, [], [⟨31, 0, .ro, 0⟩]⟩,
  ⟨"LENS_SKIP_CNT", 0x30, [], [⟨31, 0, .ro, 0⟩]⟩,
  ⟨"LENS_CNT_OUT_DROP", 0x34, [], [⟨31, 0, .ro, 0⟩]⟩,
  ⟨"LENS_IN_CFG", 0x1000, [(64, 128)], [⟨0, 0, .rws, 0⟩, ⟨14, 1, .rws, 0⟩]⟩,
  ⟨"LENS_IN_DELAY", 0x1004, [(64, 128)], [⟨17, 0, .rws, 0⟩]⟩,
  ⟨"LENS_IN_STATUS", 0x1008, [(64, 128)], [⟨17, 0, .ro, 0⟩, ⟨18, 18, .w1c, 0⟩, ⟨19, 19, .ro, 0⟩]⟩,
  ⟨"LENS_IN_ACCEPT", 0x1010, [(64, 128)], [⟨31, 0, .ro, 0⟩]⟩,
  ⟨"LENS_IN_DROP", 0x1014, [(64, 128)], [⟨31, 0, .ro, 0⟩]⟩,
  ⟨"LENS_IN_FILL", 0x1018, [(64, 128)], [⟨31, 0, .ro, 0⟩]⟩,
  ⟨"LENS_IN_PKT_REJ", 0x101c, [(64, 128)], [⟨31, 0, .ro, 0⟩]⟩,
  ⟨"LENS_IN_SAT_FIR", 0x1020, [(64, 128)], [⟨31, 0, .ro, 0⟩]⟩,
  ⟨"LENS_IN_SAT_FFT", 0x1024, [(64, 128)], [⟨31, 0, .ro, 0⟩]⟩]

/-- The registers of the LENS page. -/
def regTableLens : List RegRow := regTableLens0

def regTableLmp0 : List RegRow := [
  ⟨"LMP_CTRL", 0x0, [], [⟨0, 0, .wo, 0⟩, ⟨1, 1, .wo, 0⟩, ⟨2, 2, .wo, 0⟩, ⟨3, 3, .wo, 0⟩]⟩,
  ⟨"LMP_STATE", 0x4, [], [⟨1, 0, .ro, 0⟩, ⟨5, 2, .ro, 0⟩]⟩,
  ⟨"LMP_PC", 0x8, [], [⟨12, 0, .rw, 0⟩]⟩,
  ⟨"LMP_INT_PEND", 0xc, [], [⟨5, 0, .w1c, 0⟩]⟩,
  ⟨"LMP_DOORBELL", 0x10, [], [⟨15, 0, .wo, 0⟩]⟩,
  ⟨"LMP_PORT_CFG", 0x14, [], [⟨0, 0, .rws, 0⟩, ⟨1, 1, .rws, 0⟩, ⟨2, 2, .rws, 0⟩, ⟨3, 3, .rws, 0⟩]⟩,
  ⟨"LMP_COMMIT", 0x18, [], [⟨0, 0, .wo, 0⟩]⟩,
  ⟨"LMP_COEF_CTRL", 0x1c, [], [⟨0, 0, .wo, 0⟩, ⟨1, 1, .wo, 0⟩, ⟨2, 2, .wo, 0⟩]⟩,
  ⟨"LMP_COEF_STATUS", 0x20, [], [⟨0, 0, .ro, 0⟩, ⟨1, 1, .ro, 0⟩, ⟨2, 2, .ro, 0⟩, ⟨3, 3, .w1c, 0⟩, ⟨4, 4, .w1c, 0⟩]⟩,
  ⟨"LMP_PORT_STATUS", 0x24, [], [⟨9, 0, .ro, 0⟩, ⟨19, 10, .ro, 0⟩, ⟨28, 20, .ro, 0⟩, ⟨29, 29, .w1c, 0⟩]⟩,
  ⟨"LMP_DBG_SEL", 0x30, [], [⟨7, 0, .rw, 0⟩, ⟨11, 8, .rw, 0⟩]⟩,
  ⟨"LMP_DBG_DATA_LO", 0x34, [], [⟨31, 0, .rw, 0⟩]⟩,
  ⟨"LMP_DBG_DATA_HI", 0x38, [], [⟨15, 0, .rw, 0⟩]⟩,
  ⟨"LMP_CNT_SWAP", 0x40, [], [⟨31, 0, .ro, 0⟩]⟩,
  ⟨"LMP_CNT_SKIP", 0x44, [], [⟨31, 0, .ro, 0⟩]⟩,
  ⟨"LMP_CNT_OUT_SAT", 0x48, [], [⟨31, 0, .ro, 0⟩]⟩,
  ⟨"LMP_CNT_SOUT_DROP", 0x4c, [], [⟨31, 0, .ro, 0⟩]⟩,
  ⟨"LMP_CNT_OBX_DROP", 0x50, [], [⟨31, 0, .ro, 0⟩]⟩,
  ⟨"LMP_CNT_OBX_UNDER", 0x54, [], [⟨31, 0, .ro, 0⟩]⟩,
  ⟨"LMP_CNT_EVT_LOST", 0x58, [], [⟨31, 0, .ro, 0⟩]⟩,
  ⟨"LMP_CNT_SIN_FLUSH", 0x5c, [], [⟨31, 0, .ro, 0⟩]⟩,
  ⟨"LMP_CNT_ECC_CORR", 0x60, [], [⟨31, 0, .ro, 0⟩]⟩]

/-- The registers of the LMP page. -/
def regTableLmp : List RegRow := regTableLmp0

def regTableStg0 : List RegRow := [
  ⟨"STG_CTRL", 0x0, [], [⟨0, 0, .rws, 0⟩]⟩,
  ⟨"STG_COMMIT", 0x4, [], [⟨0, 0, .wo, 0⟩, ⟨1, 1, .wo, 0⟩]⟩,
  ⟨"STG_STATUS", 0x8, [], [⟨0, 0, .w1c, 0⟩, ⟨4, 1, .ro, 0⟩]⟩,
  ⟨"STG_VERDICT_WAIT", 0xc, [], [⟨15, 0, .rws, 2000⟩]⟩,
  ⟨"SET_CFG", 0x100, [(64, 4)], [⟨0, 0, .rws, 0⟩, ⟨1, 1, .rws, 0⟩, ⟨2, 2, .rws, 0⟩, ⟨3, 3, .rws, 0⟩, ⟨5, 4, .rws, 0⟩, ⟨6, 6, .rws, 0⟩, ⟨8, 7, .rws, 0⟩, ⟨11, 9, .rws, 0⟩, ⟨12, 12, .rws, 0⟩]⟩,
  ⟨"SET_SHAPE", 0x104, [(64, 4)], [⟨13, 0, .rws, 64⟩, ⟨23, 14, .rws, 1⟩]⟩,
  ⟨"SET_PLACE", 0x108, [(64, 4)], [⟨8, 0, .rws, 0⟩, ⟨22, 9, .rws, 0⟩]⟩,
  ⟨"SET_CH_BASE", 0x10c, [(64, 4)], [⟨9, 0, .rws, 0⟩]⟩,
  ⟨"SET_LAMP", 0x110, [(64, 4)], [⟨5, 0, .rws, 0⟩, ⟨12, 6, .rws, 64⟩]⟩,
  ⟨"SET_LAG", 0x114, [(64, 4)], [⟨11, 0, .rws, 0⟩]⟩,
  ⟨"SET_TIMEOUT_US", 0x118, [(64, 4)], [⟨15, 0, .rws, 500⟩]⟩,
  ⟨"SET_STATE", 0x11c, [(64, 4)], [⟨1, 0, .ro, 0⟩, ⟨3, 2, .ro, 0⟩]⟩,
  ⟨"RELAY_CFG", 0x400, [], [⟨0, 0, .rws, 0⟩]⟩,
  ⟨"RELAY_BASE", 0x404, [], [⟨19, 0, .rws, 0⟩]⟩,
  ⟨"RELAY_SIZE", 0x408, [], [⟨19, 0, .rws, 0⟩]⟩,
  ⟨"RELAY_WR", 0x40c, [], [⟨29, 0, .ro, 0⟩]⟩,
  ⟨"RELAY_RD", 0x410, [], [⟨29, 0, .rw, 0⟩]⟩,
  ⟨"RELAY_DROP", 0x414, [], [⟨31, 0, .ro, 0⟩]⟩,
  ⟨"CAP_CTRL", 0x500, [], [⟨0, 0, .wo, 0⟩, ⟨1, 1, .wo, 0⟩, ⟨2, 2, .wo, 0⟩, ⟨3, 3, .rw, 0⟩, ⟨4, 4, .rw, 0⟩]⟩,
  ⟨"CAP_BASE", 0x504, [], [⟨19, 0, .rw, 0⟩]⟩,
  ⟨"CAP_SIZE", 0x508, [], [⟨19, 0, .rw, 0⟩]⟩,
  ⟨"CAP_POST", 0x50c, [], [⟨19, 0, .rw, 0⟩]⟩,
  ⟨"CAP_STATUS", 0x510, [], [⟨1, 0, .ro, 0⟩, ⟨2, 2, .w1c, 0⟩]⟩,
  ⟨"CAP_WR", 0x514, [], [⟨29, 0, .ro, 0⟩]⟩,
  ⟨"CAP_TRIG_POS", 0x518, [], [⟨29, 0, .ro, 0⟩]⟩,
  ⟨"CAP_TRIG_TIME_SEC", 0x51c, [], [⟨31, 0, .ro, 0⟩]⟩,
  ⟨"CAP_TRIG_TIME_NS", 0x520, [], [⟨31, 0, .ro, 0⟩]⟩,
  ⟨"CAP_DROP", 0x524, [], [⟨31, 0, .ro, 0⟩]⟩,
  ⟨"CAP_IGNORED", 0x528, [], [⟨31, 0, .ro, 0⟩]⟩,
  ⟨"CAP_FILT0", 0x600, [(16, 16)], [⟨0, 0, .rw, 0⟩, ⟨1, 1, .rw, 0⟩, ⟨3, 2, .rw, 0⟩]⟩]

def regTableStg1 : List RegRow := [
  ⟨"CAP_FILT1", 0x604, [(16, 16)], [⟨13, 0, .rw, 0⟩, ⟨29, 16, .rw, 0⟩]⟩,
  ⟨"CAP_FILT_CHAN_FIRST", 0x608, [(16, 16)], [⟨16, 0, .rw, 0⟩]⟩,
  ⟨"CAP_FILT_CHAN_LAST", 0x60c, [(16, 16)], [⟨16, 0, .rw, 0⟩]⟩,
  ⟨"SETC_ARRIVED_LO", 0x800, [(256, 4)], [⟨31, 0, .ro, 0⟩]⟩,
  ⟨"SETC_ARRIVED_HI", 0x804, [(256, 4)], [⟨31, 0, .ro, 0⟩]⟩,
  ⟨"SETC_ACCUM_LO", 0x808, [(256, 4)], [⟨31, 0, .ro, 0⟩]⟩,
  ⟨"SETC_ACCUM_HI", 0x80c, [(256, 4)], [⟨31, 0, .ro, 0⟩]⟩,
  ⟨"SETC_EXCL_LO", 0x810, [(256, 4)], [⟨31, 0, .ro, 0⟩]⟩,
  ⟨"SETC_EXCL_HI", 0x814, [(256, 4)], [⟨31, 0, .ro, 0⟩]⟩,
  ⟨"SETC_PENDING_LO", 0x818, [(256, 4)], [⟨31, 0, .ro, 0⟩]⟩,
  ⟨"SETC_PENDING_HI", 0x81c, [(256, 4)], [⟨31, 0, .ro, 0⟩]⟩,
  ⟨"SETC_DROP_PKT_LO", 0x820, [(256, 4)], [⟨31, 0, .ro, 0⟩]⟩,
  ⟨"SETC_DROP_PKT_HI", 0x824, [(256, 4)], [⟨31, 0, .ro, 0⟩]⟩,
  ⟨"SETC_DROP_LATE_LO", 0x828, [(256, 4)], [⟨31, 0, .ro, 0⟩]⟩,
  ⟨"SETC_DROP_LATE_HI", 0x82c, [(256, 4)], [⟨31, 0, .ro, 0⟩]⟩,
  ⟨"SETC_DROP_DUP_LO", 0x830, [(256, 4)], [⟨31, 0, .ro, 0⟩]⟩,
  ⟨"SETC_DROP_DUP_HI", 0x834, [(256, 4)], [⟨31, 0, .ro, 0⟩]⟩,
  ⟨"SETC_DROP_MISMATCH_LO", 0x838, [(256, 4)], [⟨31, 0, .ro, 0⟩]⟩,
  ⟨"SETC_DROP_MISMATCH_HI", 0x83c, [(256, 4)], [⟨31, 0, .ro, 0⟩]⟩,
  ⟨"SETC_DROP_NOSTAGE_LO", 0x840, [(256, 4)], [⟨31, 0, .ro, 0⟩]⟩,
  ⟨"SETC_DROP_NOSTAGE_HI", 0x844, [(256, 4)], [⟨31, 0, .ro, 0⟩]⟩,
  ⟨"SETC_DROP_HALF_LO", 0x848, [(256, 4)], [⟨31, 0, .ro, 0⟩]⟩,
  ⟨"SETC_DROP_HALF_HI", 0x84c, [(256, 4)], [⟨31, 0, .ro, 0⟩]⟩,
  ⟨"SETC_DROP_SKIP_LO", 0x850, [(256, 4)], [⟨31, 0, .ro, 0⟩]⟩,
  ⟨"SETC_DROP_SKIP_HI", 0x854, [(256, 4)], [⟨31, 0, .ro, 0⟩]⟩,
  ⟨"SETC_WIN_HANDED_LO", 0x858, [(256, 4)], [⟨31, 0, .ro, 0⟩]⟩,
  ⟨"SETC_WIN_HANDED_HI", 0x85c, [(256, 4)], [⟨31, 0, .ro, 0⟩]⟩,
  ⟨"SETC_WIN_DISCARDED_LO", 0x860, [(256, 4)], [⟨31, 0, .ro, 0⟩]⟩,
  ⟨"SETC_WIN_DISCARDED_HI", 0x864, [(256, 4)], [⟨31, 0, .ro, 0⟩]⟩,
  ⟨"SETC_WIN_ABSENT_LO", 0x868, [(256, 4)], [⟨31, 0, .ro, 0⟩]⟩]

def regTableStg2 : List RegRow := [
  ⟨"SETC_WIN_ABSENT_HI", 0x86c, [(256, 4)], [⟨31, 0, .ro, 0⟩]⟩,
  ⟨"SETC_VERDICT_MISS_LO", 0x870, [(256, 4)], [⟨31, 0, .ro, 0⟩]⟩,
  ⟨"SETC_VERDICT_MISS_HI", 0x874, [(256, 4)], [⟨31, 0, .ro, 0⟩]⟩,
  ⟨"SETC_VERDICT_STRAY_LO", 0x878, [(256, 4)], [⟨31, 0, .ro, 0⟩]⟩,
  ⟨"SETC_VERDICT_STRAY_HI", 0x87c, [(256, 4)], [⟨31, 0, .ro, 0⟩]⟩,
  ⟨"SETC_INSPECT_DROP_LO", 0x880, [(256, 4)], [⟨31, 0, .ro, 0⟩]⟩,
  ⟨"SETC_INSPECT_DROP_HI", 0x884, [(256, 4)], [⟨31, 0, .ro, 0⟩]⟩,
  ⟨"SETC_RFI_MARKS_LO", 0x888, [(256, 4)], [⟨31, 0, .ro, 0⟩]⟩,
  ⟨"SETC_RFI_MARKS_HI", 0x88c, [(256, 4)], [⟨31, 0, .ro, 0⟩]⟩,
  ⟨"SETSNAP_ARRIVED_LO", 0xc00, [(256, 4)], [⟨31, 0, .ro, 0⟩]⟩,
  ⟨"SETSNAP_ARRIVED_HI", 0xc04, [(256, 4)], [⟨31, 0, .ro, 0⟩]⟩,
  ⟨"SETSNAP_ACCUM_LO", 0xc08, [(256, 4)], [⟨31, 0, .ro, 0⟩]⟩,
  ⟨"SETSNAP_ACCUM_HI", 0xc0c, [(256, 4)], [⟨31, 0, .ro, 0⟩]⟩,
  ⟨"SETSNAP_EXCL_LO", 0xc10, [(256, 4)], [⟨31, 0, .ro, 0⟩]⟩,
  ⟨"SETSNAP_EXCL_HI", 0xc14, [(256, 4)], [⟨31, 0, .ro, 0⟩]⟩,
  ⟨"SETSNAP_PENDING_LO", 0xc18, [(256, 4)], [⟨31, 0, .ro, 0⟩]⟩,
  ⟨"SETSNAP_PENDING_HI", 0xc1c, [(256, 4)], [⟨31, 0, .ro, 0⟩]⟩,
  ⟨"SETSNAP_DROP_PKT_LO", 0xc20, [(256, 4)], [⟨31, 0, .ro, 0⟩]⟩,
  ⟨"SETSNAP_DROP_PKT_HI", 0xc24, [(256, 4)], [⟨31, 0, .ro, 0⟩]⟩,
  ⟨"SETSNAP_DROP_LATE_LO", 0xc28, [(256, 4)], [⟨31, 0, .ro, 0⟩]⟩,
  ⟨"SETSNAP_DROP_LATE_HI", 0xc2c, [(256, 4)], [⟨31, 0, .ro, 0⟩]⟩,
  ⟨"SETSNAP_DROP_DUP_LO", 0xc30, [(256, 4)], [⟨31, 0, .ro, 0⟩]⟩,
  ⟨"SETSNAP_DROP_DUP_HI", 0xc34, [(256, 4)], [⟨31, 0, .ro, 0⟩]⟩,
  ⟨"SETSNAP_DROP_MISMATCH_LO", 0xc38, [(256, 4)], [⟨31, 0, .ro, 0⟩]⟩,
  ⟨"SETSNAP_DROP_MISMATCH_HI", 0xc3c, [(256, 4)], [⟨31, 0, .ro, 0⟩]⟩,
  ⟨"SETSNAP_DROP_NOSTAGE_LO", 0xc40, [(256, 4)], [⟨31, 0, .ro, 0⟩]⟩,
  ⟨"SETSNAP_DROP_NOSTAGE_HI", 0xc44, [(256, 4)], [⟨31, 0, .ro, 0⟩]⟩,
  ⟨"SETSNAP_DROP_HALF_LO", 0xc48, [(256, 4)], [⟨31, 0, .ro, 0⟩]⟩,
  ⟨"SETSNAP_DROP_HALF_HI", 0xc4c, [(256, 4)], [⟨31, 0, .ro, 0⟩]⟩,
  ⟨"SETSNAP_DROP_SKIP_LO", 0xc50, [(256, 4)], [⟨31, 0, .ro, 0⟩]⟩]

def regTableStg3 : List RegRow := [
  ⟨"SETSNAP_DROP_SKIP_HI", 0xc54, [(256, 4)], [⟨31, 0, .ro, 0⟩]⟩,
  ⟨"SETSNAP_WIN_HANDED_LO", 0xc58, [(256, 4)], [⟨31, 0, .ro, 0⟩]⟩,
  ⟨"SETSNAP_WIN_HANDED_HI", 0xc5c, [(256, 4)], [⟨31, 0, .ro, 0⟩]⟩,
  ⟨"SETSNAP_WIN_DISCARDED_LO", 0xc60, [(256, 4)], [⟨31, 0, .ro, 0⟩]⟩,
  ⟨"SETSNAP_WIN_DISCARDED_HI", 0xc64, [(256, 4)], [⟨31, 0, .ro, 0⟩]⟩,
  ⟨"SETSNAP_WIN_ABSENT_LO", 0xc68, [(256, 4)], [⟨31, 0, .ro, 0⟩]⟩,
  ⟨"SETSNAP_WIN_ABSENT_HI", 0xc6c, [(256, 4)], [⟨31, 0, .ro, 0⟩]⟩,
  ⟨"SETSNAP_VERDICT_MISS_LO", 0xc70, [(256, 4)], [⟨31, 0, .ro, 0⟩]⟩,
  ⟨"SETSNAP_VERDICT_MISS_HI", 0xc74, [(256, 4)], [⟨31, 0, .ro, 0⟩]⟩,
  ⟨"SETSNAP_VERDICT_STRAY_LO", 0xc78, [(256, 4)], [⟨31, 0, .ro, 0⟩]⟩,
  ⟨"SETSNAP_VERDICT_STRAY_HI", 0xc7c, [(256, 4)], [⟨31, 0, .ro, 0⟩]⟩,
  ⟨"SETSNAP_INSPECT_DROP_LO", 0xc80, [(256, 4)], [⟨31, 0, .ro, 0⟩]⟩,
  ⟨"SETSNAP_INSPECT_DROP_HI", 0xc84, [(256, 4)], [⟨31, 0, .ro, 0⟩]⟩,
  ⟨"SETSNAP_RFI_MARKS_LO", 0xc88, [(256, 4)], [⟨31, 0, .ro, 0⟩]⟩,
  ⟨"SETSNAP_RFI_MARKS_HI", 0xc8c, [(256, 4)], [⟨31, 0, .ro, 0⟩]⟩,
  ⟨"STG_MAP0", 0x1000, [(8, 256)], [⟨0, 0, .rws, 0⟩, ⟨2, 1, .rws, 0⟩, ⟨4, 3, .rws, 0⟩, ⟨18, 5, .rws, 0⟩]⟩,
  ⟨"STG_MAP1", 0x1004, [(8, 256)], [⟨13, 0, .rws, 0⟩, ⟨27, 14, .rws, 0⟩]⟩,
  ⟨"STG_CHAN", 0x2000, [(4, 1024)], [⟨16, 0, .rws, 0⟩]⟩,
  ⟨"STG_LANE_UNMAPPED_LO", 0x3000, [(16, 128)], [⟨31, 0, .ro, 0⟩]⟩,
  ⟨"STG_LANE_UNMAPPED_HI", 0x3004, [(16, 128)], [⟨31, 0, .ro, 0⟩]⟩,
  ⟨"STG_LANE_FMT", 0x3008, [(16, 128)], [⟨31, 0, .ro, 0⟩]⟩]

/-- The registers of the STG page. -/
def regTableStg : List RegRow := regTableStg0 ++ regTableStg1 ++ regTableStg2 ++ regTableStg3

def regTableLan0 : List RegRow := [
  ⟨"LAN_CTRL", 0x0, [], [⟨0, 0, .rws, 0⟩]⟩,
  ⟨"LAN_COMMIT", 0x4, [], [⟨0, 0, .wo, 0⟩, ⟨1, 1, .wo, 0⟩]⟩,
  ⟨"LAN_STATUS", 0x8, [], [⟨0, 0, .w1c, 0⟩, ⟨4, 1, .ro, 0⟩, ⟨6, 5, .ro, 0⟩]⟩,
  ⟨"LAN_ABANDON_CNT", 0xc, [], [⟨31, 0, .ro, 0⟩]⟩,
  ⟨"LAN_PARITY_CNT", 0x10, [], [⟨31, 0, .ro, 0⟩]⟩,
  ⟨"JOB_CFG", 0x100, [(32, 4)], [⟨0, 0, .rws, 0⟩, ⟨1, 1, .rws, 0⟩, ⟨2, 2, .rws, 0⟩, ⟨9, 3, .rws, 0⟩, ⟨17, 10, .rws, 0⟩]⟩,
  ⟨"JOB_SLOT", 0x104, [(32, 4)], [⟨13, 0, .rws, 0⟩, ⟨29, 16, .ro, 0⟩]⟩,
  ⟨"JOB_STATE", 0x108, [(32, 4)], [⟨1, 0, .ro, 0⟩, ⟨2, 2, .ro, 0⟩, ⟨28, 16, .ro, 0⟩]⟩,
  ⟨"JOB_PERIOD", 0x10c, [(32, 4)], [⟨31, 0, .ro, 0⟩]⟩,
  ⟨"JOB_TASKS_LO", 0x110, [(32, 4)], [⟨31, 0, .ro, 0⟩]⟩,
  ⟨"JOB_TASKS_HI", 0x114, [(32, 4)], [⟨31, 0, .ro, 0⟩]⟩,
  ⟨"JOB_CLAMP", 0x118, [(32, 4)], [⟨31, 0, .ro, 0⟩]⟩,
  ⟨"JOB_SKIP_WIN", 0x11c, [(32, 4)], [⟨31, 0, .ro, 0⟩]⟩,
  ⟨"LAN_WIN_SEL", 0x200, [], [⟨7, 0, .rw, 0⟩]⟩,
  ⟨"LAN_WIN_STATUS", 0x204, [], [⟨1, 0, .ro, 0⟩, ⟨8, 2, .ro, 0⟩, ⟨9, 9, .ro, 0⟩]⟩,
  ⟨"LAN_WIN_SEED_LO", 0x208, [], [⟨31, 0, .rws, 0⟩]⟩,
  ⟨"LAN_WIN_SEED_HI", 0x20c, [], [⟨31, 0, .rws, 0⟩]⟩,
  ⟨"LAN_WIN_TASKS", 0x210, [], [⟨31, 0, .ro, 0⟩]⟩,
  ⟨"LAN_WIN_HOLD", 0x214, [], [⟨31, 0, .ro, 0⟩]⟩,
  ⟨"LAN_WIN_GEN_LO", 0x218, [], [⟨31, 0, .ro, 0⟩]⟩,
  ⟨"LAN_WIN_GEN_HI", 0x21c, [], [⟨31, 0, .ro, 0⟩]⟩,
  ⟨"LAN_WIN_PLANE", 0x220, [(4, 2)], [⟨13, 0, .ro, 0⟩, ⟨15, 14, .ro, 0⟩, ⟨16, 16, .ro, 0⟩, ⟨17, 17, .ro, 0⟩]⟩,
  ⟨"LAN_DEBUG", 0x300, [], [⟨0, 0, .rw, 0⟩]⟩,
  ⟨"LAN_DEBUG", 0x304, [], [⟨0, 0, .ro, 0⟩]⟩,
  ⟨"LAN_DEBUG_MASK", 0x310, [(4, 8)], [⟨31, 0, .rw, 0⟩]⟩]

/-- The registers of the LAN page. -/
def regTableLan : List RegRow := regTableLan0

def regTableMnt0 : List RegRow := [
  ⟨"MNT_COMMIT", 0x0, [], [⟨0, 0, .wo, 0⟩]⟩,
  ⟨"MNT_STATUS", 0x4, [], [⟨0, 0, .ro, 0⟩, ⟨1, 1, .w1c, 0⟩, ⟨5, 2, .ro, 0⟩]⟩,
  ⟨"MNT_SAT_CNT", 0x10, [], [⟨31, 0, .ro, 0⟩]⟩,
  ⟨"MNT_DIM_CNT", 0x14, [], [⟨31, 0, .ro, 0⟩]⟩,
  ⟨"MNT_ECC_CORR", 0x18, [], [⟨31, 0, .ro, 0⟩]⟩,
  ⟨"MNT_ECC_UNCORR", 0x1c, [], [⟨31, 0, .ro, 0⟩]⟩,
  ⟨"MNT_TAG_ERR", 0x20, [], [⟨31, 0, .ro, 0⟩]⟩,
  ⟨"DUMP_CFG", 0x100, [(64, 4)], [⟨1, 0, .rws, 0⟩, ⟨2, 2, .rws, 0⟩]⟩,
  ⟨"DUMP_BASE", 0x104, [(64, 4)], [⟨19, 0, .rws, 0⟩]⟩,
  ⟨"DUMP_STRIDE", 0x108, [(64, 4)], [⟨19, 0, .rws, 0⟩]⟩,
  ⟨"DUMP_BUFS", 0x10c, [(64, 4)], [⟨4, 0, .rws, 1⟩]⟩,
  ⟨"DUMP_LANES", 0x110, [(64, 4)], [⟨6, 0, .rws, 0⟩, ⟨11, 7, .rws, 0⟩]⟩,
  ⟨"DUMP_SIZE", 0x114, [(64, 4)], [⟨29, 0, .ro, 0⟩]⟩,
  ⟨"DUMP_WR", 0x118, [(64, 4)], [⟨15, 0, .ro, 0⟩]⟩,
  ⟨"DUMP_RD", 0x11c, [(64, 4)], [⟨15, 0, .rw, 0⟩]⟩,
  ⟨"DUMP_STATE", 0x120, [(64, 4)], [⟨1, 0, .ro, 0⟩, ⟨2, 2, .ro, 0⟩, ⟨3, 3, .ro, 0⟩]⟩,
  ⟨"DUMP_SEQ_LO", 0x124, [(64, 4)], [⟨31, 0, .ro, 0⟩]⟩,
  ⟨"DUMP_SEQ_HI", 0x128, [(64, 4)], [⟨31, 0, .ro, 0⟩]⟩,
  ⟨"DUMP_LOST", 0x12c, [(64, 4)], [⟨31, 0, .ro, 0⟩]⟩,
  ⟨"DEAD_WIN", 0x130, [(64, 4)], [⟨31, 0, .ro, 0⟩]⟩,
  ⟨"DRAIN_LATE", 0x134, [(64, 4)], [⟨31, 0, .ro, 0⟩]⟩]

/-- The registers of the MNT page. -/
def regTableMnt : List RegRow := regTableMnt0

def regTableCan0 : List RegRow := [
  ⟨"CAN_CTRL", 0x0, [], [⟨0, 0, .rws, 0⟩]⟩,
  ⟨"CAN_COMMIT", 0x4, [], [⟨0, 0, .wo, 0⟩]⟩,
  ⟨"CAN_STATUS", 0x8, [], [⟨0, 0, .w1c, 0⟩, ⟨4, 1, .ro, 0⟩, ⟨5, 5, .ro, 0⟩, ⟨6, 6, .ro, 0⟩, ⟨7, 7, .ro, 0⟩]⟩,
  ⟨"CAN_SKEW", 0xc, [], [⟨10, 0, .rws, 1000⟩]⟩,
  ⟨"CAN_W_CTRL", 0x10, [], [⟨0, 0, .wo, 0⟩, ⟨1, 1, .wo, 0⟩, ⟨2, 2, .wo, 0⟩, ⟨3, 3, .wo, 0⟩]⟩,
  ⟨"CAN_W_STATUS", 0x14, [], [⟨0, 0, .ro, 0⟩, ⟨1, 1, .ro, 0⟩, ⟨2, 2, .w1c, 0⟩, ⟨3, 3, .w1c, 0⟩]⟩,
  ⟨"CAN_W_PTR", 0x18, [], [⟨22, 0, .rw, 0⟩]⟩,
  ⟨"CAN_W_DATA", 0x1c, [], [⟨31, 0, .wo, 0⟩]⟩,
  ⟨"CAN_SWAP_CNT", 0x20, [], [⟨31, 0, .ro, 0⟩]⟩,
  ⟨"CAN_SKIP_CNT", 0x24, [], [⟨31, 0, .ro, 0⟩]⟩,
  ⟨"CAN_ABANDON_CNT", 0x28, [], [⟨31, 0, .ro, 0⟩]⟩,
  ⟨"CAN_PKT_SNUFFED", 0x2c, [], [⟨31, 0, .ro, 0⟩]⟩,
  ⟨"CAN_BEAM_EN", 0x40, [(4, 8)], [⟨31, 0, .ro, 0⟩]⟩,
  ⟨"STR_CFG", 0x100, [(64, 16)], [⟨0, 0, .rws, 0⟩, ⟨2, 1, .rws, 0⟩, ⟨4, 3, .rws, 0⟩, ⟨10, 5, .rws, 0⟩, ⟨15, 11, .rws, 0⟩, ⟨19, 16, .rws, 0⟩]⟩,
  ⟨"STR_BEAMS", 0x104, [(64, 16)], [⟨7, 0, .rws, 0⟩, ⟨16, 8, .rws, 1⟩]⟩,
  ⟨"STR_CHAN", 0x108, [(64, 16)], [⟨8, 0, .rws, 0⟩, ⟨18, 9, .rws, 1⟩]⟩,
  ⟨"STR_TIME", 0x10c, [(64, 16)], [⟨11, 0, .rws, 1⟩, ⟨23, 12, .rws, 1⟩]⟩,
  ⟨"STR_LANES", 0x110, [(64, 16)], [⟨6, 0, .rws, 0⟩, ⟨11, 7, .rws, 0⟩]⟩,
  ⟨"STR_PART_SRC0", 0x114, [(64, 16)], [⟨15, 0, .rws, 0⟩, ⟨31, 16, .rws, 0⟩]⟩,
  ⟨"STR_PART_SRC2", 0x118, [(64, 16)], [⟨15, 0, .rws, 0⟩, ⟨31, 16, .rws, 0⟩]⟩,
  ⟨"STR_MISS_LIMIT", 0x11c, [(64, 16)], [⟨31, 0, .rws, 4294967295⟩]⟩,
  ⟨"STR_STATUS", 0x120, [(64, 16)], [⟨2, 0, .ro, 0⟩, ⟨5, 3, .ro, 0⟩]⟩,
  ⟨"STR_CNT_PKT_TX", 0x124, [(64, 16)], [⟨31, 0, .ro, 0⟩]⟩,
  ⟨"STR_CNT_MISS", 0x128, [(64, 16)], [⟨31, 0, .ro, 0⟩]⟩,
  ⟨"STR_CNT_LATE", 0x12c, [(64, 16)], [⟨31, 0, .ro, 0⟩]⟩,
  ⟨"STR_CNT_DUP", 0x130, [(64, 16)], [⟨31, 0, .ro, 0⟩]⟩,
  ⟨"STR_CNT_PART_REJ", 0x134, [(64, 16)], [⟨31, 0, .ro, 0⟩]⟩,
  ⟨"STR_CNT_OVF", 0x138, [(64, 16)], [⟨31, 0, .ro, 0⟩]⟩,
  ⟨"STR_CNT_PKT_DROP", 0x13c, [(64, 16)], [⟨31, 0, .ro, 0⟩]⟩,
  ⟨"BEAM_W", 0x1000, [(4, 256)], [⟨22, 0, .rws, 0⟩, ⟨23, 23, .rws, 0⟩]⟩]

/-- The registers of the CAN page. -/
def regTableCan : List RegRow := regTableCan0

def regTableDma0 : List RegRow := [
  ⟨"DMA_CTRL", 0x0, [], [⟨0, 0, .rw, 0⟩]⟩,
  ⟨"DMA_INT_STATUS", 0x4, [], [⟨15, 0, .w1c, 0⟩]⟩,
  ⟨"CH_CTRL", 0x100, [(64, 16)], [⟨0, 0, .wo, 0⟩, ⟨1, 1, .wo, 0⟩, ⟨2, 2, .wo, 0⟩, ⟨3, 3, .wo, 0⟩]⟩,
  ⟨"CH_CFG", 0x104, [(64, 16)], [⟨0, 0, .rw, 0⟩, ⟨1, 1, .rw, 0⟩, ⟨5, 2, .rw, 0⟩]⟩,
  ⟨"CH_DESC_LO", 0x108, [(64, 16)], [⟨31, 0, .rw, 0⟩]⟩,
  ⟨"CH_DESC_HI", 0x10c, [(64, 16)], [⟨31, 0, .rw, 0⟩]⟩,
  ⟨"CH_LAST_LO", 0x110, [(64, 16)], [⟨31, 0, .ro, 0⟩]⟩,
  ⟨"CH_LAST_HI", 0x114, [(64, 16)], [⟨31, 0, .ro, 0⟩]⟩,
  ⟨"CH_STATUS", 0x118, [(64, 16)], [⟨1, 0, .ro, 0⟩, ⟨2, 2, .ro, 0⟩, ⟨3, 3, .ro, 0⟩, ⟨11, 4, .ro, 0⟩]⟩,
  ⟨"CMP_BASE_LO", 0x11c, [(64, 16)], [⟨31, 0, .rw, 0⟩]⟩,
  ⟨"CMP_BASE_HI", 0x120, [(64, 16)], [⟨31, 0, .rw, 0⟩]⟩,
  ⟨"CMP_WR", 0x124, [(64, 16)], [⟨16, 0, .ro, 0⟩]⟩,
  ⟨"CMP_RD", 0x128, [(64, 16)], [⟨16, 0, .rw, 0⟩]⟩,
  ⟨"CNT_DESC", 0x12c, [(64, 16)], [⟨31, 0, .ro, 0⟩]⟩,
  ⟨"CNT_BYTES_LO", 0x130, [(64, 16)], [⟨31, 0, .ro, 0⟩]⟩,
  ⟨"CNT_BYTES_HI", 0x134, [(64, 16)], [⟨31, 0, .ro, 0⟩]⟩,
  ⟨"PACE_FILL", 0x138, [(64, 16)], [⟨31, 0, .ro, 0⟩]⟩,
  ⟨"CNT_ERR", 0x13c, [(64, 16)], [⟨31, 0, .ro, 0⟩]⟩]

/-- The registers of the DMA page. -/
def regTableDma : List RegRow := regTableDma0

def regTableMem0 : List RegRow := [
  ⟨"MEM_CTRL", 0x0, [], [⟨0, 0, .wo, 0⟩, ⟨1, 1, .rw, 1⟩, ⟨2, 2, .rw, 0⟩, ⟨3, 3, .rw, 1⟩]⟩,
  ⟨"MEM_GEOM", 0x4, [], [⟨1, 0, .rws, 2⟩, ⟨3, 2, .rws, 2⟩]⟩,
  ⟨"MEM_COMMIT", 0x8, [], [⟨0, 0, .wo, 0⟩]⟩,
  ⟨"MEM_STATUS", 0xc, [], [⟨0, 0, .ro, 0⟩, ⟨1, 1, .ro, 0⟩, ⟨2, 2, .ro, 0⟩, ⟨3, 3, .ro, 0⟩, ⟨4, 4, .ro, 0⟩, ⟨5, 5, .w1c, 0⟩, ⟨6, 6, .w1c, 0⟩, ⟨9, 7, .ro, 0⟩]⟩,
  ⟨"MEM_FSP0_RATE", 0x10, [], [⟨2, 0, .rw, 4⟩]⟩,
  ⟨"MEM_FSP1_RATE", 0x14, [], [⟨2, 0, .rw, 1⟩]⟩,
  ⟨"MEM_FSP_CTRL", 0x18, [], [⟨0, 0, .wo, 0⟩, ⟨1, 1, .wo, 0⟩]⟩,
  ⟨"MEM_TRAIN_STATUS", 0x1c, [], [⟨0, 0, .ro, 0⟩, ⟨1, 1, .ro, 0⟩, ⟨2, 2, .ro, 0⟩, ⟨15, 8, .ro, 0⟩]⟩,
  ⟨"MEM_AGE", 0x20, [], [⟨15, 0, .rw, 4000⟩]⟩,
  ⟨"MEM_SR_IDLE", 0x24, [], [⟨15, 0, .rw, 10000⟩]⟩,
  ⟨"MEM_PERIODIC", 0x28, [], [⟨15, 0, .rw, 100⟩]⟩,
  ⟨"MEM_SCRUB", 0x2c, [], [⟨15, 0, .rw, 24⟩]⟩,
  ⟨"MEM_PORT_CFG0", 0x30, [], [⟨15, 0, .rw, 2000⟩, ⟨18, 16, .rw, 0⟩]⟩,
  ⟨"MEM_PORT_CFG1", 0x34, [], [⟨15, 0, .rw, 1000⟩, ⟨18, 16, .rw, 1⟩]⟩,
  ⟨"MEM_PORT_CFG2", 0x38, [], [⟨15, 0, .rw, 2000⟩, ⟨18, 16, .rw, 2⟩]⟩,
  ⟨"MEM_PORT_CFG3", 0x3c, [], [⟨15, 0, .rw, 4000⟩, ⟨18, 16, .rw, 3⟩]⟩,
  ⟨"MEM_PORT_CFG4", 0x40, [], [⟨15, 0, .rw, 4000⟩, ⟨18, 16, .rw, 4⟩]⟩,
  ⟨"MEM_PORT_CFG5", 0x44, [], [⟨15, 0, .rw, 1000⟩, ⟨18, 16, .rw, 5⟩]⟩,
  ⟨"MEM_PORT_CFG6", 0x48, [], [⟨15, 0, .rw, 1000⟩, ⟨18, 16, .rw, 6⟩]⟩,
  ⟨"MEM_MASTER_CLASS", 0x50, [], [⟨13, 0, .rw, 6133⟩]⟩,
  ⟨"MEM_ERR_ADDR_LO", 0x54, [], [⟨31, 0, .rc, 0⟩]⟩,
  ⟨"MEM_ERR_ADDR_HI", 0x58, [], [⟨15, 0, .rc, 0⟩]⟩,
  ⟨"CNT_SWITCH", 0x60, [], [⟨31, 0, .ro, 0⟩]⟩,
  ⟨"CNT_SWITCH_FAIL", 0x64, [], [⟨31, 0, .ro, 0⟩]⟩,
  ⟨"CNT_DEFER", 0x68, [], [⟨31, 0, .ro, 0⟩]⟩,
  ⟨"CH_CE", 0x100, [(32, 8)], [⟨31, 0, .ro, 0⟩]⟩,
  ⟨"CH_UE", 0x104, [(32, 8)], [⟨31, 0, .ro, 0⟩]⟩,
  ⟨"CH_TAG", 0x108, [(32, 8)], [⟨31, 0, .ro, 0⟩]⟩,
  ⟨"CH_SR_ENTRY", 0x10c, [(32, 8)], [⟨31, 0, .ro, 0⟩]⟩,
  ⟨"CH_SR_WAKE", 0x110, [(32, 8)], [⟨31, 0, .ro, 0⟩]⟩]

def regTableMem1 : List RegRow := [
  ⟨"CH_TEMP", 0x114, [(32, 8)], [⟨7, 0, .ro, 0⟩, ⟨8, 8, .ro, 0⟩, ⟨9, 9, .ro, 0⟩]⟩]

/-- The registers of the MEM page. -/
def regTableMem : List RegRow := regTableMem0 ++ regTableMem1

def regTableTop0 : List RegRow := [
  ⟨"TOP_STRAP", 0x0, [], [⟨1, 0, .ro, 0⟩, ⟨2, 2, .ro, 0⟩]⟩,
  ⟨"TOP_STATUS", 0x4, [], [⟨1, 0, .ro, 3⟩, ⟨4, 2, .ro, 0⟩]⟩,
  ⟨"TOP_RST_CTRL", 0x8, [], [⟨31, 0, .wo, 0⟩]⟩,
  ⟨"TOP_RST_CAUSE", 0xc, [], [⟨2, 0, .ro, 0⟩, ⟨15, 8, .ro, 0⟩]⟩,
  ⟨"TOP_CLK_CFG", 0x10, [], [⟨0, 0, .rw, 1⟩]⟩,
  ⟨"TOP_PLL_STATUS", 0x14, [], [⟨0, 0, .ro, 0⟩, ⟨1, 1, .ro, 0⟩, ⟨2, 2, .ro, 0⟩, ⟨3, 3, .ro, 0⟩, ⟨4, 4, .ro, 0⟩, ⟨5, 5, .ro, 0⟩]⟩,
  ⟨"TOP_PERS_SEL", 0x18, [], [⟨1, 0, .rw, 3⟩, ⟨2, 2, .ro, 0⟩]⟩,
  ⟨"TOP_LL_WDOG", 0x1c, [], [⟨15, 0, .rw, 1000⟩, ⟨16, 16, .w1s, 0⟩, ⟨17, 17, .wo, 0⟩, ⟨31, 24, .ro, 0⟩]⟩,
  ⟨"TOP_IO_SLEW", 0x20, [], [⟨1, 0, .rw, 0⟩, ⟨3, 2, .rw, 0⟩, ⟨5, 4, .rw, 0⟩, ⟨7, 6, .rw, 0⟩]⟩,
  ⟨"TOP_GLITCH", 0x24, [], [⟨2, 0, .rw, 3⟩, ⟨5, 3, .rw, 3⟩, ⟨8, 6, .rw, 3⟩, ⟨11, 9, .rw, 3⟩, ⟨14, 12, .rw, 3⟩, ⟨17, 15, .rw, 3⟩]⟩,
  ⟨"TOP_REMAP", 0x100, [], [⟨0, 0, .w1s, 0⟩]⟩,
  ⟨"TOP_BCAST_STATUS", 0x104, [], [⟨0, 0, .w1c, 0⟩]⟩,
  ⟨"LMP_GROUP_MASK_LO", 0x108, [], [⟨31, 0, .rw, 0⟩]⟩,
  ⟨"LMP_GROUP_MASK_HI", 0x10c, [], [⟨31, 0, .rw, 0⟩]⟩,
  ⟨"LNK_GROUP_MASK", 0x110, [], [⟨15, 0, .rw, 0⟩]⟩]

/-- The registers of the TOP page. -/
def regTableTop : List RegRow := regTableTop0

def regTableBmx0 : List RegRow := [
  ⟨"BMX_CTRL", 0x0, [], [⟨15, 0, .rw, 4096⟩]⟩,
  ⟨"BMX_CNT_DECODE", 0x4, [], [⟨31, 0, .ro, 0⟩]⟩,
  ⟨"BMX_CNT_TIMEOUT", 0x8, [], [⟨31, 0, .ro, 0⟩]⟩,
  ⟨"BMX_CNT_RETIRE", 0xc, [], [⟨31, 0, .ro, 0⟩]⟩,
  ⟨"BMX_CNT_UNDEF", 0x10, [], [⟨31, 0, .rc, 0⟩]⟩,
  ⟨"BMX_CNT_STAGE_LOST", 0x14, [], [⟨31, 0, .ro, 0⟩]⟩,
  ⟨"BMX_CNT_LOG_HOLD", 0x18, [], [⟨31, 0, .ro, 0⟩]⟩]

/-- The registers of the BMX page. -/
def regTableBmx : List RegRow := regTableBmx0

def regTableHif0 : List RegRow := [
  ⟨"HIF_CTRL", 0x0, [], [⟨1, 0, .rw, 0⟩, ⟨4, 2, .rw, 0⟩, ⟨5, 5, .wo, 0⟩, ⟨6, 6, .rw, 1⟩]⟩,
  ⟨"HIF_STATUS", 0x4, [], [⟨0, 0, .ro, 0⟩, ⟨2, 1, .ro, 0⟩, ⟨5, 3, .ro, 0⟩, ⟨6, 6, .ro, 0⟩, ⟨7, 7, .ro, 0⟩, ⟨8, 8, .ro, 0⟩, ⟨9, 9, .ro, 0⟩, ⟨10, 10, .ro, 0⟩]⟩,
  ⟨"HIF_APERTURE_LO", 0x8, [], [⟨31, 20, .rw, 0⟩]⟩,
  ⟨"HIF_APERTURE_HI", 0xc, [], [⟨15, 0, .rw, 1⟩]⟩,
  ⟨"HIF_INT_PEND", 0x10, [], [⟨31, 0, .w1c, 0⟩]⟩,
  ⟨"HIF_CNT_LINK_DOWN", 0x14, [], [⟨31, 0, .ro, 0⟩]⟩,
  ⟨"HIF_CNT_MEM_POISON", 0x18, [], [⟨31, 0, .ro, 0⟩]⟩,
  ⟨"HIF_CNT_MEM_WPROT", 0x1c, [], [⟨31, 0, .rc, 0⟩]⟩,
  ⟨"HIF_CNT_MBX_OVERRUN", 0x20, [], [⟨31, 0, .ro, 0⟩]⟩,
  ⟨"HIF_CNT_MBX_DONE", 0x24, [], [⟨31, 0, .ro, 0⟩]⟩,
  ⟨"HIF_VEC_CFG", 0x100, [(4, 32)], [⟨15, 0, .rw, 0⟩]⟩,
  ⟨"MBX_CTRL", 0x200, [], [⟨0, 0, .wo, 0⟩]⟩,
  ⟨"MBX_STATUS", 0x204, [], [⟨0, 0, .ro, 0⟩, ⟨1, 1, .w1c, 0⟩, ⟨3, 2, .ro, 0⟩, ⟨28, 16, .ro, 0⟩]⟩,
  ⟨"MBX_REQ", 0x1000, [(4, 1024)], [⟨31, 0, .wo, 0⟩]⟩,
  ⟨"MBX_RSP", 0x2000, [(4, 1024)], [⟨31, 0, .ro, 0⟩]⟩]

/-- The registers of the HIF page. -/
def regTableHif : List RegRow := regTableHif0

def regTableNvm0 : List RegRow := [
  ⟨"NVM_WADDR", 0x0, [], [⟨23, 3, .rw, 0⟩]⟩,
  ⟨"NVM_WDATA_LO", 0x4, [], [⟨31, 0, .rw, 0⟩]⟩,
  ⟨"NVM_WDATA_HI", 0x8, [], [⟨31, 0, .rw, 0⟩]⟩,
  ⟨"NVM_STATUS", 0xc, [], [⟨0, 0, .ro, 0⟩, ⟨1, 1, .w1c, 0⟩, ⟨2, 2, .w1c, 0⟩, ⟨3, 3, .ro, 0⟩, ⟨4, 4, .ro, 0⟩, ⟨5, 5, .ro, 0⟩]⟩,
  ⟨"NVM_CNT_WRITES", 0x10, [], [⟨31, 0, .ro, 0⟩]⟩,
  ⟨"NVM_CNT_CE", 0x14, [], [⟨31, 0, .ro, 0⟩]⟩,
  ⟨"NVM_CNT_UE", 0x18, [], [⟨31, 0, .ro, 0⟩]⟩,
  ⟨"NVM_ERR_ADDR", 0x1c, [], [⟨23, 0, .rc, 0⟩]⟩,
  ⟨"NVM_CNT_STALE", 0x20, [], [⟨31, 0, .ro, 0⟩]⟩]

/-- The registers of the NVM page. -/
def regTableNvm : List RegRow := regTableNvm0

def regTableSns0 : List RegRow := [
  ⟨"SNS_CTRL", 0x0, [], [⟨15, 0, .rw, 100⟩]⟩,
  ⟨"SNS_STATUS", 0x4, [], [⟨0, 0, .ro, 0⟩, ⟨1, 1, .ro, 0⟩, ⟨2, 2, .ro, 0⟩, ⟨12, 8, .ro, 0⟩]⟩,
  ⟨"SNS_TEMP_LIMIT", 0x8, [], [⟨7, 0, .rw, 110⟩, ⟨15, 8, .rw, 105⟩]⟩,
  ⟨"SNS_TEMP", 0x40, [(4, 32)], [⟨11, 0, .ro, 0⟩, ⟨12, 12, .ro, 0⟩]⟩,
  ⟨"SNS_VOLT", 0x100, [(16, 24)], [⟨15, 0, .ro, 0⟩]⟩,
  ⟨"SNS_VLIM", 0x104, [(16, 24)], [⟨15, 0, .rw, 0⟩, ⟨31, 16, .rw, 65535⟩]⟩,
  ⟨"SNS_CNT_UNDER", 0x108, [(16, 24)], [⟨31, 0, .ro, 0⟩]⟩,
  ⟨"SNS_CNT_OVER", 0x10c, [(16, 24)], [⟨31, 0, .ro, 0⟩]⟩,
  ⟨"SNS_EYE_SEL", 0x300, [], [⟨6, 0, .rw, 0⟩, ⟨7, 7, .wo, 0⟩]⟩,
  ⟨"SNS_EYE", 0x304, [], [⟨15, 0, .ro, 0⟩, ⟨23, 16, .ro, 0⟩, ⟨24, 24, .ro, 0⟩, ⟨25, 25, .ro, 0⟩]⟩]

/-- The registers of the SNS page. -/
def regTableSns : List RegRow := regTableSns0

def regTableFlt0 : List RegRow := [
  ⟨"FLT_CTRL", 0x0, [], [⟨0, 0, .wo, 0⟩, ⟨1, 1, .wo, 0⟩, ⟨2, 2, .wo, 0⟩]⟩,
  ⟨"FLT_CFG", 0x4, [], [⟨2, 0, .rw, 1⟩, ⟨3, 3, .rw, 1⟩, ⟨15, 8, .rw, 8⟩, ⟨31, 16, .rw, 100⟩]⟩,
  ⟨"FLT_SNUFF_QUIET_MS", 0x8, [], [⟨31, 0, .rw, 100⟩]⟩,
  ⟨"FLT_RECOV_WINDOW_S", 0xc, [], [⟨31, 0, .rw, 3600⟩]⟩,
  ⟨"FLT_STATUS", 0x10, [], [⟨0, 0, .ro, 0⟩, ⟨1, 1, .ro, 0⟩, ⟨2, 2, .ro, 0⟩, ⟨3, 3, .w1c, 0⟩, ⟨4, 4, .w1c, 0⟩, ⟨8, 5, .ro, 0⟩, ⟨23, 16, .ro, 0⟩]⟩,
  ⟨"FLT_COMMIT", 0x14, [], [⟨0, 0, .wo, 0⟩]⟩,
  ⟨"FLT_RING_WR", 0x18, [], [⟨10, 0, .ro, 0⟩]⟩,
  ⟨"FLT_RING_RD", 0x1c, [], [⟨10, 0, .rw, 0⟩]⟩,
  ⟨"FLT_CNT_DROP", 0x20, [], [⟨31, 0, .ro, 0⟩]⟩,
  ⟨"FLT_CNT_NOTIFY_DROP", 0x24, [], [⟨31, 0, .ro, 0⟩]⟩,
  ⟨"FLT_CNT_INJ", 0x28, [], [⟨31, 0, .ro, 0⟩]⟩,
  ⟨"FLT_CNT_SNUFF", 0x2c, [], [⟨31, 0, .ro, 0⟩]⟩,
  ⟨"FLT_FIRST_MSG", 0x40, [(4, 4)], [⟨31, 0, .ro, 0⟩]⟩,
  ⟨"FLT_FIRST_SEC_LO", 0x50, [], [⟨31, 0, .ro, 0⟩]⟩,
  ⟨"FLT_FIRST_SEC_HI", 0x54, [], [⟨31, 0, .ro, 0⟩]⟩,
  ⟨"FLT_FIRST_NS", 0x58, [], [⟨31, 0, .ro, 0⟩]⟩,
  ⟨"FLT_FIRST_VALID", 0x5c, [], [⟨0, 0, .ro, 0⟩]⟩,
  ⟨"FLT_LAST_C4_MSG", 0x60, [(4, 4)], [⟨31, 0, .ro, 0⟩]⟩,
  ⟨"FLT_INJ_CFG", 0x80, [], [⟨7, 0, .rw, 0⟩, ⟨15, 8, .rw, 0⟩, ⟨17, 16, .rw, 0⟩, ⟨18, 18, .rw, 0⟩, ⟨31, 24, .rw, 1⟩]⟩,
  ⟨"FLT_INJ_CTRL", 0x84, [], [⟨0, 0, .wo, 0⟩, ⟨1, 1, .wo, 0⟩]⟩,
  ⟨"FLT_INJ_STATUS", 0x88, [], [⟨7, 0, .ro, 0⟩, ⟨8, 8, .ro, 0⟩]⟩,
  ⟨"FLT_CLASS", 0x2000, [(4, 512)], [⟨3, 0, .rws, 0⟩, ⟨7, 4, .rws, 0⟩, ⟨11, 8, .rws, 0⟩, ⟨15, 12, .rws, 0⟩, ⟨19, 16, .rws, 0⟩, ⟨23, 20, .rws, 0⟩, ⟨27, 24, .rws, 0⟩, ⟨31, 28, .rws, 0⟩]⟩,
  ⟨"FLT_KIND_CNT", 0x4000, [(4, 4096)], [⟨31, 0, .ro, 0⟩]⟩,
  ⟨"FLT_RING0", 0x8000, [(16, 1024)], [⟨31, 0, .ro, 0⟩]⟩,
  ⟨"FLT_RING1", 0x8004, [(16, 1024)], [⟨31, 0, .ro, 0⟩]⟩,
  ⟨"FLT_RING2", 0x8008, [(16, 1024)], [⟨31, 0, .ro, 0⟩]⟩,
  ⟨"FLT_RING3", 0x800c, [(16, 1024)], [⟨31, 0, .ro, 0⟩]⟩]

/-- The registers of the FLT page. -/
def regTableFlt : List RegRow := regTableFlt0

def regTablePair0 : List RegRow := [
  ⟨"PAIR_CFG", 0x0, [], [⟨0, 0, .rws, 1⟩, ⟨1, 1, .rws, 0⟩, ⟨2, 2, .rws, 0⟩, ⟨3, 3, .rws, 0⟩, ⟨7, 4, .rws, 0⟩]⟩,
  ⟨"PAIR_COMMIT", 0x4, [], [⟨0, 0, .wo, 0⟩]⟩,
  ⟨"PAIR_CTRL", 0x8, [], [⟨0, 0, .rw, 0⟩, ⟨1, 1, .wo, 0⟩]⟩,
  ⟨"PAIR_STATUS", 0xc, [], [⟨2, 0, .ro, 1⟩, ⟨3, 3, .ro, 0⟩, ⟨4, 4, .ro, 0⟩, ⟨5, 5, .ro, 0⟩, ⟨6, 6, .ro, 0⟩, ⟨7, 7, .ro, 0⟩, ⟨8, 8, .ro, 0⟩, ⟨11, 9, .ro, 0⟩, ⟨12, 12, .w1c, 0⟩, ⟨15, 13, .ro, 0⟩, ⟨31, 16, .ro, 0⟩]⟩,
  ⟨"PAIR_BEAM_INTERVAL", 0x10, [], [⟨31, 0, .rws, 32768⟩]⟩,
  ⟨"PAIR_DIG_WAIT_MS", 0x14, [], [⟨15, 0, .rw, 1000⟩]⟩,
  ⟨"PAIR_TRIM_WAIT_US", 0x18, [], [⟨15, 0, .rw, 100⟩]⟩,
  ⟨"PAIR_CNT_TAKEOVER", 0x20, [], [⟨31, 0, .ro, 0⟩]⟩,
  ⟨"PAIR_CNT_TRIM", 0x24, [], [⟨31, 0, .ro, 0⟩]⟩,
  ⟨"PAIR_CNT_TRIM_FAIL", 0x28, [], [⟨31, 0, .ro, 0⟩]⟩,
  ⟨"PAIR_CNT_DUAL", 0x2c, [], [⟨31, 0, .ro, 0⟩]⟩,
  ⟨"PAIR_CNT_GATED", 0x30, [], [⟨31, 0, .ro, 0⟩]⟩,
  ⟨"PAIR_CNT_PILOT_BAD", 0x34, [], [⟨31, 0, .ro, 0⟩]⟩,
  ⟨"PAIR_CNT_DUMP_CMP", 0x38, [], [⟨31, 0, .ro, 0⟩]⟩,
  ⟨"PAIR_CNT_DUMP_DIV", 0x3c, [], [⟨31, 0, .ro, 0⟩]⟩,
  ⟨"PAIR_CNT_BEAM_CMP", 0x40, [], [⟨31, 0, .ro, 0⟩]⟩,
  ⟨"PAIR_CNT_BEAM_DIV", 0x44, [], [⟨31, 0, .ro, 0⟩]⟩,
  ⟨"PAIR_CNT_DIG_MISS", 0x48, [], [⟨31, 0, .ro, 0⟩]⟩,
  ⟨"PAIR_LAST_DIV", 0x50, [], [⟨3, 0, .ro, 0⟩, ⟨15, 8, .ro, 0⟩]⟩,
  ⟨"PAIR_LAST_DIV_KEY_LO", 0x54, [], [⟨31, 0, .ro, 0⟩]⟩,
  ⟨"PAIR_LAST_DIV_KEY_HI", 0x58, [], [⟨31, 0, .ro, 0⟩]⟩,
  ⟨"PAIR_LAST_DIV_OWN_LO", 0x5c, [], [⟨31, 0, .ro, 0⟩]⟩,
  ⟨"PAIR_LAST_DIV_OWN_HI", 0x60, [], [⟨31, 0, .ro, 0⟩]⟩,
  ⟨"PAIR_LAST_DIV_PARTNER_LO", 0x64, [], [⟨31, 0, .ro, 0⟩]⟩,
  ⟨"PAIR_LAST_DIV_PARTNER_HI", 0x68, [], [⟨31, 0, .ro, 0⟩]⟩]

/-- The registers of the PAIR page. -/
def regTablePair : List RegRow := regTablePair0

def regTablePmr0 : List RegRow := [
  ⟨"PMR_CTRL", 0x0, [], [⟨0, 0, .wo, 0⟩, ⟨1, 1, .wo, 0⟩, ⟨2, 2, .wo, 0⟩, ⟨3, 3, .wo, 0⟩]⟩,
  ⟨"PMR_COMMIT", 0x4, [], [⟨0, 0, .wo, 0⟩]⟩,
  ⟨"PMR_CFG", 0x8, [], [⟨2, 0, .rw, 5⟩, ⟨3, 3, .rw, 0⟩]⟩,
  ⟨"PMR_STATUS", 0xc, [], [⟨0, 0, .ro, 0⟩, ⟨1, 1, .ro, 0⟩, ⟨2, 2, .w1c, 0⟩, ⟨5, 3, .ro, 0⟩, ⟨14, 8, .ro, 0⟩, ⟨19, 16, .ro, 0⟩]⟩,
  ⟨"PMR_SNAP_WR", 0x10, [], [⟨7, 0, .ro, 0⟩]⟩,
  ⟨"PMR_SNAP_RD", 0x14, [], [⟨7, 0, .rw, 0⟩]⟩,
  ⟨"PMR_CNT_SNAP_LOST", 0x18, [], [⟨31, 0, .rc, 0⟩]⟩,
  ⟨"CTR_CFG", 0x1000, [(64, 100), (4, 16)], [⟨7, 0, .rws, 0⟩, ⟨9, 8, .rws, 0⟩, ⟨10, 10, .rws, 0⟩, ⟨31, 16, .rws, 0⟩]⟩,
  ⟨"PMR_SNAP_BUF0", 0x4000, [(4, 3216)], [⟨31, 0, .ro, 0⟩]⟩,
  ⟨"PMR_SNAP_BUF1", 0x8000, [(4, 3216)], [⟨31, 0, .ro, 0⟩]⟩,
  ⟨"CTR_LO", 0xc000, [(128, 100), (8, 16)], [⟨31, 0, .ro, 0⟩]⟩,
  ⟨"CTR_HI", 0xc004, [(128, 100), (8, 16)], [⟨15, 0, .ro, 0⟩, ⟨16, 16, .w1c, 0⟩]⟩]

/-- The registers of the PMR page. -/
def regTablePmr : List RegRow := regTablePmr0

def regTableMnet0 : List RegRow := [
  ⟨"MNET_PORT_CFG", 0x100, [(16, 2)], [⟨0, 0, .rw, 1⟩, ⟨1, 1, .rw, 0⟩]⟩,
  ⟨"MNET_PORT_STATUS", 0x104, [(16, 2)], [⟨0, 0, .ro, 0⟩, ⟨1, 1, .ro, 0⟩]⟩,
  ⟨"MNET_CNT_RX", 0x108, [(16, 2)], [⟨31, 0, .ro, 0⟩]⟩,
  ⟨"MNET_CNT_DROP", 0x10c, [(16, 2)], [⟨31, 0, .ro, 0⟩]⟩]

/-- The registers of the MNET page. -/
def regTableMnet : List RegRow := regTableMnet0

end Sys2Proof.Machine
end

