-- ==== Sys2Proof/Machine/State.lean ====
section
/-! DEFINITION. Sys2Proof/Machine/State.lean: everything the spec gives the device, as plain data. Register words are held
by address in `State.regs` (active values) and `State.staged` (the staged values of RWS fields); what no register shows is
held in the structures below, one for each chapter. Sparse stores are lists of (key, value) in the canonical form of
Machine/Map.lean. -/
namespace Sys2Proof.Machine

/-- One byte of a store at an address. -/
abbrev Cell := Host.Cell

/-- How a command can stop. Both are safe: the device does nothing of the kind, and no claim about a next state arises. -/
inductive Fault where
  /-- The command names a unit, an address or a value that the device does not have (`wellFormed` is false). Raised by every
  meaning on an ill-formed command. Safe. -/
  | illFormed
deriving DecidableEq, Repr

/-- A command without a meaning. -/
inductive Refusal where
  /-- The command of this mnemonic has no meaning yet. Raised by `exec` only. Safe. -/
  | notModelled (mnemonic : String)
deriving DecidableEq, Repr

/-! ## Time (02_time.md) -/

/-- TB0 and what disciplines it (R49 to R54), the sample-domain monitors (R57 to R59) and the time outputs (R80 to R82). -/
structure TimeState where
  /-- TB0 seconds, nanoseconds and fraction in units of 2^-32 ns (R49). -/
  sec : Nat
  ns : Nat
  frac : Nat
  /-- Consecutive servo updates of 100 ns or less (R51). -/
  goodUpdates : Nat
  /-- The PTP time receiver has supplied the seconds (R52). -/
  ptpSeconds : Bool
  /-- The value STEP_AT_PPS will load (R54): seconds and nanoseconds. -/
  stepAtPps : Option (Nat × Nat)
  /-- FK_TIME_PPS_LOST has been raised and not re-armed (R83). -/
  ppsLostRaised : Bool
  /-- Bit n: FK_TIME_SD_DEV of SDn has been raised and not re-armed (R59). -/
  sdDevRaised : Nat
  /-- Bit k: BEACONk is at its active level (R80). -/
  beaconActive : Nat
  /-- PPS_OUT is at its active level (R82). -/
  ppsOut : Bool
  /-- Nanoseconds of the second of HOLDOVER in progress (R53). -/
  holdNs : Nat
  /-- Selected management port and mapping (port + 2 × UDP/IPv4), and time transmitter identity, of the PTP time receiver (R84);
  none: none selected. -/
  ptpMaster : Option (Nat × List Byte)
  /-- Time transmitters heard: port and mapping, Announce messages heard (at most 2), data set bytes, source identity. -/
  ptpForeign : List (Nat × Nat × List Byte × List Byte)
  /-- Timestamps of the exchange in progress: t1 (Sync), t2 (Sync receipt), t3 (Delay_Req), in ns since the epoch, and
  the corrections. -/
  ptpT1 : Option Int
  ptpT2 : Option Int
  ptpT3 : Option Int
  /-- The path delay last measured, and the sequence numbers of the exchange (R84). -/
  ptpPathDelay : Int
  ptpSyncSeq : Nat
  ptpDelaySeq : Nat
  /-- Residence times of two-step Sync messages forwarded, for their Follow_Up (R86), in 2^-16 ns: ingress port; mapping, domainNumber,
  source identity and sequence bytes; time. -/
  ptpResidence : List (Nat × List Byte × Nat)
deriving DecidableEq, Repr

def TimeState.reset : TimeState :=
  { sec := 0, ns := 0, frac := 0, goodUpdates := 0, ptpSeconds := false, stepAtPps := none, ppsLostRaised := false,
    sdDevRaised := 0, beaconActive := 0, ppsOut := false, holdNs := 0, ptpMaster := none, ptpForeign := [], ptpT1 := none, ptpT2 := none,
    ptpT3 := none, ptpPathDelay := 0, ptpSyncSeq := 0, ptpDelaySeq := 0, ptpResidence := [] }

/-! ## Scheduler (02_time.md) -/

/-- What the scheduler keeps of a slot beside its register words (R60 to R78). -/
structure SlotRun where
  /-- Number k of the occurrence in progress (R74). -/
  occ : Nat
  /-- The count or time an occurrence found late was moved to under NEXT (R68). -/
  moved : Option Nat
  /-- LEAD_SHORT of the first occurrence (R65). -/
  leadShort : Bool
  /-- Bit n: lamp n has executed the occurrence of an action for all lamps. -/
  units : Nat
deriving DecidableEq, Repr

def SlotRun.reset : SlotRun := { occ := 0, moved := none, leadShort := false, units := 0 }

/-- Scheduler state without a register. -/
structure SchedState where
  /-- Slots now ARMED or DELIVERED, in ascending number. -/
  live : List Nat
  /-- Slots with their run state, by slot number. -/
  runs : List (Nat × SlotRun)
  /-- Passage counts P (R66), by target key: target number × 8 + domain. An unlisted key is undefined. -/
  passage : List (Nat × Option Nat)
  /-- Boundaries executed: job and count (R73). -/
  dumpsDone : List (Nat × Nat)
deriving DecidableEq, Repr

def SchedState.reset : SchedState := { live := [], runs := [], passage := [], dumpsDone := [] }

/-! ## Faults (17_faults.md) -/

/-- The armed injection (R620, R622). -/
structure Injection where
  src : Nat
  sub : Nat
  chk : Nat
  double : Bool
deriving DecidableEq, Repr

/-- Fault collector state without a register. -/
structure FaultState where
  /-- A message was dropped since the last one kept (R604). -/
  lost : Bool
  /-- The newest message kept (object 0x8000.14). -/
  lastMsg : Nat
  /-- Messages of SEV 1 or above that no NOTIFY has been made of yet, oldest first (R610). -/
  notifyQueue : List Nat
  /-- Times (TB0 nanoseconds) of the NOTIFYs of the last second, newest first: session, time (R611). -/
  notifyTimes : List (Nat × Nat)
  /-- The injection that is armed (R620). -/
  inj : Option Injection
  /-- Blocks whose C3 reset is still to be made within the command (R607), oldest first. -/
  blockResets : List Nat
  /-- The cause of the device reset that is due 1 µs after the snuff of a C4 event: 4 for FK_SNS_TSHUT, else 3; 0 with none due (R586, R608,
  R680). -/
  c4Pending : Nat
  /-- SNUFF_OUT_N is asserted (R613, R678). The level of SNUFF_IN_N is FLT_STATUS.IN_PIN. -/
  snuffOut : Bool
deriving DecidableEq, Repr

def FaultState.reset : FaultState :=
  { lost := false, lastMsg := 0, notifyQueue := [], notifyTimes := [], inj := none, blockResets := [], c4Pending := 0,
    snuffOut := false }

/-! ## Pair (18_pairs.md) -/

/-- A result digest waiting for its partner (R640 to R643). -/
structure Digest where
  /-- 1 dump, 2 beam. -/
  cause : Nat
  /-- Job or stream. -/
  unit : Nat
  /-- END_COUNT or interval number. -/
  key : Nat
  /-- The digest itself. -/
  value : Nat
  /-- Packets in the interval; 0 for a dump. -/
  packets : Nat
  /-- It may be compared with the partner's (R642). -/
  eligible : Bool
deriving DecidableEq, Repr

/-- A beam digest being summed (R641). -/
structure BeamInterval where
  stream : Nat
  interval : Nat
  sum : Nat
  packets : Nat
  /-- COMPARING has held since the interval's first block (R642). -/
  comparing : Bool
deriving DecidableEq, Repr

/-- Pair unit state without a register. -/
structure PairState where
  /-- A heartbeat has been received since device reset (R636). -/
  heard : Bool
  /-- Consecutive CRC-good heartbeats while the pilot is down (R637). -/
  goodBeats : Nat
  /-- The pilot is down: no CRC-good heartbeat has arrived for 50 µs, and it has not come up since (R637). -/
  pilotLow : Bool
  /-- Own heartbeat sequence (R638). -/
  beatSeq : Nat
  /-- A claim has been made since device reset (R636). -/
  claimedBefore : Bool
  /-- The last heartbeat reported CLAIM_OUT = 1 (R643, cause 4). -/
  dualBeat : Bool
  /-- CAUSE 5 has been raised since the pilot came up (R643). -/
  prioRaised : Bool
  /-- The partner's EN and PILOT_UP from its last heartbeat. -/
  partnerEn : Bool
  partnerPilot : Bool
  /-- Own digests awaiting the partner's, and the partner's awaiting ours. -/
  own : List Digest
  partner : List Digest
  /-- Own digest frames to be sent, oldest first. -/
  sendQueue : List Digest
  /-- Beam digests being summed. -/
  beams : List BeamInterval
  /-- The TRIM in progress: its count; `trimHold`: executed on a STANDBY or ISOLATED unit (R647, R648). -/
  trimAt : Option Nat
  trimDomain : Nat
  trimHold : Bool
  /-- A gate is being closed before the claim is released (R632). -/
  releasing : Bool
deriving DecidableEq, Repr

def PairState.reset : PairState :=
  { heard := false, goodBeats := 0, pilotLow := false, beatSeq := 0, claimedBefore := false, dualBeat := false,
    prioRaised := false, partnerEn := false, partnerPilot := false, own := [], partner := [], sendQueue := [], beams := [],
    trimAt := none, trimDomain := 0, trimHold := false, releasing := false }

/-! ## Performance counters (19_counters.md) -/

/-- The snapshot being collected (R662): its header fields and the copied counters (bank × 16 + counter, entry). -/
structure Snapshot where
  cause : Nat
  domain : Nat
  slot : Nat
  trigger : Nat
  sec : Nat
  ns : Nat
  kind : Nat
  lost : Nat
  entries : List (Nat × Nat)
deriving DecidableEq, Repr

/-- Performance counter reader state without a register. -/
structure PmrState where
  seq : Nat
  collecting : Option Snapshot
deriving DecidableEq, Repr

def PmrState.reset : PmrState := { seq := 0, collecting := none }

/-! ## Reset, clocks and pins (20_bringup.md, 21_electrical.md) -/

/-- What holds the device in reset (R680, R681), and the pins. -/
structure BringState where
  /-- Causes now holding the device in reset, by the codes of R680. -/
  holding : List Nat
  /-- PORST_N, WRST_N, HIF_PERST_N and TRST_N are high. -/
  porstN : Bool
  wrstN : Bool
  hifPerstN : Bool
  trstN : Bool
  /-- Strap pins: PERS and PAIR_PRIO. -/
  strapPers : Nat
  strapPrio : Bool
  /-- TOP_LL_WDOG count running. -/
  watchdogOn : Bool
  /-- SMBALERT_N is asserted. -/
  smbAlert : Bool
  /-- The power-on, and the thermal shutdown, are to be counted in the lifetime record at the next boot (R591). -/
  powerDue : Bool
  tshutDue : Bool
  /-- Nanoseconds into the spread of PLL_CORE, over 32 of its periods (R670). -/
  sscPhase : Nat
  /-- The IEEE 1149.1 test access port: controller state, bits shifted in since the last capture (newest first), and the bits
  that the last Update-IR and Update-DR took. -/
  tapState : Nat
  tapIn : List Bool
  tapIr : List Bool
  tapDr : List Bool
deriving DecidableEq, Repr

/-- DESIGN CHOICE, log 11; DESIGN CHOICE, log 12. -/
def BringState.reset : BringState :=
  { holding := [], porstN := true, wrstN := true, hifPerstN := false, trstN := false, strapPers := 3, strapPrio := false,
    watchdogOn := false, smbAlert := false, powerDue := true, tshutDue := false, sscPhase := 0, tapState := 15, tapIn := [], tapIr := [], tapDr := [] }

/-! ## Steras links (03_steras_links.md) -/

/-- A packet being received (R110). -/
structure RxPacket where
  desc : Desc
  /-- Body wick payloads received, in order. -/
  area : List Byte
  got : Nat
  /-- The packet is being passed over whole (R126); its wicks are counted but not buffered. -/
  dropped : Bool
  /-- Some of its samples have entered the Candelabra feed (R305, R399). -/
  fed : Bool
  /-- TB0 at the last bit of the HEAD (R309). -/
  arrSec : Nat
  arrNs : Nat
deriving DecidableEq, Repr

/-- One receive data lane beyond its registers. -/
structure RxLane where
  /-- The last 64 SYNC fields, newest in bit 0: 1 bad (R105). -/
  syncBad : Nat
  /-- Consecutive good SYNC fields, up to 64 (R104). -/
  goodSync : Nat
  /-- SEQ of the last wick. -/
  lastSeq : Option Nat
  /-- SEQ of the last wick whose own check passed, defined or not (R723); none after one that failed. -/
  lastRaw : Option Nat
  /-- Consecutive CRC-good wicks with continuous SEQ in FRAME_ACQ (R136). -/
  goodRun : Nat
  /-- The payload of the next wick holds undefined bits (R723). -/
  undefNext : Bool
  /-- The packet being received (R110). -/
  pkt : Option RxPacket
  /-- Passing over the body wicks of a packet already discarded (R120). -/
  skipping : Bool
  /-- Positions taken and positions freed, in full width (R128). -/
  rxGot : Nat
  rxReleased : Nat
  /-- Consecutive CRC-good CREDIT_SYNC wicks in CREDIT_SYNC (R144). -/
  csRecv : Nat
  /-- A CREDIT_SYNC has been received in the epoch (R129). -/
  epochSync : Bool
  /-- Step 3 of R144 is done in the present CREDIT_SYNC. -/
  creditReset : Bool
  /-- A CRC-good TRAIN has arrived since the lane left ACTIVE. -/
  trainSeen : Bool
  /-- The last CRC-good wick was a TRAIN reporting RX_STATE below 5 (R140). -/
  peerTraining : Bool
  /-- The last wick was FLAGGED_IDLE (R152). -/
  lastFlagged : Bool
  /-- FK_LNK_ABSENT and FK_LNK_TRAIN_FAIL have been raised since enable or ACTIVE (R148). -/
  failRaised : Bool
  /-- Unconsumed pattern bits and errors of the PRBS checker: consecutive error-free bits (R156). -/
  prbsRun : Nat
  /-- The last 31 pattern bits, the checker's register (R156). -/
  prbsReg : Nat
  /-- The partner's modes, as its last TRAIN wick gave them, match this lane's (R143); true before any. -/
  modeOk : Bool
  /-- A CRC-good TRAIN wick has been received since the lane last left ACTIVE (R144, step 3). -/
  trainLeft : Bool
deriving DecidableEq, Repr

/-- DESIGN CHOICE, log 14. -/
def RxLane.reset : RxLane :=
  { syncBad := 0, goodSync := 0, lastSeq := none, lastRaw := none, goodRun := 0, undefNext := false, pkt := none, skipping := false,
    rxGot := 0, rxReleased := 0, csRecv := 0, epochSync := false, creditReset := false, trainSeen := false,
    peerTraining := false, lastFlagged := false, failRaised := false, prbsRun := 0, prbsReg := 0, modeOk := true, trainLeft := false }

/-- A packet handed to a transmit lane. `source`: 1 egress, 2 Candelabra, 3 export; `unit`: entry, stream or job;
`count`: the count that R646 gives it. -/
structure TxPacket where
  desc : Desc
  area : List Byte
  source : Nat
  unit : Nat
  count : Nat
deriving DecidableEq, Repr

/-- One transmit data lane beyond its registers. -/
structure TxLane where
  seq : Nat
  /-- The last 58 scrambled bits, newest in bit 0 (R102). -/
  scram : Nat
  /-- Packets that wait, oldest first. -/
  queue : List TxPacket
  /-- The packet in progress and its next wick: 0 the HEAD. -/
  cur : Option TxPacket
  curWick : Nat
  /-- The packet in progress is being abandoned under snuff or discarded behind the pair gate. -/
  curFlagged : Bool
  curGated : Bool
  /-- The waiting count marker (R164). -/
  marker : Option Desc
  /-- A RETRAIN_REQ is held (R153). -/
  retrainReq : Bool
  /-- TX_TOTAL and the partner's released count, unwrapped (R128, R129). -/
  txTotal : Nat
  rel : Nat
  /-- Sending TRAIN wicks (R140); CREDIT_SYNC wicks sent in the exchange (R144). -/
  training : Bool
  csSent : Nat
  /-- The next wick's SEQ has wrapped to 0 (R132). -/
  syncDue : Bool
  /-- The TRAIN exchange: the partner's request answered last and its results, and this lane's request (R138, R139). -/
  ackSeq : Nat
  ackResults : Nat
  reqSeq : Nat
  reqTaps : Nat
  reqPreset : Nat
  /-- ACK_SEQ last received (R138). -/
  peerAck : Nat
  /-- The PRBS generator's register while it runs (R155). -/
  prbs : Option Nat
deriving DecidableEq, Repr

def TxLane.reset : TxLane :=
  { seq := 0, scram := 2 ^ 58 - 1, queue := [], cur := none, curWick := 0, curFlagged := false, curGated := false,
    marker := none, retrainReq := false, txTotal := 0, rel := 0, training := false, csSent := 0, syncDue := false,
    ackSeq := 0, ackResults := 0, reqSeq := 0, reqTaps := 0, reqPreset := 0, peerAck := 0,
    prbs := none }

/-- One egress entry's progress (R159, R160). -/
structure EgrEntry where
  /-- Index of the next lane in turn. -/
  nextLane : Nat
  /-- First count of the time block now forming; none before the first. -/
  block : Option Nat
  /-- Next channel group of the block. -/
  nextGroup : Nat
  /-- The Lens has started anew since the block was set (R164). -/
  old : Bool
deriving DecidableEq, Repr

def EgrEntry.reset : EgrEntry := { nextLane := 0, block := none, nextGroup := 0, old := false }

structure LinkState where
  rx : List (Nat × RxLane)
  tx : List (Nat × TxLane)
  egr : List (Nat × EgrEntry)
  /-- Earlier egress maps (R162): the channel count they end at, and their words. -/
  egrEpochs : List (Nat × List (Nat × Word))
  /-- Descriptors that a commit discarded, by lane, until the command ends (R123). -/
  lost : List (Nat × Desc)
deriving DecidableEq, Repr

def LinkState.reset : LinkState := { rx := [], tx := [], egr := [], egrEpochs := [], lost := [] }

/-! ## The Lens (04_lens.md) -/

/-- One position of a delay ring (R173): whether it holds a received sample, that sample's raw count, stored 16 bits and
validity (R171), and one above the last raw count read from it (R170, R177); 0: none. -/
structure RingPos where
  held : Bool
  count : Nat
  value : Nat
  valid : Bool
deriving DecidableEq, Repr

def RingPos.reset : RingPos := { held := false, count := 0, value := 0, valid := false }

/-- One delayed sample y_i[n] (R174, R176). -/
structure YSample where
  re : Int
  im : Int
  valid : Bool
deriving DecidableEq, Repr

def YSample.reset : YSample := { re := 0, im := 0, valid := false }

structure LensState where
  /-- Delay rings: input × 262,144 + position (R173). -/
  ring : List (Nat × RingPos)
  /-- Frontiers f_i; an input that has received nothing since enable has none (R172). -/
  frontier : List (Nat × Option Nat)
  /-- The next output count; none before the first (R175). -/
  nextOut : Option Nat
  /-- Delayed samples of the last 1,048,576 output counts: input × 2^20 + count mod 2^20. -/
  y : List (Nat × YSample)
  /-- Coefficient banks: bank × 2^20 + index (R193). -/
  coef : List (Nat × Nat)
  /-- LENS_COEF pointer (R193). -/
  ptr : Nat
  /-- The shape (T, FFT_LOG2, FRAME_HALF) under which each bank was sealed (R199); none: not sealed. -/
  sealShape0 : Option (Nat × Nat × Nat)
  sealShape1 : Option (Nat × Nat × Nat)
  /-- Lamps whose next part carries GAP (R203, R229): bit n. -/
  gap : Nat
  /-- Raw counts a marker zero-filled (R172): input, first, end. -/
  zero : List (Nat × Nat × Nat)
  /-- Raw counts the Lens has read of each input (R170), as runs: first, end; the newest run first. -/
  reads : List (Nat × List (Nat × Nat))
  /-- Delay steps executed by starvation before the output has come to their count (R71, R179): count, input, argument. -/
  steps : List (Nat × Nat × Nat)
  /-- The bank each spectrum uses (R196): from a spectrum on, newest last. -/
  banks : List (Nat × Nat)
  /-- STALE of each spectrum (R197): from a spectrum on, newest last. -/
  stale : List (Nat × Bool)
  /-- Earlier gain, window and hand-off words (R191): the spectrum they end at, and the words. -/
  epochs : List (Nat × List (Nat × Word))
deriving DecidableEq, Repr

def LensState.reset : LensState :=
  { ring := [], frontier := [], nextOut := none, y := [], coef := [], ptr := 0, sealShape0 := none, sealShape1 := none,
    gap := 0, zero := [], reads := [], steps := [], banks := [], stale := [], epochs := [] }

/-! ## Lamps (05_lamps.md, 06_lamp_isa.md) -/

/-- One record of a stream port (R228): kind 0 header, 1 mark, 2 data; 16 lanes of 18 bits. -/
structure Record where
  kind : Nat
  lanes : List Nat
deriving DecidableEq, Repr

/-- Where a result in flight lands (R215). -/
inductive LandDest where
  | vreg (r : Nat) (lanes : List Nat)
  | acc (r : Nat) (lanes : List Nat)
  | sreg (r : Nat) (v : Nat)
  | spec (n : Nat) (v : Nat)
  /-- PEMPTY, PHDR and PMARK of STATUS. -/
  | portFlags (v : Nat)
  /-- Z, N, C and V of STATUS. -/
  | flags (v : Nat)
  /-- Data-memory words. -/
  | words (l : List (Nat × Nat))
  /-- A hardware loop starting: level, LS, LE, LC (R219). -/
  | loop (k ls le lc : Nat)
  | none
deriving DecidableEq, Repr

/-- A result in flight: it lands at the start of the issue `delay` issues on. `sat`: STATUS.SAT is set as it lands. -/
structure Flight where
  delay : Nat
  dest : LandDest
  sat : Bool
deriving DecidableEq, Repr

/-- The fetch unit at work (R238, R272). -/
structure FetchJob where
  bus : Nat
  row : Nat
  rows : Nat
  toBus : Bool
  p9 : Bool
deriving DecidableEq, Repr

/-- The part entering SOUT (R231, R232, R264). -/
structure SoutPart where
  header : List Nat
  marks : List (List Nat)
  data : List (List Nat)
  marksLeft : Nat
  dataLeft : Nat
  /-- Inputs whose SATURATED mark SOUT has set, by input number. -/
  satInputs : List Nat
  /-- The part is being discarded. -/
  discard : Bool
deriving DecidableEq, Repr

/-- One lamp. Registers are sparse: V by register × 16 + lane, ACC likewise, S, A, M by number, special registers by their
number in R207. -/
structure Lamp where
  v : List (Nat × Nat)
  acc : List (Nat × Nat)
  sr : List (Nat × Nat)
  ar : List (Nat × Nat)
  mr : List (Nat × Nat)
  spec : List (Nat × Nat)
  flight : List Flight
  /-- Delay slots still to issue, the target after them (none: fall through), and whether they belong to reti. -/
  slots : Nat
  target : Option Nat
  reti : Bool
  /-- reti has continued at EPC and no instruction has issued there yet (R226). -/
  afterReti : Bool
  /-- A halt is asked for. -/
  haltReq : Bool
  /-- Interrupt causes pending as levels: doorbell, timer, fetch done. -/
  doorbell : Bool
  timerPend : Bool
  fetchDone : Bool
  /-- The fetch in progress (R238). -/
  fetchJob : Option FetchJob
  /-- The FIFO of SIN, oldest first (R228). -/
  sin : List Record
  /-- Table swaps that take place when the oldest SIN record is read (R242). -/
  swaps : Nat
  /-- The FIFO of SOUT, oldest first (R228). -/
  sout : List Record
  /-- Produced records not yet in SOUT, with the issues until they are ready (R263). -/
  soutPend : List (Record × Nat)
  /-- The SOUT part being formed (R231). -/
  soutPart : Option SoutPart
  /-- COUNT of the last part of each first channel (R232). -/
  soutLast : List (Nat × Nat)
  /-- Entries of the outbox, oldest first. -/
  outbox : List (List Nat)
  /-- EVT values that wait, oldest first. -/
  events : List Nat
  /-- What this lamp's CYCLE reads above the core clock's count, modulo 2^36: the issues counted, and the count at its last RESET. -/
  cycleOff : Nat
deriving DecidableEq, Repr

def Lamp.reset : Lamp :=
  { v := [], acc := [], sr := [], ar := [], mr := [], spec := [], flight := [], slots := 0, target := none, reti := false,
    afterReti := false, haltReq := false, doorbell := false, timerPend := false, fetchDone := false, fetchJob := none,
    sin := [], swaps := 0, sout := [], soutPend := [], soutPart := none, soutLast := [], outbox := [], events := [], cycleOff := 0 }

/-- A complete SOUT part on its way to the egress packetiser (R231, R233). -/
structure LampPart where
  count : Nat
  domain : Nat
  first : Nat
  chans : Nat
  inputs : Nat
  /-- Mark bits by input. -/
  marks : List Nat
  /-- Elements, input fastest, then channel: real and imaginary, saturated. -/
  elems : List (Int × Int)
deriving DecidableEq, Repr

/-- The lamps and their memories, which a lamp reset keeps (R246): data memory by lamp × 2^17 + word, coefficient memory by
lamp × 2^15 + word, instruction memory by lamp × 2^13 + word. -/
structure LampState where
  lamps : List (Nat × Lamp)
  dmem : List (Nat × Nat)
  cmem : List (Nat × Nat)
  imem : List (Nat × Nat)
  /-- Parts the egress packetiser holds. -/
  egrParts : List LampPart
  /-- The last channel count the Lens output has passed (R164), and the first. -/
  lensPassed : Option Nat
  lensFirst : Option Nat
  /-- Copies of fetch units that a lamp reset has stopped, until their bus transactions have retired (R490). -/
  cut : List (Nat × FetchJob)
  /-- Cycles of CLK_CORE since device reset that the ticks have counted, modulo 2^36. -/
  coreCycles : Nat
deriving DecidableEq, Repr

def LampState.reset : LampState :=
  { lamps := [], dmem := [], cmem := [], imem := [], egrParts := [], lensPassed := none, lensFirst := none, cut := [], coreCycles := 0 }


/-! ## Ingest, staging and capture (07_staging.md) -/

/-- A window that occupies a half (R289), with the geometry of its set when it opened. -/
structure Win where
  k : Nat
  nin : Nat
  nch : Nat
  dlen : Nat
  fmt : Nat
  base : Nat
  posFirst : Nat
  /-- 1 FILLING, 2 CLOSED, 3 HANDED. -/
  state : Nat
  /-- Written cells: (c × NIN + p) × D + t to 1 (written), 2 (written, source invalid); unlisted: not written. -/
  cells : List (Nat × Nat)
  /-- Verdict marks by c × 64 + b: the VALID bits of the block's positions (R298); unlisted: not arrived. -/
  verdicts : List (Nat × List Nat)
  /-- Inspection parts sent while filling: (c × 64 + b) × 4096 + t (R296). -/
  inspected : List (Nat × Nat)
  /-- The validity vectors V of the channel indices handed so far (R300), by
  channel index. -/
  valid : List (Nat × List Nat)
deriving DecidableEq, Repr

/-- One staging set's progress. -/
structure SetRun where
  /-- Windows that hold a half, in ascending k. -/
  wins : List Win
  /-- Windows below this number have opened or have been reported absent (R293). -/
  nextK : Nat
  /-- Frontier of each local position (R291); unlisted 0. -/
  front : List (Nat × Nat)
  /-- Receive lane + 1 of each local position's last sample; unlisted 0. -/
  lastLane : List (Nat × Nat)
deriving DecidableEq, Repr

def SetRun.reset : SetRun := { wins := [], nextK := 0, front := [], lastLane := [] }

/-- An earlier input map and channel table (R287): the register words then in force, and for each set the first window that
the next version governs. -/
structure MapEpoch where
  words : List (Nat × Word)
  lims : List (Nat × Nat)
deriving DecidableEq, Repr

/-- The capture ring beyond its registers (R308 to R313). -/
structure Capture where
  /-- CAP_BASE, CAP_SIZE and CAP_POST as read at ARM. -/
  base : Nat
  size : Nat
  post : Nat
  /-- SEQ of the next record, and a gap before it. -/
  seq : Nat
  gap : Bool
  /-- FK_CAP_DROP has been raised since ARM. -/
  dropRaised : Bool
  /-- The next record written is the trigger record. -/
  trigNext : Bool
  /-- Bytes still to be written in POST; meaningful after the trigger record. -/
  postLeft : Nat
deriving DecidableEq, Repr

def Capture.reset : Capture :=
  { base := 0, size := 0, post := 0, seq := 0, gap := false, dropRaised := false, trigNext := false, postLeft := 0 }

structure StgState where
  sets : List (Nat × SetRun)
  /-- Windows of sets disabled while HANDED (R731): set, window. -/
  gone : List (Nat × Win)
  /-- Staging SRAM bytes by offset (R304). -/
  sram : List Cell
  /-- Position records: position × 4 + 0 ARRIVED, 1 ACCUM, 2 EXCL, 3 DROP (R304). -/
  pos : List (Nat × Nat)
  /-- SEQ of the next relay record, and a gap before it. -/
  relaySeq : Nat
  relayGap : Bool
  /-- The capture. -/
  cap : Capture
  /-- Earlier versions of the map, oldest first. -/
  epochs : List MapEpoch
deriving DecidableEq, Repr

def StgState.reset : StgState :=
  { sets := [], gone := [], sram := [], pos := [], relaySeq := 0, relayGap := false, cap := Capture.reset, epochs := [] }

/-! ## The lantern array (08_lanterns.md) -/

/-- A task (R333 to R336). `serial`: the period it belongs to, a number unique since reset. -/
structure Task where
  job : Nat
  serial : Nat
  tag : Nat
  q : Nat
  k : Nat
  c : Nat
  b : Nat
  quarter : Nat
  slot : Nat
  lantern : Nat
  c8 : Bool
  /-- Local positions of its first row and first column input. -/
  rowPos : Nat
  colPos : Nat
  /-- Set for a task of window T/D of a boundary under PAIR_CFG.RESEED: T + 1 (R644); 0: none. -/
  reseed : Nat
deriving DecidableEq, Repr

/-- One accumulator plane: the task it holds, whether that task has still to be promoted, and its accumulators in entry
order, real and imaginary (R318, R319). -/
structure Plane where
  task : Option Task
  held : Bool
  acc : List (Int × Int)
  /-- Validity of its row and column inputs (R336). -/
  vr : List Nat
  vc : List Nat
deriving DecidableEq, Repr

def Plane.reset : Plane := { task := none, held := false, acc := [], vr := [], vc := [] }

structure Lantern where
  queue : List Task
  running : Option Task
  /-- The running task has completed and the lantern is halted with it (R344). -/
  done : Bool
  halted : Bool
  /-- Active plane. -/
  act : Nat
  /-- The two planes. -/
  plane0 : Plane
  plane1 : Plane
  /-- The dither generator (R340), and the counters of tasks and held cycles. -/
  gen : Nat
  tasks : Nat
  hold : Nat
  /-- The last reload of R644 for each job: job and count + 1. -/
  reseeded : List (Nat × Nat)
deriving DecidableEq, Repr

def Lantern.reset : Lantern :=
  { queue := [], running := none, done := false, halted := false, act := 0, plane0 := Plane.reset, plane1 := Plane.reset,
    gen := 0, tasks := 0, hold := 0, reseeded := [] }

/-- A notice of tasks not promoted (R339, R362): for each task its slot, quarter and block. -/
structure Notice where
  job : Nat
  serial : Nat
  tag : Nat
  k : Nat
  c : Nat
  /-- It names every task of the channel index in the window. -/
  all : Bool
  /-- Slot, quarter and block of each task it names. -/
  tasks : List Task
deriving DecidableEq, Repr

/-- A job's promotion stream, in task-counter order (R337, R363, R366). -/
inductive StreamItem where
  | task (t : Task)
  | notice (n : Notice)
  | marker (serial : Nat)
deriving DecidableEq, Repr

/-- A window handed to a job, as the array follows it. -/
structure HandWin where
  k : Nat
  nch : Nat
  /-- Channel indices handed. -/
  handed : List Nat
  /-- Dispatch has reached the window; and whether it is run (else released as skipped, R331). -/
  begun : Bool
  run : Bool
  /-- Staging has discarded it; it is abandoned at its turn (R339). -/
  gone : Bool
  /-- Its tasks' period. -/
  serial : Nat
  tag : Nat
  /-- Next channel index and next task of it to dispatch. -/
  c : Nat
  i : Nat
  /-- Channel indices that may still be dispatched: below this number (R331). -/
  limit : Nat
  /-- Dispatched tasks not yet promoted or abandoned. -/
  left : Nat
  /-- Channel indices with a promotion that the mantle accumulated, or that stands in an export (R373, R731). -/
  accum : List Nat
deriving DecidableEq, Repr

structure JobRun where
  /-- Handed windows in ascending k, and runs of absent windows (first, length) not yet reached. -/
  wins : List HandWin
  absent : List (Nat × Nat)
  /-- The oldest window from which no task has been dispatched (R330); none before the first window. -/
  next : Option Nat
  /-- Q of the next task of the job. -/
  q : Nat
  /-- Promotions, notices and markers on their way to the mantle, in order (R337). -/
  stream : List StreamItem
  /-- Windows below this number were closed by a boundary executed by starvation (R331, R371). -/
  starvedBelow : Nat
  /-- Serial of the open period; JOB_PERIOD number of the next period. -/
  serial : Nat
  nextNum : Nat
  /-- T + 1 of the last boundary executed, for R644; 0: none. -/
  reseedAt : Nat
  /-- The window T/D of that boundary. -/
  reseedWin : Nat
deriving DecidableEq, Repr

def JobRun.reset : JobRun :=
  { wins := [], absent := [], next := none, q := 0, stream := [], starvedBelow := 0, serial := 0, nextNum := 0, reseedAt := 0, reseedWin := 0 }

structure LanState where
  lanterns : List (Nat × Lantern)
  /-- Committed and staged seeds, by lantern (LAN_WIN_SEED). -/
  seeds : List (Nat × Nat)
  seedsStg : List (Nat × Nat)
  /-- The jobs. -/
  jobs : List (Nat × JobRun)
  /-- Next period serial. -/
  nextSerial : Nat
deriving DecidableEq, Repr

def LanState.reset : LanState := { lanterns := [], seeds := [], seedsStg := [], jobs := [], nextSerial := 1 }

/-! ## The mantle (09_mantle.md) -/

/-- One entry (R351): its check bits always match what was written, so they are not held. `tally`: COUNT and SAT, or 0x8000
poisoned (R352). -/
structure MEntry where
  re : Int
  im : Int
  tally : Nat
deriving DecidableEq, Repr

def MEntry.reset : MEntry := { re := 0, im := 0, tally := 0 }

/-- An operation waiting on a slot's scoreboard (R364). -/
inductive SlotOp where
  /-- A promotion, with the check errors its reads meet: entry number and 1 single or 2 double (R377). -/
  | promo (t : Task) (vr vc : List Nat) (acc : List (Int × Int)) (errs : List (Nat × Nat))
  | notice (t : Task)
  | drain (serial : Nat)
  /-- Clear of a disabled job's slot; periods with a lower serial came before it (R372). -/
  | clear (job serial : Nat)
  | tagSet (tag : Nat)
deriving DecidableEq, Repr

structure MSlot where
  exp : Nat
  tag : Nat
  dimPend : Bool
  sat : Bool
  expMax : Bool
  poison : Bool
  tallySat : Bool
  clean : Bool
  promos : Nat
  entries : List (Nat × MEntry)
  /-- Stored check errors that no read has met yet: entry number, 4096 the header, and 1 single or 2 double (R377). -/
  upsets : List (Nat × Nat)
  /-- Operations that wait at the slot, oldest first (R364). -/
  queue : List SlotOp
deriving DecidableEq, Repr

/-- A clear slot (R354). -/
def MSlot.reset : MSlot :=
  { exp := 0, tag := 0, dimPend := false, sat := false, expMax := false, poison := false, tallySat := false, clean := true,
    promos := 0, entries := [], upsets := [], queue := [] }

/-- The geometry of a job when a period opened (R323 to R325). -/
structure JobGeo where
  cross : Bool
  pingpong : Bool
  nin : Nat
  rows : Nat
  nch : Nat
  blocks : Nat
  slotFirst : Nat
  dlen : Nat
  dwell : Nat
  fmt : Nat
  domain : Nat
  lantOffset : Nat
deriving DecidableEq, Repr

/-- A period of a job, from its opening to the end of its drain. -/
structure Period where
  job : Nat
  serial : Nat
  num : Nat
  geo : JobGeo
  first : Nat
  /-- Closed by a boundary: its count, and whether it starved or was late (R380). -/
  closed : Bool
  last : Nat
  starved : Bool
  late : Bool
  /-- A slice has drained under snuff (R380). -/
  snuff : Bool
  /-- TB0 at the boundary's execution (R380). -/
  execSec : Nat
  execNs : Nat
  /-- The boundary that opened it closed an earlier period (R642). -/
  continued : Bool
  /-- COMPARING has held since the boundary that opened it (R642). -/
  comparing : Bool
  /-- By channel index: windows accumulated, skipped, skipped while DEAD (R373). -/
  accum : List (Nat × Nat)
  skip : List (Nat × Nat)
  skipDead : List (Nat × Nat)
  /-- FK_MNT_EXP_MAX has been raised in it. -/
  expMaxRaised : Bool
  /-- Its marker has entered the slices; slices it has left (R367). -/
  markerIn : Bool
  slicesDone : List (Nat × Nat)
  /-- Slots drained, and the flags and exponents found (R380). -/
  drained : Nat
  flags : Nat
  expHist : List (Nat × Nat)
  /-- Bytes of the image beyond its header, by offset (R378). -/
  img : List Cell
  /-- Export: VRAW, the number of the LPDDR6 copy (none: none), whether lanes are used, DUMP_SEQ, LOSS per destination. -/
  vraw : Bool
  copy : Option Nat
  /-- LPDDR6 offset of that copy's buffer (R383), and the global channel numbers in force for the period's first window (R381). -/
  copyAt : Nat
  chans : List Nat
  /-- Lanes are used; DUMP_SEQ; LOSS of each destination (R380, R386). -/
  lanes : Bool
  seq : Nat
  lossMem : Bool
  lossLane : Bool
deriving DecidableEq, Repr

structure MntJob where
  /-- Periods not yet drained, oldest first; the last may be open. -/
  periods : List Period
  /-- DUMP_SEQ of the next dump. -/
  seq : Nat
  /-- A copy to LPDDR6 / lanes was lost since the last one written. -/
  lossMem : Bool
  lossLane : Bool
  /-- Whole LPDDR6 copies whose header is still to become readable: LPDDR6 offset, header bytes (R383). -/
  ready : List (Nat × List Byte)
  /-- LPDDR6 copies begun and not yet written. -/
  begun : Nat
  /-- The newest copy written: its LPDDR6 offset and its length (R389). -/
  newest : Option (Nat × Nat)
  /-- Slots whose clear is still queued (R372). -/
  clears : Nat
  /-- END_COUNTs of lane copies already counted in DUMP_LOST (R386). -/
  laneLost : List Nat
deriving DecidableEq, Repr

def MntJob.reset : MntJob :=
  { periods := [], seq := 0, lossMem := false, lossLane := false, ready := [], begun := 0, newest := none, clears := 0, laneLost := [] }

structure MntState where
  slots : List (Nat × MSlot)
  jobs : List (Nat × MntJob)
deriving DecidableEq, Repr

def MntState.reset : MntState := { slots := [], jobs := [] }


/-! ## The Candelabra (10_candelabra.md) -/

/-- One open block of a stream, with the configuration it opened under (R394 to R397, R411). -/
structure CanBlock where
  stream : Nat
  m : Nat
  got : Nat
  /-- Received units from SRC_INVALID packets (R398), and those of them that STR_CNT_MISS does not hold yet (R419). -/
  inval : Nat
  uncounted : Nat
  /-- Received feed samples: ((c × 8,192 + p) × 4,096 + t), 1 + real code + 256 × imaginary code (R392). -/
  cells : List (Nat × Nat)
  /-- Accepted partial sample groups: ((q × 512 + c) × 4,096 + t), the beams' real and imaginary parts (R403). -/
  parts : List (Nat × List (Int × Int))
  /-- Flags of the block: RFI, saturation, stale weights (R405). -/
  rfi : Bool
  sat : Bool
  stale : Bool
  /-- STR_CFG, the two words of STR_PART_SRC, STR_MISS_LIMIT and the BEAM_W words of the stream's beams when it opened (R411). -/
  cfg : Word
  partSrc : List Word
  missLimit : Nat
  beamW : List Word
  /-- Bank and staleness by first count, newest last (R414, R416). -/
  banks : List (Nat × Nat)
  stales : List (Nat × Bool)
deriving DecidableEq, Repr

/-- A retiring bank (R415): blocks open at the swap, and the domain and trigger of the swap. -/
structure CanRetire where
  opened : List (Nat × Nat)
  domain : Nat
  trigger : Nat
deriving DecidableEq, Repr

/-- Candelabra state without a register. -/
structure CanState where
  blocks : List CanBlock
  /-- Highest block opened, by stream (R396). -/
  front : List (Nat × Option Nat)
  /-- Blocks closed that a contribution could still name: stream, block. -/
  closed : List (Nat × Nat)
  /-- Next lane in turn, by stream (R407). -/
  nextLane : List (Nat × Nat)
  /-- Weights by bank × 8,388,608 + number (R393). -/
  weights : List (Nat × Nat)
  /-- Bank and staleness by domain: what blocks that open now use. -/
  banks : List (Nat × List (Nat × Nat))
  stales : List (Nat × List (Nat × Bool))
  /-- Banks that a swap retires (R415). -/
  retire : Option CanRetire
  /-- Beam states (R419) in the order executed: beam, first count, enabled. -/
  beams : List (Nat × Nat × Bool)
  /-- Earlier configuration words of a scheduled APPLY (R411), ascending in the count: its domain, its count, and the words in force below
  it. -/
  epochs : List (Nat × Nat × List (Nat × Word))
  /-- CAN_W_PTR has passed the last pair of weights (R412). -/
  ptrEnd : Bool
deriving DecidableEq, Repr

def CanState.reset : CanState :=
  { blocks := [], front := [], closed := [], nextLane := [], weights := [], banks := [], stales := [], retire := none,
    beams := [], epochs := [], ptrEnd := false }

/-! ## DMA (11_dma.md) -/

/-- A burst of a DMA channel that its target has not answered. `pos`: the stream offset of its first byte; `dst`: a
COMPARE's read of the destination stream; `data`: the bytes a write burst carries. -/
structure DmaBurst where
  pos : Nat
  n : Nat
  addr : Nat
  dst : Bool
  data : List Byte
  /-- Of a read, the stream offset of the writes at its issue: the writes before it were issued earlier (R484). -/
  wrAt : Nat
deriving DecidableEq, Repr

/-- A DMA channel beyond its registers. -/
structure DmaChan where
  /-- Address of a descriptor to be fetched. -/
  fetch : Option Nat
  /-- The 64 bytes of the descriptor in progress; empty: none. -/
  desc : List Byte
  /-- Outstanding bursts, oldest first. -/
  reads : List DmaBurst
  writes : List DmaBurst
  /-- Stream offsets up to which source reads, destination reads and writes have been issued. -/
  srcPos : Nat
  dstPos : Nat
  wrPos : Nat
  /-- Bytes read and not yet used, by stream offset: source, and the destination stream of a COMPARE. -/
  srcBuf : List (Nat × Option Byte)
  dstBuf : List (Nat × Option Byte)
  /-- Destination bytes written, or compared. -/
  bytes : Nat
  /-- The first mismatch of a COMPARE. -/
  mismatch : Option Nat
  /-- How the descriptor is to end: 0 DONE, 2 ERROR, 3 ABORTED, 4 SNUFFED; its ERR and INFO. -/
  ending : Nat
  err : Nat
  info : Nat
  /-- SEQ of the next fetch (R441). -/
  seq : Nat
  /-- Pacing counts (R434): each source's total at START less its production count then, and the consumption count; the
  source of the last descriptor fetched. -/
  paceBase : List (Nat × Int)
  cons : Nat
  paceSrc : Nat
  /-- A record held in WAIT_CMP (R443): its bytes, its INT, and the descriptor to fetch after it (none: go IDLE). -/
  held : Option (List Byte × Bool × Option Nat)
  /-- ABORT came while the record was held (R445). -/
  aborted : Bool
deriving DecidableEq, Repr

def DmaChan.reset : DmaChan :=
  { fetch := none, desc := [], reads := [], writes := [], srcPos := 0, dstPos := 0, wrPos := 0, srcBuf := [], dstBuf := [],
    bytes := 0, mismatch := none, ending := 0, err := 0, info := 0, seq := 0, paceBase := [], cons := 0, paceSrc := 0,
    held := none, aborted := false }

structure DmaState where
  chans : List (Nat × DmaChan)
  /-- Units each pacing source has produced since reset, by PACE_SRC, less those that left it otherwise than by a paced channel's reads
  (R434, R436). -/
  made : List (Nat × Nat)
  /-- The channel that the arbiter served last, of each value of CH_CFG.PRIO (R433); unlisted: 15, so that channel 0 is next. -/
  last : List (Nat × Nat)
  /-- A reset of the block waits for bursts to complete and for records to be written (R446). -/
  resetDue : Bool
deriving DecidableEq, Repr

def DmaState.reset : DmaState := { chans := [], made := [], last := [], resetDue := false }

/-! ## External memory (12_memory.md) -/

/-- A request queued at a port of the LPDDR6 controller (R469). -/
structure MemReq where
  port : Nat
  master : Nat
  write : Bool
  /-- The access code of its faults (R599). -/
  access : Nat
  /-- Offset in LPDDR6 and length in bytes. -/
  off : Nat
  n : Nat
  /-- The bytes a write enables, by offset. -/
  cells : List (Nat × Byte)
  /-- Class at arrival, and nanoseconds waited at its port since (R471). -/
  cls : Nat
  waited : Nat
deriving DecidableEq, Repr

structure MemState where
  dram : List Cell
  /-- Temperatures of the channels at the training of each set point: set × 8 + channel (R462). -/
  setTemp : List (Nat × Nat)
  /-- Bit k: set point k has been trained at its present rate and not been made invalid (R462). -/
  trained : Nat
  /-- Full training after INIT is in progress. -/
  initing : Bool
  /-- Channels in a periodic retraining: bit m. -/
  periodic : Nat
  /-- Queued requests, oldest first. -/
  queue : List MemReq
  /-- Port last served by each channel at each PRIO, less one: channel × 16 + PRIO (R473). -/
  lastPort : List (Nat × Nat)
  /-- Channels that are entering self-refresh: bit m (R468). -/
  entering : Nat
  /-- Channels in self-refresh when an interval has passed, retrained at exit (R461): bit m. -/
  srRetrain : Nat
  /-- Next burst of the patrol scrubber, by its offset / 32 (R474). -/
  scrub : Nat
deriving DecidableEq, Repr

def MemState.reset : MemState :=
  { dram := [], setTemp := [], trained := 0, initing := false, periodic := 0, queue := [], lastPort := [], entering := 0, srRetrain := 0, scrub := 0 }

/-! ## Host interface (14_host.md) -/

structure HifState where
  /-- MSI-X table words (R509, R510) by word index, 4 for each vector; MSI-X enabled. -/
  msix : List (Nat × Word)
  msixEn : Bool
  /-- Bit v: the message for vector v's pending bit has been sent (R526). -/
  sent : Nat
  /-- TB0 nanoseconds of the last message of each vector, plus 1; 0: none. -/
  lastSent : List (Nat × Nat)
  /-- The subsystem IDs are loaded (R682). -/
  cfgReady : Bool
  /-- The subsystem vendor ID and subsystem ID as loaded from the identity region (R509, R682). -/
  subIds : Nat
  /-- Base of HDM decoder 0 (R513). -/
  decoder : Nat
  /-- Words the host has written to configuration space, the bits it writes alone, and to the CXL registers of BAR2, by offset. -/
  cfg : List (Nat × Word)
  comp : List (Nat × Word)
  /-- The Lamplighter has yet to carry out the mailbox request that BUSY shows. -/
  mbxTaken : Bool
  /-- The master that rang the doorbell of the exchange in progress (R534). -/
  mbxMaster : Nat
deriving DecidableEq, Repr

def HifState.reset : HifState :=
  { msix := [], msixEn := false, sent := 0, lastSent := [], cfgReady := false, subIds := 0, decoder := 0, cfg := [], comp := [],
    mbxTaken := false, mbxMaster := 2 }

/-! ## Object dictionary and ZMP (15_dictionary.md) -/

/-- A parameter set (R541 to R548). -/
structure PSet where
  /-- 0 EMPTY, 1 OPEN, 2 ARMED, 3 REJECTED. -/
  state : Nat
  /-- Entries in staging order: index × 256 + element, value. -/
  entries : List (Nat × List Byte)
  /-- pset_error. -/
  error : Nat
  /-- The slot it is armed for. -/
  slot : Nat
  /-- Hardware shadows loaded at arming: register address, mask and word (R545). -/
  shadow : List (Nat × Word × Word)
deriving DecidableEq, Repr

def PSet.reset : PSet := { state := 0, entries := [], error := 0, slot := 0, shadow := [] }

/-- A subscription (R558). -/
structure Subscription where
  index : Nat
  element : Nat
  count : Nat
  mode : Nat
  interval : Nat
  /-- The values last notified, and the TB0 nanoseconds, plus 1, of the last NOTIFY or of the start of a periodic one; 0: none. -/
  last : List Byte
  lastNs : Nat
deriving DecidableEq, Repr

/-- A ZMP session (R553 to R559). -/
structure Session where
  /-- H, and the requests of H − 15 to H carried out, with their responses (R553, R554). -/
  high : Nat
  done : List (Nat × List Byte)
  /-- IPv4 address and port of the peer. -/
  peer : Option (Nat × Nat)
  /-- Its subscriptions. -/
  subs : List Subscription
  /-- SEQUENCE of the next NOTIFY. -/
  notifySeq : Nat
deriving DecidableEq, Repr

def Session.reset : Session := { high := 0, done := [], peer := none, subs := [], notifySeq := 0 }

structure DictState where
  psets : List (Nat × PSet)
  sessions : List (Nat × Session)
  /-- Entries between the matrix and the change log (R504), oldest first: page address of the register / 4 (4 bytes), origin (4),
  old and new word (4 each), TIME96 of the change. -/
  logBuf : List (List Byte)
  /-- The RAM ring: position → entry; the next sequence number and the oldest entry retained (R567). -/
  log : List (Nat × List Byte)
  logNext : Nat
  logOldest : Nat
  /-- Bytes written through coef_shadow, weight_shadow and update_image since their pointers were set (R561, R593). -/
  coefPtr : Nat
  weightPtr : Nat
  updPtr : Nat
deriving DecidableEq, Repr

def DictState.reset : DictState :=
  { psets := [], sessions := [], logBuf := [], log := [], logNext := 0, logOldest := 0, coefPtr := 0, weightPtr := 0, updPtr := 0 }

/-! ## Management (16_management.md) -/

/-- What MRAM keeps (R574 to R582). No reset changes it. -/
structure Nvm where
  bytes : List Cell
  /-- Words in which a start-up has found an uncorrectable error (R578, R580), and that have not been written since. -/
  bad : List Nat
  /-- SEQ of the last commit of a firmware slot, which outlives the record that BEGIN clears (R579, R594). -/
  slotSeq : Nat
  /-- restore_defaults has been written (R568). -/
  defaultsDue : Bool
deriving DecidableEq, Repr

def Nvm.reset : Nvm := { bytes := [], bad := [], slotSeq := 0, defaultsDue := false }

/-- The Lamplighter and the sensors beyond their registers. -/
structure Mgmt where
  sram : List Cell
  /-- Objects whose change has yet to be journaled (R539), by object key. -/
  journal : List (Nat × List Byte)
  /-- The lifetime counts in SRAM, by byte offset (R589, R590), and the event counters at the last time they were added. -/
  life : List (Nat × Nat)
  lifeSeen : List (Nat × Nat)
  /-- The update history, in the places of its entries (R591). -/
  hist : List (List Byte)
  /-- An MRAM word write in progress: offset and word (R576). -/
  nvmWrite : Option (Nat × Nat)
  /-- Update state and error (R594). -/
  updState : Nat
  updError : Nat
  /-- The slot started is not the first the ROM tried (R595). -/
  recovered : Bool
  /-- FK_SNS_TEMP_WARN has been raised and every sensor has not since read CLEAR_C or below (R585). -/
  warned : Bool
  /-- Monitors below UNDER_MV (bit m) or above OVER_MV (bit 32 + m) in their last sample, those in an excursion, and the last FK_SNS_VOLT of each in TB0
  nanoseconds plus 1 (R587). -/
  voltOut : Nat
  voltExc : Nat
  voltRaised : List (Nat × Nat)
  /-- An eye measurement in progress: its lane, and whether it is already invalid (R588). -/
  eye : Option (Nat × Bool)
  /-- Steps of R685 done. -/
  bootSteps : Nat
  /-- Management ports are served (R686). -/
  zmpOn : Bool
deriving DecidableEq, Repr

def Mgmt.reset : Mgmt :=
  { sram := [], journal := [], life := [], lifeSeen := [], hist := [], nvmWrite := none, updState := 0,
    updError := 0, recovered := false, warned := false, voltOut := 0, voltExc := 0, voltRaised := [],
    eye := none, bootSteps := 0, zmpOn := false }


/-! ## The device -/

/-- The response of the last command that has one: data, or an error with zero data (R18). -/
structure Resp where
  ok : Bool
  data : List Byte
deriving DecidableEq, Repr

/-- Opcodes of CXL.cache requests: RdCurr, ItoMWr and WOWrInv (R518). -/
inductive CacheOp where
  | rdCurr
  | itoMWr
  | woWrInv
deriving DecidableEq, Repr

/-- What the device sends. -/
inductive Out where
  /-- A wick on a transmit data lane: its 128 bytes in transmission order. -/
  | wick (lane : Nat) (bytes : List Byte)
  /-- Bits of a test pattern on a transmit data lane (R155). -/
  | pattern (lane : Nat) (bits : List Bool)
  /-- A received wick returned by the far-end loopback (R154): its header word and its payload, shown descrambled. -/
  | returned (lane header : Nat) (payload : List Byte)
  /-- A pilot frame, from K27.7 to the K28.5 that follows it: its 8b/10b code groups, in transmission order (R637). -/
  | pilot (bits : List Bool)
  /-- An Ethernet frame on a management port. -/
  | frame (port : Nat) (bytes : List Byte)
  /-- A PTP message on a management port: port + 2 × UDP/IPv4 mapping, and its bytes from the PTP header on. -/
  | ptp (via : Nat) (bytes : List Byte)
  /-- A ZMP datagram on the management network, to an IPv4 address and UDP port. -/
  | zmp (ip udp : Nat) (bytes : List Byte)
  /-- A memory write on the host link: an MSI-X message, or DMA in PCIe-only mode (R507). -/
  | hostWrite (addr : Nat) (bytes : List Byte)
  /-- A memory read on the host link in PCIe-only mode (R507). -/
  | hostRead (addr len : Nat)
  /-- A CXL.cache request for a 64-byte line, with the bytes it writes by address (R518). -/
  | cache (op : CacheOp) (line : Nat) (cells : List (Nat × Byte))
  /-- The bit TDO shifts out. -/
  | tdo (bit : Bool)
  /-- The LPDDR6 controller's answer to a master: a 64-byte beat of a read, from its first byte on, or a write (R456 to R458). -/
  | memAnswer (master off : Nat) (ok : Bool) (bytes : List Byte)
deriving DecidableEq, Repr

/-- The device. -/
structure State where
  /-- The commands that wait, first in, first out. -/
  pending : List Instr
  /-- Active register words and staged words by address less 0x00_4000_0000 (R5, R12, R16). -/
  regs : List (Nat × Word)
  staged : List (Nat × Word)
  /-- Faults raised once until re-armed, by the address of the counter that re-arms them. -/
  onceRaised : List (Nat × Bool)
  /-- HI words latched by reads of their LO words, by the address of the HI word. -/
  hiLatch : List (Nat × Word)
  /-- Values of the dictionary objects that no register holds, by index × 256 + element. -/
  objs : List (Nat × List Byte)
  /-- The response of the last command that has one. -/
  resp : Resp
  /-- What the device has sent, oldest first. -/
  out : List Out
  /-- MODEL'S OWN: free values drawn so far (Config.freeValue). -/
  fresh : Nat
  time : TimeState
  sched : SchedState
  flt : FaultState
  pair : PairState
  pmr : PmrState
  bring : BringState
  links : LinkState
  lens : LensState
  lmp : LampState
  stg : StgState
  lan : LanState
  mnt : MntState
  can : CanState
  dma : DmaState
  mem : MemState
  hif : HifState
  dict : DictState
  nvm : Nvm
  mgmt : Mgmt
deriving DecidableEq, Repr

/-- TOP_STRAP after the release of reset with the straps of BringState.reset: PERS 0b11, PAIR_PRIO 0 (R683). -/
def strapWord : Word := 3

/-- TOP_PLL_STATUS at the release of reset: SSC_ON has taken SSC_EN's reset value (R670), and the link reference is in range, since the
device is not held (R672). -/
def pllWord : Word := 0x18

/-- The device at the release of its first reset: every register at its reset value, but for what the release itself sets (the straps
and the PLL status); every store empty. (DESIGN CHOICE, log 13; DESIGN CHOICE, log 119.) -/
def State.reset : State :=
  { pending := [], regs := [(0x0, strapWord), (0x14, pllWord)], staged := [], onceRaised := [], hiLatch := [], objs := [],
    resp := { ok := true, data := [] }, out := [], fresh := 0, time := TimeState.reset, sched := SchedState.reset,
    flt := FaultState.reset, pair := PairState.reset, pmr := PmrState.reset, bring := BringState.reset,
    links := LinkState.reset, lens := LensState.reset, lmp := LampState.reset, stg := StgState.reset, lan := LanState.reset,
    mnt := MntState.reset, can := CanState.reset, dma := DmaState.reset, mem := MemState.reset, hif := HifState.reset,
    dict := DictState.reset, nvm := Nvm.reset, mgmt := Mgmt.reset }

end Sys2Proof.Machine
end

