-- ==== Sys2Proof/Machine/Ops.lean ====
section
/-! DEFINITION. Sys2Proof/Machine/Ops.lean: the named operations over registers, staged values, time and output messages
that every family of commands uses. -/
namespace Sys2Proof.Machine

/-! ## The register tables -/

/-- The rows of the page of a block ID (R12). -/
def pageRows (page : Nat) : List RegRow :=
  if page = 0x00 then regTableTop else if page = 0x01 then regTableTime else if page = 0x02 then regTableSched
  else if page = 0x03 then regTableFlt else if page = 0x04 then regTablePmr else if page = 0x05 then regTablePair
  else if page = 0x06 then regTableMnet else if page = 0x07 then regTableBmx else if page = 0x08 then regTableNvm
  else if page = 0x09 then regTableSns else if page = 0x0B then regTableHif else if page = 0x0C then regTableMem
  else if page = 0x0D then regTableDma else if page = 0x0E then regTableLens else if page = 0x0F then regTableStg
  else if page = 0x10 then regTableLan else if page = 0x11 then regTableMnt else if page = 0x12 then regTableCan
  else if page = 0x13 then regTableEgr
  else if 0x20 ≤ page ∧ page ≤ 0x2F then regTableLnk
  else if 0x40 ≤ page ∧ page ≤ 0x7F then regTableLmp
  else []

/-- A block ID with a register page (R12): PER has a page without registers. -/
def pageExists (page : Nat) : Bool :=
  decide (page ≤ 0x13) || (decide (0x20 ≤ page) && decide (page ≤ 0x2F)) || (decide (0x40 ≤ page) && decide (page ≤ 0x7F))

/-- Whether offset `o` is `base` plus index multiples of the strides. -/
def dimsMatch : List (Nat × Nat) → Nat → Bool
  | [], d => decide (d = 0)
  | (st, c) :: r, d => decide (d / st < c) && dimsMatch r (d % st)

/-- The row that defines a register address (block ID × 0x10000 + offset). -/
def rowAt (key : Nat) : Option RegRow :=
  let off := key % 0x10000
  (pageRows (key / 0x10000)).find? fun r => decide (r.off ≤ off) &&
    (match r.dims with
     | [] => decide (off = r.off)
     | ds => dimsMatch ds (off - r.off))

/-- The mask of bits [hi:lo]. -/
def fieldMask (hi lo : Nat) : Word := BitVec.ofNat 32 ((2 ^ (hi - lo + 1) - 1) <<< lo)

/-- The bits of a row's fields with one of the given access codes. -/
def accMask (r : RegRow) (p : Access → Bool) : Word :=
  r.fields.foldl (fun m f => if p f.acc then m ||| fieldMask f.hi f.lo else m) 0

def rowReset (r : RegRow) : Word :=
  r.fields.foldl (fun w f => w ||| BitVec.ofNat 32 (f.reset <<< f.lo)) 0

/-- The eight default classes in word w of the class table (R609). -/
def classWordReset (w : Nat) : Word :=
  BitVec.ofNat 32 ((List.range 8).foldl (fun a n => a + (defaultClass (8 * w + n)) <<< (4 * n)) 0)

/-- The reset word of a register address; an address no table defines reads zero (R491). -/
def regReset (key : Nat) : Word :=
  if 0x32000 ≤ key ∧ key < 0x32800 then classWordReset ((key - 0x32000) / 4)
  else match rowAt key with
    | none => 0
    | some r => rowReset r

/-! ## Register words and fields -/

/-- The active word of a register. -/
def State.reg (s : State) (key : Nat) : Word := mapGet (regReset key) s.regs key

def State.setReg (s : State) (key : Nat) (w : Word) : State :=
  { s with regs := mapSet (regReset key) s.regs key w }

/-- The staged word of a register (meaningful in its RWS fields, R5). -/
def State.stgd (s : State) (key : Nat) : Word := mapGet (regReset key) s.staged key

def State.setStg (s : State) (key : Nat) (w : Word) : State :=
  { s with staged := mapSet (regReset key) s.staged key w }

/-- The active value of a field. -/
def State.f (s : State) (F : Field) : Nat := getBits (s.reg F.key) F.hi F.lo

/-- The active value of a one-bit field. -/
def State.flag (s : State) (F : Field) : Bool := s.f F != 0

/-- The staged value of a field. -/
def State.sf (s : State) (F : Field) : Nat := getBits (s.stgd F.key) F.hi F.lo

def State.setF (s : State) (F : Field) (v : Nat) : State :=
  s.setReg F.key (setBits (s.reg F.key) F.hi F.lo v)

def State.setSf (s : State) (F : Field) (v : Nat) : State :=
  s.setStg F.key (setBits (s.stgd F.key) F.hi F.lo v)

/-- Both the active and the staged value. -/
def State.setBoth (s : State) (F : Field) (v : Nat) : State := (s.setF F v).setSf F v

def State.setFlag (s : State) (F : Field) (b : Bool) : State := s.setF F (b2n b)

/-- Add to a field, wrapping at its width. -/
def State.incF (s : State) (F : Field) (n : Nat) : State := s.setF F (s.f F + n)

/-- Add to a field, saturating at its width. -/
def State.satF (s : State) (F : Field) (n : Nat) : State :=
  s.setF F (min (s.f F + n) (2 ^ (F.hi - F.lo + 1) - 1))

/-- A 64-bit value in a LO and a HI register. -/
def State.f64 (s : State) (lo hi : Field) : Nat := s.f lo + 2 ^ 32 * s.f hi

def State.setF64 (s : State) (lo hi : Field) (v : Nat) : State :=
  (s.setF lo (v % 2 ^ 32)).setF hi (v / 2 ^ 32)

def State.sf64 (s : State) (lo hi : Field) : Nat := s.sf lo + 2 ^ 32 * s.sf hi

/-- Add to a 64-bit LO and HI pair, wrapping. -/
def State.inc64 (s : State) (lo hi : Field) (n : Nat) : State := s.setF64 lo hi ((s.f64 lo hi + n) % 2 ^ 64)

/-- The RWS bits of a register. -/
def rwsMask (key : Nat) : Word := match rowAt key with | none => 0 | some r => accMask r (· == .rws)

/-- Make the staged RWS fields of one register take effect (R496). -/
def State.commitReg (s : State) (key : Nat) : State :=
  let m := rwsMask key
  s.setReg key ((s.reg key &&& ~~~m) ||| (s.stgd key &&& m))

/-- Make the staged RWS fields of every register of a range of addresses take effect. Registers whose staged and active
words are both at reset have nothing to do. -/
def State.commitRange (s : State) (lo hi : Nat) : State :=
  let keys := (s.staged.map Prod.fst ++ s.regs.map Prod.fst).filter fun k => decide (lo ≤ k) && decide (k < hi)
  keys.foldl State.commitReg s

/-- Keep the staged values equal to the active ones for a range (R500). -/
def State.restage (s : State) (lo hi : Nat) : State :=
  let keys := (s.staged.map Prod.fst ++ s.regs.map Prod.fst).filter fun k => decide (lo ≤ k) && decide (k < hi)
  keys.foldl (fun s k => let m := rwsMask k; s.setStg k ((s.stgd k &&& ~~~m) ||| (s.reg k &&& m))) s

/-- Return a range of registers, active and staged, to reset. -/
def State.resetRange (s : State) (lo hi : Nat) : State :=
  { s with regs := s.regs.filter (fun p => decide (p.1 < lo) || decide (hi ≤ p.1)),
           staged := s.staged.filter (fun p => decide (p.1 < lo) || decide (hi ≤ p.1)) }

/-! ## Faults raised once until re-armed -/

def State.once (s : State) (key : Nat) : Bool := mapGet false s.onceRaised key

def State.setOnce (s : State) (key : Nat) (b : Bool) : State :=
  { s with onceRaised := mapSet false s.onceRaised key b }

/-! ## Time -/

/-- TB0 in nanoseconds since the epoch (R50). -/
def State.tb0 (s : State) : Nat := s.time.sec * 1000000000 + s.time.ns

/-- TB0 set to a whole number of nanoseconds. -/
def State.setTb0 (s : State) (n : Nat) : State :=
  { s with time := { s.time with sec := n / 1000000000 % 2 ^ 64, ns := n % 1000000000 } }

/-! ## Personality and snuff -/

/-- TOP_STATUS.PERSONALITY: 0 F, 1 X, 2 FX, 3 none. -/
def State.pers (s : State) : Nat := s.f Reg.TOP_STATUS_PERSONALITY

def State.isF (s : State) : Bool := s.pers == 0
def State.isX (s : State) : Bool := s.pers == 1
def State.isFX (s : State) : Bool := s.pers == 2
def State.noPers (s : State) : Bool := s.pers == 3

/-- The personality the data-path blocks act by for rejection: none acts as F (R684). -/
def State.actsF (s : State) : Bool := s.isF || s.noPers

def State.snuffed (s : State) : Bool := s.flag Reg.FLT_STATUS_SNUFFED

/-! ## Output, responses and free values -/

/-- Send a message out of the device. -/
def State.emit (s : State) (o : Out) : State := { s with out := s.out ++ [o] }

/-- The response of the command: data, or an error with zero data (R18). -/
def State.respond (s : State) (ok : Bool) (data : List Byte) : State := { s with resp := { ok := ok, data := data } }

/-- Draw a value the spec leaves open. (DESIGN CHOICE, log 10.) -/
def State.draw (s : State) : Nat × State := (Config.freeValue s.fresh, { s with fresh := s.fresh + 1 })

/-- Set bit v of HIF_INT_PEND (R525). -/
def State.intPend (s : State) (v : Nat) : State :=
  s.setReg Reg.HIF_INT_PEND.key (s.reg Reg.HIF_INT_PEND.key ||| BitVec.ofNat 32 (2 ^ v))

/-! ## The DMA channels and their pacing (R434 to R436) -/

def State.chan (s : State) (c : Nat) : DmaChan := mapGet DmaChan.reset s.dma.chans c

def putChan (c : Nat) (x : DmaChan) (s : State) : State :=
  { s with dma := { s.dma with chans := mapSet DmaChan.reset s.dma.chans c x } }

def updChan (c : Nat) (f : DmaChan → DmaChan) (s : State) : State := putChan c (f (s.chan c)) s

def descHigh (d : List Byte) : Nat := leAt d 52 2
def descLow (d : List Byte) : Nat := leAt d 54 2

def paceMade (s : State) (p : Nat) : Nat := mapGet 0 s.dma.made p

/-- Production less consumption of a channel's source. -/
def paceFill (s : State) (c : Nat) : Nat :=
  let x := s.chan c
  if x.paceSrc = 0 then 0 else ((paceMade s x.paceSrc : Int) - mapGet 0 x.paceBase x.paceSrc - (x.cons : Int)).toNat

/-- The requesting state now (R435). -/
def paceReq (s : State) (c : Nat) : Bool :=
  let d := (s.chan c).desc
  decide (descHigh d ≤ paceFill s c) || (s.flag (Reg.CH_STATUS_PACE_REQ c) && decide (descLow d < paceFill s c))

/-- Bring PACE_REQ and PACE_FILL up to date. -/
def paceShow (c : Nat) (s : State) : State :=
  let x := s.chan c
  let s := s.setF (Reg.PACE_FILL c) (min (paceFill s c) (2 ^ 32 - 1))
  if x.paceSrc = 0 ∨ x.desc.isEmpty then s else s.setFlag (Reg.CH_STATUS_PACE_REQ c) (paceReq s c)

/-- The channels paced on a source see its new fill: a change of their registers alone. -/
def paceRefresh (src : Nat) (s : State) : State :=
  { s with regs := (s.dma.chans.foldl (fun s x => if x.2.paceSrc = src then paceShow x.1 s else s) s).regs }

/-- A pacing source of the DMA engine has produced n units more (R434). -/
def State.produce (s : State) (src n : Nat) : State :=
  paceRefresh src { s with dma := { s.dma with made := mapSet 0 s.dma.made src (paceMade s src + n) } }

/-- n units leave a pacing source; master m took them. Where m is a channel paced on the source, its read bursts have counted them
(R434, R436). -/
def State.unproduce (s : State) (src n m : Nat) : State :=
  let own (c : Nat) (x : DmaChan) : DmaChan :=
    if m = 0x10 + c ∧ x.paceSrc = src then { x with paceBase := mapSet 0 x.paceBase src (mapGet 0 x.paceBase src - (n : Int)) } else x
  let chans := s.dma.chans.foldl (fun l x => mapSet DmaChan.reset l x.1 (own x.1 x.2)) s.dma.chans
  paceRefresh src { s with dma := { s.dma with chans := chans, made := mapSet 0 s.dma.made src (paceMade s src - n) } }

/-- A pacing source is empty: the fill of every channel paced on it is 0 (R436). -/
def State.drainSource (s : State) (src : Nat) : State :=
  let emptied (x : DmaChan) : DmaChan :=
    let base : Int := (paceMade s src : Int) - (if x.paceSrc = src then (x.cons : Int) else 0)
    if mapGet 0 x.paceBase src < base then { x with paceBase := mapSet 0 x.paceBase src base } else x
  paceRefresh src { s with dma := { s.dma with
    chans := s.dma.chans.foldl (fun l x => mapSet DmaChan.reset l x.1 (emptied x.2)) s.dma.chans } }

/-- Add to a count of the lifetime record, by its byte offset, saturating (R590, R591). -/
def State.lifeAdd (s : State) (off n : Nat) : State :=
  { s with mgmt := { s.mgmt with life := mapSet 0 s.mgmt.life off (min (2 ^ 32 - 1) (mapGet 0 s.mgmt.life off + n)) } }

end Sys2Proof.Machine
end

