-- ==== Sys2Proof/Machine/Counters.lean ====
section
/-! DEFINITION. Sys2Proof/Machine/Counters.lean: the performance counters and their snapshots (19_counters.md). -/
namespace Sys2Proof.Machine

/-- Counters of a bank; 0: no such bank (R652). -/
def bankSize (bank : Nat) : Nat := if bank = 0x10 then 16 else if bank < 100 then 4 else 0

/-- Whether the bank's block is power-gated (R654; the gates of the personality table of 00_scope.md and of R684). -/
def bankGated (s : State) (bank : Nat) : Bool :=
  if s.noPers then decide (0x0E ≤ bank) && decide (bank ≤ 0x13)
  else if s.isF then decide (0x10 ≤ bank) && decide (bank ≤ 0x12)
  else if s.isX then bank == 0x0E
  else false

/-- The events of R658: for a bank and a code, none if the table does not give the code to the bank, else whether the event
is an occupancy (kind O). -/
def perfEventKind (bank code : Nat) : Option Bool :=
  let e := some false
  let o := some true
  if bank ≥ 100 then none
  else if code ≤ 1 then e
  else if 0x24 ≤ bank then
    (if code = 0x13 ∨ code = 0x14 then o else if 0x10 ≤ code ∧ code ≤ 0x15 then e else none)
  else if 0x14 ≤ bank then
    (if code = 0x13 then o else if 0x10 ≤ code ∧ code ≤ 0x14 then e else none)
  else if bank = 0x10 then (if code = 0x13 ∨ code = 0x14 then o else if 0x10 ≤ code ∧ code ≤ 0x12 then e else none)
  else if bank = 0x11 then (if code = 0x13 then o else if 0x10 ≤ code ∧ code ≤ 0x14 then e else none)
  else if bank = 0x0F then (if code = 0x12 then o else if 0x10 ≤ code ∧ code ≤ 0x13 then e else none)
  else if bank = 0x12 then (if code = 0x13 then o else if 0x10 ≤ code ∧ code ≤ 0x12 then e else none)
  else if bank = 0x0E then (if code = 0x12 then o else if 0x10 ≤ code ∧ code ≤ 0x11 then e else none)
  else if bank = 0x13 then (if 0x10 ≤ code ∧ code ≤ 0x11 then e else none)
  else if bank = 0x0C then (if code = 0x13 then o else if 0x10 ≤ code ∧ code ≤ 0x14 then e else none)
  else if bank = 0x0D then (if code = 0x12 then o else if 0x10 ≤ code ∧ code ≤ 0x11 then e else none)
  else if bank = 0x0B then (if 0x10 ≤ code ∧ code ≤ 0x11 then e else none)
  else if bank = 0x07 then (if code = 0x11 then o else if code = 0x10 then e else none)
  else none

/-- The 48-bit value of counter k of a bank (R653). -/
def ctrValue (s : State) (bank k : Nat) : Nat := s.f (Reg.CTR_LO bank k) + 2 ^ 32 * s.f (Reg.CTR_HI bank k)

/-- Store a count that may pass 2^48 - 1: it wraps and sets OVF (R656). -/
def ctrStore (s : State) (bank k v : Nat) : State :=
  let s := (s.setF (Reg.CTR_LO bank k) (v % 2 ^ 32)).setF (Reg.CTR_HI bank k) (v / 2 ^ 32 % 2 ^ 16)
  if v ≥ 2 ^ 48 then s.setF (Reg.CTR_HI_OVF bank k) 1 else s

/-- Advance the counters k, k + 1, … of a bank: `inc` gives the increment of a counter that is not chained; a chained one
adds the wraps of the counter before it (R655). -/
def perfRun (inc : State → Nat → Nat) (bank : Nat) : Nat → Nat → Nat → State → State
  | 0, _, _, s => s
  | n + 1, k, wraps, s =>
    let i := if s.flag (Reg.CTR_CFG_CHAIN bank k) then wraps else inc s k
    let v := ctrValue s bank k + i
    perfRun inc bank n (k + 1) (v / 2 ^ 48) (if i = 0 then s else ctrStore s bank k v)

/-- Count `n` of a kind E event (R655, MODE 1) unless frozen (R659) or gated (R654). -/
def perfEvent (bank code n : Nat) (s : State) : State :=
  if s.flag Reg.PMR_STATUS_FROZEN || bankGated s bank || n == 0 then s
  else perfRun (fun s k => if s.f (Reg.CTR_CFG_MODE bank k) = 1 ∧ s.f (Reg.CTR_CFG_EVENT bank k) = code then n else 0)
    bank (bankSize bank) 0 0 s

/-- Bank numbers (R652). -/
def bankLnk (g : Nat) : Nat := 0x14 + g
def bankLmp (n : Nat) : Nat := 0x24 + n

/-- The snapshot entry of counter k of bank n (R666). -/
def snapEntry (s : State) (bank k : Nat) : Nat :=
  let v := if bankGated s bank then 0 else ctrValue s bank k
  v + s.f (Reg.CTR_HI_OVF bank k) * 2 ^ 48 + s.f (Reg.CTR_CFG_CHAIN bank k) * 2 ^ 49 +
    s.f (Reg.CTR_CFG_MODE bank k) * 2 ^ 50 + s.f (Reg.CTR_CFG_EVENT bank k) * 2 ^ 56

/-- Every counter's entry that is not zero, keyed bank × 16 + counter. -/
def snapEntries (s : State) : List (Nat × Nat) :=
  ((List.range 100).flatMap fun b => (List.range (bankSize b)).map fun k => (b * 16 + k, snapEntry s b k)).filter
    fun p => p.2 != 0

/-- The snapshot being collected takes in a trigger of the same instant (R664); the register trigger is one write, so a second one is a
later one. Of several scheduled triggers or faults the first is named in the header. (DESIGN CHOICE, log 137.) -/
def snapMerge (cause domain slot trigger kind : Nat) (s : State) : Option Snapshot :=
  match s.pmr.collecting with
  | none => none
  | some sn =>
    if sn.sec ≠ s.time.sec ∨ sn.ns ≠ s.time.ns ∨ (cause = 1 ∧ sn.cause.testBit 0) then none
    else
      let first (b : Nat) : Bool := cause == 2 ^ b && !sn.cause.testBit b
      let sn := if first 2 then { sn with domain := domain, slot := slot, trigger := trigger } else sn
      let sn := if first 1 then { sn with kind := kind } else sn
      some { sn with cause := sn.cause ||| cause ||| (if s.flag Reg.PMR_STATUS_FROZEN then 8 else 0) }

/-- A trigger is not taken while collecting or with two unread buffers (R663). -/
def snapBusy (s : State) : Bool :=
  s.pmr.collecting.isSome || (s.f Reg.PMR_SNAP_WR + 256 - s.f Reg.PMR_SNAP_RD) % 256 == 2

/-- Take a snapshot (R661, R662): copy every counter into the shadows and start the collection. Answers also whether
FK_PMR_SNAP_OVERRUN is to be raised (R663). `cause`: 1 register, 2 fault, 4 scheduled; `freeze`: the banks freeze at the
same instant, whether or not the trigger is taken. -/
def snapTrigger (cause domain slot trigger kind : Nat) (freeze : Bool) (s : State) : State × Bool :=
  let s := if freeze then s.setF Reg.PMR_STATUS_FROZEN 1 else s
  match snapMerge cause domain slot trigger kind s with
  | some sn => ({ s with pmr := { s.pmr with collecting := some sn } }, false)
  | none =>
  if snapBusy s then
    let raise := !s.once Reg.PMR_CNT_SNAP_LOST.key
    ((s.satF Reg.PMR_CNT_SNAP_LOST 1).setOnce Reg.PMR_CNT_SNAP_LOST.key true, raise)
  else
    let snap : Snapshot :=
      { cause := cause + (if s.flag Reg.PMR_STATUS_FROZEN then 8 else 0), domain := domain, slot := slot, trigger := trigger,
        sec := s.time.sec, ns := s.time.ns, kind := kind, lost := s.f Reg.PMR_CNT_SNAP_LOST, entries := snapEntries s }
    (({ s with pmr := { s.pmr with collecting := some snap } }).setF Reg.PMR_STATUS_COLLECTING 1, false)

/-- The 64-byte header of a snapshot buffer (R666). -/
def snapHeader (sn : Snapshot) (seq : Nat) : List Byte :=
  leBytes 4 0x50414E53 ++ leBytes 4 seq ++ leBytes 1 sn.cause ++ leBytes 1 sn.domain ++ leBytes 2 sn.slot ++ leBytes 4 0 ++
  leBytes 8 sn.trigger ++ leBytes 8 sn.sec ++ leBytes 4 sn.ns ++ leBytes 2 sn.kind ++ leBytes 2 0 ++ leBytes 8 sn.lost ++
  leBytes 16 0

/-- Write bytes as little-endian register words from address `key` on. -/
def putWords (s : State) (key : Nat) : Nat → List Byte → State
  | 0, _ => s
  | n + 1, l => putWords (s.setReg key (BitVec.ofNat 32 (leAt l 0 4))) (key + 4) n (l.drop 4)

/-- The bytes of `n` register words from address `key` on. -/
def regBytes (s : State) (key : Nat) : Nat → List Byte
  | 0 => []
  | n + 1 => leBytes 4 (s.reg key).toNat ++ regBytes s (key + 4) n

/-- The end of a collection: the buffer PMR_SNAP_WR mod 2 is filled, header last, and PMR_SNAP_WR increments (R662). -/
def snapComplete (s : State) : State :=
  match s.pmr.collecting with
  | none => s
  | some sn =>
    let base := if s.f Reg.PMR_SNAP_WR % 2 = 0 then 0x44000 else 0x48000
    let s := s.resetRange base (base + 12864)
    let s := sn.entries.foldl (fun s p => putWords s (base + 64 + 128 * (p.1 / 16) + 8 * (p.1 % 16)) 2 (leBytes 8 p.2)) s
    let s := putWords s base 16 (snapHeader sn s.pmr.seq)
    let s := (s.incF Reg.PMR_SNAP_WR 1).setF Reg.PMR_STATUS_COLLECTING 0
    { s with pmr := { seq := (s.pmr.seq + 1) % 2 ^ 32, collecting := none } }

/-- Zero every counter and OVF bit (R660). -/
def pmrClearAll (s : State) : State := s.resetRange 0x4C000 0x4F200

/-- The first failing configuration word of R657, with its code: bank, counter, code. -/
def pmrBadWord (s : State) : Option (Nat × Nat × Nat) :=
  let bad (b k : Nat) : Nat :=
    let w := s.stgd (Reg.CTR_CFG_EVENT b k).key
    if k ≥ bankSize b then (if w = 0 then 0 else 4)
    else
      let mode := s.sf (Reg.CTR_CFG_MODE b k)
      match perfEventKind b (s.sf (Reg.CTR_CFG_EVENT b k)) with
      | none => 1
      | some occ =>
        if mode = 3 ∨ (mode = 1 ∧ occ) ∨ (mode = 2 ∧ !occ) then 2
        else if s.sf (Reg.CTR_CFG_CHAIN b k) = 1 ∧ k = 0 then 3
        else 0
  ((List.range 100).flatMap fun b => (List.range 16).map fun k => (b, k, bad b k)).find? fun p => p.2.2 != 0

/-- PMR_COMMIT.COMMIT (R657). -/
def pmrCommit (s : State) : State :=
  match pmrBadWord s with
  | some (b, k, c) =>
    (((s.setF Reg.PMR_STATUS_COMMIT_ERR 1).setF Reg.PMR_STATUS_ERR_CODE c).setF Reg.PMR_STATUS_ERR_BANK b).setF
      Reg.PMR_STATUS_ERR_CTR k
  | none => s.commitRange 0x41000 0x42900

end Sys2Proof.Machine
end

