-- ==== Sys2Proof/Machine/Desc.lean ====
section
/-! DEFINITION. Sys2Proof/Machine/Desc.lean: packet descriptors and sample areas (R112 to R118, R726). -/
namespace Sys2Proof.Machine

/-- Bits [hi:lo] of a descriptor. -/
def dBits (d : Desc) (hi lo : Nat) : Nat := natBits d.toNat hi lo

def dDomain (d : Desc) : Nat := dBits d 1 0
def dFormat (d : Desc) : Nat := dBits d 5 2
def dFlags (d : Desc) : Nat := dBits d 15 8
def dSrcInvalid (d : Desc) : Bool := d.getLsbD 8
def dStale (d : Desc) : Bool := d.getLsbD 9
def dRfi (d : Desc) : Bool := d.getLsbD 10
def dSaturated (d : Desc) : Bool := d.getLsbD 11
def dDump (d : Desc) : Bool := d.getLsbD 12
def dChip (d : Desc) : Nat := dBits d 31 16
def dCount (d : Desc) : Nat := dBits d 95 32
def dInputFirst (d : Desc) : Nat := dBits d 109 96
def dInputs (d : Desc) : Nat := dBits d 125 112
def dChanFirst (d : Desc) : Nat := dBits d 144 128
def dChans (d : Desc) : Nat := dBits d 176 160
def dTimes (d : Desc) : Nat := dBits d 203 192
def dWicks (d : Desc) : Nat := dBits d 213 208

/-- A descriptor from its fields; reserved bits zero (R113). -/
def mkDesc (domain format flags chip count inputFirst inputs chanFirst chans times wicks : Nat) : Desc :=
  BitVec.ofNat 256 (domain % 4 + (format % 16) * 2 ^ 2 + (flags % 256) * 2 ^ 8 + (chip % 2 ^ 16) * 2 ^ 16 +
    (count % 2 ^ 64) * 2 ^ 32 + (inputFirst % 2 ^ 14) * 2 ^ 96 + (inputs % 2 ^ 14) * 2 ^ 112 +
    (chanFirst % 2 ^ 17) * 2 ^ 128 + (chans % 2 ^ 17) * 2 ^ 160 + (times % 2 ^ 12) * 2 ^ 192 + (wicks % 64) * 2 ^ 208)

/-- A descriptor with its reserved bits cleared (R113). -/
def dClean (d : Desc) : Desc :=
  mkDesc (dDomain d) (dFormat d) (dFlags d % 32) (dChip d) (dCount d) (dInputFirst d) (dInputs d) (dChanFirst d) (dChans d)
    (dTimes d) (dWicks d)

/-- The 32 bytes of a descriptor (R112). -/
def descBytes (d : Desc) : List Byte := leBytes 32 d.toNat

/-- The descriptor in payload bytes 0 to 31 (R112). -/
def descOf (p : List Byte) : Desc := BitVec.ofNat 256 (ofLe (p.take 32))

/-- Sample width of a format (R117); 0: reserved. -/
def fmtWidth (f : Nat) : Nat := ([8, 16, 8, 12, 16, 32, 32] : List Nat).getD f 0

/-- Samples of a packet as counters count them (R726). -/
def dSamples (d : Desc) : Nat := if dDump d then dChans d else dInputs d * dChans d * dTimes d

/-- Bits [b, b + w) of a sample area, w ≤ 32 (R115). -/
def areaBits (area : List Byte) (b w : Nat) : Nat := ((leAt area (b / 8) 5) >>> (b % 8)) % 2 ^ w

/-- Sample (i, c, t) of a packet as real and imaginary parts; a real format has no imaginary part, P32 is unsigned (R116,
R117). -/
def dSample (d : Desc) (area : List Byte) (i c t : Nat) : Int × Int :=
  let w := fmtWidth (dFormat d)
  let v := areaBits area (w * (i + dInputs d * (c + dChans d * t))) w
  match dFormat d with
  | 0x2 => (sext 8 v, 0)
  | 0x3 => (sext 12 v, 0)
  | 0x6 => (v, 0)
  | _ => (sext (w / 2) (v / 2 ^ (w / 2)), sext (w / 2) v)

/-- The body wicks a packet of n samples of width w needs (R118). -/
def wicksFor (n w : Nat) : Nat := ceilDiv (n * w) 960

/-- The descriptor rules of R118 for a HEAD with body wicks; reserved formats are not judged here. -/
def dShapeOk (d : Desc) : Bool :=
  let n := dInputs d * dChans d * dTimes d * fmtWidth (dFormat d)
  if dDump d then
    dFormat d == 6 && decide (1 ≤ dChans d) && decide (dChans d ≤ 7560) && dWicks d == ceilDiv (dChans d) 120 &&
      dInputs d == 0 && dChanFirst d == 0 && dTimes d == 0
  else decide ((dWicks d - 1) * 960 < n) && decide (n ≤ dWicks d * 960)

end Sys2Proof.Machine
end

