-- ==== Sys2Proof/Machine/Fft.lean ====
section
/-! DEFINITION. Sys2Proof/Machine/Fft.lean: the radix-2 stages of the transform X[k] = Σ u[j] × e^(−2πi jk / P) (R185). The spec gives the
transform, the number of stages and the 18-bit widths. Whether the stages decimate in time or in frequency, and which of the two nearest codes
a twiddle factor or a product takes, are free (DESIGN CHOICE, log 45). -/
namespace Sys2Proof.Machine

/-- e^(ix) for x in units of 2^-60, in the same units: forty terms of its series. -/
def expSeries (x : Int) : Int × Int :=
  ((List.range 40).foldl (fun (a : (Int × Int) × (Int × Int)) (n : Nat) =>
    let d : Int := 2 ^ 60 * ((n : Int) + 1)
    let t := (-(a.2.2 * x) / d, a.2.1 * x / d)
    ((a.1.1 + t.1, a.1.2 + t.2), t)) ((2 ^ 60, 0), (2 ^ 60, 0))).1

/-- π in units of 2^-60. -/
def pi60 : Nat := 3622009729038561421

/-- The twiddle factor e^(−2πi m / 2^log2), for m below half the size, with 17 fraction bits: 1 and −i exactly, every other component one
of the two codes nearest to it. -/
def twiddle (log2 m : Nat) : Int × Int :=
  if m = 0 then (2 ^ 17, 0)
  else if 4 * m = 2 ^ log2 then (0, -(2 ^ 17))
  else
    let e := expSeries ((2 * pi60 * m / 2 ^ log2 : Nat) : Int)
    (e.1 / 2 ^ 43 + (Config.twiddleUp log2 m 0 % 2 : Nat), -e.2 / 2 ^ 43 + (Config.twiddleUp log2 m 1 % 2 : Nat))

/-- A result with 17 fraction bits takes one of the two nearest whole values; a whole value stands. -/
def fftRound (stage point part : Nat) (v : Int) : Int :=
  if v % 2 ^ 17 = 0 then v / 2 ^ 17 else v / 2 ^ 17 + (Config.fftUp stage point part v % 2 : Nat)

def fftRound2 (stage point : Nat) (v : Int × Int) : Int × Int := (fftRound stage point 0 v.1, fftRound stage point 1 v.2)

def cmul (a w : Int × Int) : Int × Int := (a.1 * w.1 - a.2 * w.2, a.1 * w.2 + a.2 * w.1)

/-- Point j of a block with halves `a` and `c`, `o` being the block's first point, in a stage that decimates in frequency: sum, and
difference times the twiddle factor. -/
def bflyDif (log2 k o h j : Nat) (a c : Int × Int) : (Int × Int) × (Int × Int) :=
  ((a.1 + c.1, a.2 + c.2), fftRound2 k (o + h + j) (cmul (a.1 - c.1, a.2 - c.2) (twiddle log2 (j * 2 ^ k))))

/-- The same in a stage that decimates in time: the second half times the twiddle factor is added and subtracted. -/
def bflyDit (log2 k o h j : Nat) (a c : Int × Int) : (Int × Int) × (Int × Int) :=
  let p := cmul c (twiddle log2 (j * (2 ^ log2 / (2 * h))))
  (fftRound2 k (o + j) (a.1 * 2 ^ 17 + p.1, a.2 * 2 ^ 17 + p.2), fftRound2 k (o + h + j) (a.1 * 2 ^ 17 - p.1, a.2 * 2 ^ 17 - p.2))

/-- The blocks of a stage, each of 2h points. -/
def fftBlocks (dif : Bool) (log2 k h : Nat) : Nat → Nat → List (Int × Int) → List (Int × Int)
  | 0, _, x => x
  | n + 1, o, x =>
    let r := ((x.take h).zip ((x.drop h).take h)).zipIdx.map fun p =>
      if dif then bflyDif log2 k o h p.2 p.1.1 p.1.2 else bflyDit log2 k o h p.2 p.1.1 p.1.2
    r.map Prod.fst ++ r.map Prod.snd ++ fftBlocks dif log2 k h n (o + 2 * h) (x.drop (2 * h))

/-- Stage k of 2^log2 points, before halving and saturation (R185). (DESIGN CHOICE, log 45.) -/
def fftStage (log2 k : Nat) (x : List (Int × Int)) : List (Int × Int) :=
  if Config.fftDif then fftBlocks true log2 k (2 ^ (log2 - 1 - k)) (2 ^ k) 0 x
  else fftBlocks false log2 k (2 ^ k) (2 ^ (log2 - 1 - k)) 0 x

/-- The points of even and of odd number. -/
def unzip2 {α : Type} : List α → List α × List α
  | a :: b :: r => let u := unzip2 r; (a :: u.1, b :: u.2)
  | [a] => ([a], [])
  | [] => ([], [])

/-- Points in bit-reversed order. -/
def bitReversed {α : Type} : Nat → List α → List α
  | 0, x => x
  | n + 1, x => let u := unzip2 x; bitReversed n u.1 ++ bitReversed n u.2

/-- The order of the points before the first stage and after the last. -/
def fftOrder (first : Bool) (log2 : Nat) (x : List (Int × Int)) : List (Int × Int) :=
  if Config.fftDif == first then x else bitReversed log2 x

end Sys2Proof.Machine
end

