-- ==== Sys2Proof/Machine/Faults.lean ====
section
/-! DEFINITION. Sys2Proof/Machine/Faults.lean: the fault collector, its reaction classes, the snuffed state and fault
injection (17_faults.md). A fault is collected, and its reaction applied, inside the command that raises it; a C3 block
reset is queued in `FaultState.blockResets` and made before the command ends (Machine/Settle.lean). -/
namespace Sys2Proof.Machine

/-- An event at a checker (R598): the fields of its message that the checker fills. -/
structure FaultEv where
  kind : Nat
  src : Nat
  sub : Nat
  addr : Nat
  access : Nat
  master : Nat
  injected : Bool
deriving DecidableEq, Repr

/-- An event without a bus access: ACCESS 0, MASTER 0xFF. -/
def fev (kind src sub addr : Nat) : FaultEv :=
  { kind := kind, src := src, sub := sub, addr := addr % 2 ^ 48, access := 0, master := 0xFF, injected := false }

/-- An event with an ACCESS code (R599). -/
def fevA (kind src sub addr access : Nat) : FaultEv := { fev kind src sub addr with access := access }

/-- The class in force for a kind (R609); a reserved code reads class 0. -/
def classOf (s : State) (kind : Nat) : Nat :=
  getBits (s.reg (0x32000 + 4 * (kind / 8))) (4 * (kind % 8) + 3) (4 * (kind % 8))

/-- Whether C3 resets the raising block (R607). -/
def hasBlockReset (src : Nat) : Bool :=
  src == 0x00 || src == 0x02 || src == 0x0D || src == 0x0B || (decide (0x20 ≤ src) && decide (src ≤ 0x2F)) ||
    (decide (0x40 ≤ src) && decide (src ≤ 0x7F))

/-- The class an event acts as: C3 without a block reset acts as C2 (R606). -/
def actingClass (cls src : Nat) : Nat := if cls = 3 ∧ !hasBlockReset src then 2 else cls

/-- The 128-bit fault message (R598). -/
def faultMsg (s : State) (e : FaultEv) (sev : Nat) (lost : Bool) : Nat :=
  e.src % 256 + (e.sub % 256) * 2 ^ 8 + (e.kind % 4096) * 2 ^ 16 + (sev % 16) * 2 ^ 28 + (e.addr % 2 ^ 48) * 2 ^ 32 +
    (e.access % 16) * 2 ^ 80 + (e.master % 256) * 2 ^ 84 + b2n lost * 2 ^ 92 + b2n e.injected * 2 ^ 93 +
    (s.tb0 % 2 ^ 32) * 2 ^ 96

/-- Words 0 to 3 of a message into four registers 4 bytes apart. -/
def putMsg (s : State) (key msg : Nat) : State := putWords s key 4 (leBytes 16 msg)

/-- The ring holds 1,024 unread entries (R604). -/
def fltRingFull (s : State) : Bool :=
  (s.f Reg.FLT_RING_WR + 2048 - s.f Reg.FLT_RING_RD) % 2048 == 1024

/-- Keep a message in the ring, with first-error capture and the NOTIFY it calls for (R604, R605, R610). -/
def keepMsg (e : FaultEv) (sev : Nat) (s : State) : State :=
  let msg := faultMsg s e sev s.flt.lost
  let wr := s.f Reg.FLT_RING_WR
  let s := putMsg s (Reg.FLT_RING0 (wr % 1024)).key msg
  let s := s.incF Reg.FLT_RING_WR 1
  let s := { s with flt := { s.flt with lost := false, lastMsg := msg,
                                        notifyQueue := if sev ≥ 1 then s.flt.notifyQueue ++ [msg] else s.flt.notifyQueue } }
  if sev ≥ s.f Reg.FLT_CFG_FIRST_MIN ∧ !s.flag Reg.FLT_FIRST_VALID then
    let s := putMsg s (Reg.FLT_FIRST_MSG 0).key msg
    ((s.setF64 Reg.FLT_FIRST_SEC_LO Reg.FLT_FIRST_SEC_HI s.time.sec).setF Reg.FLT_FIRST_NS s.time.ns).setF
      Reg.FLT_FIRST_VALID 1
  else s

/-- The state of a unit that does not claim (R628). DEDUCED, log 99: the pilot is down once no good heartbeat has arrived for 50 µs, so a
unit that boots beside an active partner starts as STANDBY (R635, R637). -/
def pairIdle (s : State) : Nat :=
  if !s.flag Reg.PAIR_CFG_EN then 0
  else if s.pair.pilotLow && s.flag Reg.PAIR_STATUS_SENSE then 4 else 1

/-- Enter a pair state: every change sets vector 26, and entry into ISOLATED is an event (R628, R636). -/
def pairEnter (st : Nat) (s : State) : State × List FaultEv :=
  if s.f Reg.PAIR_STATUS_STATE = st then (s, [])
  else
    let s := (s.setF Reg.PAIR_STATUS_STATE st).intPend 26
    (s.setFlag Reg.PAIR_STATUS_CLAIM_OUT (st == 2 || st == 3), if st = 4 then [fev FK.PAIR_ISOLATED 0x05 0 0] else [])

/-- A snuff releases the claim, and ends a trim that it was to complete or carry out (R632, R647, R648). (DEDUCED, log 168.) -/
def pairSnuff (s : State) : State × List FaultEv :=
  let st := s.f Reg.PAIR_STATUS_STATE
  if st = 2 ∨ st = 3 then
    let s := { s with pair := { s.pair with trimAt := none, trimHold := false, releasing := false } }.setF Reg.PAIR_STATUS_TRIM_PENDING 0
    pairEnter (pairIdle s) s
  else (s, [])

/-- The drain of a job that is under way while the device is snuffed carries SNUFF: that of its oldest closed period, on which those of the
later ones wait (R370, R380). -/
def snuffDrains (s : State) : State :=
  let mark (ps : List Period) : List Period :=
    let first := (ps.find? Period.closed).map Period.serial
    ps.map fun p => if first = some p.serial && !p.slicesDone.isEmpty then { p with snuff := true } else p
  { s with mnt := { s.mnt with jobs := s.mnt.jobs.map fun x => (x.1, { x.2 with periods := mark x.2.periods }) } }

/-- Enter the snuffed state (R612, R613), if the device is not snuffed already. Answers also the events this raises
(R614: with AUTO at 0 every snuff latches at entry). -/
def snuffEnter (s : State) : State × List FaultEv :=
  if s.snuffed then (s, [])
  else
    let s := (s.setF Reg.FLT_STATUS_SNUFFED 1).incF Reg.FLT_CNT_SNUFF 1
    let s := snuffDrains { s with flt := { s.flt with snuffOut := true }, time := { s.time with beaconActive := 0 } }
    let s := (s.intPend 2).setF Reg.HIF_STATUS_SNUFFED 1
    let s := s.lifeAdd 12 1
    let (s, ev) := pairSnuff s
    if s.f Reg.FLT_CFG_AUTO = 0 then
      (s.setF Reg.FLT_STATUS_LATCHED 1, ev ++ [fev FK.FLT_SNUFF_LATCHED 0x03 0 0])
    else (s, ev)

/-- An event of class `sev` is counted, and its message kept or dropped (R602 to R604). -/
def collectKeep (e : FaultEv) (sev : Nat) (s : State) : State × List FaultEv :=
  let s := s.incF (Reg.FLT_KIND_CNT e.kind) 1
  if fltRingFull s then
    ({ (s.incF Reg.FLT_CNT_DROP 1).setOnce Reg.FLT_RING_WR.key true with flt := { s.flt with lost := true } },
      if s.once Reg.FLT_RING_WR.key then [] else [fev FK.FLT_RING_FULL 0x03 0 0])
  else (keepMsg e sev s, [])

/-- The performance-counter snapshot of an event (R661). -/
def collectSnap (e : FaultEv) (sev : Nat) (s : State) : State × List FaultEv :=
  if decide (sev ≥ s.f Reg.PMR_CFG_FAULT_MIN) && decide (s.f Reg.PMR_CFG_FAULT_MIN ≤ 4) && e.kind != FK.PMR_SNAP_OVERRUN then
    let r := snapTrigger 2 0 0 0 e.kind (s.flag Reg.PMR_CFG_FAULT_FREEZE) s
    (r.1, if r.2 then [fev FK.PMR_SNAP_OVERRUN 0x04 0 0] else [])
  else (s, [])

/-- What classes C3 and C4 do beside the snuff: a block reset is due (R607), or the message is kept for device reset (R608). `lost`
is the message's LOST bit. (DEDUCED, log 118.) -/
def collectReset (e : FaultEv) (sev : Nat) (lost : Bool) (s : State) : State :=
  let c := actingClass sev e.src
  if c = 3 then { s with flt := { s.flt with blockResets := s.flt.blockResets ++ [e.src] } }
  else if c = 4 then
    let s := putMsg s (Reg.FLT_LAST_C4_MSG 0).key (faultMsg s e sev lost)
    { s with flt := { s.flt with c4Pending := if e.kind = FK.SNS_TSHUT ∨ s.flt.c4Pending = 4 then 4 else 3 } }
  else s

/-- One event at the collector (R602 to R608): counted, kept or dropped, its class reaction applied. Answers the further
events it raises. -/
def collectOne (e : FaultEv) (s : State) : State × List FaultEv :=
  let sev := classOf s e.kind
  let c := actingClass sev e.src
  let a := collectKeep e sev s
  let b := collectSnap e sev (if c ≥ 1 then a.1.intPend 1 else a.1)
  let d := if c = 2 ∨ c = 4 then snuffEnter b.1 else (b.1, [])
  (collectReset e sev s.flt.lost d.1, a.2 ++ b.2 ++ d.2)

/-- Events in the order detected, each followed by those it raises. The fuel bounds the chain; every event of a chain is
of a kind raised at most once until re-armed, so the chain is short. -/
def collect : Nat → List FaultEv → State → State
  | 0, _, s => s
  | _, [], s => s
  | n + 1, e :: r, s =>
    let (s, more) := collectOne e s
    collect n (r ++ more) s

/-- Raise one fault. -/
def raise (e : FaultEv) (s : State) : State := collect 8 [e] s

/-- Raise a fault that is raised once until its counter at `key` is read. -/
def raiseOnce (key : Nat) (e : FaultEv) (s : State) : State :=
  if s.once key then s else raise e (s.setOnce key true)

/-- Count an access under R18 or R480 and raise its kind. (DEDUCED, log 21.) -/
def bmxFault (kind target addr access master : Nat) (s : State) : State :=
  let s := if kind = FK.BMX_DECODE ∨ kind = FK.BMX_ACCESS then s.incF Reg.BMX_CNT_DECODE 1 else s
  raise { kind := kind, src := 0x07, sub := target, addr := addr % 2 ^ 48, access := access, master := master,
          injected := false } s

/-! ## Snuff -/

/-- Leave the snuffed state (R617). -/
def snuffLeave (s : State) : State :=
  if s.snuffed then
    let s := ((s.setF Reg.FLT_STATUS_SNUFFED 0).setF Reg.HIF_STATUS_SNUFFED 0).intPend 2
    { s with flt := { s.flt with snuffOut := false } }
  else s

/-- Enter snuff and raise what that raises. -/
def snuffBy (s : State) : State :=
  let (s, ev) := snuffEnter s
  collect 8 ev s

/-- SNUFF_IN_N asserted (R612): FK_FLT_SNUFF_IN with SUB 0; its class C2 is fixed (R609), so the event snuffs. In device reset only
the level is seen, which acts at the release (R618). (DEDUCED, log 98.) -/
def snuffInAssert (s : State) : State :=
  let inReset := !s.bring.holding.isEmpty
  let s := s.setF Reg.FLT_STATUS_IN_PIN 1
  if inReset then s else raise (fev FK.FLT_SNUFF_IN 0x03 0 0) s

/-- FLT_CTRL.SNUFF_NOW (R612): FK_FLT_SNUFF_IN with SUB 1. -/
def snuffNow (s : State) : State := raise (fev FK.FLT_SNUFF_IN 0x03 1 0) s

/-- FLT_CTRL.SNUFF_CLEAR (R616). -/
def snuffClear (s : State) : State :=
  let s := (s.setF Reg.FLT_STATUS_RECOVERIES 0).setF Reg.FLT_STATUS_LATCHED 0
  if s.flag Reg.FLT_STATUS_IN_PIN then s else snuffLeave s

/-- The quiet period can end (R614): snuffed, AUTO 1, not latched, SNUFF_IN_N deasserted. -/
def quietRuns (s : State) : Bool :=
  s.snuffed && s.flag Reg.FLT_CFG_AUTO && !s.flag Reg.FLT_STATUS_LATCHED && !s.flag Reg.FLT_STATUS_IN_PIN

/-- The end of a quiet period (R615). -/
def quietEnd (s : State) : State :=
  if quietRuns s then
    if s.f Reg.FLT_STATUS_RECOVERIES < s.f Reg.FLT_CFG_RECOV_LIMIT then
      (snuffLeave s).incF Reg.FLT_STATUS_RECOVERIES 1
    else raise (fev FK.FLT_SNUFF_LATCHED 0x03 0 0) (s.setF Reg.FLT_STATUS_LATCHED 1)
  else s

/-- FLT_CTRL.FIRST_CLEAR (R605). -/
def firstClear (s : State) : State := s.resetRange 0x30040 0x30060

/-! ## The class table -/

/-- What is wrong with the staged class table (R609): 0 nothing, 1 a class above 4, 2 a fixed kind. -/
def fltErr (s : State) : Nat :=
  let cls (k : Nat) : Nat := getBits (s.stgd (0x32000 + 4 * (k / 8))) (4 * (k % 8) + 3) (4 * (k % 8))
  if faultKinds.any (fun p => decide (cls p.1 > 4)) then 1
  else if cls FK.SNS_TSHUT ≠ 4 ∨ cls FK.FLT_SNUFF_IN ≠ 2 then 2
  else 0

/-- A class-table word with the entries of reserved codes at zero (R609). -/
def maskClassWord (key : Nat) (w : Word) : Word :=
  (List.range 8).foldl (fun a n => if isFaultKind (8 * ((key - 0x32000) / 4) + n) then a else setBits a (4 * n + 3) (4 * n) 0) w

/-- FLT_COMMIT.COMMIT (R609). -/
def fltCommit (s : State) : State :=
  let c := fltErr s
  if c = 0 then s.commitRange 0x32000 0x32800
  else (s.setF Reg.FLT_STATUS_COMMIT_ERR 1).setF Reg.FLT_STATUS_ERR_CODE c

/-! ## Injection -/

/-- The checkers of R621. -/
def injectable (src sub chk : Nat) : Bool :=
  (decide (0x40 ≤ src) && decide (src ≤ 0x7F) && sub == 0 && decide (chk ≤ 1)) ||
  (src == 0x10 && decide (sub < 256) && chk == 0) ||
  (src == 0x11 && decide (sub < 256) && decide (chk ≤ 1)) ||
  (src == 0x0C && decide (sub < 16) && decide (chk ≤ 2)) ||
  (src == 0x08 && sub == 0 && chk == 0) ||
  (decide (0x20 ≤ src) && decide (src ≤ 0x2F) && decide (sub < 8) && chk == 0)

/-- Object 0x8000.10, test_enable. -/
def testEnable (s : State) : Bool := (mapGet ([] : List Byte) s.objs 0x800010).any (· != 0)

/-- FLT_INJ_CTRL.ARM (R619 to R622). -/
def injectArm (s : State) : State :=
  let src := s.f Reg.FLT_INJ_CFG_SRC
  let sub := s.f Reg.FLT_INJ_CFG_SUB
  let chk := s.f Reg.FLT_INJ_CFG_CHK
  if !testEnable s || !injectable src sub chk then s.setF Reg.FLT_STATUS_INJ_REFUSED 1
  else
    let s := { s with flt := { s.flt with inj := some { src := src, sub := sub, chk := chk, double := s.flag Reg.FLT_INJ_CFG_DOUBLE } } }
    (s.setF Reg.FLT_INJ_STATUS_ACTIVE 1).setF Reg.FLT_INJ_STATUS_REMAINING (max 1 (s.f Reg.FLT_INJ_CFG_COUNT))

/-- The end of an injection (R622). -/
def injectEnd (s : State) : State :=
  { (s.setF Reg.FLT_INJ_STATUS_ACTIVE 0).setF Reg.FLT_INJ_STATUS_REMAINING 0 with flt := { s.flt with inj := none } }

/-- The injection is armed for this checker (R620). -/
def Injection.names (i : Injection) (src sub chk : Nat) : Bool := i.src == src && i.sub == sub && i.chk == chk

/-- A check at a checker: whether the armed injection inverts it (some double), consuming one of its checks (R620,
R622). (DESIGN CHOICE, log 5.) -/
def injectCheck (src sub chk : Nat) (s : State) : Option Bool × State :=
  match s.flt.inj with
  | none => (none, s)
  | some i =>
    if i.names src sub chk then
      let s := s.incF Reg.FLT_CNT_INJ 1
      let left := s.f Reg.FLT_INJ_STATUS_REMAINING - 1
      (some i.double, if left = 0 then injectEnd s else s.setF Reg.FLT_INJ_STATUS_REMAINING left)
    else (none, s)

/-- What a SEC-DED check finds, 0 nothing, 1 a single bit, 2 more, when an injection inverts one or two of its check bits beside the
errors there are (R620). -/
def injected (inj : Option Bool) (err : Nat) : Nat :=
  match inj with
  | none => err
  | some dbl => min 2 (err + if dbl then 2 else 1)

end Sys2Proof.Machine
end

