-- ==== Sys2Proof/Machine/LampIsa.lean ====
section
/-! DEFINITION. Sys2Proof/Machine/LampIsa.lean: the lamp instructions, and the decoding and encoding of their 32-bit words (R249, R250,
R274 to R279). -/
namespace Sys2Proof.Machine

/-- The memory operand of format M: base register, modifier register, modify mode, offset field (R257, R258). -/
structure MemOp where
  aa : Nat
  mm : Nat
  pm : Nat
  off : Nat
deriving DecidableEq, Repr

/-- A lamp instruction with its fields. -/
inductive LampOp where
  | nop
  | halt
  | b (cnd tgt : Nat)
  | call (tgt : Nat)
  | jr (cnd a : Nat)
  | reti
  | loop (k e n : Nat)
  | loopReg (k e a : Nat)
  | add (d a b : Nat)
  | sub (d a b : Nat)
  | and (d a b : Nat)
  | or (d a b : Nat)
  | xor (d a b : Nat)
  | lsl (d a n : Nat)
  | asr (d a n : Nat)
  | lsr (d a n : Nat)
  | addImm (d a imm : Nat)
  | movImm (d imm : Nat)
  | movh (d imm : Nat)
  | cmp (a b : Nat)
  | cmpImm (a imm : Nat)
  | getl (d a k : Nat)
  | setl (d a k : Nat)
  | rsum (d ac sh x : Nat)
  | geta (d ac k x : Nat)
  | obx (a : Nat)
  | addAImm (p imm : Nat)
  | movAS (p q : Nat)
  | movSA (p q : Nat)
  | movMS (p q : Nat)
  | movAImm (p imm : Nat)
  | movlM (p imm : Nat)
  | movhM (p imm : Nat)
  | mts (d sp : Nat)
  | mfs (d sp : Nat)
  | ld (d : Nat) (m : MemOp)
  | st (d : Nat) (m : MemOp)
  | ldc (d : Nat) (m : MemOp)
  | ldcb (d : Nat) (m : MemOp)
  | ldS (d : Nat) (m : MemOp)
  | stS (d : Nat) (m : MemOp)
  | ldw (d : Nat) (m : MemOp)
  | stw (d : Nat) (m : MemOp)
  | sin (d : Nat)
  | sout (a : Nat)
  | pass
  | xmul (sh cj : Nat) (m : MemOp)
  | tap (ac d : Nat) (m : MemOp)
  | srch (d : Nat) (m : MemOp)
  | srchi
  | fetch (a b aa rows dir pk : Nat)
  | vadd (d a b : Nat)
  | vsub (d a b : Nat)
  | vmin (d a b : Nat)
  | vmax (d a b : Nat)
  | vand (d a b : Nat)
  | vor (d a b : Nat)
  | vxor (d a b : Nat)
  | vasr (d a sh r : Nat)
  | vlsl (d a sh : Nat)
  | bcast (d a : Nat)
  | mul (d a b sh cj : Nat)
  | mpy (ac a b cj : Nat)
  | mac (ac a b cj : Nat)
  | msu (ac a b cj : Nat)
  | pwr (ac a : Nat)
  | rnd (d ac sh : Nat)
deriving DecidableEq, Repr

/-- Special-register numbers of R207. -/
def isSpecial (n : Nat) : Bool :=
  (decide (0x40 ≤ n) && decide (n ≤ 0x45)) || (decide (0x48 ≤ n) && decide (n ≤ 0x4A)) ||
  (decide (0x4C ≤ n) && decide (n ≤ 0x4E)) || (decide (0x50 ≤ n) && decide (n ≤ 0x52)) ||
  (decide (0x54 ≤ n) && decide (n ≤ 0x5A))

/-- Width of a special register (R207). -/
def specWidth (n : Nat) : Nat :=
  if n = 0x40 ∨ n = 0x42 ∨ n = 0x56 ∨ n = 0x57 ∨ n = 0x58 then 36
  else if n = 0x41 ∨ n = 0x43 ∨ (0x48 ≤ n ∧ n ≤ 0x4E) then 13
  else if n = 0x44 ∨ n = 0x45 ∨ n = 0x59 then 6
  else if n = 0x54 then 17
  else if n = 0x5A then 2
  else 16

/-- Special registers marked RO (R207, R268). -/
def specReadOnly (n : Nat) : Bool := n == 0x45 || n == 0x54 || n == 0x55 || n == 0x57 || n == 0x58 || n == 0x59 || n == 0x5A

/-- Values a field may hold where the opcode tables limit them, for an instruction at address `pc` (R250, R266, R268 to
R270, R275). -/
def LampOp.valid (pc : Nat) : LampOp → Bool
  | .loop k e _ => decide (k ≤ 2) && decide (e ≥ pc + 3)
  | .loopReg k e _ => decide (k ≤ 2) && decide (e ≥ pc + 3)
  | .rsum _ _ _ x => decide (x ≤ 2)
  | .mts _ sp => isSpecial sp
  | .mfs _ sp => isSpecial sp
  | .tap _ _ m => decide (m.off % 4096 = 0)
  | .srch _ m => decide (m.pm ≤ 1) && decide (m.off = 0)
  | _ => true

/-- The instruction a word encodes; none where a field the instruction does not use is not zero, the opcode is reserved, or
a field is out of form. `u` below is the set of bits the instruction uses, beside the opcode. -/
def decodeLamp (w : Nat) : Option LampOp :=
  let opc := natBits w 31 26
  let d := natBits w 25 22
  let a := natBits w 21 18
  let b := natBits w 17 14
  let ac := natBits w 13 12
  let cj := natBits w 11 11
  let sh := natBits w 10 5
  let x := natBits w 4 3
  let imm := natBits w 17 0
  let p := natBits w 25 23
  let q := natBits w 22 19
  let h := natBits w 18 18
  let m : MemOp := { aa := natBits w 21 19, mm := natBits w 18 16, pm := natBits w 15 14, off := natBits w 13 0 }
  let used (u : Nat) (op : LampOp) : Option LampOp := if w % 2 ^ 26 &&& (u ^^^ (2 ^ 26 - 1)) = 0 then some op else none
  let D := 0x3C00000
  let A := 0x3C0000
  let B := 0x3C000
  let AC := 0x3000
  let CJ := 0x800
  let SH := 0x7E0
  let X := 0x18
  let P := 0x3800000
  let Q := 0x780000
  match opc with
  | 0x00 => used 0 .nop
  | 0x01 => used 0 .halt
  | 0x02 => used (D + 0x1FFF) (.b d (natBits w 12 0))
  | 0x03 => used 0x1FFF (.call (natBits w 12 0))
  | 0x04 => used (D + A) (.jr d a)
  | 0x05 => used 0 .reti
  | 0x06 => used 0x3FFFFFF (.loop (natBits w 25 24) (natBits w 23 11) (natBits w 10 0))
  | 0x07 => used 0x3FFFF80 (.loopReg (natBits w 25 24) (natBits w 23 11) (natBits w 10 7))
  | 0x08 => used (D + A + B) (.add d a b)
  | 0x09 => used (D + A + B) (.sub d a b)
  | 0x0A => used (D + A + B) (.and d a b)
  | 0x0B => used (D + A + B) (.or d a b)
  | 0x0C => used (D + A + B) (.xor d a b)
  | 0x0D =>
    if x = 0 then used (D + A + SH) (.lsl d a sh)
    else if x = 1 then used (D + A + SH + X) (.asr d a sh)
    else if x = 2 then used (D + A + SH + X) (.lsr d a sh)
    else none
  | 0x0E => used (D + A + 0x3FFFF) (.addImm d a imm)
  | 0x0F => used (D + 0x3FFFF) (.movImm d imm)
  | 0x10 => used (D + 0x3FFFF) (.movh d imm)
  | 0x11 => used (A + B) (.cmp a b)
  | 0x12 => used (A + 0x3FFFF) (.cmpImm a imm)
  | 0x13 => used (D + A + B) (.getl d a b)
  | 0x14 => used (D + A + B) (.setl d a b)
  | 0x15 => used (D + AC + SH + X) (.rsum d ac sh x)
  | 0x16 => used (D + AC + B + X) (.geta d ac b x)
  | 0x17 => used A (.obx a)
  | 0x18 => used (P + 0x3FFFF) (.addAImm p imm)
  | 0x19 => used (P + Q) (.movAS p q)
  | 0x1A => used (P + Q) (.movSA p q)
  | 0x1B => used (P + Q) (.movMS p q)
  | 0x1C => used (P + 0x3FFFF) (.movAImm p imm)
  | 0x1D => if h = 0 then used (P + 0xFFF) (.movlM p (natBits w 11 0)) else used (P + 0x40FFF) (.movhM p (natBits w 11 0))
  | 0x1E => used (D + 0x3F8000) (.mts d (natBits w 21 15))
  | 0x1F => used (D + 0x3F8000) (.mfs d (natBits w 21 15))
  | 0x20 => used 0x3FFFFFF (.ld d m)
  | 0x21 => used 0x3FFFFFF (.st d m)
  | 0x22 => used 0x3FFFFFF (.ldc d m)
  | 0x23 => used 0x3FFFFFF (.ldcb d m)
  | 0x24 => used 0x3FFFFFF (.ldS d m)
  | 0x25 => used 0x3FFFFFF (.stS d m)
  | 0x26 => used 0x3FFFFFF (.ldw d m)
  | 0x27 => used 0x3FFFFFF (.stw d m)
  | 0x28 => used D (.sin d)
  | 0x29 => used A (.sout a)
  | 0x2A => used 0 .pass
  | 0x2B => used 0x3FFF800 (.xmul (natBits w 25 20) (natBits w 19 19)
      { aa := natBits w 18 16, mm := natBits w 15 13, pm := natBits w 12 11, off := 0 })
  | 0x2C => used 0x3FFFFFF (.tap (natBits w 13 12) d { m with off := natBits w 11 0 })
  | 0x2D => used 0x3FFFFFF (.srch d m)
  | 0x2E => used 0 .srchi
  | 0x2F => used 0x3FFFF80 (.fetch d a (natBits w 17 15) (natBits w 14 9) (natBits w 8 8) (natBits w 7 7))
  | 0x30 => used (D + A + B) (.vadd d a b)
  | 0x31 => used (D + A + B) (.vsub d a b)
  | 0x32 => used (D + A + B) (.vmin d a b)
  | 0x33 => used (D + A + B) (.vmax d a b)
  | 0x34 => used (D + A + B) (.vand d a b)
  | 0x35 => used (D + A + B) (.vor d a b)
  | 0x36 => used (D + A + B) (.vxor d a b)
  | 0x37 => used (D + A + SH + 0x8) (.vasr d a sh (natBits w 3 3))
  | 0x38 => used (D + A + SH) (.vlsl d a sh)
  | 0x39 => used (D + A) (.bcast d a)
  | 0x3A => used (D + A + B + SH + CJ) (.mul d a b sh cj)
  | 0x3B => used (AC + A + B + CJ) (.mpy ac a b cj)
  | 0x3C => used (AC + A + B + CJ) (.mac ac a b cj)
  | 0x3D => used (AC + A + B + CJ) (.msu ac a b cj)
  | 0x3E => used (AC + A) (.pwr ac a)
  | 0x3F => used (D + AC + SH) (.rnd d ac sh)
  | _ => none

/-! ## Encoding -/

/-- A word of format R: opcode, D, A, B, AC, CJ, SH and X (R249). -/
def wordR (opc d a b ac cj sh x : Nat) : Nat :=
  opc * 2 ^ 26 + d * 2 ^ 22 + a * 2 ^ 18 + b * 2 ^ 14 + ac * 2 ^ 12 + cj * 2 ^ 11 + sh * 2 ^ 5 + x * 2 ^ 3

/-- A word of format M, its offset field given apart. -/
def wordM (opc d : Nat) (m : MemOp) (off : Nat) : Nat :=
  opc * 2 ^ 26 + d * 2 ^ 22 + m.aa * 2 ^ 19 + m.mm * 2 ^ 16 + m.pm * 2 ^ 14 + off

/-- The word of an instruction (R249, R274 to R279). -/
def encodeLamp : LampOp → Nat
  | .nop => 0
  | .halt => 0x01 * 2 ^ 26
  | .b cnd tgt => 0x02 * 2 ^ 26 + cnd * 2 ^ 22 + tgt
  | .call tgt => 0x03 * 2 ^ 26 + tgt
  | .jr cnd a => wordR 0x04 cnd a 0 0 0 0 0
  | .reti => 0x05 * 2 ^ 26
  | .loop k e n => 0x06 * 2 ^ 26 + k * 2 ^ 24 + e * 2 ^ 11 + n
  | .loopReg k e a => 0x07 * 2 ^ 26 + k * 2 ^ 24 + e * 2 ^ 11 + a * 2 ^ 7
  | .add d a b => wordR 0x08 d a b 0 0 0 0
  | .sub d a b => wordR 0x09 d a b 0 0 0 0
  | .and d a b => wordR 0x0A d a b 0 0 0 0
  | .or d a b => wordR 0x0B d a b 0 0 0 0
  | .xor d a b => wordR 0x0C d a b 0 0 0 0
  | .lsl d a n => wordR 0x0D d a 0 0 0 n 0
  | .asr d a n => wordR 0x0D d a 0 0 0 n 1
  | .lsr d a n => wordR 0x0D d a 0 0 0 n 2
  | .addImm d a imm => wordR 0x0E d a 0 0 0 0 0 + imm
  | .movImm d imm => wordR 0x0F d 0 0 0 0 0 0 + imm
  | .movh d imm => wordR 0x10 d 0 0 0 0 0 0 + imm
  | .cmp a b => wordR 0x11 0 a b 0 0 0 0
  | .cmpImm a imm => wordR 0x12 0 a 0 0 0 0 0 + imm
  | .getl d a k => wordR 0x13 d a k 0 0 0 0
  | .setl d a k => wordR 0x14 d a k 0 0 0 0
  | .rsum d ac sh x => wordR 0x15 d 0 0 ac 0 sh x
  | .geta d ac k x => wordR 0x16 d 0 k ac 0 0 x
  | .obx a => wordR 0x17 0 a 0 0 0 0 0
  | .addAImm p imm => 0x18 * 2 ^ 26 + p * 2 ^ 23 + imm
  | .movAS p q => 0x19 * 2 ^ 26 + p * 2 ^ 23 + q * 2 ^ 19
  | .movSA p q => 0x1A * 2 ^ 26 + p * 2 ^ 23 + q * 2 ^ 19
  | .movMS p q => 0x1B * 2 ^ 26 + p * 2 ^ 23 + q * 2 ^ 19
  | .movAImm p imm => 0x1C * 2 ^ 26 + p * 2 ^ 23 + imm
  | .movlM p imm => 0x1D * 2 ^ 26 + p * 2 ^ 23 + imm
  | .movhM p imm => 0x1D * 2 ^ 26 + p * 2 ^ 23 + 2 ^ 18 + imm
  | .mts d sp => 0x1E * 2 ^ 26 + d * 2 ^ 22 + sp * 2 ^ 15
  | .mfs d sp => 0x1F * 2 ^ 26 + d * 2 ^ 22 + sp * 2 ^ 15
  | .ld d m => wordM 0x20 d m m.off
  | .st d m => wordM 0x21 d m m.off
  | .ldc d m => wordM 0x22 d m m.off
  | .ldcb d m => wordM 0x23 d m m.off
  | .ldS d m => wordM 0x24 d m m.off
  | .stS d m => wordM 0x25 d m m.off
  | .ldw d m => wordM 0x26 d m m.off
  | .stw d m => wordM 0x27 d m m.off
  | .sin d => wordR 0x28 d 0 0 0 0 0 0
  | .sout a => wordR 0x29 0 a 0 0 0 0 0
  | .pass => 0x2A * 2 ^ 26
  | .xmul sh cj m => 0x2B * 2 ^ 26 + sh * 2 ^ 20 + cj * 2 ^ 19 + m.aa * 2 ^ 16 + m.mm * 2 ^ 13 + m.pm * 2 ^ 11
  | .tap ac d m => wordM 0x2C d m (ac * 2 ^ 12 + m.off)
  | .srch d m => wordM 0x2D d m m.off
  | .srchi => 0x2E * 2 ^ 26
  | .fetch a b aa rows dir pk => wordR 0x2F a b 0 0 0 0 0 + aa * 2 ^ 15 + rows * 2 ^ 9 + dir * 2 ^ 8 + pk * 2 ^ 7
  | .vadd d a b => wordR 0x30 d a b 0 0 0 0
  | .vsub d a b => wordR 0x31 d a b 0 0 0 0
  | .vmin d a b => wordR 0x32 d a b 0 0 0 0
  | .vmax d a b => wordR 0x33 d a b 0 0 0 0
  | .vand d a b => wordR 0x34 d a b 0 0 0 0
  | .vor d a b => wordR 0x35 d a b 0 0 0 0
  | .vxor d a b => wordR 0x36 d a b 0 0 0 0
  | .vasr d a sh r => wordR 0x37 d a 0 0 0 sh r
  | .vlsl d a sh => wordR 0x38 d a 0 0 0 sh 0
  | .bcast d a => wordR 0x39 d a 0 0 0 0 0
  | .mul d a b sh cj => wordR 0x3A d a b 0 cj sh 0
  | .mpy ac a b cj => wordR 0x3B 0 a b ac cj 0 0
  | .mac ac a b cj => wordR 0x3C 0 a b ac cj 0 0
  | .msu ac a b cj => wordR 0x3D 0 a b ac cj 0 0
  | .pwr ac a => wordR 0x3E 0 a 0 ac 0 0 0
  | .rnd d ac sh => wordR 0x3F d 0 0 ac 0 sh 0

/-- The fields of a memory operand lie in their bits. -/
def MemOp.fits (m : MemOp) : Bool := decide (m.aa < 8) && decide (m.mm < 8) && decide (m.pm < 4) && decide (m.off < 2 ^ 14)

/-- Every field lies in the bits the encoding gives it. -/
def LampOp.fits : LampOp → Bool
  | .nop | .halt | .reti | .pass | .srchi => true
  | .b cnd tgt => decide (cnd < 16) && decide (tgt < 2 ^ 13)
  | .call tgt => decide (tgt < 2 ^ 13)
  | .jr x a | .cmp x a | .bcast x a => decide (x < 16) && decide (a < 16)
  | .loop k e n => decide (k < 4) && decide (e < 2 ^ 13) && decide (n < 2 ^ 11)
  | .loopReg k e a => decide (k < 4) && decide (e < 2 ^ 13) && decide (a < 16)
  | .add d a c | .sub d a c | .and d a c | .or d a c | .xor d a c | .getl d a c | .setl d a c | .vadd d a c | .vsub d a c | .vmin d a c
  | .vmax d a c | .vand d a c | .vor d a c | .vxor d a c => decide (d < 16) && decide (a < 16) && decide (c < 16)
  | .lsl d a n | .asr d a n | .lsr d a n | .vlsl d a n => decide (d < 16) && decide (a < 16) && decide (n < 64)
  | .addImm d a imm => decide (d < 16) && decide (a < 16) && decide (imm < 2 ^ 18)
  | .movImm d imm | .movh d imm | .cmpImm d imm => decide (d < 16) && decide (imm < 2 ^ 18)
  | .rsum d ac sh x => decide (d < 16) && decide (ac < 4) && decide (sh < 64) && decide (x < 4)
  | .geta d ac k x => decide (d < 16) && decide (ac < 4) && decide (k < 16) && decide (x < 4)
  | .obx a | .sin a | .sout a => decide (a < 16)
  | .addAImm p imm | .movAImm p imm => decide (p < 8) && decide (imm < 2 ^ 18)
  | .movAS p q | .movSA p q | .movMS p q => decide (p < 8) && decide (q < 16)
  | .movlM p imm | .movhM p imm => decide (p < 8) && decide (imm < 2 ^ 12)
  | .mts d sp | .mfs d sp => decide (d < 16) && decide (sp < 128)
  | .ld d m | .st d m | .ldc d m | .ldcb d m | .ldS d m | .stS d m | .ldw d m | .stw d m | .srch d m => decide (d < 16) && m.fits
  | .xmul sh cj m => decide (sh < 64) && decide (cj < 2) && m.fits && decide (m.off = 0)
  | .tap ac d m => decide (ac < 4) && decide (d < 16) && m.fits && decide (m.off < 2 ^ 12)
  | .fetch a c aa rows dir pk => decide (a < 16) && decide (c < 16) && decide (aa < 8) && decide (rows < 64) && decide (dir < 2) && decide (pk < 2)
  | .vasr d a sh r => decide (d < 16) && decide (a < 16) && decide (sh < 64) && decide (r < 2)
  | .mul d a c sh cj => decide (d < 16) && decide (a < 16) && decide (c < 16) && decide (sh < 64) && decide (cj < 2)
  | .mpy ac a c cj | .mac ac a c cj | .msu ac a c cj => decide (ac < 4) && decide (a < 16) && decide (c < 16) && decide (cj < 2)
  | .pwr ac a => decide (ac < 4) && decide (a < 16)
  | .rnd d ac sh => decide (d < 16) && decide (ac < 4) && decide (sh < 64)

end Sys2Proof.Machine
end

