-- ==== Sys2Proof/Machine/Lamp.lean ====
section
/-! DEFINITION. Sys2Proof/Machine/Lamp.lean: the registers, memories, result timing and loops of a lamp (05_lamps.md), and
the issue of one instruction. -/
namespace Sys2Proof.Machine

/-! ## Registers -/

def State.lamp (s : State) (n : Nat) : Lamp := mapGet Lamp.reset s.lmp.lamps n

def State.setLamp (s : State) (n : Nat) (l : Lamp) : State :=
  { s with lmp := { s.lmp with lamps := mapSet Lamp.reset s.lmp.lamps n l } }

/-- Lane j of V register r, unsigned 18 bits. -/
def Lamp.vLane (l : Lamp) (r j : Nat) : Nat := mapGet 0 l.v (r * 16 + j)

/-- The 16 lanes of a V register as signed values (R252). -/
def Lamp.vInts (l : Lamp) (r : Nat) : List Int := (List.range 16).map fun j => sext 18 (l.vLane r j)

def Lamp.vNats (l : Lamp) (r : Nat) : List Nat := (List.range 16).map fun j => l.vLane r j

def Lamp.setV (l : Lamp) (r : Nat) (lanes : List Nat) : Lamp := { l with v := mapSetList 0 l.v (r * 16) (lanes.take 16) }

/-- Lane j of accumulator r, 48 bits. -/
def Lamp.accLanes (l : Lamp) (r : Nat) : List Nat := (List.range 16).map fun j => mapGet 0 l.acc (r * 16 + j)

def Lamp.setAcc (l : Lamp) (r : Nat) (lanes : List Nat) : Lamp :=
  { l with acc := mapSetList 0 l.acc (r * 16) (lanes.take 16) }

def Lamp.s (l : Lamp) (r : Nat) : Nat := mapGet 0 l.sr r
def Lamp.setS (l : Lamp) (r v : Nat) : Lamp := { l with sr := mapSet 0 l.sr r (v % 2 ^ 36) }
def Lamp.a (l : Lamp) (r : Nat) : Nat := mapGet 0 l.ar r
def Lamp.setA (l : Lamp) (r v : Nat) : Lamp := { l with ar := mapSet 0 l.ar r (v % 2 ^ 24) }
def Lamp.m (l : Lamp) (r : Nat) : Nat := mapGet 0 l.mr r
def Lamp.setM (l : Lamp) (r v : Nat) : Lamp := { l with mr := mapSet 0 l.mr r (v % 2 ^ 24) }

/-- A stored special register by its number (R207). -/
def Lamp.sp (l : Lamp) (n : Nat) : Nat := mapGet 0 l.spec n

/-- Store a special register, truncated to its width; the reserved bits of STATUS stay zero (R207, R268). -/
def Lamp.setSp (l : Lamp) (n v : Nat) : Lamp :=
  { l with spec := mapSet 0 l.spec n (v % 2 ^ (if n = 0x40 then 16 else specWidth n)) }

def Lamp.status (l : Lamp) : Nat := l.sp 0x40
def Lamp.statusBit (l : Lamp) (i : Nat) : Bool := l.status.testBit i

/-- STATUS with bits [hi:lo] replaced. -/
def Lamp.setStatus (l : Lamp) (hi lo v : Nat) : Lamp :=
  l.setSp 0x40 (setBits (BitVec.ofNat 32 l.status) hi lo v).toNat

def Lamp.cmplx (l : Lamp) : Bool := l.statusBit 1

/-- Set the sticky saturation flag (R252). -/
def Lamp.sat (l : Lamp) (b : Bool) : Lamp := if b then l.setStatus 12 12 1 else l

/-- Z, N, C, V from a 36-bit result and the carry and overflow given (R255). -/
def Lamp.setFlags (l : Lamp) (r : Nat) (c v : Bool) : Lamp :=
  l.setStatus 11 8 (b2n (r % 2 ^ 36 == 0) + 2 * b2n (r.testBit 35) + 4 * b2n c + 8 * b2n v)

/-! ## The lamp's clock (R207, R223) -/

/-- TIMER counts down `k` cycles and stops at zero, where its source becomes pending. -/
def Lamp.timer (k : Nat) (l : Lamp) : Lamp :=
  let t := l.sp 0x56
  if t = 0 then l else { l.setSp 0x56 (t - k) with timerPend := l.timerPend || decide (t ≤ k) }

/-- `k` cycles at one lamp. -/
def Lamp.clock (k : Nat) (l : Lamp) : Lamp := { l.timer k with cycleOff := (l.cycleOff + k) % 2 ^ 36 }

/-- What CYCLE of lamp n reads. (DESIGN CHOICE, log 134.) -/
def cycleOf (n : Nat) (s : State) : Nat := (s.lmp.coreCycles + (s.lamp n).cycleOff) % 2 ^ 36

/-! ## Landing -/

/-- A result reaches its destination (R215), in lamp `n`. Data-memory words are landed by `landMem`. -/
def Lamp.landReg (l : Lamp) (f : Flight) : Lamp :=
  (match f.dest with
   | .vreg r x => l.setV r x
   | .acc r x => l.setAcc r x
   | .sreg r v => l.setS r v
   | .spec k v =>
     let l := l.setSp k v
     if k = 0x56 then { l with timerPend := false } else l
   | .portFlags v => l.setStatus 15 13 v
   | .flags v => l.setStatus 11 8 v
   | .words _ => l
   | .loop k ls le lc =>
     (((l.setSp (0x48 + k) ls).setSp (0x4C + k) le).setSp (0x50 + k) lc).setStatus (5 + k) (5 + k) 0
   | .none => l).sat f.sat

/-- The data-memory words a result stores. -/
def Flight.memWords (f : Flight) : List (Nat × Nat) := match f.dest with | .words w => w | _ => []

/-- Store words in the data memory of lamp n. -/
def storeWords (n : Nat) (ws : List (Nat × Nat)) (s : State) : State :=
  { s with lmp := { s.lmp with dmem := ws.foldl (fun m p => mapSet 0 m (n * 2 ^ 17 + p.1 % 2 ^ 17) (p.2 % 2 ^ 18)) s.lmp.dmem } }

/-- Land a list of results in order. -/
def landAllOf (n : Nat) (fs : List Flight) (s : State) : State :=
  let s := s.setLamp n (fs.foldl Lamp.landReg (s.lamp n))
  fs.foldl (fun s f => storeWords n f.memWords s) s

/-- The results that land before the next issue, and the rest one issue nearer (R215, R216: in the order issued, so that a
later-issued result is kept). -/
def landTick (n : Nat) (s : State) : State :=
  let l := s.lamp n
  let now := l.flight.filter fun f => decide (f.delay ≤ 1)
  let later := (l.flight.filter fun f => decide (f.delay > 1)).map fun f => { f with delay := f.delay - 1 }
  landAllOf n now (s.setLamp n { l with flight := later, soutPend := l.soutPend.map fun p => (p.1, p.2 - 1) })

/-- Write every result in flight to its destination (R225, R245, R267), those that would land first, first. -/
def landAll (n : Nat) (s : State) : State :=
  let l := s.lamp n
  let due (d : Nat) := l.flight.filter fun f => decide (f.delay = d)
  landAllOf n (due 0 ++ due 1 ++ due 2 ++ due 3 ++ due 4 ++ due 5)
    (s.setLamp n { l with flight := [], soutPend := l.soutPend.map fun p => (p.1, 0) })

/-- Put a result in flight. (DEDUCED, log 51.) -/
def Lamp.fly (l : Lamp) (delay : Nat) (d : LandDest) (sat : Bool) : Lamp :=
  { l with flight := l.flight ++ [{ delay := delay, dest := d, sat := sat }] }

/-! ## Program counter, loops and boundaries -/

def lampPc (s : State) (n : Nat) : Nat := s.f (Reg.LMP_PC n)
def lampState (s : State) (n : Nat) : Nat := s.f (Reg.LMP_STATE_STATE n)
def lampRunning (s : State) (n : Nat) : Bool := lampState s n == 1

/-- Level k is active and not frozen (R219, R220). -/
def Lamp.loopLive (l : Lamp) (k : Nat) : Bool := l.sp (0x50 + k) != 0 && !l.statusBit (5 + k)

/-- p is the end address of an active, unfrozen level (R222). -/
def Lamp.atLoopEnd (l : Lamp) (p : Nat) : Bool :=
  [0, 1, 2].any fun k => l.loopLive k && l.sp (0x4C + k) == p

/-- The loop decision when an instruction at p issues (R220): the lamp and the next address. -/
def Lamp.loopNext (l : Lamp) (p : Nat) : Lamp × Nat :=
  let step (acc : Lamp × Option Nat) (k : Nat) : Lamp × Option Nat :=
    let l := acc.1
    if acc.2.isSome || !(l.loopLive k && l.sp (0x4C + k) == p) then acc
    else
      let lc := l.sp (0x50 + k)
      if lc > 1 then (l.setSp (0x50 + k) (lc - 1), some (l.sp (0x48 + k)))
      else (l.setSp (0x50 + k) 0, none)
  let r := [0, 1, 2].foldl step (l, none)
  (r.1, r.2.getD ((p + 1) % 2 ^ 13))

/-- The boundary before the next instruction is interruptible (R224). -/
def Lamp.interruptible (l : Lamp) : Bool :=
  l.slots == 0 && !([0, 1, 2].any fun k => l.loopLive k && decide (l.sp (0x4C + k) < l.sp (0x48 + k) + 2))

/-- INT_PEND (R223). -/
def Lamp.intPend (l : Lamp) : Nat :=
  b2n (!l.events.isEmpty) + 2 * b2n l.doorbell + 4 * b2n (match l.sin with | r :: _ => r.kind == 0 | [] => false) +
    8 * b2n (decide (l.outbox.length ≤ 128)) + 16 * b2n l.timerPend + 32 * b2n l.fetchDone

/-- PORTST (R207). -/
def Lamp.portst (l : Lamp) : Nat :=
  l.sin.length + l.sout.length * 2 ^ 10 + l.outbox.length * 2 ^ 20 + l.events.length * 2 ^ 29

def setLampState (n st cause : Nat) (s : State) : State :=
  (s.setF (Reg.LMP_STATE_STATE n) st).setF (Reg.LMP_STATE_CAUSE n) cause

def lampSrc (n : Nat) : Nat := 0x40 + n

/-- Halt a lamp in FAULT (R214, R217, R250). (DEDUCED, log 54.) -/
def lampFault (n cause : Nat) (s : State) : State := setLampState n 2 cause (landAll n s)

/-- An illegal instruction (R217, R222, R250, R251, R267). -/
def lampIllegal (n : Nat) (s : State) : State :=
  raise (fev FK.LMP_ILLEGAL (lampSrc n) 2 (lampPc s n)) (lampFault n 4 s)

/-- A halt that HALT, STEP or a halt instruction makes (R245, R267). -/
def lampHaltNow (n cause : Nat) (s : State) : State :=
  let s := setLampState n 0 cause (landAll n s)
  s.setLamp n { s.lamp n with haltReq := false }

/-! ## Condition, addressing and arithmetic -/

/-- The conditions of R256, on STATUS. -/
def Lamp.cond (l : Lamp) (c : Nat) : Bool :=
  let z := l.statusBit 8
  let ng := l.statusBit 9
  let cy := l.statusBit 10
  let v := l.statusBit 11
  match c with
  | 0x1 => z
  | 0x2 => !z
  | 0x3 => ng != v
  | 0x4 => ng == v
  | 0x5 => !z && ng == v
  | 0x6 => z || ng != v
  | 0x7 => cy
  | 0x8 => !cy
  | 0x9 => v
  | 0xA => !v
  | 0xB => l.statusBit 13
  | 0xC => !l.statusBit 13
  | 0xD => l.statusBit 14
  | 0xE => !l.statusBit 14
  | 0xF => l.statusBit 15
  | _ => true

/-- The effective address of a memory operand, before the memory's size is applied (R257). -/
def Lamp.ea (l : Lamp) (m : MemOp) : Nat := wrap 24 ((l.a m.aa : Int) + sext 14 m.off)

/-- The bits of a 24-bit value in reverse order (R258). -/
def brev24 (v : Nat) : Nat := (List.range 24).foldl (fun r i => r + b2n (v.testBit i) * 2 ^ (23 - i)) 0

/-- The least b with 2^b ≥ L (R258), L below 4,096. -/
def leastPow (L : Nat) : Nat := ((List.range 13).find? fun b => decide (2 ^ b ≥ L)).getD 12

/-- The base register after the access (R258). -/
def Lamp.modify (l : Lamp) (m : MemOp) : Lamp :=
  let a := l.a m.aa
  let k := l.m m.mm
  match m.pm with
  | 0 => l
  | 1 => l.setA m.aa (wrap 24 ((a : Int) + sext 24 k))
  | 2 =>
    let L := k / 4096
    let inc := sext 12 (k % 4096)
    if L = 0 then l.setA m.aa (wrap 24 ((a : Int) + inc))
    else
      let p := 2 ^ leastPow L
      let base := a / p * p
      l.setA m.aa (base + (((a - base : Nat) : Int) + inc).emod L |>.toNat)
  | _ => l.setA m.aa (brev24 ((brev24 a + brev24 k) % 2 ^ 24))

/-- The conjugate of a vector of complex lanes, when asked for (R253). -/
def conjLanes (cj : Nat) (x : List Int) : List Int :=
  if cj = 0 then x else x.mapIdx fun j v => if j % 2 = 1 then -v else v

/-- The exact products of two vectors: lane by lane, or complex (R253). -/
def productLanes (cx : Bool) (cj : Nat) (a b : List Int) : List Int :=
  if cx then
    let b := conjLanes cj b
    (List.range 16).map fun j =>
      let e := j / 2 * 2
      let ar := a.getD e 0
      let ai := a.getD (e + 1) 0
      let br := b.getD e 0
      let bi := b.getD (e + 1) 0
      if j % 2 = 0 then ar * br - ai * bi else ar * bi + ai * br
  else (List.range 16).map fun j => a.getD j 0 * b.getD j 0

/-- Saturate every lane to w bits: the lanes, and whether one saturated (R252, R254). -/
def satLanes (w : Nat) (x : List Int) : List Nat × Bool :=
  (x.map fun v => wrap w (satS w v), x.any (outS w))

/-- The accumulator input of an accumulating instruction (R261): the result in flight of the most recently issued
instruction that writes it, else the register. -/
def Lamp.accIn (l : Lamp) (r : Nat) : List Int :=
  let pending := l.flight.reverse.findSome? fun f => match f.dest with
    | .acc r' x => if r' = r then some x else none
    | _ => none
  ((pending.getD (l.accLanes r)).map fun v => sext 48 v)

/-- Add terms into an accumulator (R254). -/
def Lamp.accumulate (l : Lamp) (r : Nat) (terms : List Int) : Lamp :=
  let sum := (List.range 16).map fun j => (l.accIn r).getD j 0 + terms.getD j 0
  let (x, st) := satLanes 48 sum
  l.fly 2 (.acc r x) st

/-! ## Memories -/

def dmemWord (s : State) (n w : Nat) : Nat := mapGet 0 s.lmp.dmem (n * 2 ^ 17 + w % 2 ^ 17)

/-- The coefficient word a program address reads (R240). -/
def cmemIndex (s : State) (n a : Nat) : Nat :=
  if s.flag (Reg.LMP_PORT_CFG_COEF_BANKED n) then s.f (Reg.LMP_COEF_STATUS_LIVE_BANK n) * 16384 + a % 16384 else a % 32768

def cmemWord (s : State) (n w : Nat) : Nat := mapGet 0 s.lmp.cmem (n * 2 ^ 15 + w % 2 ^ 15)

/-- What the memory check of an access finds (R214): the error given, and what an armed injection makes of it (R620). `chk`: 0 data
memory, 1 coefficient memory. Answers 0 none, 1 single, 2 double, and whether it was injected. -/
def lampCheck (n chk : Nat) (err : Nat) (s : State) : (Nat × Bool) × State :=
  let (i, s) := injectCheck (lampSrc n) 0 chk s
  ((injected i err, i.isSome), s)

/-- The physical address of a data or coefficient word in its W32 view (R208, R600). -/
def lampWordAddr (n chk w : Nat) : Nat := 0x100000000 + n * 0x100000 + (if chk = 0 then 0 else 0x80000) + 4 * w

/-- The consequences of the check of one group of a lamp access: a single error is corrected and counted, a double error halts the lamp
(R214). Answers whether the lamp halted. -/
def lampGroupEcc (n chk w err : Nat) (s : State) : Bool × State :=
  let ((e, inj), s) := lampCheck n chk err s
  let ev (k : Nat) : FaultEv := { kind := k, src := lampSrc n, sub := chk, addr := lampWordAddr n chk w, access := 5,
                                  master := 0x08 + n / 8, injected := inj }
  if e = 1 then (false, raise (ev FK.LMP_MEM_CE) (s.incF (Reg.LMP_CNT_ECC_CORR n) 1))
  else if e ≥ 2 then (true, raise (ev FK.LMP_MEM_UE) (lampFault n 5 s))
  else (false, s)

/-- The groups of four words that a lamp access reads (R214): the four of a row, or the one that holds word w. -/
def lampGroups (row : Bool) (w : Nat) : List Nat := if row then (List.range 4).map fun i => w / 16 * 16 + 4 * i else [w]

/-- The checks of a lamp access, group by group. Answers whether the lamp halted. -/
def lampEcc (n chk : Nat) (row : Bool) (w err : Nat) (s : State) : Bool × State :=
  (lampGroups row w).zipIdx.foldl (fun (a : Bool × State) g =>
    let r := lampGroupEcc n chk g.1 (errDigit err g.2) a.2
    (a.1 || r.1, r.2)) (false, s)

end Sys2Proof.Machine
end

