-- ==== Sys2Proof/Machine/Time.lean ====
section
/-! DEFINITION. Sys2Proof/Machine/Time.lean: TB0, its sources, the sample-domain estimates and the time outputs
(02_time.md). -/
namespace Sys2Proof.Machine

/-! ## Sample domains -/

/-- SDn has an estimate (R57). -/
def hasEst (s : State) (n : Nat) : Bool := s.flag (Reg.SD_CTRL_EN n) && s.f (Reg.SD_NUM n) != 0

/-- SD_DEN, where 0 is treated as 1. -/
def sdDen (s : State) (n : Nat) : Nat := max 1 (s.f (Reg.SD_DEN n))

def sdEpochCnt (s : State) (n : Nat) : Nat := s.f64 (Reg.SD_EPOCH_CNT_LO n) (Reg.SD_EPOCH_CNT_HI n)

/-- SD_EPOCH_TIME in nanoseconds since the TB0 epoch. -/
def sdEpochNs (s : State) (n : Nat) : Nat :=
  s.f64 (Reg.SD_EPOCH_SEC_LO n) (Reg.SD_EPOCH_SEC_HI n) * 1000000000 + s.f (Reg.SD_EPOCH_NS n)

/-- The estimated count of SDn at a TB0 time in nanoseconds (R57); it may be negative. -/
def sdEstAt (s : State) (n : Nat) (t : Int) : Int :=
  sdEpochCnt s n + ((t - sdEpochNs s n) * s.f (Reg.SD_NUM n)) / ((sdDen s n * 1000000000 : Nat) : Int)

/-- The estimate now; zero without one (R57). -/
def sdEst (s : State) (n : Nat) : Int := if hasEst s n then sdEstAt s n s.tb0 else 0

/-- The TB0 time in picoseconds at which the estimate reaches a count (R80), as a numerator and a denominator. -/
def sdTimePs (s : State) (n : Nat) (cnt : Nat) : Int × Nat :=
  ((((cnt : Int) - sdEpochCnt s n) * sdDen s n * 1000000000000) + sdEpochNs s n * 1000 * s.f (Reg.SD_NUM n),
   s.f (Reg.SD_NUM n))

/-! ## QUALITY -/

/-- Change QUALITY; vector 27 fires at each change, and leaving HOLDOVER clears TIME_HOLD_SEC (R52, R53). -/
def setQuality (q : Nat) (s : State) : State :=
  if s.f Reg.TIME_STATUS_QUALITY = q then s
  else
    let s := (s.setF Reg.TIME_STATUS_QUALITY q).intPend 27
    let s := { s with time := { s.time with holdNs := 0 } }
    if q = 3 then s else s.setF Reg.TIME_HOLD_SEC_SECONDS 0

/-- A servo update from the selected source with its measured offset in picoseconds (R51, R52). The servo's law is not
stated: the new rate is a free value. (DESIGN CHOICE, log 28; DEDUCED, log 29.) -/
def servoUpdate (offset : Int) (s : State) : State :=
  let (r, s) := s.draw
  let s := s.setF Reg.TB0_RATE_RATE r
  let good := if offset.natAbs ≤ 100000 then s.time.goodUpdates + 1 else 0
  let s := { s with time := { s.time with goodUpdates := min good 16 } }
  let q := s.f Reg.TIME_STATUS_QUALITY
  if offset.natAbs > 1000000 then setQuality 1 s
  else if good ≥ 16 then setQuality 2 s
  else if q = 0 ∨ q = 3 then setQuality 1 s
  else s

/-- Writing TIME_CTRL (R52, R83): a change of SRC returns QUALITY to UNSYNC. -/
def timeCtrlWrite (w : Word) (s : State) : State :=
  let old := s.f Reg.TIME_CTRL_SRC
  let s := s.setF Reg.TIME_CTRL_PPS_EDGE (getBits w 2 2)
  let s := { s.setF Reg.TIME_CTRL_SRC (getBits w 1 0) with time := { s.time with ppsLostRaised := false } }
  if getBits w 1 0 = old then s
  else { setQuality 0 s with time := { s.time with goodUpdates := 0, ptpSeconds := false, ppsLostRaised := false } }

/-- The source has been silent for longer than HOLDOVER_DELAY (R53). (DESIGN CHOICE, log 2.) -/
def holdoverTimeout (s : State) : State :=
  let q := s.f Reg.TIME_STATUS_QUALITY
  if s.f Reg.TIME_CTRL_SRC ≠ 0 ∧ (q = 1 ∨ q = 2) then
    raise (fev FK.TIME_HOLDOVER 0x01 0 0) { setQuality 3 s with time := { s.time with goodUpdates := 0 } }
  else s

/-- No PPS_IN edge for 1.5 s (R83). -/
def ppsLostTimeout (s : State) : State :=
  let s := s.setF Reg.TIME_STATUS_PPS_SEEN 0
  if s.f Reg.TIME_CTRL_SRC ≥ 2 ∧ !s.time.ppsLostRaised then
    raise (fev FK.TIME_PPS_LOST 0x01 0 0) { s with time := { s.time with ppsLostRaised := true } }
  else s

/-! ## Steps -/

/-- The staged step value (R54): seconds and nanoseconds. -/
def stepValue (s : State) : Nat × Nat :=
  (s.sf64 Reg.TB0_SET_SEC_LO_SEC_LO Reg.TB0_SET_SEC_HI_SEC_HI, s.sf Reg.TB0_SET_NS_NS)

/-- The TB0 step value group takes effect with its load. -/
def commitStep (s : State) : State := s.commitRange 0x10024 0x10030

/-- DEDUCED, log 32. -/
def loadTb0 (v : Nat × Nat) (s : State) : State :=
  { s with time := { s.time with sec := v.1, ns := v.2, frac := 0 } }

/-- TIME_COMMIT.STEP_NOW (R54). -/
def stepNow (s : State) : State :=
  if (stepValue s).2 > 999999999 then s.setF Reg.TIME_STATUS_STEP_REFUSED 1
  else loadTb0 (stepValue s) (commitStep s)

/-- TIME_COMMIT.STEP_AT_PPS (R54): the load waits for the next active PPS_IN edge. (DESIGN CHOICE, log 152.) -/
def stepAtPps (s : State) : State :=
  if (stepValue s).2 > 999999999 then s.setF Reg.TIME_STATUS_STEP_REFUSED 1
  else { commitStep s with time := { s.time with stepAtPps := some (stepValue s) } }

/-- The glitch filter delays of R689, in nanoseconds. -/
def filterNs (code : Nat) : Nat := ([0, 5, 10, 20, 40, 80, 120, 1000] : List Nat).getD code 0

/-- Picoseconds that the time of a PPS_IN edge lies before its arrival here: PPS_IN_COMP and the glitch filter (R83, R690). -/
def ppsLag (s : State) : Int := sext 32 (s.f Reg.PPS_IN_COMP_PS) + filterNs (s.f Reg.TOP_GLITCH_PPS_IN) * 1000

/-- The offset of a PPS edge from the nearest second, in picoseconds (R83). -/
def ppsOffset (s : State) : Int :=
  let m := ((s.tb0 : Int) * 1000 - ppsLag s) % 1000000000000
  if m ≥ 500000000000 then m - 1000000000000 else m

/-- The value of a pending STEP_AT_PPS is TB0 at the time of the edge, which lies `ppsLag` before now (R54, R83), in whole nanoseconds: the
fraction of TB0 is the rate correction's alone (R49). A time before the epoch is the epoch. -/
def loadAtEdge (v : Nat × Nat) (s : State) : State :=
  let t := (((v.1 * 1000000000 + v.2 : Nat) : Int) + ppsLag s / 1000).toNat
  loadTb0 (t / 1000000000 % 2 ^ 64, t % 1000000000) s

/-- An edge of PPS_IN after its filter (R52, R54, R83). An edge that loads a pending step value is no servo update.
(DEDUCED, log 139.) -/
def ppsInEdge (rising : Bool) (s : State) : State :=
  if rising = s.flag Reg.TIME_CTRL_PPS_EDGE then s
  else
    let s := s.setF Reg.TIME_STATUS_PPS_SEEN 1
    let s := { s with time := { s.time with ppsLostRaised := false } }
    match s.time.stepAtPps with
    | some v =>
      let s := loadAtEdge v { s with time := { s.time with stepAtPps := none } }
      let q := s.f Reg.TIME_STATUS_QUALITY
      if (s.f Reg.TIME_CTRL_SRC = 2 ∨ (s.f Reg.TIME_CTRL_SRC = 3 ∧ s.time.ptpSeconds)) ∧ (q = 0 ∨ q = 3) then setQuality 1 s else s
    | none =>
      if s.f Reg.TIME_CTRL_SRC = 2 ∨ (s.f Reg.TIME_CTRL_SRC = 3 ∧ s.time.ptpSeconds) then servoUpdate (ppsOffset s) s
      else s

/-- Writing 1 to TB0_CAPTURE (R49). -/
def tb0Capture (s : State) : State :=
  ((s.setF64 Reg.TB0_SEC_LO_SEC_LO Reg.TB0_SEC_HI_SEC_HI s.time.sec).setF Reg.TB0_NS_NS s.time.ns).setF Reg.TB0_FRAC_FRAC s.time.frac

/-! ## Outputs -/

/-- PPS_OUT is high from a second boundary on, while enabled (R82). -/
def ppsOutHigh (s : State) : State :=
  if s.flag Reg.PPS_OUT_CFG_EN then { s with time := { s.time with ppsOut := true } } else s

/-- TB0 stands at a second boundary: within the tick that reached it. -/
def atSecond (s : State) : Bool := decide (s.time.ns ≤ 4)

/-- PPS_OUT_RISE (R82). -/
def ppsOutRise (s : State) : State := if atSecond s then ppsOutHigh s else s

/-- The end of the pulse width of PPS_OUT (R82). (DESIGN CHOICE, log 151.) -/
def ppsOutFall (s : State) : State := { s with time := { s.time with ppsOut := false } }

/-- BEACONk returns to its inactive level (R80). -/
def beaconFall (k : Nat) (s : State) : State :=
  { s with time := { s.time with beaconActive := s.time.beaconActive &&& (15 ^^^ 2 ^ k) } }

/-- The level of BEACONk: low while snuffed (R613), else active or inactive by POL, inactive while BEACON_CFG.EN is 0 (R80, R81). -/
def beaconLevel (s : State) (k : Nat) : Bool :=
  if s.snuffed then false
  else (s.time.beaconActive.testBit k && s.flag (Reg.BEACON_CFG_EN k)) != s.flag (Reg.BEACON_CFG_POL k)

/-! ## Deviation and automatic epoch -/

/-- A HEAD of a domain (R56, R58, R59): SD_SEEN, the automatic epoch and the deviation monitor. -/
def headOfDomain (n cnt : Nat) (s : State) : State :=
  let seen := s.f64 (Reg.SD_SEEN_LO n) (Reg.SD_SEEN_HI n)
  let s := if cnt > seen then s.setF64 (Reg.SD_SEEN_LO n) (Reg.SD_SEEN_HI n) cnt else s
  let t : Nat := s.tb0 - s.f (Reg.SD_ARR_OFFSET n)
  let s :=
    if s.flag (Reg.SD_CTRL_AUTO_EPOCH n) then
      let s := (s.setBoth (Reg.SD_EPOCH_CNT_LO n) (cnt % 2 ^ 32)).setBoth (Reg.SD_EPOCH_CNT_HI n) (cnt / 2 ^ 32)
      let s := (s.setBoth (Reg.SD_EPOCH_SEC_LO n) (t / 1000000000 % 2 ^ 32)).setBoth (Reg.SD_EPOCH_SEC_HI n)
        (t / 1000000000 / 2 ^ 32)
      (s.setBoth (Reg.SD_EPOCH_NS n) (t % 1000000000)).setBoth (Reg.SD_CTRL_AUTO_EPOCH n) 0
    else s
  if hasEst s n then
    let dev : Int := satS 32 ((cnt : Int) - sdEstAt s n ((s.tb0 : Int) - s.f (Reg.SD_ARR_OFFSET n)))
    let s := s.setF (Reg.SD_DEV n) (wrap 32 dev)
    let lim := s.f (Reg.SD_DEV_LIMIT n)
    if dev.natAbs > lim ∧ !s.time.sdDevRaised.testBit n then
      raise (fev FK.TIME_SD_DEV 0x01 (n + 1) (wrap 48 dev))
        { s with time := { s.time with sdDevRaised := s.time.sdDevRaised ||| 2 ^ n } }
    else if 2 * dev.natAbs ≤ lim then
      { s with time := { s.time with sdDevRaised := s.time.sdDevRaised &&& (15 ^^^ 2 ^ n) } }
    else s
  else s

/-! ## The clock tick -/

/-- TIME_HOLD_SEC counts the seconds spent in HOLDOVER (R53). -/
def holdTick (ns : Nat) (s : State) : State :=
  if s.f Reg.TIME_STATUS_QUALITY ≠ 3 then s
  else
    let n := s.time.holdNs + ns
    { s.satF Reg.TIME_HOLD_SEC_SECONDS (n / 1000000000) with time := { s.time with holdNs := n % 1000000000 } }

/-- One tick of 4 ns advances TB0 (R49), with the rate correction of TB0_RATE; at a second boundary PPS_OUT rises (R82). -/
def tickTb0 (s : State) : State :=
  let d : Int := 4 * 2 ^ 32 + (sext 32 (s.f Reg.TB0_RATE_RATE)) / 64
  let total : Int := (s.tb0 : Int) * 2 ^ 32 + s.time.frac + d
  let ns := (total / 2 ^ 32).toNat
  let sec' := ns / 1000000000 % 2 ^ 64
  let s' := { s with time := { s.time with sec := sec', ns := ns % 1000000000, frac := (total % 2 ^ 32).toNat } }
  holdTick (ns - s.tb0) (if sec' = s.time.sec then s' else ppsOutHigh s')

/-- 10^8 times the nanoseconds by which the triangular spread of 0.5 %, of period 31,250 ns, has held back a clock of PLL_CORE after t ns
(R670). -/
def spreadLag (t : Nat) : Nat :=
  let x := t % 31250
  t / 31250 * 7812500000 + (if x ≤ 15625 then 16 * x * x else 7812500000 - 16 * (31250 - x) * (31250 - x))

/-- Cycles, k of which make 4 ns without spread, in the first t ns of the spread. -/
def spreadCycles (k t : Nat) : Nat := (100000000 * t - spreadLag t) * k / 400000000

/-- Cycles of a clock of PLL_CORE in one tick, where k make 4 ns (R669, R670). (DESIGN CHOICE, log 149.) -/
def coreCycles (k : Nat) (s : State) : Nat :=
  if s.flag Reg.TOP_PLL_STATUS_SSC_ON then spreadCycles k (s.bring.sscPhase + 4) - spreadCycles k s.bring.sscPhase else k

/-- The spread goes on by one tick; 32 periods of it are a whole number of nanoseconds. -/
def spreadTick (s : State) : State := { s with bring := { s.bring with sscPhase := (s.bring.sscPhase + 4) % 1000000 } }

/-- Clock cycles of a bank in one tick (R653, R669). -/
def bankCycles (bank : Nat) (s : State) : Nat :=
  if bank = 0x10 ∨ bank = 0x11 ∨ bank = 0x0E ∨ bank = 0x0F ∨ bank = 0x12 ∨ 0x13 ≤ bank then coreCycles 5 s
  else if bank = 0x07 ∨ bank = 0x0C ∨ bank = 0x0D ∨ bank = 0x0B then coreCycles 4 s else 1

end Sys2Proof.Machine
end

