-- ==== Sys2Proof/Machine/Sched.lean ====
section
/-! DEFINITION. Sys2Proof/Machine/Sched.lean: the action scheduler (02_time.md): arming, delivery, lateness, completion
records. What each action does at its count is in the file of its target. -/
namespace Sys2Proof.Machine

/-! ## Slots -/

def slotDom (s : State) (n : Nat) : Nat := s.f (Reg.SLOT_CTRL_DOMAIN n)
def slotAct (s : State) (n : Nat) : Nat := s.f (Reg.SLOT_CTRL_ACTION n)
def slotState (s : State) (n : Nat) : Nat := s.f (Reg.SLOT_CTRL_STATE n)
def slotTarget (s : State) (n : Nat) : Nat := s.f (Reg.SLOT_TARGET_TARGET n)
def slotArg (s : State) (n : Nat) : Nat := s.f (Reg.SLOT_ARG n)
def slotRun (s : State) (n : Nat) : SlotRun := mapGet SlotRun.reset s.sched.runs n

def setSlotRun (n : Nat) (r : SlotRun) (s : State) : State :=
  { s with sched := { s.sched with runs := mapSet SlotRun.reset s.sched.runs n r } }

/-- Insert a number in an ascending list without repeats. -/
def insNat (n : Nat) : List Nat → List Nat
  | [] => [n]
  | a :: r => if n < a then n :: a :: r else if n = a then a :: r else a :: insNat n r

/-- Set a slot's STATE (R60) and keep the list of live slots. -/
def setSlotState (n st : Nat) (s : State) : State :=
  let s := s.setF (Reg.SLOT_CTRL_STATE n) st
  { s with sched := { s.sched with live := if st = 0 then s.sched.live.filter (· != n) else insNat n s.sched.live } }

/-- The trigger of the first occurrence: a count, or nanoseconds since the TB0 epoch. -/
def slotTrig0 (s : State) (n : Nat) : Nat :=
  let v := s.f64 (Reg.SLOT_TRIG_LO n) (Reg.SLOT_TRIG_HI n)
  if slotDom s n = 0 then v * 1000000000 + s.f (Reg.SLOT_TRIG_NS n) else v

def slotPeriod (s : State) (n : Nat) : Nat := s.f64 (Reg.SLOT_PER_LO n) (Reg.SLOT_PER_HI n)

/-- The trigger of the occurrence in progress (R74). -/
def slotTrig (s : State) (n : Nat) : Nat := slotTrig0 s n + (slotRun s n).occ * slotPeriod s n

/-- The count or time at which the occurrence in progress is to execute: its trigger, or where NEXT moved it (R68). -/
def slotWhen (s : State) (n : Nat) : Nat := (slotRun s n).moved.getD (slotTrig s n)

def slotLate (s : State) (n : Nat) : Bool := (slotRun s n).moved.isSome

/-! ## Dwell, granule and lead -/

def dwellLen (code : Nat) : Nat := if code = 0 then 1024 else if code = 1 then 2048 else 4096

/-- D of job j, which is that of its set (R283). -/
def jobD (s : State) (j : Nat) : Nat := dwellLen (s.f (Reg.SET_CFG_DWELL j))

/-- Log2 of the frame length F of the Lens (R181 and its table). -/
def fftLog2 (s : State) : Nat := s.f Reg.LENS_CTRL_FFT_LOG2
def lensF (s : State) : Nat := 2 ^ fftLog2 s / (if s.flag Reg.LENS_CTRL_FRAME_HALF then 2 else 1)

/-- Raw counts spanned by a count of the targets that process channel samples (R191, R192): F in F and FX, else 1. -/
def chanF (s : State) : Nat := if s.isF || s.isFX then lensF s else 1

/-- The DUMP_BOUNDARY granule of a job (R62, R192). -/
def jobGranule (s : State) (j : Nat) : Nat := jobD s j * (if s.isFX then lensF s else 1)

/-- Dmax of domain d: the largest dwell of an enabled job of the domain, or 4,096 without one (R192 in FX). -/
def dMax (s : State) (d : Nat) : Nat :=
  let js := [0, 1, 2, 3].filter fun j => s.flag (Reg.JOB_CFG_EN j) && s.f (Reg.SET_CFG_DOMAIN j) == d
  if js.isEmpty then 4096 else js.foldl (fun m j => max m (jobGranule s j)) 0

/-- The granule of an action (R62). -/
def granule (s : State) (act target : Nat) : Nat :=
  if act = 1 then jobGranule s (target % 4)
  else if act = 2 ∧ target = 0x1100 then 2 ^ fftLog2 s
  else 1

/-- The lead L of an action (R64): samples, or nanoseconds for TB0. -/
def leadOf (s : State) (dom : Nat) : Nat :=
  if dom = 0 then 64000
  else
    let d := dom - 1
    max (2 * dMax s d) (ceilDiv (64 * s.f (Reg.SD_NUM d)) (1000000 * sdDen s d))

/-! ## Passage counts -/

/-- Keys of the targets that keep a passage count (R66); the key is target × 8 + domain. -/
def tgtIngest : Nat := 0
def tgtLensIn : Nat := 1
def tgtCapture : Nat := 2
def tgtCan : Nat := 3
def tgtPair : Nat := 4
def tgtDelay (i : Nat) : Nat := 0x100 + i
def tgtLamp (n : Nat) : Nat := 0x200 + n

def passage (s : State) (tgt d : Nat) : Option Nat := mapGet none s.sched.passage (tgt * 8 + d)

/-- A target has processed a count: P is one above the highest (R66). (DEDUCED, log 35.) -/
def reach (tgt d cnt : Nat) (s : State) : State :=
  let p := match passage s tgt d with | none => cnt + 1 | some p => max p (cnt + 1)
  { s with sched := { s.sched with passage := mapSet none s.sched.passage (tgt * 8 + d) (some p) } }

/-- A count marker with SAMPLE_COUNT S: P becomes at least S (R722). -/
def reachMarker (tgt d S : Nat) (s : State) : State :=
  let p := match passage s tgt d with | none => S | some p => max p S
  { s with sched := { s.sched with passage := mapSet none s.sched.passage (tgt * 8 + d) (some p) } }

def jobRun (s : State) (j : Nat) : JobRun := mapGet JobRun.reset s.lan.jobs j

/-- The highest of some passage counts. -/
def maxPassage (s : State) (d : Nat) (tgts : List Nat) : Option Nat :=
  tgts.foldl (fun a t => match passage s t d, a with | none, a => a | some p, none => some p | some p, some q => some (max p q)) none

def lampPassage (s : State) (t d : Nat) : Option Nat :=
  if t % 256 = 0xFF then maxPassage s d ((List.range 64).map tgtLamp) else passage s (tgtLamp (t % 64)) d

/-- P of an SDn action's target in the target's own units (R66, R330, R418, R645), and the raw counts of a unit: F for the targets
that process channel samples in F and FX (R191), the granule for windows. A BEACON is compared with the estimate itself, which counts
as zero while negative. -/
def targetCount (s : State) (n : Nat) : Option Nat × Nat :=
  let d := slotDom s n - 1
  let t := slotTarget s n
  match slotAct s n with
  | 0x01 => ((jobRun s (t % 4)).next, jobGranule s (t % 4))
  | 0x02 =>
    if t = 0x1000 then (passage s tgtCan d, chanF s)
    else if t = 0x1100 then (passage s tgtLensIn d, 1)
    else (lampPassage s t d, chanF s)
  | 0x04 => (if t = 0x30FF then maxPassage s d ((List.range 128).map tgtDelay) else passage s (tgtDelay (t % 128)) d, 1)
  | 0x05 => (some (sdEst s d).toNat, 1)
  | 0x06 => (passage s tgtCapture d, 1)
  | 0x08 => (passage s tgtCan d, chanF s)
  | 0x09 => (passage s tgtCan d, chanF s)
  | 0x0A => (passage s tgtPair d, chanF s)
  | 0x0B => (lampPassage s t d, chanF s)
  | _ => if s.actsF then (passage s tgtLensIn d, 1) else (passage s tgtIngest d, chanF s)

/-- P of an action's target in the count scale of its trigger: a target that compares ceil(T / F) passes T when P passes it (R191). -/
def targetP (s : State) (n : Nat) : Option Nat :=
  if slotDom s n = 0 then some s.tb0
  else
    let x := targetCount s n
    x.1.map fun p => if slotAct s n = 1 then p * x.2 else if p = 0 then 0 else (p - 1) * x.2 + 1

/-- The tasks of a window have been dispatched in part: those that remain belong to the windows before the next one (R330). -/
def jobMidWindow (s : State) (j : Nat) : Bool := (jobRun s j).wins.any fun w => w.begun && w.run && decide (w.c < w.limit)

/-- Enabled Lens inputs, ascending. -/
def lensIns (s : State) : List Nat := (List.range 128).filter fun i => s.flag (Reg.LENS_IN_CFG_EN i)

def frontier (s : State) (i : Nat) : Option Nat := mapGet none s.lens.frontier i

/-- Every enabled Lens input has received every raw count below T that it will (R172, R191). -/
def lensReached (s : State) (T : Nat) : Bool := (lensIns s).all fun i => (frontier s i).any fun f => decide (T ≤ f)

/-- The target of an occurrence has come to its count or time: it has processed every count below it that it will (R69, R70, R80). A
boundary executes at the dispatch of its window, behind the last task of the window before (R330). A snapshot in F takes every raw sample
below its count (R191). A capture record must reach the count itself (R312). -/
def targetAt (s : State) (n : Nat) : Bool :=
  let dom := slotDom s n
  if dom = 0 then decide (slotWhen s n ≤ s.tb0)
  else if slotAct s n = 5 then hasEst s (dom - 1) && decide ((slotWhen s n : Int) ≤ sdEst s (dom - 1))
  else if slotAct s n = 1 ∧ jobMidWindow s (slotTarget s n % 4) then false
  else if slotAct s n = 7 ∧ s.actsF ∧ !lensReached s (slotWhen s n) then false
  else match targetCount s n with
    | (none, _) => false
    | (some p, u) => if slotAct s n = 6 then decide (slotWhen s n < p) else decide (slotWhen s n ≤ p * u)

/-! ## Records -/

/-- The completion ring is full (R79). -/
def cmpRingFull (s : State) : Bool :=
  (s.f Reg.SCHED_RING_WR_WR + 2048 - s.f Reg.SCHED_RING_RD_RD) % 2048 == 1024

/-- FULL and FILL of SCHED_RING_STATUS follow the indices. -/
def schedFill (s : State) : State :=
  let n := (s.f Reg.SCHED_RING_WR_WR + 2048 - s.f Reg.SCHED_RING_RD_RD) % 2048
  (s.setF Reg.SCHED_RING_STATUS_FILL n).setFlag Reg.SCHED_RING_STATUS_FULL (n == 1024)

/-- The 32 bytes of a completion record (R78). -/
def cmpRecord (s : State) (n status : Nat) (lead late : Bool) (executed : Nat) : List Byte :=
  let act := slotAct s n
  let flags := slotDom s n + 8 * s.f (Reg.SLOT_CTRL_POLICY n) + 16 * b2n lead +
    32 * b2n (act == 5 && s.snuffed) + 64 * b2n late
  leBytes 1 n ++ leBytes 1 act ++ leBytes 1 status ++ leBytes 1 flags ++ leBytes 2 (slotTarget s n) ++
  leBytes 2 ((slotRun s n).occ) ++ leBytes 8 (slotTrig s n) ++ leBytes 8 (if status ≥ 0x10 then 0 else executed) ++
  leBytes 4 s.time.sec ++ leBytes 4 s.time.ns

/-- Write one completion record, or count it lost (R79). (DESIGN CHOICE, log 34.) -/
def writeRecord (n status : Nat) (lead late : Bool) (executed : Nat) (s : State) : State :=
  let s := if status < 0x10 then s.incF Reg.SCHED_CNT_DONE 1 else s.incF Reg.SCHED_CNT_REJ 1
  if cmpRingFull s then
    let s := (s.incF Reg.SCHED_CNT_LOST 1).setF Reg.SCHED_RING_STATUS_LOST 1
    raiseOnce Reg.SCHED_CNT_LOST.key (fev FK.SCHED_RING_FULL 0x02 n (slotTrig s n)) s
  else
    let wr := s.f Reg.SCHED_RING_WR_WR
    let s := putWords s (Reg.SCHED_RING (wr % 1024) 0).key 8 (cmpRecord s n status lead late executed)
    schedFill ((s.incF Reg.SCHED_RING_WR_WR 1).intPend 3)

/-- The slot returns to IDLE with no further occurrence. -/
def slotIdle (n : Nat) (s : State) : State := setSlotRun n SlotRun.reset (setSlotState n 0 s)

/-- The occurrence in progress ends with a record; the slot goes to its next occurrence or to IDLE (R74). -/
def endOccurrence (n status : Nat) (executed : Nat) (s : State) : State :=
  let r := slotRun s n
  let s := writeRecord n status (r.leadShort && r.occ == 0) r.moved.isSome executed s
  let rep := s.f (Reg.SLOT_TARGET_REPEAT n)
  if s.flag (Reg.SLOT_CTRL_PERIODIC n) && (rep == 0 || decide (r.occ + 1 < rep)) then
    setSlotRun n { occ := r.occ + 1, moved := none, leadShort := r.leadShort, units := 0 } (setSlotState n 1 s)
  else slotIdle n s

/-- The occurrence executed at its count or time. `starved`: by R71. -/
def endDone (n : Nat) (starved : Bool) (s : State) : State :=
  let status := if starved then 0x03 else if slotLate s n then 0x02 else 0x01
  endOccurrence n status (slotWhen s n) s

/-- The occurrence ends rejected for an invalid slot, with no further occurrence (R61, R730). -/
def endInvalid (n : Nat) (s : State) : State :=
  let r := slotRun s n
  let s := writeRecord n 0x12 (r.leadShort && r.occ == 0) (slotLate s n) 0 s
  let t := slotTrig s n
  raise (fev FK.SCHED_INVALID 0x02 n t) (slotIdle n s)

/-! ## Arming -/

/-- The targets of an action (R62). -/
def targetOk (act t : Nat) : Bool :=
  match act with
  | 0x01 => decide (t ≤ 3)
  | 0x02 => t == 0x1000 || t == 0x1100 || (decide (0x1200 ≤ t) && decide (t ≤ 0x123F)) || t == 0x12FF
  | 0x03 => decide (0x2000 ≤ t) && decide (t ≤ 0x2003)
  | 0x04 => (decide (0x3000 ≤ t) && decide (t ≤ 0x307F)) || t == 0x30FF
  | 0x05 => decide (0x4000 ≤ t) && decide (t ≤ 0x4003)
  | 0x06 => t == 0x5000
  | 0x07 => t == 0x6000
  | 0x08 => decide (0x7000 ≤ t) && decide (t ≤ 0x70FF)
  | 0x09 => decide (0x7000 ≤ t) && decide (t ≤ 0x70FF)
  | 0x0A => t == 0x8000
  | 0x0B => (decide (0x9000 ≤ t) && decide (t ≤ 0x903F)) || t == 0x90FF
  | _ => false

/-- The domains of an action (R62). -/
def domainOk (s : State) (act dom t : Nat) : Bool :=
  if dom > 4 then false
  else if dom = 0 then act == 3 || act == 5 || act == 6 || act == 7 || act == 0xB
  else if act = 1 then s.f (Reg.SET_CFG_DOMAIN (t % 4)) == dom - 1
  else if act = 5 then hasEst s (dom - 1)
  else true

/-- The personality check of R62 and R729; in FX there is no Lens input above 63 (R21, R61, R167). -/
def persOk (s : State) (act dom t : Nat) : Bool :=
  if s.noPers then dom == 0 && (act == 5 || act == 3 || act == 7)
  else if s.isF then !(act == 1 || act == 8 || act == 9)
  else if s.isX then !(act == 4 || (act == 2 && t == 0x1100))
  else if s.isFX then !(act == 4 && decide (0x3040 ≤ t) && decide (t ≤ 0x307F))
  else true

/-- The check at arming (R61, R63, R645, SCHED_CTRL.EN), on the committed words. -/
def armOk (s : State) (n : Nat) : Bool :=
  let act := slotAct s n
  let dom := slotDom s n
  let t := slotTarget s n
  let g := granule s act t
  let periodic := s.flag (Reg.SLOT_CTRL_PERIODIC n)
  s.flag Reg.SCHED_CTRL_EN && targetOk act t && domainOk s act dom t && persOk s act dom t &&
  (!periodic || slotPeriod s n != 0) &&
  (dom == 0 || (s.f (Reg.SLOT_TRIG_NS n) == 0 && slotTrig0 s n % g == 0 && (!periodic || slotPeriod s n % g == 0))) &&
  (act != 0xA || s.flag Reg.PAIR_CFG_EN)

/-- The trigger lies less than L ahead (R65). -/
def leadShort (s : State) (n : Nat) : Bool :=
  let dom := slotDom s n
  if dom = 0 then decide (slotTrig0 s n < s.tb0 + leadOf s 0)
  else hasEst s (dom - 1) && decide ((slotTrig0 s n : Int) < sdEst s (dom - 1) + leadOf s dom)

/-- Write SLOT_CTRL with ARM, the RW fields taking the values of `w` (R60, R61, R65). -/
def slotArm (n : Nat) (w : Word) (s : State) : State :=
  if slotState s n ≠ 0 then s
  else
    let s := s.setReg (Reg.SLOT_CTRL_ACTION n).key (BitVec.ofNat 32 (getBits w 12 0))
    let s := s.commitRange (0x21000 + 32 * n) (0x21020 + 32 * n)
    if armOk s n then
      let ls := leadShort s n
      let s := setSlotRun n { occ := 0, moved := none, leadShort := ls, units := 0 } (setSlotState n 1 s)
      if ls then raise (fev FK.SCHED_LEAD_SHORT 0x02 n (slotTrig0 s n)) s else s
    else endInvalid n s

/-- Cancel every occurrence not yet executed (R75). -/
def slotCancel (n : Nat) (s : State) : State :=
  if slotState s n = 0 then s
  else slotIdle n (writeRecord n 0x13 ((slotRun s n).leadShort && (slotRun s n).occ == 0) (slotLate s n) 0 s)

/-! ## Delivery -/

/-- The first multiple of g at or after x. -/
def ceilTo (x g : Nat) : Nat := ceilDiv x (max 1 g) * max 1 g

/-- Where NEXT moves a late occurrence (R68): P, now. (DEDUCED, log 33.) -/
def nextWhen (s : State) (n p : Nat) : Nat :=
  let dom := slotDom s n
  if dom = 0 then (p / 1000 + 1) * 1000
  else ceilTo p (Nat.lcm (granule s (slotAct s n) (slotTarget s n)) (dMax s (dom - 1)))

/-- Lateness policy for an occurrence whose trigger has passed at P (R67, R68). -/
def slotTooLate (n p : Nat) (s : State) : State :=
  if s.f (Reg.SLOT_CTRL_POLICY n) = 0 then
    let t := slotTrig s n
    raise (fev FK.SCHED_LATE 0x02 n t) (endOccurrence n 0x10 0 s)
  else setSlotRun n { slotRun s n with moved := some (nextWhen s n p) } (setSlotState n 2 s)

/-- Deliver the occurrence in progress of an armed slot to its target (R721, R66). -/
def slotDeliver (n : Nat) (s : State) : State :=
  if slotState s n ≠ 1 then s
  else
    match targetP s n with
    | none => setSlotState n 2 s
    | some p => if p > slotTrig s n then slotTooLate n p s else setSlotState n 2 s

/-- The place of an action in the order of R72. -/
def actOrder (act : Nat) : Nat := ([0, 0, 2, 1, 3, 10, 7, 8, 5, 4, 6, 9] : List Nat).getD act 11

def slotBefore (s : State) (a b : Nat) : Bool :=
  let ka := (slotWhen s a, actOrder (slotAct s a), a)
  let kb := (slotWhen s b, actOrder (slotAct s b), b)
  decide (ka.1 < kb.1) || (ka.1 == kb.1 && (decide (ka.2.1 < kb.2.1) || (ka.2.1 == kb.2.1 && decide (ka.2.2 ≤ kb.2.2))))

def insSlot (s : State) (n : Nat) : List Nat → List Nat
  | [] => [n]
  | a :: r => if slotBefore s n a then n :: a :: r else a :: insSlot s n r

/-- Delivered slots of domain code `dom` that satisfy `p` and are due at count `cnt`, in the order of R72. -/
def dueSlots (s : State) (dom cnt : Nat) (p : Nat → Nat → Bool) : List Nat :=
  (s.sched.live.filter fun n => slotState s n == 2 && slotDom s n == dom && p (slotAct s n) (slotTarget s n) &&
    decide (slotWhen s n ≤ cnt)).foldr (insSlot s) []

/-- Run `f` on each due slot in turn. -/
def runDue (dom cnt : Nat) (p : Nat → Nat → Bool) (f : Nat → State → State) (s : State) : State :=
  (dueSlots s dom cnt p).foldl (fun s n => f n s) s

/-- The contents of the APPLY_SET occurrences of a domain that are delivered and due at a count, and that the ingest stage has yet to
execute: what lies at or above their counts is under them already (R69, R191, R547). (DEDUCED, log 163.) -/
def dueShadows (s : State) (dom cnt : Nat) : List (List (Nat × Word × Word)) :=
  (dueSlots s (dom + 1) cnt (fun a _ => a == 3)).filterMap fun n =>
    let p := mapGet PSet.reset s.dict.psets (slotTarget s n % 4)
    if p.state = 2 ∧ p.slot = n then some p.shadow else none

/-- A register word under such contents. -/
def underShadows (l : List (List (Nat × Word × Word))) (key : Nat) (w : Word) : Word :=
  l.foldl (fun w sh => (sh.filter fun p => p.1 == key).foldl (fun w p => (w &&& ~~~p.2.1) ||| (p.2.2 &&& p.2.1)) w) w

/-- The occurrence's time to starve has come (R71). -/
def starveTime (s : State) (n : Nat) : Bool :=
  let dom := slotDom s n
  slotState s n == 2 && dom != 0 && slotAct s n != 5 && hasEst s (dom - 1) &&
  decide (sdEst s (dom - 1) * (1000000 * sdDen s (dom - 1) : Nat) >
    (slotWhen s n : Int) * (1000000 * sdDen s (dom - 1) : Nat) + s.f Reg.SCHED_CTRL_STARVE_US * s.f (Reg.SD_NUM (dom - 1)))

/-- No other pending occurrence of the domain at the same count that `p` selects comes before slot n in the order of R72. -/
def firstOf (p : Nat → Bool) (s : State) (n : Nat) : Bool :=
  s.sched.live.all fun m => m == n || !(slotState s m == 2 && slotDom s m == slotDom s n && slotWhen s m == slotWhen s n && p m) || slotBefore s n m

/-- The occurrence can starve now (R71, R72). -/
def starves (s : State) (n : Nat) : Bool := starveTime s n && firstOf (starveTime s) s n

/-! ## Reset of the scheduler, and SD_COMMIT -/

/-- A block reset of SCHED (R77): every slot IDLE, the ring empty, without records. (DESIGN CHOICE, log 153.) -/
def schedReset (s : State) : State :=
  let armed := s.sched.live.length
  let s := s.sched.live.foldl (fun s n => slotIdle n s) s
  let s := (s.setF Reg.SCHED_RING_WR_WR 0).setF Reg.SCHED_RING_RD_RD 0
  raise (fev FK.SCHED_RESET 0x02 0 armed) (schedFill s)

/-- TIME_COMMIT.SD_COMMIT[n] (R57, R730). -/
def sdCommit (n : Nat) (s : State) : State :=
  let s := s.commitRange (0x10100 + 64 * n) (0x10140 + 64 * n)
  if hasEst s n then s
  else
    (s.sched.live.filter fun k => slotAct s k == 5 && slotDom s k == n + 1).foldl (fun s k => endInvalid k s) s

/-- TB0 takes a new value: every delivered TB0 action whose trigger a forward step skips is late (R54). Actions still armed
are judged at delivery. -/
def stepLate (old : Nat) (s : State) : State :=
  let late := s.sched.live.filter fun n => slotState s n == 2 && slotDom s n == 0 && decide (old ≤ slotWhen s n) &&
    decide (slotWhen s n < s.tb0)
  late.foldl (fun s n => slotTooLate n s.tb0 s) s

/-- TIME_COMMIT.STEP_NOW with its effect on TB0 actions (R54). -/
def stepNowSched (s : State) : State := stepLate s.tb0 (stepNow s)

/-- An edge of PPS_IN with the effect of a pending step on TB0 actions (R54). -/
def ppsInEdgeSched (rising : Bool) (s : State) : State := stepLate s.tb0 (ppsInEdge rising s)

/-! ## Trims (R645 to R648) -/

def pairState (s : State) : Nat := s.f Reg.PAIR_STATUS_STATE
def pairSet (f : PairState → PairState) (s : State) : State := { s with pair := f s.pair }

/-- Execute a TRIM slot. (DEDUCED, log 117.) -/
def trimSlot (slot : Nat) (starved : Bool) (s : State) : State :=
  let T := ceilDiv (slotWhen s slot) (chanF s)
  let dom := slotDom s slot - 1
  let s := if pairState s = 3 then
      pairSet (fun p => { p with trimAt := some T, trimDomain := dom, trimHold := false }) (s.setF Reg.PAIR_STATUS_TRIM_PENDING 1)
    else if pairState s = 0 then s
    else pairSet (fun p => { p with trimAt := some T, trimDomain := dom, trimHold := true }) s
  endDone slot starved s

/-- An output unit of count `cnt` is formed in a domain: a TRIM due at it executes first (R645). -/
def outputUnit (dom cnt : Nat) (s : State) : State :=
  let s := runDue (dom + 1) (cnt * chanF s) (fun a _ => a == 0x0A) (fun slot s => trimSlot slot false s) s
  reach tgtPair dom cnt s

end Sys2Proof.Machine
end

