-- ==== Sys2Proof/Machine/LampSin.lean ====
section
/-! DEFINITION. Sys2Proof/Machine/LampSin.lean: the stream input port of a lamp, its event queue and its delay-table swap
(R228 to R230, R236, R237, R242 to R244). -/
namespace Sys2Proof.Machine

/-- Records of a part with `i` inputs and `ch` channels (R228). -/
def partRecords (i ch : Nat) : Nat := 1 + ceilDiv i 16 + ceilDiv (i * ch) 8

/-- The header lanes that every part has (R229). -/
def partHeader (count kind : Nat) (gap : Bool) (domain chan ch i : Nat) (more : List Nat) : Record :=
  { kind := 0,
    lanes := [natBits count 15 0, natBits count 31 16, natBits count 47 32, natBits count 63 48,
      kind + 4 * b2n gap + 16 * domain, natBits chan 15 0, natBits chan 16 16, ch, i] ++ more ++ List.replicate (7 - more.length) 0 }

/-- Lists of `n` items, the last filled with `d`. -/
def chunks {α : Type} (d : α) (n : Nat) : Nat → List α → List (List α)
  | 0, _ => []
  | fuel + 1, l => if l.isEmpty then [] else (l.take n ++ List.replicate (n - l.length) d) :: chunks d n fuel (l.drop n)

/-- Mark records of the inputs' mark bits (R229). -/
def markRecords (marks : List Nat) : List Record :=
  (chunks 0 16 (marks.length + 1) marks).map fun l => { kind := 1, lanes := l }

/-- Data records of the elements (R229). -/
def dataRecords (elems : List (Int × Int)) : List Record :=
  (chunks (0, 0) 8 (elems.length + 1) elems).map fun l => { kind := 2, lanes := l.flatMap fun e => [wrap 18 e.1, wrap 18 e.2] }

/-! ## Delay-table swap (R243, R244) -/

/-- The banks exchange, or the swap is skipped. -/
def lampSwap (n : Nat) (s : State) : State :=
  if s.flag (Reg.LMP_PORT_CFG_COEF_BANKED n) && s.flag (Reg.LMP_COEF_STATUS_SEALED n) then
    let s := s.setF (Reg.LMP_COEF_STATUS_LIVE_BANK n) (1 - s.f (Reg.LMP_COEF_STATUS_LIVE_BANK n))
    ((s.setF (Reg.LMP_COEF_STATUS_SEALED n) 0).setF (Reg.LMP_COEF_STATUS_STALE n) 0).incF (Reg.LMP_CNT_SWAP n) 1
  else
    raise (fev FK.LMP_SWAP_SKIP (lampSrc n) 2 (lampPc s n))
      ((s.setF (Reg.LMP_COEF_STATUS_STALE n) 1).incF (Reg.LMP_CNT_SKIP n) 1)

/-- LMP_COEF_CTRL.SWAP_NOW (R244). -/
def lampSwapNow (n : Nat) (s : State) : State :=
  if lampState s n = 0 ∧ s.flag (Reg.LMP_PORT_CFG_COEF_BANKED n) ∧ s.flag (Reg.LMP_COEF_STATUS_SEALED n) then lampSwap n s
  else s.setF (Reg.LMP_COEF_STATUS_SEAL_ERR n) 1

/-- An event enters the queue, or is lost (R237). -/
def lampEventIn (n v : Nat) (s : State) : State :=
  let l := s.lamp n
  if l.events.length < 16 then s.setLamp n { l with events := l.events ++ [v % 0x10000] }
  else raise (fev FK.LMP_EVT_LOST (lampSrc n) 2 (lampPc s n)) (s.incF (Reg.LMP_CNT_EVT_LOST n) 1)

/-! ## Actions at a lamp -/

/-- Lamps an action's target names. -/
def lampNamed (act t n : Nat) : Bool :=
  (act == 0x02 && (t == 0x1200 + n || t == 0x12FF)) || (act == 0x0B && (t == 0x9000 + n || t == 0x90FF))

/-- Execute slot's action at lamp n, a table swap by `swap`. An action for all lamps ends its occurrence when the last of the 64 has
executed it. -/
def lampActBy (swap : Nat → State → State) (n slot : Nat) (starved : Bool) (s : State) : State :=
  let r := slotRun s slot
  if r.units.testBit n then s
  else
    let all := slotTarget s slot == 0x12FF || slotTarget s slot == 0x90FF
    let s := if slotAct s slot = 0x02 then swap n s else lampEventIn n (slotArg s slot) s
    if all then
      let u := r.units + 2 ^ n
      if u = 2 ^ 64 - 1 then endDone slot starved s else setSlotRun slot { slotRun s slot with units := u } s
    else endDone slot starved s

/-- Execute slot's action at lamp n now. -/
def lampAct (n slot : Nat) (starved : Bool) (s : State) : State := lampActBy lampSwap n slot starved s

/-- A table swap that takes place when the lamp reads its oldest SIN record: coefficient loads issued before that read use the old bank
(R242). (DEDUCED, log 144.) -/
def lampSwapAtRead (n : Nat) (s : State) : State := s.setLamp n { s.lamp n with swaps := (s.lamp n).swaps + 1 }

/-- The table swaps that wait for the lamp's SIN read take place. -/
def lampSwapsDue (n : Nat) (s : State) : State :=
  (List.range (s.lamp n).swaps).foldl (fun s _ => lampSwap n s) (s.setLamp n { s.lamp n with swaps := 0 })

/-- A starved action at every lamp it has still to reach (R71, R236, R242). -/
def lampActStarved (slot : Nat) (s : State) : State :=
  let t := slotTarget s slot
  if t = 0x12FF ∨ t = 0x90FF then
    ((List.range 64).filter fun n => !(slotRun s slot).units.testBit n).foldl (fun s n => lampAct n slot true s) s
  else lampAct (t % 64) slot true s

/-- COUNT and domain of a header record. -/
def recCount (r : Record) : Nat :=
  r.lanes.getD 0 0 % 2 ^ 16 + 2 ^ 16 * (r.lanes.getD 1 0 % 2 ^ 16) + 2 ^ 32 * (r.lanes.getD 2 0 % 2 ^ 16) +
    2 ^ 48 * (r.lanes.getD 3 0 % 2 ^ 16)
def recDomain (r : Record) : Nat := r.lanes.getD 4 0 / 16 % 4

/-- The oldest SIN record of lamp n is a header at or above the occurrence's count (R191, R236, R242). -/
def sinHeaderAt (s : State) (slot n : Nat) : Bool :=
  (s.lamp n).sin.head?.any fun r => r.kind == 0 && recDomain r + 1 == slotDom s slot && decide (slotWhen s slot ≤ recCount r * chanF s)

/-- The occurrence has come to its point at lamp n: TB0, or a header; a swap also needs a lamp that reads (R236, R242, R247). -/
def lampAt (s : State) (slot n : Nat) : Bool :=
  lampNamed (slotAct s slot) (slotTarget s slot) n && !(slotRun s slot).units.testBit n &&
  (if slotDom s slot = 0 then decide (slotWhen s slot ≤ s.tb0)
   else sinHeaderAt s slot n && (slotAct s slot == 0x0B || lampRunning s n))

/-- Due actions of one code at lamp n for a header (R191, R236, R242). -/
def lampDue (n act : Nat) (r : Record) (s : State) : State :=
  runDue (recDomain r + 1) (recCount r * chanF s) (fun a t => a == act && lampNamed a t n) (fun slot s => lampAct n slot false s) s

/-- A header at the front of SIN has become readable: events due at it enter first (R236). -/
def sinReadable (n : Nat) (s : State) : State :=
  match (s.lamp n).sin with
  | r :: _ => if r.kind = 0 then lampDue n 0x0B r s else s
  | [] => s

/-- A part is offered to SIN, which takes it whole or not at all (R228). Answers whether it fitted. -/
def sinPush (n : Nat) (recs : List Record) (s : State) : Bool × State :=
  let l := s.lamp n
  if s.flag (Reg.LMP_PORT_CFG_SIN_EN n) && decide (l.sin.length + recs.length ≤ 512) then
    let s' := s.setLamp n { l with sin := l.sin ++ recs }
    (true, if l.sin.isEmpty then sinReadable n s' else s')
  else (false, s)

/-- Pop the oldest SIN record (R262). Its header executes the swaps due at it (R242), and the next record becomes readable. -/
def sinPop (n : Nat) (s : State) : Option Record × State :=
  let l := s.lamp n
  match l.sin with
  | [] => (none, s)
  | r :: rest =>
    let s := lampSwapsDue n (s.setLamp n { l with sin := rest })
    let s := if r.kind = 0 then reach (tgtLamp n) (recDomain r) (recCount r) (lampDue n 0x02 r s) else s
    (some r, sinReadable n s)

/-- Whether the next part to lamp n carries GAP; sending it clears the mark (R203, R229). -/
def takeGap (n : Nat) (s : State) : Bool := s.lens.gap.testBit n

def setGap (n : Nat) (b : Bool) (s : State) : State :=
  let g := s.lens.gap
  { s with lens := { s.lens with gap := if g.testBit n == b then g else g ^^^ 2 ^ n } }

end Sys2Proof.Machine
end

