-- ==== Sys2Proof/Machine/Dram.lean ====
section
/-! DEFINITION. Sys2Proof/Machine/Dram.lean: the contents of LPDDR6 by offset, the bits stored beside them, and the pieces that accesses
fall into (R452 to R458, R460). -/
namespace Sys2Proof.Machine

/-- Intervals [a, a + n) and [b, b + m) meet. -/
def meets (a n b m : Nat) : Bool := decide (a < b + m) && decide (b < a + n) && decide (0 < n) && decide (0 < m)

/-- Populated channels and LPDDR6 bytes (R451, R452). -/
def memChannels (s : State) : Nat := 2 ^ (1 + s.f Reg.MEM_GEOM_CHANNELS)
def dramBytes (s : State) : Nat := 2 ^ 30 * 2 ^ (1 + s.f Reg.MEM_GEOM_DENSITY) * memChannels s

def memReady (s : State) : Bool := s.flag Reg.MEM_STATUS_READY

/-- The sub-channel and the local offset of an LPDDR6 offset (R453). -/
def subChannel (s : State) (o : Nat) : Nat :=
  let g := o / 256
  (g ^^^ (g / 256) ^^^ (g / 65536)) % (2 * memChannels s)
def localOffset (s : State) (o : Nat) : Nat := o / 256 / (2 * memChannels s) * 256 + o % 256

/-- Put bytes at offsets within the populated capacity. -/
def dramPoke (l : List (Nat × Byte)) (s : State) : State :=
  let cap := dramBytes s
  { s with mem := { s.mem with dram := l.foldl (fun m x => if x.1 < cap then mapSet 0 m x.1 x.2 else m) s.mem.dram } }

/-- Number each byte of a list by its offset. -/
def atOffset (off : Nat) (bs : List Byte) : List (Nat × Byte) := bs.zipIdx.map fun x => (off + x.2, x.1)

/-- Bytes at offsets. -/
def dramPeek (s : State) (off n : Nat) : List Byte := mapGetList 0 s.mem.dram off n

/-- 64-byte beats of two requests overlap (R458). -/
def beatsMeet (a n b m : Nat) : Bool := decide (0 < n) && decide (0 < m) && decide (a / 64 ≤ (b + m - 1) / 64) && decide (b / 64 ≤ (a + n - 1) / 64)

/-- The pieces of [off, off + n) between multiples of `k`: the first byte and the length of each. -/
def alignedParts (k off n : Nat) : List (Nat × Nat) :=
  (List.range (if n = 0 then 0 else (off + n - 1) / k + 1 - off / k)).map fun i =>
    let lo := max off ((off / k + i) * k)
    (lo, min (off + n) ((off / k + i + 1) * k) - lo)

/-- The bursts of 32 bytes that [off, off + n) takes (R456), and their offsets. -/
def burstsOf (off n : Nat) : Nat := if n = 0 then 0 else (off + n - 1) / 32 + 1 - off / 32
def burstList (off n : Nat) : List Nat := (List.range (burstsOf off n)).map fun i => off / 32 * 32 + 32 * i

/-- Bytes in the order of their offsets, by the 256-byte granule they lie in: each granule is one sub-channel's (R453). -/
def granules : List (Nat × Byte) → List (List (Nat × Byte))
  | [] => []
  | x :: r =>
    match granules r with
    | (y :: t) :: u => if x.1 / 256 = y.1 / 256 then (x :: y :: t) :: u else [x] :: (y :: t) :: u
    | u => [x] :: u

/-! ## The bits beside the data (R454, R455) -/

/-- The 32 bits a burst carries beside its data: two check codes, the TAG, and bits [31:26]. -/
structure SideBits where
  code0 : BitVec 9
  code1 : BitVec 9
  tag : Nat
  top : Nat
deriving DecidableEq, Repr

/-- The TAG of the burst at offset o (R455). (DEDUCED, log 138.) -/
def memTag (o : Nat) : Nat := (leBytes 4 (o / 32)).foldl (crcByte 8 0x07) 0

/-- What is stored beside the data of the burst at offset o: every write of a burst writes it whole (R454, R457), so it always follows
from the data and the offset. -/
def sideBits (s : State) (o : Nat) : SideBits :=
  let half (k : Nat) : Nat := ofLe (dramPeek s (o / 32 * 32 + 16 * k) 16) + memTag o / 16 ^ k % 16 * 2 ^ 128
  { code0 := Config.memCode (half 0), code1 := Config.memCode (half 1), tag := memTag o, top := 0 }

/-- Those bits as a word. -/
def SideBits.word (x : SideBits) : Nat := x.code0.toNat + x.code1.toNat * 2 ^ 9 + x.tag * 2 ^ 18 + x.top * 2 ^ 26

end Sys2Proof.Machine
end

