-- ==== Sys2Proof/Machine/Mem.lean ====
section
/-! DEFINITION. Sys2Proof/Machine/Mem.lean: the LPDDR6 controller: checks, ports and scheduling, training, set points, refresh and
self-refresh (12_memory.md). Every access is a request at a port, issued in the controller's order. -/
namespace Sys2Proof.Machine

def memSet (f : MemState → MemState) (s : State) : State := { s with mem := f s.mem }

/-- The value of an object that no register holds, as a number. -/
def objNat (s : State) (key dflt : Nat) : Nat :=
  match s.objs.find? fun x => x.1 == key with
  | some x => ofLe x.2
  | none => dflt

/-! ## Checks of a burst (R456, R457) -/

/-- What the checks of a request's bursts find, by the burst's number from the first: each half's error, 1 a single bit, 2 an
uncorrectable one; a TAG error; and by how many bursts a fault of the command or address path slips the reads. -/
structure MemErrs where
  half : Nat → Nat → Nat
  tag : Nat → Bool
  slip : Nat

def MemErrs.none : MemErrs := { half := fun _ _ => 0, tag := fun _ => false, slip := 0 }

/-- The errors that an access's operand gives: a hexadecimal digit for each burst, its low two bits for half 0 and its high two bits for
half 1; 3 in half 0: a TAG error. -/
def MemErrs.ofDigits (err : Nat) : MemErrs :=
  { half := fun h i => let d := err / 16 ^ i / 4 ^ h % 4; if d = 3 then 0 else d,
    tag := fun i => err / 16 ^ i % 4 == 3, slip := 0 }

/-- The errors from burst k on. -/
def MemErrs.from (e : MemErrs) (k : Nat) : MemErrs := { e with half := fun h i => e.half h (i + k), tag := fun i => e.tag (i + k) }

/-- An error of a burst's check is counted and raised; the first uncorrectable or TAG error latches its address. -/
def memErr (kind off access master : Nat) (inj : Bool) (cnt : Field) (latch : Bool) (s : State) : State :=
  let s := s.incF cnt 1
  let a := 0x1000000000 + off
  let s := if latch ∧ !s.once Reg.MEM_ERR_ADDR_LO.key then
      (s.setF64 Reg.MEM_ERR_ADDR_LO Reg.MEM_ERR_ADDR_HI a).setOnce Reg.MEM_ERR_ADDR_LO.key true else s
  raise { kind := kind, src := 0x0C, sub := subChannel s off, addr := a, access := access, master := master, injected := inj } s

/-- One half's check, and what it finds: 0 no error, 1 single-bit, 2 uncorrectable. An inverted check bit adds to the errors there are
(R620). -/
def memHalf (half err off access master : Nat) (s : State) : Nat × State :=
  let ch := subChannel s off / 2
  let (inj, s) := injectCheck 0x0C (subChannel s off) half s
  let e := injected inj err
  if e = 0 then (0, s)
  else if e = 1 then (1, memErr FK.MEM_CE off access master inj.isSome (Reg.CH_CE ch) false s)
  else (2, memErr FK.MEM_UE off access master inj.isSome ⟨0xc0104 + ch * 32, 31, 0⟩ true s)

/-- A corrected burst is written back when WB_EN is 1, and always by the patrol; a merge writes the burst itself (R456, R457, R474). -/
def writeBack (access : Nat) (s : State) : State :=
  if access = 6 ∨ access ≠ 2 ∧ s.flag Reg.MEM_CTRL_WB_EN then perfEvent 0x0C 0x11 1 s else s

/-- Every read of a burst is checked: both halves, then the TAG (R456). Answers whether its data are good. -/
def burstCheck (off e0 e1 : Nat) (tag : Bool) (access master : Nat) (s : State) : Bool × State :=
  let off := off / 32 * 32
  let ch := subChannel s off / 2
  let (g0, s) := memHalf 0 e0 off access master s
  let (g1, s) := memHalf 1 e1 off access master s
  let (inj, s) := injectCheck 0x0C (subChannel s off) 2 s
  if g0 < 2 ∧ g1 < 2 then
    if tag || inj.isSome then
      (false, memErr FK.MEM_TAG off access master inj.isSome ⟨0xc0108 + ch * 32, 31, 0⟩ true s)
    else (true, if g0 = 1 ∨ g1 = 1 then writeBack access s else s)
  else (false, s)

/-- Where a read of the burst at `off` takes its bits from when a fault of the command or address path slips it by `slip` bursts. -/
def memSlip (s : State) (off slip : Nat) : Nat := (off / 32 + slip) % max 1 (dramBytes s / 32) * 32

/-- The corrected TAG that such a read finds differs from that of the address read (R455, R456). -/
def tagDiffers (s : State) (off slip : Nat) : Bool := slip != 0 && (sideBits s (memSlip s off slip)).tag != memTag off

/-- The bytes of [off, off + n) as reads slipped by `slip` bursts bring them. -/
def slipPeek (s : State) (off n slip : Nat) : List Byte :=
  if slip = 0 then dramPeek s off n
  else (List.range n).map fun i => mapGet 0 s.mem.dram (memSlip s (off + i) slip + (off + i) % 32)

/-- One burst of a request that starts at `base`, read and checked. -/
def burstOf (base : Nat) (e : MemErrs) (access master : Nat) (s : State) (b : Nat) : Bool × State :=
  let i := (b - base / 32 * 32) / 32
  burstCheck b (e.half 0 i) (e.half 1 i) (e.tag i || tagDiffers s b e.slip) access master s

/-- Reads of bursts, each checked; whether all are good. -/
def burstChecks (base : Nat) (l : List Nat) (e : MemErrs) (access master : Nat) (s : State) : Bool × State :=
  l.foldl (fun (a : Bool × State) b => let r := burstOf base e access master a.2 b; (a.1 && r.1, r.2)) (true, s)

/-- A read of MEM_ERR_ADDR_HI: the address, which it clears. -/
def memErrAddrRead (s : State) : Nat × State :=
  let a := s.f Reg.MEM_ERR_ADDR_HI
  (a, (s.setF64 Reg.MEM_ERR_ADDR_LO Reg.MEM_ERR_ADDR_HI 0).setOnce Reg.MEM_ERR_ADDR_LO.key false)

/-! ## Service of a request (R456 to R458) -/

/-- The answer to a read or a write: whether it succeeded, and a read's bytes. -/
abbrev ReadAns := Bool × List Byte

def zeros (n : Nat) : List Byte := List.replicate n 0

/-- A read: each 64-byte beat answers for itself, with its bytes or with an error and zeros (R456). -/
def serveRead (q : MemReq) (e : MemErrs) (s : State) : ReadAns × State :=
  (alignedParts 64 q.off q.n).foldl (fun (a : ReadAns × State) p =>
    let (ok, s) := burstChecks q.off (burstList p.1 p.2) e q.access q.master a.2
    let bs := if ok then slipPeek s p.1 p.2 e.slip else zeros p.2
    ((a.1.1 && ok, a.1.2 ++ bs), s.emit (.memAnswer q.master p.1 ok bs)))
    ((true, []), perfEvent 0x0C 0x10 (burstsOf q.off q.n) s)

/-- Read-modify-writes, and the bursts they read, as the performance counters see them (R457, R658). -/
def countMerges (n : Nat) (s : State) : State := if n = 0 then s else perfEvent 0x0C 0x12 n (perfEvent 0x0C 0x10 n s)

/-- The merge of R457 as a slipped read leaves it: bursts whose other bytes came from elsewhere. -/
def mergePoke (l : List Nat) (slip : Nat) (s : State) : State :=
  if slip = 0 then s else l.foldl (fun s b => dramPoke (atOffset b (slipPeek s b 32 slip)) s) s

/-- The bursts a write enables bytes of, and those of them it enables in part (R457, R482). -/
def writtenBursts (q : MemReq) : List Nat := (burstList q.off q.n).filter fun b => q.cells.any fun c => c.1 / 32 * 32 == b
def partBursts (q : MemReq) : List Nat :=
  (writtenBursts q).filter fun b => decide ((q.cells.filter fun c => c.1 / 32 * 32 == b).length < 32)

/-- A write: its partial bursts are read and merged, and a burst whose read fails is not written; of CXL.mem the whole write is discarded
then (R457, R515). -/
def serveWrite (q : MemReq) (e : MemErrs) (s : State) : ReadAns × State :=
  let part := partBursts q
  let (bad, s) := part.foldl (fun (a : List Nat × State) b =>
    let r := burstOf q.off e 2 q.master a.2 b
    (if r.1 then a.1 else b :: a.1, r.2)) (([], countMerges part.length s) : List Nat × State)
  let good := if q.port = 2 ∧ !bad.isEmpty then [] else (writtenBursts q).filter fun b => !bad.contains b
  let s := mergePoke (part.filter good.contains) e.slip (perfEvent 0x0C 0x11 good.length s)
  let s := dramPoke (q.cells.filter fun c => good.contains (c.1 / 32 * 32)) s
  ((bad.isEmpty, []), s.emit (.memAnswer q.master q.off bad.isEmpty []))

def memServe (q : MemReq) (e : MemErrs) (s : State) : ReadAns × State := if q.write then serveWrite q e s else serveRead q e s

/-! ## Self-refresh (R461, R467, R468) -/

/-- A channel that leaves self-refresh with a retraining due has it at once: its stored set is adjusted now (R461). -/
def srRetrained (c : Nat) (s : State) : State :=
  if s.mem.srRetrain.testBit c then
    { s with mem := { s.mem with srRetrain := s.mem.srRetrain ^^^ 2 ^ c,
                                 setTemp := mapSet 0 s.mem.setTemp (s.f Reg.MEM_STATUS_FSP_ACTIVE * 8 + c) (s.f (Reg.CH_TEMP_VALUE c)) } }
  else s

/-- A channel leaves self-refresh for a request; `entering`: the request arrived while it was entering, which CH_SR_WAKE counts once an
entry (R468). -/
def srWake (c : Nat) (entering : Bool) (s : State) : State :=
  let woke := entering && s.mem.entering.testBit c
  let s := memSet (fun m => { m with entering := if m.entering.testBit c then m.entering ^^^ 2 ^ c else m.entering }) (s.setF (Reg.CH_TEMP_IN_SR c) 0)
  if woke then s.incF ⟨0xc0110 + c * 32, 31, 0⟩ 1 else s

/-- A channel about to issue is out of self-refresh, retrained where that is due (R461, R468). -/
def srOut (c : Nat) (s : State) : State := if s.flag (Reg.CH_TEMP_IN_SR c) then srRetrained c (srWake c true s) else s

/-! ## Ports, classes and scheduling (R469 to R473) -/

/-- The class of a master's requests (R433, R469, R470). -/
def masterClass (s : State) (port m : Nat) : Nat :=
  if port ≤ 1 then 2
  else if port = 3 ∨ port = 4 then (if s.flag (Reg.CH_CFG_CLASS (m % 16)) then 2 else 3)
  else if port = 5 ∨ port = 7 then 3
  else match ([0x00, 0x01, 0x02, 0x03, 0x20, 0x21, 0x22] : List Nat).findIdx? (· == m) with
    | some i => natBits (s.f Reg.MEM_MASTER_CLASS) (2 * i + 1) (2 * i)
    | none => 3

/-- A port's target and priority; the patrol, 7 here, has no port and goes after the ports in its class. (DESIGN CHOICE, log 145.) -/
def portTarget (s : State) (q : Nat) : Nat := if q = 7 then 65535 else getBits (s.reg (0xc0030 + 4 * q)) 15 0
def portPrio (s : State) (q : Nat) : Nat := if q = 7 then 8 else getBits (s.reg (0xc0030 + 4 * q)) 18 16

/-- The effective class of a request (R471). -/
def effClass (s : State) (q : MemReq) : Nat :=
  let lim := s.f Reg.MEM_AGE_LIMIT_NS
  if lim = 0 then q.cls else q.cls - q.waited / lim

/-- The channel of a request, which lies in one granule. -/
def reqChannel (s : State) (q : MemReq) : Nat := subChannel s q.off / 2

/-- The requests of a channel that may issue: no earlier request overlaps them (R458). -/
def issuable (s : State) (c : Nat) : List MemReq → List MemReq → List MemReq
  | _, [] => []
  | before, q :: r =>
    let ok := reqChannel s q == c && !before.any fun p => beatsMeet p.off p.n q.off q.n
    (if ok then [q] else []) ++ issuable s c (before ++ [q]) r

/-- Keep the candidates with the least key. -/
def leastBy (key : MemReq → Int) (l : List MemReq) : List MemReq :=
  match l with
  | [] => []
  | q :: r => let m := r.foldl (fun a x => min a (key x)) (key q); l.filter fun x => key x == m

/-- Which of several requests hit an open row is not stated: free bits. (DESIGN CHOICE, log 73.) -/
def rowHits (hits : Nat) (l : List MemReq) : List MemReq :=
  if l.length ≤ 1 then l
  else
    let h := (l.zipIdx.filter fun x => hits.testBit x.2).map Prod.fst
    if h.isEmpty then l else h

/-- The request a channel issues (R471 to R473). -/
def memChoose (s : State) (c hits : Nat) : Option MemReq :=
  let cands := leastBy (fun q => effClass s q) (issuable s c [] s.mem.queue)
  if s.flag Reg.MEM_STATUS_MODE then
    let low := leastBy (fun q => portPrio s q.port) cands
    let last := mapGet 0 s.mem.lastPort (c * 16 + ((low.head?.map fun q => portPrio s q.port).getD 0))
    (rowHits hits (leastBy (fun q => ((q.port + 7 - last % 7) % 7 : Nat)) low)).head?
  else
    (rowHits hits (leastBy (fun q => (portTarget s q.port : Int) - (q.waited : Nat)) cands)).head?

/-- Remove the first occurrence of a request. -/
def dropReq (q : MemReq) (l : List MemReq) : List MemReq := l.erase q

/-- A request leaves the queue to issue. -/
def memTake (c : Nat) (q : MemReq) (s : State) : State :=
  let s := if effClass s q < q.cls then perfEvent 0x0C 0x14 1 s else s
  memSet (fun m => { m with queue := dropReq q m.queue, lastPort := mapSet 0 m.lastPort (c * 16 + portPrio s q.port) (q.port + 1) }) s

/-- A channel holds its traffic: it is in a retraining, or a switch is in progress (R461, R464). -/
def chanHolds (s : State) (c : Nat) : Bool := s.flag Reg.MEM_STATUS_SWITCHING || s.mem.periodic.testBit c

/-- [off, off + n) reaches a channel that holds its traffic. -/
def memHolds (s : State) (off n : Nat) : Bool :=
  memReady s && (alignedParts 256 off n).any fun p => chanHolds s (subChannel s p.1 / 2)

def memQueue (q : MemReq) (s : State) : State := memSet (fun m => { m with queue := m.queue ++ [q] }) s

/-- The channel issues until it has served request q, whose answer this is: requests that its order puts first are served first (R458,
R471 to R473). The fuel is the length of the queue. -/
def memUntil : Nat → Nat → MemReq → MemErrs → State → ReadAns × State
  | 0, c, q, e, s => memServe q e (memTake c q s)
  | fuel + 1, c, q, e, s =>
    if s.mem.queue = [q] then memServe q e (memTake c q s)
    else
      let (hits, s) := s.draw
      match memChoose s c hits with
      | none => memServe q e (memTake c q s)
      | some p => if p = q then memServe q e (memTake c q s) else memUntil fuel c q e (memServe p MemErrs.none (memTake c p s)).2

/-- The request that a master's access of [off, off + n), within one granule, makes. -/
def memReq (s : State) (master access off n : Nat) (cells : List (Nat × Byte)) : MemReq :=
  let port := if access = 6 then 7 else masterPort master
  { port := port, master := master, write := access == 2, access := access, off := off, n := n, cells := cells,
    cls := masterClass s port master, waited := 0 }

/-- An access that its maker waits for, carried out when the channel's order reaches it. On a channel that holds its traffic a write waits
in the queue; makers of reads wait for the channel first. (DEDUCED, log 74.) -/
def memAccess (q : MemReq) (e : MemErrs) (s : State) : ReadAns × State :=
  let c := reqChannel s q
  if q.write && chanHolds s c then ((true, []), memQueue q s)
  else memUntil (s.mem.queue.length + 1) c q e (memQueue q (srOut c s))

/-- An access of [off, off + n), granule by granule. Before READY it ends with an error response (R460), and so it does beyond the
populated capacity, with the matrix's fault (R18, R452). -/
def dramAccess (master access off n : Nat) (cells : List (Nat × Byte)) (e : MemErrs) (s : State) : ReadAns × State :=
  let none_ := if access = 2 then [] else zeros n
  if off + n > dramBytes s then ((false, none_), bmxFault FK.BMX_DECODE 8 (0x1000000000 + off) access master s)
  else if !memReady s then ((false, none_), s)
  else
    (alignedParts 256 off n).foldl (fun (a : ReadAns × State) p =>
      let q := memReq a.2 master access p.1 p.2 (cells.filter fun c => decide (p.1 ≤ c.1) && decide (c.1 < p.1 + p.2))
      let r := memAccess q (e.from (p.1 / 32 - off / 32)) a.2
      ((a.1.1 && r.1.1, a.1.2 ++ r.1.2), r.2)) ((true, []), s)

/-- A write of the bytes of one granule. -/
def granulePut (master : Nat) (g : List (Nat × Byte)) (s : State) : State :=
  (dramAccess master 2 ((g.head?.map Prod.fst).getD 0) g.length g MemErrs.none s).2

/-- A write by a block of the data path: 0x23 the export unit, 0xFF a ring writer (R469). -/
def dramPut (master : Nat) (l : List (Nat × Byte)) (s : State) : State := (granules l).foldl (fun s g => granulePut master g s) s

/-- Bytes that the export unit writes from an offset on. -/
def dramOut (off : Nat) (bs : List Byte) (s : State) : State := dramPut 0x23 (atOffset off bs) s

/-- A request beyond the populated capacity: the matrix raises its fault, ready or not (R18, R452). -/
def memBeyond (off n access master : Nat) (s : State) : State :=
  bmxFault FK.BMX_DECODE 8 (0x1000000000 + off) access master (s.respond false (if access = 2 then [] else zeros n))

/-- A bus master has 32 transactions outstanding in the matrix, and issues none (R478). -/
def memFull (s : State) (master : Nat) : Bool :=
  master != 0x23 && master != 0xFF && decide (32 ≤ (s.mem.queue.filter fun q => q.master == master).length)

/-- A request arrives at a master's port and waits there, granule by granule (R458, R460, R468, R469). -/
def memArrive (master access off n : Nat) (cells : List (Nat × Byte)) (s : State) : State :=
  if off + n > dramBytes s then memBeyond off n access master s
  else if !memReady s then s.respond false (if access = 2 then [] else zeros n)
  else if memFull s master then s
  else
    (alignedParts 256 off n).foldl (fun s p =>
      memQueue (memReq s master access p.1 p.2 (cells.filter fun c => decide (p.1 ≤ c.1) && decide (c.1 < p.1 + p.2))) s) s

/-- MEM_REQUEST. -/
def memRequest (master : Nat) (write : Bool) (off n : Nat) (data : List Byte) (s : State) : State :=
  memArrive master (if write then 2 else 1) off n (if write then atOffset off (fitBytes n data) else []) s

/-- A channel issues a request (R456, R457, R471), out of self-refresh. The errors are those its reads find. -/
def memIssue (c e0 e1 slip : Nat) (s : State) : State :=
  if !memReady s ∨ chanHolds s c then s
  else
    let (hits, s) := s.draw
    match memChoose s c hits with
    | none => s
    | some q =>
      let (r, s) := memServe q { half := fun h i => errDigit (if h = 0 then e0 else e1) i, tag := fun _ => false, slip := slip }
        (memTake c q (srOut c s))
      s.respond r.1 r.2

/-- The errors of one burst. -/
def MemErrs.one (e0 e1 slip : Nat) : MemErrs := { half := fun h _ => if h = 0 then e0 else e1, tag := fun _ => false, slip := slip }

/-- BURST_READ_CHECK: a read of one burst; while its channel holds its traffic it does not return. -/
def burstRead (off e0 e1 slip master : Nat) (s : State) : State :=
  if memHolds s off 32 then s
  else
    let (r, s) := dramAccess master 1 off 32 [] (MemErrs.one e0 e1 slip) s
    s.respond r.1 r.2

/-- PATROL_SCRUB: a request without a master, at TC3 (R470, R474). -/
def patrolScrub (e0 e1 slip : Nat) (s : State) : State :=
  if !memReady s ∨ !s.flag Reg.MEM_CTRL_SCRUB_EN ∨ memHolds s (s.mem.scrub * 32) 32 then s
  else
    let (_, s) := dramAccess 0xFF 6 (s.mem.scrub * 32) 32 [] (MemErrs.one e0 e1 slip) s
    memSet (fun m => { m with scrub := (m.scrub + 1) % max 1 (dramBytes s / 32) }) s

/-- Waiting requests wait n nanoseconds more, and a channel that has been entering self-refresh with no request has entered it (R468,
R471). -/
def memClock (n : Nat) (s : State) : State :=
  if s.mem.queue.isEmpty && s.mem.entering == 0 then s
  else
    memSet (fun m => { m with queue := m.queue.map fun (q : MemReq) => { q with waited := q.waited + n },
                              entering := sumOf ((List.range 8).map fun c =>
                                if m.entering.testBit c && s.mem.queue.any fun q => reqChannel s q == c then 2 ^ c else 0) }) s

/-! ## Training and set points (R459 to R465) -/

def memActive (s : State) : Nat := s.f Reg.MEM_STATUS_FSP_ACTIVE
def popMask (s : State) : Nat := 2 ^ memChannels s - 1
def chanTemp (s : State) (m : Nat) : Int := sext 8 (s.f (Reg.CH_TEMP_VALUE m))

/-- The stored set of set point k is valid (R462). -/
def setValid (s : State) (k : Nat) : Bool :=
  s.mem.trained.testBit k && (k == memActive s ||
    (List.range (memChannels s)).all fun m => decide ((chanTemp s m - sext 8 (mapGet 0 s.mem.setTemp (k * 8 + m))).natAbs ≤ 20))

/-- SET0_VALID and SET1_VALID follow. -/
def memShow (s : State) : State :=
  (s.setFlag Reg.MEM_TRAIN_STATUS_SET0_VALID (setValid s 0)).setFlag Reg.MEM_TRAIN_STATUS_SET1_VALID (setValid s 1)

/-- Set point k has been trained in full now. -/
def markTrained (k : Nat) (s : State) : State :=
  memSet (fun m => { m with trained := m.trained ||| 2 ^ k,
                            setTemp := (List.range 8).foldl (fun t c => mapSet 0 t (k * 8 + c) (s.f (Reg.CH_TEMP_VALUE c))) m.setTemp }) s

def unTrain (k : Nat) (s : State) : State :=
  memShow (memSet (fun m => { m with trained := if m.trained.testBit k then m.trained ^^^ 2 ^ k else m.trained }) s)

/-- The lowest channel of a mask. -/
def lowBit (m : Nat) : Nat := ((List.range 8).find? m.testBit).getD 0

def trainFail (mask : Nat) (s : State) : State := raise (fev FK.MEM_TRAIN_FAIL 0x0C (2 * lowBit mask) 0) s

/-- MEM_CTRL.INIT (R460). The populated parts are those of the identity object mem_fitted. (DEDUCED, log 115.) -/
def memInit (s : State) : State :=
  if memReady s ∨ s.mem.initing then s
  else if (s.reg Reg.MEM_GEOM_CHANNELS.key).toNat ≠ objNat s 0x000008 0xA then
    (s.setF Reg.MEM_STATUS_COMMIT_ERR 1).setF Reg.MEM_STATUS_ERR_CODE 2
  else
    let s := s.setFlag Reg.MEM_STATUS_MODE (memChannels s == 8)
    memSet (fun m => { m with initing := true }) ((s.setF Reg.MEM_STATUS_TRAINING 1).setF Reg.MEM_TRAIN_STATUS_FAIL_CH 0)

/-- Full training after INIT ends; `fail`: the channels that failed. -/
def memTrainingComplete (fail : Nat) (s : State) : State :=
  if !s.mem.initing then s
  else
    let f := fail &&& popMask s
    let s := memSet (fun m => { m with initing := false }) ((s.setF Reg.MEM_STATUS_TRAINING 0).setF Reg.MEM_TRAIN_STATUS_FAIL_CH f)
    if f = 0 then memShow (markTrained 0 (s.setF Reg.MEM_STATUS_READY 1)) else trainFail f s

/-- A switch begins (R464, steps 1 to 3); channels leave self-refresh, retrained where that is due (R461). -/
def fspBegin (s : State) : State :=
  let s := memShow ((List.range 8).foldl (fun s c => srRetrained c (srWake c false s)) s)
  (s.setF Reg.MEM_STATUS_SWITCHING 1).setFlag Reg.MEM_STATUS_TRAINING
    (!setValid s (1 - memActive s))

/-- MEM_FSP_CTRL.REQ (R463, R465). -/
def fspReq (s : State) : State :=
  if !memReady s ∨ s.flag Reg.MEM_STATUS_SWITCHING ∨ s.flag Reg.MEM_TRAIN_STATUS_DEFERRED then s.setF Reg.MEM_STATUS_REFUSED 1
  else if s.flag Reg.MEM_STATUS_TRAINING then
    raise (fev FK.MEM_FSP_DEFER 0x0C 0 0) ((s.setF Reg.MEM_TRAIN_STATUS_DEFERRED 1).incF Reg.CNT_DEFER 1)
  else fspBegin s

/-- A switch ends (R464, steps 4 to 6); `fail`: the channels whose training failed, if the target was trained. -/
def fspSwitchComplete (fail : Nat) (s : State) : State :=
  if !s.flag Reg.MEM_STATUS_SWITCHING then s
  else
    let k := 1 - memActive s
    let f := if s.flag Reg.MEM_STATUS_TRAINING then fail &&& popMask s else 0
    let trained := s.flag Reg.MEM_STATUS_TRAINING
    let s := (s.setF Reg.MEM_STATUS_SWITCHING 0).setF Reg.MEM_STATUS_TRAINING 0
    let s := if trained then s.setF Reg.MEM_TRAIN_STATUS_FAIL_CH f else s
    if f = 0 then
      let s := (if trained then markTrained k s else s).setF Reg.MEM_STATUS_FSP_ACTIVE k
      raise (fev FK.MEM_FSP_SWITCH 0x0C 0 0) (memShow (s.incF Reg.CNT_SWITCH 1))
    else trainFail f (unTrain k (s.incF Reg.CNT_SWITCH_FAIL 1))

/-- MEM_FSP_CTRL.INVALIDATE (R462). -/
def fspInvalidate (s : State) : State := unTrain (1 - memActive s) s

/-- A write of a set point's rate (R459, R462). -/
def fspRateWrite (k v : Nat) (s : State) : State :=
  if v > 4 ∨ k = memActive s then s.setF Reg.MEM_STATUS_REFUSED 1
  else unTrain k (s.setF (if k = 0 then Reg.MEM_FSP0_RATE else Reg.MEM_FSP1_RATE) v)

/-- A periodic retraining of a channel is due (R461). -/
def periodicRetrain (c : Nat) (s : State) : State :=
  if !memReady s ∨ c ≥ memChannels s ∨ s.flag Reg.MEM_STATUS_SWITCHING then s
  else if s.flag (Reg.CH_TEMP_IN_SR c) then memSet (fun m => { m with srRetrain := m.srRetrain ||| 2 ^ c }) s
  else memSet (fun m => { m with periodic := m.periodic ||| 2 ^ c }) (s.setF Reg.MEM_STATUS_TRAINING 1)

/-- It ends: the channel's stored set is adjusted, and a deferred switch proceeds (R461, R463). -/
def periodicComplete (c : Nat) (s : State) : State :=
  if !s.mem.periodic.testBit c then s
  else
    let k := memActive s
    let s := memSet (fun m => { m with periodic := m.periodic ^^^ 2 ^ c,
                                       setTemp := mapSet 0 m.setTemp (k * 8 + c) (s.f (Reg.CH_TEMP_VALUE c)) }) s
    if s.mem.periodic ≠ 0 then s
    else
      let s := s.setF Reg.MEM_STATUS_TRAINING 0
      if s.flag Reg.MEM_TRAIN_STATUS_DEFERRED then fspBegin (s.setF Reg.MEM_TRAIN_STATUS_DEFERRED 0) else s

/-! ## Refresh and self-refresh (R466 to R468) -/

/-- One channel's temperature status. -/
def tempRead (c : Nat) (t : Int) (s : State) : State :=
  if s.flag (Reg.CH_TEMP_IN_SR c) then s
  else
    let s := s.setF (Reg.CH_TEMP_VALUE c) (wrap 8 t)
    if t > 85 ∧ !s.flag (Reg.CH_TEMP_REFRESH_X2 c) then
      raise (fev FK.MEM_REFRESH_X2 0x0C (2 * c) 0) (s.setF (Reg.CH_TEMP_REFRESH_X2 c) 1)
    else if t ≤ 80 then s.setF (Reg.CH_TEMP_REFRESH_X2 c) 0
    else s

/-- TEMP_POLL: the readings of channels 0, 1, … in °C. -/
def tempPoll (ts : List Int) (s : State) : State :=
  memShow (((ts.take (memChannels s)).zipIdx).foldl (fun s x => tempRead x.2 x.1 s) s)

/-- A channel begins to enter self-refresh (R467); it has entered it when the block next ticks with no request for it, and SR_EXIT tells
otherwise. -/
def srEntry (c : Nat) (s : State) : State :=
  if !s.flag Reg.MEM_CTRL_SR_EN ∨ !memReady s ∨ c ≥ memChannels s ∨ s.flag (Reg.CH_TEMP_IN_SR c) ∨ chanHolds s c ∨
      s.mem.queue.any (fun q => reqChannel s q == c) then s
  else memSet (fun m => { m with entering := m.entering ||| 2 ^ c }) ((s.setF (Reg.CH_TEMP_IN_SR c) 1).incF ⟨0xc010c + c * 32, 31, 0⟩ 1)

/-- SR_EXIT: a waiting request makes its channel leave self-refresh, and a retraining that is due goes first (R461, R468). -/
def srExit (c : Nat) (entering : Bool) (s : State) : State :=
  if !s.flag (Reg.CH_TEMP_IN_SR c) ∨ !s.mem.queue.any (fun q => reqChannel s q == c) then s
  else
    let s := srWake c entering s
    if s.mem.srRetrain.testBit c then
      periodicRetrain c (memSet (fun m => { m with srRetrain := m.srRetrain ^^^ 2 ^ c }) s)
    else s

/-! ## The MEM group (R732) -/

def memGroupErr (s : State) : Nat :=
  if memReady s then 1
  else if s.f Reg.MEM_GEOM_CHANNELS = 3 ∨ s.f Reg.MEM_GEOM_DENSITY = 3 then 3 else 0

def memCommit (s : State) : State :=
  let new := s.commitRange 0xC0000 0xD0000
  let e := memGroupErr new
  if e ≠ 0 then (s.setF Reg.MEM_STATUS_COMMIT_ERR 1).setF Reg.MEM_STATUS_ERR_CODE e else new

end Sys2Proof.Machine
end

