-- ==== Sys2Proof/Machine/StgCore.lean ====
section
/-! DEFINITION. Sys2Proof/Machine/StgCore.lean: the staging sets, their halves, counters and sample fates (07_staging.md). -/
namespace Sys2Proof.Machine

def State.setRun (s : State) (j : Nat) : SetRun := mapGet SetRun.reset s.stg.sets j

def putSetRun (j : Nat) (r : SetRun) (s : State) : State :=
  { s with stg := { s.stg with sets := mapSet SetRun.reset s.stg.sets j r } }

/-! ## Counters -/

/-- The set counters in offset order (R302 and the STG page). -/
inductive SetCnt where
  | arrived | accum | excl | pending | dropPkt | dropLate | dropDup | dropMismatch | dropNostage | dropHalf | dropSkip
  | winHanded | winDiscarded | winAbsent | verdictMiss | verdictStray | inspectDrop | rfiMarks
deriving DecidableEq, Repr

def SetCnt.index : SetCnt → Nat
  | .arrived => 0 | .accum => 1 | .excl => 2 | .pending => 3 | .dropPkt => 4 | .dropLate => 5 | .dropDup => 6
  | .dropMismatch => 7 | .dropNostage => 8 | .dropHalf => 9 | .dropSkip => 10 | .winHanded => 11 | .winDiscarded => 12
  | .winAbsent => 13 | .verdictMiss => 14 | .verdictStray => 15 | .inspectDrop => 16 | .rfiMarks => 17

def setCntLo (j : Nat) (c : SetCnt) : Field := ⟨0xF0800 + j * 0x100 + 8 * c.index, 31, 0⟩
def setCntHi (j : Nat) (c : SetCnt) : Field := ⟨0xF0804 + j * 0x100 + 8 * c.index, 31, 0⟩

def setCount (j : Nat) (c : SetCnt) (n : Nat) (s : State) : State :=
  if n = 0 then s else s.inc64 (setCntLo j c) (setCntHi j c) n

/-- A cell's mark once STG_COMMIT.CLEAR_CNT has zeroed the counters that hold its sample: its fate counts in none of them. -/
def clearedCell (v : Nat) : Nat := if v = 0 ∨ 2 < v then v else v + 2

/-- PENDING falls as fates are decided (R302). -/
def unPend (j n : Nat) (s : State) : State :=
  s.setF64 (setCntLo j .pending) (setCntHi j .pending) (s.f64 (setCntLo j .pending) (setCntHi j .pending) - n)

/-- Copy the set counters of all four sets to their snapshot copies (R303). -/
def snapSets (s : State) : State :=
  (List.range 4).foldl (fun s j => (List.range 36).foldl (fun s w =>
    s.setReg (0xF0C00 + j * 0x100 + 4 * w) (s.reg (0xF0800 + j * 0x100 + 4 * w))) s) s

/-- Add to field i of a position record: 0 ARRIVED, 1 ACCUM, 2 EXCL, 3 DROP (R304). -/
def posCount (q i n : Nat) (s : State) : State :=
  { s with stg := { s.stg with pos := mapSet 0 s.stg.pos (q * 4 + i) ((mapGet 0 s.stg.pos (q * 4 + i) + n) % 2 ^ 64) } }

def laneUnmapped (lane n : Nat) (s : State) : State :=
  if n = 0 then s else s.inc64 (Reg.STG_LANE_UNMAPPED_LO lane) (Reg.STG_LANE_UNMAPPED_HI lane) n

def laneFmt (lane n : Nat) (s : State) : State := if n = 0 then s else s.incF (Reg.STG_LANE_FMT lane) n

/-- STG_COMMIT.CLEAR_CNT (R304): every set, position and lane counter is zeroed, PENDING with them. Samples then pending leave the
accounts whole: their fates are not counted, so that ARRIVED stays the sum of the rest (R731). (DESIGN CHOICE, log 121.) -/
def stgClearCnt (s : State) : State :=
  let s := s.resetRange 0xF0800 0xF0C00
  let s := s.resetRange 0xF3000 0xF3800
  let clear (w : Win) : Win := { w with cells := w.cells.map fun c => (c.1, clearedCell c.2) }
  { s with stg := { s.stg with pos := [], sets := s.stg.sets.map fun x => (x.1, { x.2 with wins := x.2.wins.map clear }),
                               gone := s.stg.gone.map fun x => (x.1, clear x.2) } }

/-! ## Geometry -/

/-- Bytes of a staging half: where half h starts in the staging SRAM (R304). -/
def halfBase (s : State) (h : Nat) : Nat := if s.isFX then 0x2000000 + h * 0x1000000 else h * 0x2000000

def halfSize (s : State) : Nat := if s.isFX then 0x1000000 else 0x2000000

def Win.bytes (w : Win) : Nat := if w.fmt = 1 then 2 else 1

/-- Offset in the staging SRAM of local position p, channel index c, dwell offset t of a window (R284). -/
def winAddr (s : State) (w : Win) (p c t : Nat) : Nat :=
  halfBase s (w.k % 2) + w.base * 0x10000 + ((c * w.dlen + t) * w.nin + p) * w.bytes

def Win.cell (w : Win) (p c t : Nat) : Nat := mapGet 0 w.cells ((c * w.nin + p) * w.dlen + t)

/-- A stored sample (R284, R117). -/
def winSample (s : State) (w : Win) (p c t : Nat) : Int × Int :=
  let a := winAddr s w p c t
  let byte (o : Nat) : Nat := (mapGet 0 s.stg.sram (a + o)).toNat
  if w.fmt = 1 then (sext 8 (byte 0), sext 8 (byte 1)) else (sext 4 (byte 0 / 16), sext 4 (byte 0))

/-- FILL(p, c) of a window (R295). -/
def Win.fill (w : Win) (p c : Nat) : Bool := (List.range w.dlen).all fun t => w.cell p c t % 2 == 1

/-- Stored samples of a window that are in the accounts, by position: (position, how many), for one channel index. -/
def Win.stored (w : Win) (c : Nat) : List (Nat × Nat) :=
  let n := w.nin * w.dlen
  let cs := w.cells.filter fun x => x.1 / n == c && decide (x.2 ≤ 2)
  cs.foldr (fun x a =>
    let p := x.1 % n / w.dlen
    match a with
    | (p', m) :: r => if p' = p then (p, m + 1) :: r else (p, 1) :: (p', m) :: r
    | [] => [(p, 1)]) []

/-! ## Halves -/

def putWins (j : Nat) (ws : List Win) (s : State) : State :=
  let s := putSetRun j { s.setRun j with wins := ws } s
  let st (h : Nat) : Nat := ((ws.filter fun w => w.k % 2 == h).getLast?.map Win.state).getD 0
  (s.setF (Reg.SET_STATE_HALF0 j) (st 0)).setF (Reg.SET_STATE_HALF1 j) (st 1)

def findWin (s : State) (j k : Nat) : Option Win := (s.setRun j).wins.find? fun w => w.k == k

/-- A window by its number, wherever its samples still are. -/
def anyWin (s : State) (j k : Nat) : Option Win :=
  match findWin s j k with
  | some w => some w
  | none => (s.stg.gone.find? fun x => x.1 == j && x.2.k == k).map Prod.snd

def insWin (w : Win) : List Win → List Win
  | [] => [w]
  | a :: r => if w.k < a.k then w :: a :: r else if w.k = a.k then w :: r else a :: insWin w r

def putWin (j : Nat) (w : Win) (s : State) : State := putWins j (insWin w (s.setRun j).wins) s

def delWin (j k : Nat) (s : State) : State := putWins j ((s.setRun j).wins.filter fun w => w.k != k) s

/-! ## Fates (R302, R731) -/

/-- Decide the fate of the stored samples of one channel index of a window: `f p` is 0 ACCUM, 1 EXCL, 2 DROP with the
cause `cause`. -/
def fateChan (j : Nat) (w : Win) (c : Nat) (cause : SetCnt) (f : Nat → Nat) (s : State) : State :=
  (w.stored c).foldl (fun s x =>
    let v := f x.1
    let s := posCount (w.posFirst + x.1) (v + 1) x.2 s
    let s := unPend j x.2 s
    let s := if v = 2 then perfEvent 0x0F 0x11 x.2 s else s
    setCount j (if v = 0 then .accum else if v = 1 then .excl else cause) x.2 s) s

/-- Drop every stored sample of a window with one cause. -/
def dropWin (j : Nat) (w : Win) (cause : SetCnt) (s : State) : State :=
  (List.range w.nch).foldl (fun s c => fateChan j w c cause (fun _ => 2) s) s

/-- The lantern array releases a window (R294, R338): `acc` are the channel indices accumulated. -/
def releaseWin (j k : Nat) (acc : List Nat) (s : State) : State :=
  let fates (w : Win) (s : State) : State :=
    if w.state = 0 then s
    else
      (List.range w.nch).foldl (fun s c =>
        let v := mapGet [] w.valid c
        fateChan j w c .dropSkip (fun p => if !acc.contains c then 2 else if v.getD p 0 = 1 then 0 else 1) s) s
  match findWin s j k with
  | some w => setCount j .winHanded 1 (delWin j k (fates w s))
  | none =>
    match s.stg.gone.find? fun x => x.1 == j && x.2.k == k with
    | none => s
    | some x =>
      let s := fates x.2 s
      let s := { s with stg := { s.stg with gone := s.stg.gone.filter fun y => !(y.1 == j && y.2.k == k) } }
      if x.2.state = 0 then s else setCount j .winHanded 1 s

end Sys2Proof.Machine
end

