-- ==== Sys2Proof/Machine/Mantle.lean ====
section
/-! DEFINITION. Sys2Proof/Machine/Mantle.lean: mantle slots, promotion arithmetic, dimming, drains and dump images
(09_mantle.md). -/
namespace Sys2Proof.Machine

/-! ## Access -/

def State.mslot (s : State) (n : Nat) : MSlot := mapGet MSlot.reset s.mnt.slots n

def putSlot (n : Nat) (m : MSlot) (s : State) : State :=
  { s with mnt := { s.mnt with slots := mapSet MSlot.reset s.mnt.slots n m } }

def State.mjob (s : State) (j : Nat) : MntJob := mapGet MntJob.reset s.mnt.jobs j

def putMjob (j : Nat) (m : MntJob) (s : State) : State :=
  { s with mnt := { s.mnt with jobs := mapSet MntJob.reset s.mnt.jobs j m } }

def State.lantern (s : State) (l : Nat) : Lantern := mapGet Lantern.reset s.lan.lanterns l

def putLantern (l : Nat) (x : Lantern) (s : State) : State :=
  { s with lan := { s.lan with lanterns := mapSet Lantern.reset s.lan.lanterns l x } }

def putJobRun (j : Nat) (r : JobRun) (s : State) : State :=
  { s with lan := { s.lan with jobs := mapSet JobRun.reset s.lan.jobs j r } }

def findPeriod (s : State) (j serial : Nat) : Option Period := (s.mjob j).periods.find? fun p => p.serial == serial

def updPeriod (j serial : Nat) (f : Period → Period) (s : State) : State :=
  let m := s.mjob j
  putMjob j { m with periods := m.periods.map fun p => if p.serial = serial then f p else p } s

/-! ## Random bits (R340, R358, R360) -/

/-- One step of the generator of R340. -/
def xorshift (x : Nat) : Nat :=
  let x := x ^^^ ((x <<< 13) % 2 ^ 64)
  let x := x ^^^ (x >>> 7)
  x ^^^ ((x <<< 17) % 2 ^ 64)

/-- A generator with the unused bits of its latest output. -/
structure Rng where
  state : Nat
  pool : Nat
  left : Nat
deriving DecidableEq, Repr

def Rng.step (g : Rng) : Rng := let x := xorshift g.state; { state := x, pool := x, left := 64 }

/-- Take the lowest n unused bits of the latest output, stepping first when fewer remain. -/
def Rng.take (g : Rng) (n : Nat) : Nat × Rng :=
  let g := if g.left < n then g.step else g
  (g.pool % 2 ^ n, { g with pool := g.pool >>> n, left := g.left - n })

/-! ## Entries -/

def MSlot.entry (m : MSlot) (e : Nat) : MEntry := mapGet MEntry.reset m.entries e

def MSlot.setEntry (m : MSlot) (e : Nat) (x : MEntry) : MSlot := { m with entries := mapSet MEntry.reset m.entries e x }

def MEntry.poisoned (x : MEntry) : Bool := x.tally == 0x8000

/-- An increment of a shortfall tally (R352). -/
def tallyInc (t : Nat) : Nat := if t % 0x8000 = 0x7FFF then 0xFFFF else t + 1

/-- Entry number of position (i, j) of a task's lantern square: a cell in C4, a gang of quarter q in C8 (R319, R351). -/
def taskEntry (t : Task) (i j : Nat) : Nat :=
  if t.c8 then 64 * (32 * (t.quarter / 2) + i) + 32 * (t.quarter % 2) + j else 64 * i + j

/-- Rows of a task's square. -/
def taskSide (t : Task) : Nat := if t.c8 then 32 else 64

/-- The entries a task covers, in ascending order, with the row and column of each. -/
def taskCells (t : Task) : List (Nat × Nat × Nat) :=
  (List.range (taskSide t)).flatMap fun i => (List.range (taskSide t)).map fun j => (taskEntry t i j, i, j)

/-! ## Check errors (R377) -/

/-- Who reads a store of a block: the ACCESS and MASTER of the events its check raises, and on a bus access the physical address that
stands in ADDR (R598 to R600). -/
structure StoreRead where
  access : Nat
  master : Nat
  addr : Option Nat
deriving DecidableEq, Repr

/-- The block itself. -/
def ownRead : StoreRead := { access := 5, master := 0xFF, addr := none }

/-- A bus master's debug read at an address. -/
def debugRead (master addr : Nat) : StoreRead := { access := 7, master := master, addr := some addr }

/-- An event of a block's store. -/
def storeEv (by_ : StoreRead) (kind src sub addr : Nat) (inj : Bool) : FaultEv :=
  { kind := kind, src := src, sub := sub, addr := by_.addr.getD addr, access := by_.access, master := by_.master, injected := inj }

def mntEv (kind job slot : Nat) (inj : Bool) : FaultEv := storeEv ownRead kind 0x11 job slot inj

/-- Poison one entry: its tally is no longer zero, so the slot is not CLEAN (R353, R377). -/
def poisonEntry (n e : Nat) (s : State) : State :=
  putSlot n { (s.mslot n).setEntry e { re := 0, im := 0, tally := 0x8000 } with poison := true, clean := false } s

/-- The check of one entry of a slot, or of its header (e = 4096), finds an error: `sev` 1 correctable, 2 not. -/
def mntError (by_ : StoreRead) (job n e sev : Nat) (inj : Bool) (s : State) : State :=
  if sev = 0 then s
  else if sev = 1 then raise (storeEv by_ FK.MNT_ECC_CE 0x11 job n inj) (s.incF Reg.MNT_ECC_CORR 1)
  else
    let s := if e = 4096 then (List.range 4096).foldl (fun s e => poisonEntry n e s) s else poisonEntry n e s
    raise (storeEv by_ FK.MNT_ECC_UE 0x11 job n inj) (s.incF Reg.MNT_ECC_UNCORR 1)

/-- The errors `real` found over the entries read and the header, and what an armed injection at the checkers of the slot's slice makes
of them (R620, R621). -/
def mntInject (by_ : StoreRead) (job n : Nat) (es : List Nat) (real : List (Nat × Nat)) (s : State) : State :=
  let plain (l : List (Nat × Nat)) (s : State) : State := l.foldl (fun s x => mntError by_ job n x.1 x.2 false s) s
  let at_ (e : Nat) : List (Nat × Nat) := real.filter fun x => x.1 == e
  match s.flt.inj with
  | none => plain real s
  | some i =>
    if i.src = 0x11 ∧ i.sub = n % 256 then
      let targets := if i.chk = 1 then [4096] else es
      plain (real.filter fun x => !targets.contains x.1) (targets.foldl (fun s e =>
        let (r, s) := injectCheck 0x11 (n % 256) i.chk s
        if r.isSome then mntError by_ job n e (injected r (sumOf ((at_ e).map Prod.snd))) true s else plain (at_ e) s) s)
    else plain real s

/-- Stored bits go wrong: each pair names 8192 × (slot + 1) + entry number (4096 the header) and 1 single or 2 double. They stay
so until they are read, or the slot is cleared. -/
def mntUpset (errs : List (Nat × Nat)) (s : State) : State :=
  errs.foldl (fun s x =>
    let n := x.1 / 8192 - 1
    if n < 8448 then putSlot n { s.mslot n with upsets := (x.1 % 8192, x.2) :: (s.mslot n).upsets } s else s) s

/-- The check errors found while entries es of a slot and its header are read (R377): those given for this slot, those its stored
bits already hold, and injected ones. Bits of an entry that is not read stay as they are. -/
def mntChecks (by_ : StoreRead) (job n : Nat) (es : List Nat) (errs : List (Nat × Nat)) (s : State) : State :=
  let s := mntUpset (errs.filter fun x => decide (8192 ≤ x.1)) s
  let found := errs.filter (fun x => decide (x.1 < 8192)) ++ (s.mslot n).upsets
  let met (x : Nat × Nat) : Bool := es.contains x.1 || x.1 == 4096
  let s := if found.isEmpty then s else putSlot n { s.mslot n with upsets := found.filter fun x => !met x } s
  mntInject by_ job n es (found.filter met) s

/-! ## Promotion and dimming -/

/-- A dimming pass (R360). -/
def dimPass (m : MSlot) (g : Rng) : MSlot × Rng :=
  let step (a : MSlot × Rng) (e : Nat) : MSlot × Rng :=
    let x := a.1.entry e
    let (r1, g) := a.2.take 1
    let (r2, g) := g.take 1
    if x.poisoned then (a.1, g)
    else (a.1.setEntry e { x with re := (x.re + r1) / 2, im := (x.im + r2) / 2 }, g)
  let (m, g) := (List.range 4096).foldl step (m, g.step)
  ({ m with exp := m.exp + 1, dimPend := false }, g)

/-- What a promotion does to a slot: the slot, the generator, saturated components, whether a component reached 2^34. -/
structure PromoRes where
  m : MSlot
  g : Rng
  sats : Nat
  big : Bool
deriving DecidableEq, Repr

/-- Steps 3 and 4 of R356 on one entry. -/
def promoEntry (e : Nat) (inval : Bool) (a : Int × Int) (r : PromoRes) : PromoRes :=
  let sh := r.m.exp
  let (r1, g) := r.g.take sh
  let (r2, g) := g.take sh
  let x := r.m.entry e
  if x.poisoned then { r with g := g }
  else
    let re := x.re + (a.1 + r1) / 2 ^ sh
    let im := x.im + (a.2 + r2) / 2 ^ sh
    let re' := satS 36 re
    let im' := satS 36 im
    let t := if inval then tallyInc x.tally else x.tally
    { m := { r.m.setEntry e { re := re', im := im', tally := t } with tallySat := r.m.tallySat || decide (t ≥ 0x8000) },
      g := g, sats := r.sats + b2n (outS 36 re) + b2n (outS 36 im),
      big := r.big || decide (re'.natAbs ≥ 2 ^ 34) || decide (im'.natAbs ≥ 2 ^ 34) }

/-- A period is still to be drained, so that its promotions count (R332, R372). -/
def periodLive (s : State) (t : Task) : Bool := (findPeriod s t.job t.serial).isSome

/-- Apply a promotion to its slot (R356 to R358). -/
def promoApply (t : Task) (vr vc : List Nat) (acc : List (Int × Int)) (errs : List (Nat × Nat)) (s : State) : State :=
  if !periodLive s t then s
  else
    let cells := taskCells t
    let m0 := s.mslot t.slot
    -- a dimming pass reads every entry of the slot (R360, R377)
    let read := if m0.dimPend && t.tag == m0.tag then List.range 4096 else cells.map Prod.fst
    let s := mntChecks ownRead t.job t.slot read errs s
    let m := s.mslot t.slot
    if t.tag ≠ m.tag then raise (mntEv FK.MNT_TAG t.job t.slot false) (s.incF Reg.MNT_TAG_ERR 1)
    else
      let g0 : Rng := { state := (s.lantern t.lantern).gen, pool := 0, left := 0 }
      let dim := m.dimPend
      let (m, g) := if dim then dimPass m g0 else (m, g0)
      let g := if m.exp > 0 then g.step else { g with left := 0 }
      let r := (cells.zip acc).foldl (fun r x =>
          promoEntry x.1.1 (vr.getD x.1.2.1 0 == 0 || vc.getD x.1.2.2 0 == 0) x.2 r)
        { m := m, g := g, sats := 0, big := false }
      let m' : MSlot := { r.m with promos := (r.m.promos + 1) % 2 ^ 32, clean := false }
      let satNew := decide (r.sats > 0) && !m'.sat
      let m' : MSlot := { m' with sat := m'.sat || decide (r.sats > 0) }
      let m' : MSlot := if r.big then (if m'.exp < 15 then { m' with dimPend := true } else { m' with expMax := true }) else m'
      let s := putSlot t.slot m' s
      let s := putLantern t.lantern { s.lantern t.lantern with gen := r.g.state } s
      let s := s.incF Reg.MNT_SAT_CNT r.sats
      let s := if dim then perfEvent 0x11 0x11 1 (s.incF Reg.MNT_DIM_CNT 1) else s
      let s := perfEvent 0x11 0x10 1 s
      let s := if satNew then raise (mntEv FK.MNT_SAT t.job t.slot false) s else s
      if r.big && m'.expMax && !((findPeriod s t.job t.serial).map Period.expMaxRaised).getD true then
        raise (mntEv FK.MNT_EXP_MAX t.job t.slot false) (updPeriod t.job t.serial (fun p => { p with expMaxRaised := true }) s)
      else s

/-- A notice's task on its slot: steps 1, 4 and 5 of R356 with validity bits of 0 (R362). -/
def noticeApply (t : Task) (s : State) : State :=
  if !periodLive s t then s
  else
    let s := mntChecks ownRead t.job t.slot ((taskCells t).map Prod.fst) [] s
    let m := s.mslot t.slot
    if t.tag ≠ m.tag then raise (mntEv FK.MNT_TAG t.job t.slot false) (s.incF Reg.MNT_TAG_ERR 1)
    else
      let m := (taskCells t).foldl (fun m c =>
        let x := m.entry c.1
        if x.poisoned then m
        else
          let v := tallyInc x.tally
          { m.setEntry c.1 { x with tally := v } with tallySat := m.tallySat || decide (v ≥ 0x8000) }) m
      putSlot t.slot { m with promos := (m.promos + 1) % 2 ^ 32, clean := false } s

/-! ## Scoreboard (R364) -/

def SlotOp.serial : SlotOp → Nat
  | .promo t _ _ _ _ => t.serial
  | .notice t => t.serial
  | .drain n => n
  | .clear _ n => n
  | .tagSet _ => 0

/-- Put an operation in arrival order; one of a period that a queued clear comes after goes before that clear (R372). -/
def insertOp (op : SlotOp) : List SlotOp → List SlotOp
  | [] => [op]
  | .clear j n :: r =>
    if op.serial < n ∧ op.serial ≠ 0 then op :: .clear j n :: r else .clear j n :: insertOp op r
  | x :: r => x :: insertOp op r

/-- Run the promotions and notices at the head of a slot's queue; drains, clears and tag sets take their own step. -/
def slotFlush : Nat → Nat → State → State
  | 0, _, s => s
  | fuel + 1, n, s =>
    let m := s.mslot n
    match m.queue with
    | .promo t vr vc acc errs :: r => slotFlush fuel n (promoApply t vr vc acc errs (putSlot n { m with queue := r } s))
    | .notice t :: r => slotFlush fuel n (noticeApply t (putSlot n { m with queue := r } s))
    | _ => s

/-- An operation arrives at a slot. -/
def slotArrive (n : Nat) (op : SlotOp) (s : State) : State :=
  let m := s.mslot n
  let q := insertOp op m.queue
  slotFlush (q.length + 1) n (putSlot n { m with queue := q } s)

/-! ## Job geometry (R323 to R325) -/

/-- The geometry of job j by its committed registers; input counts are rounded up to whole 64s (R24). -/
def jobGeo (s : State) (j : Nat) : JobGeo :=
  let cross := s.flag (Reg.JOB_CFG_TYPE j)
  let nin := s.f (Reg.SET_SHAPE_NIN j)
  let rows := 64 * s.f (Reg.JOB_CFG_ROWS64 j)
  let n64 := ceilDiv nin 64
  let blocks := if cross then (rows / 64) * ceilDiv (nin - rows) 64 else n64 * (n64 + 1) / 2
  { cross := cross, pingpong := s.flag (Reg.JOB_CFG_PINGPONG j), nin := nin, rows := if cross then rows else 0,
    nch := s.f (Reg.SET_SHAPE_NCH j), blocks := blocks, slotFirst := s.f (Reg.JOB_SLOT_SLOT_FIRST j), dlen := jobD s j,
    dwell := s.f (Reg.SET_CFG_DWELL j), fmt := s.f (Reg.SET_CFG_FMT j), domain := s.f (Reg.SET_CFG_DOMAIN j),
    lantOffset := s.f (Reg.JOB_CFG_LANT_OFFSET j) }

def JobGeo.bankSlots (g : JobGeo) : Nat := g.blocks * g.nch
def JobGeo.slotCount (g : JobGeo) : Nat := g.bankSlots * (if g.pingpong then 2 else 1)

/-- First slot of the bank of a period number (R325). -/
def JobGeo.bankFirst (g : JobGeo) (num : Nat) : Nat := g.slotFirst + (if g.pingpong then (num % 2) * g.bankSlots else 0)

/-- The row u and column v of a triangle block: the largest u with u(u + 1)/2 ≤ b (R323). -/
def triRow (b : Nat) : Nat := ((List.range 65).filter fun u => decide (u * (u + 1) / 2 ≤ b)).getLast?.getD 0

/-- Local positions of the first row and first column input of a block (R323, R324). -/
def blockPos (g : JobGeo) (b : Nat) : Nat × Nat :=
  if g.cross then
    let kb := max 1 (ceilDiv (g.nin - g.rows) 64)
    (64 * (b / kb), g.rows + 64 * (b % kb))
  else
    let u := triRow b
    (64 * u, 64 * (b - u * (u + 1) / 2))

/-! ## Image layout (R378, R379) -/

def slotOff (g : JobGeo) : Nat := 256 + 32 * g.nch
def dataOff (g : JobGeo) : Nat := ceilTo (slotOff g + 8 * g.bankSlots) 64
def tallyOff (g : JobGeo) (vraw : Bool) : Nat := dataOff g + g.bankSlots * (if vraw then 36864 else 32768)
def imageSize (g : JobGeo) (vraw : Bool) : Nat := tallyOff g vraw + g.bankSlots * 8192

/-- The binary32 code of the value nearest to v × 2^e, ties to even (R375). -/
def f32Code (v : Int) (e : Nat) : Nat :=
  let m := v.natAbs
  let sign := if v < 0 then 2 ^ 31 else 0
  if m = 0 then 0
  else
    let b := Nat.log2 m
    let (frac, b) :=
      if b ≤ 23 then (m <<< (23 - b), b)
      else
        let r := (roundEven m (b - 23)).toNat
        if r = 2 ^ 24 then (2 ^ 23, b + 1) else (r, b)
    sign + (b + e + 127) * 2 ^ 23 + (frac - 2 ^ 23)

/-- One entry of the data plane (R375 to R377). (DEDUCED, log 67.) -/
def entryBytes (vraw : Bool) (exp : Nat) (x : MEntry) : List Byte :=
  if vraw then leBytes 9 (wrap 36 x.re + wrap 36 x.im * 2 ^ 36)
  else if x.poisoned then leBytes 4 0x7FC00000 ++ leBytes 4 0x7FC00000
  else leBytes 4 (f32Code x.re exp) ++ leBytes 4 (f32Code x.im exp)

/-- Slot table entry (R382). -/
def slotTableBytes (m : MSlot) : List Byte :=
  leBytes 1 (m.exp + 16 * b2n m.sat + 32 * b2n m.expMax + 64 * b2n m.poison + 128 * b2n m.tallySat) ++ leBytes 3 0 ++
  leBytes 4 m.promos

/-! ## Dump copies and periods -/

/-- DEAD (R369): with ping-pong, an open period whose bank a closed period still holds; else any closed period. -/
def jobDead (s : State) (j : Nat) : Bool :=
  let ps := (s.mjob j).periods
  let closed := ps.filter Period.closed
  if s.flag (Reg.JOB_CFG_PINGPONG j) then
    ps.any fun p => !p.closed && closed.any fun q => q.num % 2 == p.num % 2
  else !closed.isEmpty

/-- DUMP_STATE of a job from its periods. -/
def dumpStateReg (j : Nat) (s : State) : State :=
  let closed := (s.mjob j).periods.filter Period.closed
  let s := s.setF (Reg.DUMP_STATE_STATE j) (if closed.isEmpty then 0 else if jobDead s j then 2 else 1)
  let bank := (closed.head?.map fun p => if p.geo.pingpong then p.num % 2 else 0).getD 0
  (s.setF (Reg.DUMP_STATE_BANK j) bank).setFlag (Reg.DUMP_STATE_CLEARING j) (decide ((s.mjob j).clears > 0))

/-- Where LPDDR6 copy n of a job starts (R383). -/
def copyBase (s : State) (j n : Nat) : Nat :=
  (s.f (Reg.DUMP_BASE j) + (n % max 1 (s.f (Reg.DUMP_BUFS j))) * s.f (Reg.DUMP_STRIDE j)) * 0x10000

/-- A dump copy is lost (R383, R386). -/
def dumpLost (j slot : Nat) (s : State) : State :=
  raise (mntEv FK.MNT_DUMP_LOST j slot false) (s.incF (Reg.DUMP_LOST j) 1)

/-- The input-map and channel-table words in force for window k of set j (R287). -/
def windowMap (s : State) (j k : Nat) (key : Nat) : Word :=
  match s.stg.epochs.find? fun e => decide (k < mapGet 0 e.lims j) with
  | some e => mapGet 0 e.words key
  | none => s.reg key

/-- The global number of channel index c of set j in window k. -/
def windowChan (s : State) (j k c : Nat) : Nat := getBits (windowMap s j k (0xF2000 + 4 * (s.f (Reg.SET_CH_BASE j) + c))) 16 0

/-- The global channel numbers of a period that opens at count `first`. -/
def periodChans (s : State) (j first : Nat) : List Nat :=
  (List.range (s.f (Reg.SET_SHAPE_NCH j))).map (windowChan s j (first / max 1 (jobGranule s j)))

/-- A period opens (R329). -/
def periodOpen (j serial num first : Nat) (continued : Bool) (s : State) : State :=
  let m := s.mjob j
  let p : Period :=
    { job := j, serial := serial, num := num, geo := jobGeo s j, first := first, closed := false, last := 0,
      starved := false, late := false, snuff := false, execSec := 0, execNs := 0, continued := continued,
      comparing := s.flag Reg.PAIR_STATUS_COMPARING, accum := [],
      skip := [], skipDead := [], expMaxRaised := false, markerIn := false, slicesDone := [], drained := 0, flags := 0,
      expHist := [], img := [], vraw := false, copy := none, copyAt := 0, chans := periodChans s j first, lanes := false, seq := 0, lossMem := false, lossLane := false }
  let s := putMjob j { m with periods := m.periods ++ [p] } s
  -- with ping-pong the bank may still be draining (R369)
  let s :=
    if p.geo.pingpong && m.periods.any (fun q => q.closed && q.num % 2 == num % 2) then
      raise (mntEv FK.MNT_DRAIN_LATE j p.geo.slotFirst false) (s.incF (Reg.DRAIN_LATE j) 1)
    else s
  dumpStateReg j s

/-- The open period of a job closes at count `last`: the copies are numbered or lost (R366, R383). -/
def periodClose (j serial last : Nat) (starved late : Bool) (s : State) : State :=
  let m := s.mjob j
  let dest := s.f (Reg.DUMP_CFG_DEST j)
  let toMem := dest = 0 || dest = 2
  let n := (s.f (Reg.DUMP_WR j) + m.begun) % 65536
  let lost := toMem && (n + 65536 - s.f (Reg.DUMP_RD j)) % 65536 == s.f (Reg.DUMP_BUFS j)
  let m := { m with seq := (m.seq + 1) % 2 ^ 64, begun := if toMem && !lost then m.begun + 1 else m.begun,
                    lossMem := if toMem then lost else m.lossMem,
                    periods := m.periods.map fun p =>
                      if p.serial = serial then
                        { p with closed := true, last := last, starved := starved, late := late, execSec := s.time.sec,
                                 execNs := s.time.ns, vraw := s.flag (Reg.DUMP_CFG_FORMAT j),
                                 copy := if toMem && !lost then some n else none, copyAt := copyBase s j n, lanes := decide (dest ≥ 1), seq := m.seq,
                                 lossMem := m.lossMem }
                      else p }
  let s := putMjob j m s
  let s := s.setF64 (Reg.DUMP_SEQ_LO j) (Reg.DUMP_SEQ_HI j) m.seq
  let s := dumpStateReg j s
  if lost then dumpLost j (s.f (Reg.JOB_SLOT_SLOT_FIRST j)) s else s

/-- n windows of a channel index count as skipped for a period (R373). -/
def skipChan (j serial c n : Nat) (dead : Bool) (s : State) : State :=
  updPeriod j serial (fun p =>
    { p with skip := mapSet 0 p.skip c (mapGet 0 p.skip c + n),
             skipDead := if dead then mapSet 0 p.skipDead c (mapGet 0 p.skipDead c + n) else p.skipDead }) s

/-- n windows count as skipped for every channel index of a period. -/
def skipWins (j serial n : Nat) (dead : Bool) (s : State) : State :=
  match findPeriod s j serial with
  | none => s
  | some p =>
    let s := if dead then s.incF (Reg.DEAD_WIN j) n else s
    (List.range p.geo.nch).foldl (fun s c => skipChan j serial c n dead s) s

/-- A channel index of a window counts as accumulated. -/
def accumChan (j serial c : Nat) (s : State) : State :=
  updPeriod j serial (fun p => { p with accum := mapSet 0 p.accum c (mapGet 0 p.accum c + 1) }) s

/-- SCHED of a period (R373); counts of boundaries are raw counts in FX (R192). -/
def Period.sched (s : State) (p : Period) : Nat := (p.last - p.first) / (p.geo.dlen * (if s.isFX then lensF s else 1))

/-- The dump header (R380), for a destination with its LOSS flag. -/
def dumpHeader (s : State) (p : Period) (loss : Bool) : List Byte :=
  let g := p.geo
  let bank := if g.pingpong then p.num % 2 else 0
  let flags := p.flags + 16 * b2n p.starved + 32 * b2n p.late + 64 * b2n loss + 128 * b2n p.snuff
  let h := leBytes 4 0x444D4E4D ++ leBytes 1 1 ++
    leBytes 1 (p.job + 4 * b2n g.cross + 8 * b2n g.pingpong + 16 * bank + 32 * g.fmt) ++
    leBytes 1 (g.domain + 4 * g.dwell) ++ leBytes 1 (b2n p.vraw) ++ leBytes 4 flags ++ leBytes 4 p.num ++ leBytes 8 p.first ++
    leBytes 8 p.last ++ leBytes 8 (p.sched s) ++ leBytes 2 g.nin ++ leBytes 2 g.rows ++ leBytes 2 g.nch ++
    leBytes 2 g.blocks ++ leBytes 4 (g.bankFirst p.num) ++ leBytes 4 g.bankSlots ++
    leBytes 2 (s.f (Reg.LNK_SOURCE_CHIP_ID 0)) ++ leBytes 6 0 ++ fitBytes 16 (mapGet [] s.objs 0x000005) ++
    leBytes 8 p.execSec ++ leBytes 4 p.execNs ++ leBytes 4 0 ++ leBytes 8 p.seq ++ leBytes 4 (slotOff g) ++
    leBytes 4 (dataOff g) ++ leBytes 4 (tallyOff g p.vraw) ++ leBytes 4 0 ++ leBytes 8 (imageSize g p.vraw) ++
    ((List.range 16).flatMap fun e => leBytes 4 (mapGet 0 p.expHist e)) ++ leBytes 60 0
  h ++ leBytes 4 (crcBytes 32 0x1EDC6F41 h)

/-- The channel table (R381), with the channel numbers in force for the period's first window. (DEDUCED, log 142.) -/
def chanTable (p : Period) : List Byte :=
  (List.range p.geo.nch).flatMap fun c =>
    leBytes 4 (p.chans.getD c 0) ++ leBytes 4 0 ++ leBytes 8 (mapGet 0 p.accum c) ++
    leBytes 8 (mapGet 0 p.skip c) ++ leBytes 8 (mapGet 0 p.skipDead c)

/-- Image bytes [a, b) of a period without its header. -/
def imgBytes (p : Period) (a b : Nat) : List Byte := mapGetList 0 p.img a (b - a)

/-- Cut a run of image bytes into packets of at most 7,560 bytes: offset and bytes of each (R385). -/
def runPackets : Nat → Nat → List Byte → List (Nat × List Byte)
  | 0, _, _ => []
  | fuel + 1, off, bs => if bs.isEmpty then [] else (off, bs.take 7560) :: runPackets fuel (off + 7560) (bs.drop 7560)

/-- The output count of an image: END_COUNT in channel counts, which the granule of a boundary makes whole (R192, R646). -/
def Period.outCount (s : State) (p : Period) : Nat := p.last / chanF s

/-- The lane packets of an image (R385): data and tally planes first, then the tables, then the header. The packets go in turn on
`count` lanes from `first`; each names the SOURCE_CHIP of its lane's group. (DEDUCED, log 44.) -/
def dumpPackets (s : State) (p : Period) (first count : Nat) : List TxPacket :=
  let size := imageSize p.geo p.vraw
  let d := dataOff p.geo
  let runs := runPackets (size / 7560 + 1) d (imgBytes p d size) ++ runPackets (d / 7560 + 1) 256 (imgBytes p 256 d) ++
    [(0, dumpHeader s p p.lossLane)]
  runs.zipIdx.map fun q =>
    let r := q.1
    let lane := first + q.2 % max 1 count
    { desc := mkDesc p.geo.domain 6 16 (s.f (Reg.LNK_SOURCE_CHIP_ID (lane / 8)))
        (r.1 % 2 ^ 32 + (p.seq % 2 ^ 32) * 2 ^ 32) p.job 0 0 r.2.length 0 (ceilDiv r.2.length 120),
      area := r.2, source := 3, unit := p.job, count := p.outCount s }

def State.txLane (s : State) (l : Nat) : TxLane := mapGet TxLane.reset s.links.tx l

def putTx (l : Nat) (t : TxLane) (s : State) : State :=
  { s with links := { s.links with tx := mapSet TxLane.reset s.links.tx l t } }

/-- Queue packets on lanes first, first + 1, … in turn. -/
def queueOnLanes (first count : Nat) : Nat → List TxPacket → State → State
  | _, [], s => s
  | i, p :: r, s =>
    let l := first + i % max 1 count
    let t := s.txLane l
    queueOnLanes first count (i + 1) r (putTx l { t with queue := t.queue ++ [p] } s)

/-- The dump digest of a period (R640). -/
def dumpDigest (s : State) (p : Period) : Nat :=
  crcBytes 64 0x42F0E1EBA9EA3693
    (((dumpHeader s p false).drop 16).take 24 ++ imgBytes p 256 (imageSize p.geo p.vraw))

/-- Queue the digest of a period's image for sending and comparing (R638, R642). -/
def digestDump (p : Period) (s : State) : State :=
  if (s.f Reg.PAIR_CFG_DUMP_CMP).testBit p.job then
    let d : Digest := { cause := 1, unit := p.job, key := p.last, value := dumpDigest s p, packets := 0,
                        eligible := p.continued && p.comparing }
    { s with pair := { s.pair with sendQueue := s.pair.sendQueue ++ [d] } }
  else s

/-- The last slot of a period has been drained: its image is whole (R378 to R383, R385). (DEDUCED, log 108.) -/
def finishDrain (j serial : Nat) (s : State) : State :=
  let s := updPeriod j serial (fun p => { p with img := mapSetList 0 p.img 256 (chanTable p), snuff := p.snuff || s.snuffed }) s
  match findPeriod s j serial with
  | none => s
  | some p =>
    let m := s.mjob j
    -- the lane copy is formed now: its header tells of the loss of the copy before it
    let p := if p.lanes then { p with lossLane := m.lossLane } else p
    let s := putMjob j { m with periods := m.periods.filter fun q => q.serial != serial,
                                lossLane := !p.lanes && m.lossLane,
                                ready := match p.copy with
                                  | none => m.ready
                                  | some _ => m.ready ++ [(p.copyAt, dumpHeader s p p.lossMem)] } s
    let s := match p.copy with
      | none => s
      | some _ => dramOut (p.copyAt + 256) (imgBytes p 256 (dataOff p.geo)) s
    let s := if p.lanes then
        let first := s.f (Reg.DUMP_LANES_LANE_FIRST j)
        let count := s.f (Reg.DUMP_LANES_LANE_COUNT_M1 j) + 1
        let s := outputUnit p.geo.domain (p.outCount s) s
        queueOnLanes first count 0 (dumpPackets s p first count) s
      else s
    let s := dumpStateReg j (digestDump p s)
    -- the drain that waited for this one is under way now (R370, R380)
    if s.snuffed then snuffDrains s else s

/-- Drain one slot (R361, R368). -/
def drainApply (n serial : Nat) (errs : List (Nat × Nat)) (s : State) : State :=
  let j := (s.mnt.jobs.find? fun x => x.2.periods.any fun p => p.serial == serial).map Prod.fst |>.getD 0
  match findPeriod s j serial with
  | none => s
  | some p =>
    let s := mntChecks ownRead j n (List.range 4096) errs s
    let m := s.mslot n
    let k := n - p.geo.bankFirst p.num
    let eb := if p.vraw then 36864 else 32768
    let data := (List.range 4096).flatMap fun e => entryBytes p.vraw m.exp (m.entry e)
    let tally := (List.range 4096).flatMap fun e => leBytes 2 (m.entry e).tally
    let dOff := dataOff p.geo + k * eb
    let tOff := tallyOff p.geo p.vraw + k * 8192
    let s := updPeriod j serial (fun p =>
      { p with img := mapSetList 0 (mapSetList 0 (mapSetList 0 p.img (slotOff p.geo + 8 * k) (slotTableBytes m)) dOff data) tOff tally,
               drained := p.drained + 1, snuff := p.snuff || s.snuffed,
               expHist := mapSet 0 p.expHist m.exp (mapGet 0 p.expHist m.exp + 1),
               flags := p.flags ||| (b2n m.sat + 2 * b2n m.tallySat + 4 * b2n m.poison + 8 * b2n m.expMax) }) s
    let s := match p.copy with
      | none => s
      | some _ => dramOut (p.copyAt + tOff) tally (dramOut (p.copyAt + dOff) data s)
    let tag := if p.geo.pingpong then m.tag else (p.num + 1) % 2
    let s := putSlot n { MSlot.reset with tag := tag, queue := m.queue } s
    let s := perfEvent 0x11 0x12 4096 s
    if p.drained + 1 ≥ p.geo.bankSlots then finishDrain j serial s else s

/-- The oldest closed period of a job, whose drains run first (R370). -/
def drainTurn (s : State) (serial : Nat) : Bool :=
  s.mnt.jobs.any fun x => (x.2.periods.filter Period.closed).head?.any fun p => p.serial == serial

/-- The drain at the head of a slot's queue runs. -/
def slotDrain (n : Nat) (errs : List (Nat × Nat)) (s : State) : State :=
  let m := s.mslot n
  match m.queue with
  | .drain serial :: r =>
    if drainTurn s serial then slotFlush (r.length + 1) n (drainApply n serial errs (putSlot n { m with queue := r } s))
    else s
  | _ => s

/-- Period p of a job drains slot n, and its drain of it has not been enqueued yet (R367). -/
def Period.drainAhead (p : Period) (n : Nat) : Bool :=
  let first := p.geo.bankFirst p.num
  p.closed && decide (first ≤ n) && decide (n < first + p.geo.bankSlots) && mapGet 0 p.slicesDone (n % 256) == 0

/-- The clear at the head of a slot's queue runs (R354), behind the drains of the periods closed before it (R372). -/
def slotClear (n : Nat) (s : State) : State :=
  let m := s.mslot n
  match m.queue with
  | .clear j limit :: r =>
    if (s.mjob j).periods.any fun p => decide (p.serial < limit) && p.drainAhead n then s
    else
      let s := putSlot n { MSlot.reset with queue := r } s
      let mj := s.mjob j
      let s := dumpStateReg j (putMjob j { mj with clears := mj.clears - 1 } s)
      slotFlush (r.length + 1) n s
  | _ => s

/-- The tag set at the head of a slot's queue runs (R355). -/
def slotTagSet (n : Nat) (s : State) : State :=
  let m := s.mslot n
  match m.queue with
  | .tagSet t :: r => slotFlush (r.length + 1) n (putSlot n { m with tag := t, queue := r } s)
  | _ => s

/-- A job's marker leaves the adder pipeline of a slice (R367): drains are enqueued on the slice's slots of the oldest
period whose marker is in the slices and has not left this one. -/
def periodEndMarker (j slice : Nat) (s : State) : State :=
  match (s.mjob j).periods.find? fun p => p.markerIn && mapGet 0 p.slicesDone slice == 0 with
  | none => s
  | some p =>
    let s := updPeriod j p.serial (fun p => { p with slicesDone := mapSet 0 p.slicesDone slice 1 }) s
    let first := p.geo.bankFirst p.num
    let slots := ((List.range p.geo.bankSlots).map (first + ·)).filter fun n => n % 256 == slice
    let s := slots.foldl (fun s n => slotArrive n (.drain p.serial) s) s
    if s.snuffed then snuffDrains s else s

/-- The header of the oldest whole LPDDR6 copy of a job becomes readable (R383). -/
def dumpCopyComplete (j : Nat) (s : State) : State :=
  let m := s.mjob j
  match m.ready with
  | [] => s
  | (off, h) :: r =>
    let s := putMjob j { m with ready := r, begun := m.begun - 1, newest := some (off, leAt h 120 8) } s
    (((dramOut off h s).incF (Reg.DUMP_WR j) 1).intPend (4 + j)).produce (1 + j) (leAt h 120 8 / 64)

/-- The last slot is clear (R354). The clear after reset arrives before every other operation, so State holds the slots as it leaves them
from the reset on, and operations that came since stand. -/
def mantleInitClear (s : State) : State :=
  if s.flag Reg.MNT_STATUS_INIT_DONE ∨ s.actsF then s else s.setF Reg.MNT_STATUS_INIT_DONE 1

end Sys2Proof.Machine
end

