-- ==== Sys2Proof/Machine/Lan.lean ====
section
/-! DEFINITION. Sys2Proof/Machine/Lan.lean: the lantern array: jobs, dispatch, lanterns, promotion order, abandonment, debug
halts, and the commits of the LAN and MNT groups (08_lanterns.md, 09_mantle.md). -/
namespace Sys2Proof.Machine

def jobState (s : State) (j : Nat) : Nat := s.f (Reg.JOB_STATE_STATE j)

def setJobState (j st : Nat) (s : State) : State := s.setF (Reg.JOB_STATE_STATE j) st

/-- The tag and serial of the open period of a job. -/
def openPeriod (s : State) (j : Nat) : Option Period := (s.mjob j).periods.find? fun p => !p.closed

/-! ## Tasks -/

/-- Tasks of one channel index. -/
def chanTasks (g : JobGeo) : Nat := g.blocks * (if g.fmt = 1 then 4 else 1)

/-- Task i of channel index c of a window, with counter q (R325, R333, R336). -/
def mkTask (g : JobGeo) (j : Nat) (w : HandWin) (num : Nat) (c i q reseed : Nat) : Task :=
  let c8 := g.fmt = 1
  let b := if c8 then i / 4 else i
  let quarter := if c8 then i % 4 else 0
  let (rp, cp) := blockPos g b
  { job := j, serial := w.serial, tag := num % 2, q := q, k := w.k, c := c, b := b, quarter := quarter,
    slot := g.bankFirst num + c * g.blocks + b, lantern := (g.lantOffset + q) % 256, c8 := c8,
    rowPos := rp + 32 * (quarter / 2), colPos := cp + 32 * (quarter % 2), reseed := reseed }

/-- The JOB_PERIOD number of a period serial. -/
def periodNum (s : State) (j serial : Nat) : Nat := ((findPeriod s j serial).map Period.num).getD 0

/-! ## Boundaries (R329, R366, R371) -/

/-- Markers at the head of a job's stream enter the slices (R367). -/
def pumpMarkers (j : Nat) : Nat → State → State
  | 0, s => s
  | fuel + 1, s =>
    let r := jobRun s j
    match r.stream with
    | .marker serial :: rest =>
      pumpMarkers j fuel (updPeriod j serial (fun p => { p with markerIn := true }) (putJobRun j { r with stream := rest } s))
    | _ => s

def emitStream (j : Nat) (x : StreamItem) (s : State) : State :=
  let r := jobRun s j
  let s := putJobRun j { r with stream := r.stream ++ [x] } s
  pumpMarkers j (r.stream.length + 1) s

/-- Open the next period of a job (R329). -/
def openNext (j T : Nat) (continued : Bool) (s : State) : State :=
  let r := jobRun s j
  let serial := s.lan.nextSerial
  let s := { s with lan := { s.lan with nextSerial := serial + 1 } }
  let s := putJobRun j { r with serial := serial, nextNum := r.nextNum + 1 } s
  let s := (s.setF (Reg.JOB_PERIOD j) (r.nextNum + 1)).setF (Reg.JOB_STATE_BANK j) (r.nextNum % 2)
  setJobState j 2 (periodOpen j serial r.nextNum T continued s)

/-- What is left to dispatch of a channel index that a stop cuts through: a notice in the job's stream names it (R362), so that each
slot's PROMOS stays the window count of its channel (R374) and nothing of the period comes behind its marker (R366).
(DEDUCED, log 162.) -/
def noticeRest (j : Nat) (g : JobGeo) (w : HandWin) (s : State) : State :=
  let r := jobRun s j
  let ts := (((List.range (chanTasks g)).filter fun i => decide (w.i ≤ i)).mapIdx fun n i =>
    mkTask g j w (periodNum s j w.serial) w.c i (r.q + n) 0)
  let s := putJobRun j { r with q := r.q + ts.length, stream := r.stream ++
    [.notice { job := j, serial := w.serial, tag := w.tag, k := w.k, c := w.c, all := false, tasks := ts }] } s
  s.setF64 (Reg.JOB_TASKS_LO j) (Reg.JOB_TASKS_HI j) (r.q + ts.length)

/-- Stop dispatching the channel indices of running windows not yet dispatched; each counts as skipped for its channel when
its period stands (R331). -/
def stopWindows (j : Nat) (g : JobGeo) (count : Bool) (s : State) : State :=
  let runs (w : HandWin) : Bool := w.begun && w.run && decide (w.c < w.limit)
  let cut (w : HandWin) : HandWin :=
    if !runs w then w
    else if w.i > 0 then { w with c := w.c + 1, i := 0, limit := w.c + 1 }
    else { w with limit := w.c }
  let ws := (jobRun s j).wins
  let s := (ws.filter fun w => runs w && decide (0 < w.i)).foldl (fun s w => noticeRest j g w s) s
  let s := if count then
      (ws.filter runs).foldl (fun s w =>
        ((List.range w.nch).filter fun c => decide ((cut w).limit ≤ c)).foldl (fun s c => skipChan j w.serial c 1 false s) s) s
    else s
  putJobRun j { jobRun s j with wins := ws.map cut } s

/-- A boundary of job j at count T has executed (R73). -/
def noteDump (j T : Nat) (s : State) : State := { s with sched := { s.sched with dumpsDone := (j, T) :: s.sched.dumpsDone } }

/-- The boundary in slot n acts on its job (R329, R371, R73, R644), and its record is written. The windows that a starved boundary
skips count as dead when they are released, if at all. (DEDUCED, log 141.) -/
def boundaryExec (n : Nat) (starved : Bool) (s : State) : State :=
  let j := slotTarget s n % 4
  let T := slotWhen s n
  let last := slotArg s n % 2
  let st := jobState s j
  let late := slotLate s n
  if s.sched.dumpsDone.contains (j, T) then endOccurrence n 0x11 0 s
  else if st = 0 then endDone n starved (noteDump j T s)
  else
    let s := noteDump j T s
    let k := T / jobGranule s j
    let s :=
      if starved then
        let r := jobRun s j
        let s := if st = 2 then
            match openPeriod s j with
            | none => s
            | some p =>
              let from' := max (r.next.getD 0) (p.first / jobGranule s j)
              skipWins j p.serial (k - from') false s
          else s
        let s := stopWindows j (jobGeo s j) (st == 2) s
        putJobRun j { jobRun s j with starvedBelow := max (jobRun s j).starvedBelow k } s
      else s
    let s := if s.flag Reg.PAIR_CFG_RESEED then putJobRun j { jobRun s j with reseedAt := T + 1, reseedWin := k } s else s
    let s :=
      if st = 2 then
        let serial := (jobRun s j).serial
        let s := periodClose j serial T starved late s
        setJobState j 1 (emitStream j (.marker serial) s)
      else s
    let s := if last = 0 then openNext j T (st == 2) s else s
    endDone n starved s

/-- Boundaries of job j due at the dispatch of window k execute, in order. -/
def boundariesAt (j k : Nat) (s : State) : State :=
  runDue (s.f (Reg.SET_CFG_DOMAIN j) + 1) (k * jobGranule s j) (fun a t => a == 1 && t == j) (fun n s => boundaryExec n false s) s

/-! ## Windows as the array sees them (R330, R331, R338) -/

def HandWin.dispatched (w : HandWin) : Bool := w.begun && (!w.run || decide (w.limit ≤ w.c))

/-- Release the windows that are wholly handed and whose tasks have all promoted (R331, R338). -/
def lanRelease (j : Nat) (s : State) : State :=
  let r := jobRun s j
  let done (w : HandWin) : Bool := w.dispatched && w.left == 0 && decide (w.nch ≤ w.handed.length)
  let s := putJobRun j { r with wins := r.wins.filter fun w => !done w } s
  (r.wins.filter done).foldl (fun s w => releaseWin j w.k w.accum s) s

/-- Reach the next window of a job: due boundaries execute, and it is run or released as skipped (R331). One that staging has
discarded is not released. (DEDUCED, log 66.) -/
def beginWin (j k : Nat) (s : State) : State :=
  let s := boundariesAt j k s
  let st := jobState s j
  let dead := jobDead s j
  let r := jobRun s j
  let live := st == 2 && decide (r.starvedBelow ≤ k)
  let run := live && !dead && s.flag Reg.LAN_CTRL_EN
  let gone := r.wins.any fun w => w.k == k && w.gone
  let s := putJobRun j { r with next := some (k + 1), wins := r.wins.map fun w =>
    if w.k = k then { w with begun := true, run := run, serial := r.serial, tag := (r.nextNum + 1) % 2 } else w } s
  if run then s
  else if gone then (if live then skipWins j r.serial 1 false s else s)
  else
    let s := s.incF (Reg.JOB_SKIP_WIN j) 1
    if live then skipWins j r.serial 1 dead s
    else if dead then s.incF (Reg.DEAD_WIN j) 1
    else s

/-- A run of absent windows a to b - 1 passes to the mantle as skipped, split at the boundaries within it (R293, R331). -/
def absentRun (j a b : Nat) (s : State) : State :=
  let account (lo hi : Nat) (s : State) : State :=
    let r := jobRun s j
    let lo := max lo r.starvedBelow
    if lo < hi then
      let dead := jobDead s j
      if jobState s j = 2 then skipWins j r.serial (hi - lo) dead s
      else if dead then s.incF (Reg.DEAD_WIN j) (hi - lo) else s
    else s
  let due := dueSlots s (s.f (Reg.SET_CFG_DOMAIN j) + 1) ((b - 1) * jobGranule s j) (fun x t => x == 1 && t == j)
  let (lo, s) := due.foldl (fun (x : Nat × State) n =>
    let k := max x.1 (min b (slotWhen x.2 n / jobGranule x.2 j))
    (k, boundaryExec n false (account x.1 k x.2))) (a, s)
  let s := account lo b s
  putJobRun j { jobRun s j with next := some b } s

/-! ## Abandonment (R339) -/

def Lantern.plane (x : Lantern) (n : Nat) : Plane := if n = 0 then x.plane0 else x.plane1
def Lantern.setPlane (x : Lantern) (n : Nat) (p : Plane) : Lantern := if n = 0 then { x with plane0 := p } else { x with plane1 := p }

/-- The planes swap (R320). -/
def Lantern.swap (x : Lantern) : Lantern := { x with running := none, done := false, act := 1 - x.act }

/-- The swap that a completed task waits for, once the inactive plane has been drained (R321). -/
def Lantern.trySwap (x : Lantern) : Lantern := if x.done && !x.halted && !(x.plane (1 - x.act)).held then x.swap else x

def debugMasked (s : State) (l : Nat) : Bool :=
  s.flag Reg.LAN_DEBUG_EN && (s.f (Reg.LAN_DEBUG_MASK (l / 32))).testBit (l % 32)

/-- A lantern drops the tasks of a window: queued, running or held (R339). A masked lantern that it leaves idle halts (R344). -/
def dropTasks (j k : Nat) (masked : Bool) (x : Lantern) : Lantern :=
  let mine (t : Task) : Bool := t.job == j && t.k == k
  let clear (p : Plane) : Plane := if p.held && p.task.any mine then Plane.reset else p
  let x := { x with queue := x.queue.filter fun t => !mine t, plane0 := clear x.plane0, plane1 := clear x.plane1 }
  (if x.running.any mine then { x with running := none, done := false, halted := x.halted || masked } else x).trySwap

/-- The array abandons window k, which dispatch has reached (R339). -/
def lanDrop (j k : Nat) (s : State) : State :=
  let r := jobRun s j
  match r.wins.find? fun w => w.k == k with
  | none => s
  | some w =>
    if !w.run then
      raise (fev FK.LAN_ABANDON 0x10 0 0) (putJobRun j { r with wins := r.wins.filter fun x => x.k != k } s)
    else
      let g := jobGeo s j
      let per := chanTasks g
      let num := periodNum s j w.serial
      -- tasks of the window that were never dispatched, with the counter values they would have had
      let fresh := ((List.range w.limit).filter fun c => decide (w.c ≤ c)).flatMap fun c =>
        ((List.range per).filter fun i => c > w.c || decide (w.i ≤ i)).map fun i => (c, i)
      let freshT := fresh.mapIdx fun n x => mkTask g j w num x.1 x.2 (r.q + n) 0
      let stream := r.stream ++ freshT.map StreamItem.task
      let tasks := stream.filterMap fun x => match x with | .task t => if t.k = k then some t else none | _ => none
      -- the first task of each channel index becomes its notice; the others leave the stream
      let step (a : List StreamItem × List Nat) (x : StreamItem) : List StreamItem × List Nat :=
        match x with
        | .task t =>
          if t.k = k then
            if a.2.contains t.c then a
            else
              let ts := tasks.filter fun u => u.c == t.c
              (a.1 ++ [.notice { job := j, serial := w.serial, tag := w.tag, k := k, c := t.c, all := ts.length == per, tasks := ts }],
               a.2 ++ [t.c])
          else (a.1 ++ [x], a.2)
        | _ => (a.1 ++ [x], a.2)
      let stream := (stream.foldl step ([], [])).1
      let q := r.q + freshT.length
      let s := { s with lan := { s.lan with lanterns := s.lan.lanterns.map fun x => (x.1, dropTasks j k (debugMasked s x.1) x.2) } }
      let s := putJobRun j { r with wins := r.wins.filter (fun x => x.k != k), stream := stream, q := q } s
      let s := s.setF64 (Reg.JOB_TASKS_LO j) (Reg.JOB_TASKS_HI j) q
      let s := s.incF Reg.LAN_ABANDON_CNT_ABANDON_CNT tasks.length
      match tasks with
      | [] => raise (fev FK.LAN_ABANDON 0x10 0 0) s
      | t :: _ => raise (fev FK.LAN_ABANDON 0x10 t.lantern t.slot) s

/-! ## The order of a job's windows -/

/-- Everything at the head of a job's order that needs no task: absent runs, and windows to be skipped or
abandoned. -/
def lanAdvance (j : Nat) : Nat → State → State
  | 0, s => s
  | fuel + 1, s =>
    let r := jobRun s j
    let w := r.wins.find? fun w => !w.dispatched
    match r.absent, w with
    | (a, n) :: rest, some w =>
      if a < w.k then lanAdvance j fuel (absentRun j a (a + n) (putJobRun j { r with absent := rest } s))
      else if w.begun then s
      else
        let s' := beginWin j w.k s
        if w.gone then lanAdvance j fuel (lanDrop j w.k s')
        else if ((jobRun s' j).wins.any fun x => x.k == w.k && x.run) then s else lanAdvance j fuel s'
    | (a, n) :: rest, none => lanAdvance j fuel (absentRun j a (a + n) (putJobRun j { r with absent := rest } s))
    | [], some w =>
      if w.begun then s
      else
        let s' := beginWin j w.k s
        if w.gone then lanAdvance j fuel (lanDrop j w.k s')
        else if ((jobRun s' j).wins.any fun x => x.k == w.k && x.run) then s else lanAdvance j fuel s'
    | [], none => s

/-- Advance a job, then release what can be released. -/
def lanTurn (j : Nat) (s : State) : State :=
  let r := jobRun s j
  let s := lanRelease j (lanAdvance j (r.wins.length + r.absent.length + 1) s)
  -- the windows of a disabled set are numbered anew when it is enabled again
  if s.flag (Reg.SET_CFG_EN j) then s else putJobRun j { jobRun s j with next := none } s

/-- Staging reports a run of absent windows (R293). -/
def lanAbsent (j first n : Nat) (s : State) : State :=
  let r := jobRun s j
  lanTurn j (putJobRun j { r with absent := r.absent ++ [(first, n)] } s)

def newHandWin (k nch : Nat) : HandWin :=
  { k := k, nch := nch, handed := [], begun := false, run := false, gone := false, serial := 0, tag := 0, c := 0, i := 0, limit := nch,
    left := 0, accum := [] }

def insHand (w : HandWin) : List HandWin → List HandWin
  | [] => [w]
  | a :: r => if w.k < a.k then w :: a :: r else a :: insHand w r

/-- Channel index c of window k is handed to the array (R294). -/
def lanHand (j k nch c : Nat) (s : State) : State :=
  let r := jobRun s j
  let ws := if r.wins.any (fun w => w.k == k) then r.wins else insHand (newHandWin k nch) r.wins
  let ws := ws.map fun w => if w.k = k then { w with handed := w.handed ++ [c] } else w
  lanTurn j (putJobRun j { r with wins := ws } s)

/-- Staging discards window k (R339): a window that dispatch has reached is abandoned now, another at its turn. -/
def lanAbandon (j k nch : Nat) (s : State) : State :=
  let r := jobRun s j
  let ws := if r.wins.any (fun w => w.k == k) then r.wins else insHand (newHandWin k nch) r.wins
  let s := putJobRun j { r with wins := ws.map fun w => if w.k = k then { w with gone := true } else w } s
  lanTurn j (if ws.any (fun w => w.k == k && w.begun) then lanDrop j k s else s)

/-! ## Dispatch (R333 to R335) -/

/-- Dispatch the next task of a job (R333 to R335). -/
def taskDispatch (j : Nat) (s : State) : State :=
  let r := jobRun s j
  let g := jobGeo s j
  let l := (g.lantOffset + r.q) % 256
  if (s.lantern l).queue.length ≥ 64 then s
  else
    match r.wins.find? fun w => !w.dispatched with
    | none => s
    | some w =>
      if r.absent.any fun a => decide (a.1 < w.k) then s
      else if !w.begun && !w.handed.contains w.c then lanTurn j s
      else
        let s := if w.begun then s else beginWin j w.k s
        let r := jobRun s j
        match r.wins.find? fun x => x.k == w.k with
        | none => s
        | some w =>
          if !w.run || decide (w.limit ≤ w.c) || !w.handed.contains w.c then lanTurn j s
          else
            let reseed := if r.reseedAt > 0 ∧ w.k = r.reseedWin then r.reseedAt else 0
            let t := mkTask g j w (periodNum s j w.serial) w.c w.i r.q reseed
            let lan := s.lantern l
            let s := putLantern l { lan with queue := lan.queue ++ [t] } s
            let last := w.i + 1 ≥ chanTasks g
            let w' := { w with left := w.left + 1, i := if last then 0 else w.i + 1, c := if last then w.c + 1 else w.c }
            let s := putJobRun j { r with q := r.q + 1, stream := r.stream ++ [.task t],
                                          wins := r.wins.map fun x => if x.k = w.k then w' else x } s
            let s := s.setF64 (Reg.JOB_TASKS_LO j) (Reg.JOB_TASKS_HI j) (r.q + 1)
            lanTurn j s

/-! ## Lanterns (R318 to R321, R344) -/

def seedOf (s : State) (l : Nat) : Nat :=
  let v := mapGet 0 s.lan.seeds l
  if v = 0 then l + 1 else v

/-- Load the generator of every lantern from its committed seed (R341). -/
def reseedAll (s : State) : State :=
  (List.range 256).foldl (fun s l => putLantern l { s.lantern l with gen := seedOf s l } s) s

/-- A lantern starts its next queued task in its active plane, which the swap has left drained (R321, R644). -/
def taskStart (l : Nat) (s : State) : State :=
  let x := s.lantern l
  match x.queue with
  | [] => s
  | t :: r =>
    if x.running.isSome || x.halted || (x.plane x.act).held then s
    else
      let v := mapGet 0 s.lan.seeds l ^^^ (t.reseed - 1)
      let reseed := t.reseed > 0 && !x.reseeded.contains (t.job, t.reseed)
      let x := { x with queue := r, running := some t, done := false,
                        gen := if reseed then (if v % 2 ^ 64 = 0 then l + 1 else v % 2 ^ 64) else x.gen,
                        reseeded := if reseed then (t.job, t.reseed) :: x.reseeded.filter (fun y => y.1 != t.job) else x.reseeded }
      let x := x.setPlane x.act { task := some t, held := true, acc := [], vr := [], vc := [] }
      perfEvent 0x10 0x10 1 (putLantern l x s)

/-- The sample of a local position as staging hands it: zero where invalid (R294), a C4 component of -8 as -7 (R317). -/
def handedSample (s : State) (w : Win) (c p t : Nat) : Int × Int :=
  if (mapGet [] w.valid c).getD p 0 = 1 then
    let v := winSample s w p c t
    if w.fmt = 0 then (max v.1 (-7), max v.2 (-7)) else v
  else (0, 0)

/-- The sum of R316 over a dwell. -/
def correlate : List (Int × Int) → List (Int × Int) → Int × Int
  | x :: xs, y :: ys =>
    let r := correlate xs ys
    (x.1 * y.1 + x.2 * y.2 + r.1, x.2 * y.1 - x.1 * y.2 + r.2)
  | _, _ => (0, 0)

/-- The accumulators of a task, in entry order, and the validity of its inputs (R316, R319, R336). -/
def taskResult (s : State) (t : Task) : List (Int × Int) × List Nat × List Nat :=
  let n := taskSide t
  match anyWin s t.job t.k with
  | none => (List.replicate (n * n) (0, 0), List.replicate n 0, List.replicate n 0)
  | some w =>
    let vec (p : Nat) : List (Int × Int) := (List.range w.dlen).map fun i => handedSample s w t.c p i
    let rows := (List.range n).map fun i => vec (t.rowPos + i)
    let cols := (List.range n).map fun i => vec (t.colPos + i)
    let v := mapGet [] w.valid t.c
    (rows.flatMap fun x => cols.map fun y => correlate x y,
     (List.range n).map fun i => v.getD (t.rowPos + i) 0, (List.range n).map fun i => v.getD (t.colPos + i) 0)

/-- A task completes: the planes swap once the other is drained, or the lantern halts with it (R320, R321, R344). -/
def taskComplete (l : Nat) (s : State) : State :=
  let x := s.lantern l
  match x.running with
  | none => s
  | some t =>
    if x.done then s
    else
      let (acc, vr, vc) := taskResult s t
      let x := x.setPlane x.act { task := some t, held := true, acc := acc, vr := vr, vc := vc }
      putLantern l { x with done := true, halted := debugMasked s l }.trySwap s

/-- Halts and releases after a write of LAN_DEBUG (R344, R345). -/
def lanDebugUpdate (s : State) : State :=
  (List.range 256).foldl (fun s l =>
    let x := s.lantern l
    if debugMasked s l then
      (if (x.running.isNone || x.done) && !x.halted then putLantern l { x with halted := true } s else s)
    else if x.halted then putLantern l { x with halted := false }.trySwap s
    else s) s

/-- A lantern that has a task queued and cannot swap to start it, as its inactive plane is not drained (R321, R337). -/
def lanternHeld (x : Lantern) : Bool := !x.queue.isEmpty && x.done && !x.halted && (x.plane (1 - x.act)).held

/-- n cycles of holding. -/
def lanHoldTick (n : Nat) (s : State) : State :=
  { s with lan := { s.lan with lanterns := s.lan.lanterns.map fun x =>
      (x.1, if lanternHeld x.2 then { x.2 with hold := min (x.2.hold + n) (2 ^ 32 - 1) } else x.2) } }

/-! ## Promotion stream (R336 to R338, R362) -/

/-- Parity errors of a plane (R343): n found, and those an armed injection makes over `checks` components. -/
def planeParity (by_ : StoreRead) (l slot n checks : Nat) (s : State) : State :=
  let ev (inj : Bool) : FaultEv := storeEv by_ FK.LAN_PARITY 0x10 l slot inj
  let one (inj : Bool) (s : State) : State := raise (ev inj) (s.incF Reg.LAN_PARITY_CNT_PARITY_CNT 1)
  let s := (List.range n).foldl (fun s _ => one false s) s
  match s.flt.inj with
  | none => s
  | some i =>
    if i.src = 0x10 ∧ i.sub = l then
      (List.range checks).foldl (fun s _ =>
        let (r, s) := injectCheck 0x10 l 0 s
        if r.isSome then one true s else s) s
    else s

/-- The promotion at the head of a job's stream enters the mantle (R337, R356). -/
def promotion (j parity : Nat) (errs : List (Nat × Nat)) (s : State) : State :=
  let r := jobRun s j
  match r.stream with
  | .task t :: rest =>
    let x := s.lantern t.lantern
    let p := x.plane (1 - x.act)
    if p.held && p.task == some t then
      let s := planeParity ownRead t.lantern t.slot parity (2 * p.acc.length) s
      let x := s.lantern t.lantern
      let s := putLantern t.lantern { x.setPlane (1 - x.act) { p with held := false } with tasks := (x.tasks + 1) % 2 ^ 32 }.trySwap s
      let live := periodLive s t
      let first := live && !(r.wins.any fun w => w.k == t.k && w.accum.contains t.c)
      let s := if first then accumChan j t.serial t.c s else s
      let s := slotArrive t.slot (.promo t p.vr p.vc p.acc errs) s
      let r := jobRun s j
      let ws := r.wins.map fun w =>
        if w.k = t.k then { w with left := w.left - 1, accum := if first then w.accum ++ [t.c] else w.accum } else w
      let s := putJobRun j { r with stream := rest, wins := ws } s
      lanTurn j (pumpMarkers j (rest.length + 1) s)
    else s
  | _ => s

/-- The notice at the head of a job's stream is applied (R362, R363). -/
def noticeStep (j : Nat) (s : State) : State :=
  let r := jobRun s j
  match r.stream with
  | .notice n :: rest =>
    let s := putJobRun j { r with stream := rest } s
    let s := if n.all then skipChan j n.serial n.c 1 false s
      else n.tasks.foldl (fun s t => slotArrive t.slot (.notice t) s) s
    lanTurn j (pumpMarkers j (rest.length + 1) s)
  | _ => s

/-! ## Checks of the LAN and MNT groups -/

/-- Input intervals that the map gives to local positions [lo, hi) of set j: (first input, count). -/
def mapInputs (s : State) (j lo hi : Nat) : List (Nat × Nat) :=
  let p0 := s.f (Reg.SET_PLACE_POS_FIRST j)
  ((List.range 256).filter fun e => s.flag (Reg.STG_MAP0_EN e) && s.f (Reg.STG_MAP0_SET e) == j).filterMap fun e =>
    let a := s.f (Reg.STG_MAP1_POS_FIRST e) - p0
    let n := s.f (Reg.STG_MAP1_COUNT e)
    let f := max a lo
    let t := min (a + n) hi
    if f < t then some (s.f (Reg.STG_MAP0_INPUT_FIRST e) + (f - a), t - f) else none

/-- What is wrong with enabled job j of a job set (R326): the ERR_CODE, 0 none. -/
def jobErr (s : State) (j : Nat) : Nat :=
  let g := jobGeo s j
  let rows := s.f (Reg.JOB_CFG_ROWS64 j)
  let others := ([0, 1, 2, 3] : List Nat).filter fun i => i != j && s.flag (Reg.JOB_CFG_EN i)
  if !(s.flag (Reg.SET_CFG_EN j) && s.flag (Reg.SET_CFG_STAGE j)) then 3
  else if !g.cross && decide (g.nin > 4096) then 2
  else if g.cross && !(decide (1 ≤ rows) && decide (rows ≤ 64) && decide (64 * rows + 64 ≤ g.nin) &&
      decide (g.nin ≤ 64 * rows + 4096)) then 2
  else if g.cross && (mapInputs s j 0 g.rows).any (fun a => (mapInputs s j g.rows g.nin).any fun b => meets a.1 a.2 b.1 b.2) then 8
  else if g.slotFirst + g.slotCount > 8448 then 4
  else if g.pingpong && decide (g.slotCount > 4224) then 6
  else if others.any fun i => meets g.slotFirst g.slotCount (jobGeo s i).slotFirst (jobGeo s i).slotCount then 5
  else 0

/-- A change to an enabled job that R327 refuses. -/
def jobChanged (old new : State) (j : Nat) : Bool :=
  old.flag (Reg.JOB_CFG_EN j) && new.flag (Reg.JOB_CFG_EN j) &&
  (old.f (Reg.JOB_CFG_TYPE j) != new.f (Reg.JOB_CFG_TYPE j) || old.f (Reg.JOB_CFG_PINGPONG j) != new.f (Reg.JOB_CFG_PINGPONG j) ||
   old.f (Reg.JOB_CFG_ROWS64 j) != new.f (Reg.JOB_CFG_ROWS64 j) || old.f (Reg.JOB_SLOT_SLOT_FIRST j) != new.f (Reg.JOB_SLOT_SLOT_FIRST j))

/-- The LAN group's check (R315, R326, R327): ERR_CODE and job. -/
def lanErr (old new : State) : Nat × Nat :=
  let js := ([0, 1, 2, 3] : List Nat)
  if new.actsF && (new.flag Reg.LAN_CTRL_EN || js.any fun j => new.flag (Reg.JOB_CFG_EN j)) then
    (1, (js.find? fun j => new.flag (Reg.JOB_CFG_EN j)).getD 0)
  else
    let e (j : Nat) : Nat :=
      if new.flag (Reg.JOB_CFG_EN j) then (let c := jobErr new j; if c ≠ 0 then c else if jobChanged old new j then 7 else 0) else 0
    match js.find? fun j => e j != 0 with
    | some j => (e j, j)
    | none => (0, 0)

def txLaneField (l : Nat) : Nat × Nat := (0x20 + l / 8, l % 8)

/-- A transmit lane is enabled with a source (R161, R387, R410). -/
def laneSends (s : State) (l src : Nat) : Bool :=
  decide (l < 128) && s.flag (Reg.LANE_CFG_TX_EN (l / 8) (l % 8)) && s.f (Reg.LANE_CFG_TX_SRC (l / 8) (l % 8)) == src

/-- What is wrong with the dump configuration of enabled job j (R387): ERR_CODE, 0 none. -/
def dumpErr (s : State) (j : Nat) : Nat :=
  let dest := s.f (Reg.DUMP_CFG_DEST j)
  let toMem (i : Nat) : Bool := s.f (Reg.DUMP_CFG_DEST i) == 0 || s.f (Reg.DUMP_CFG_DEST i) == 2
  let size := imageSize (jobGeo s j) (s.flag (Reg.DUMP_CFG_FORMAT j))
  let span (i : Nat) : Nat := s.f (Reg.DUMP_STRIDE i) * s.f (Reg.DUMP_BUFS i)
  let others := ([0, 1, 2, 3] : List Nat).filter fun i => i != j && s.flag (Reg.JOB_CFG_EN i) && toMem i
  let lanes := (List.range (s.f (Reg.DUMP_LANES_LANE_COUNT_M1 j) + 1)).map (s.f (Reg.DUMP_LANES_LANE_FIRST j) + ·)
  if dest = 3 then 8
  else if toMem j && decide (s.f (Reg.DUMP_STRIDE j) * 0x10000 < size) then 2
  else if toMem j && !(decide (1 ≤ s.f (Reg.DUMP_BUFS j)) && decide (s.f (Reg.DUMP_BUFS j) ≤ 16)) then 3
  else if toMem j && decide ((s.f (Reg.DUMP_BASE j) + span j) * 0x10000 > dramBytes s) then 4
  else if toMem j && others.any (fun i => meets (s.f (Reg.DUMP_BASE j)) (span j) (s.f (Reg.DUMP_BASE i)) (span i)) then 5
  else if dest ≥ 1 && lanes.any (fun l => !laneSends s l 3) then 6
  else 0

/-- The first dump error of an enabled job. -/
def dumpErrs (s : State) : Nat :=
  (([0, 1, 2, 3] : List Nat).map fun j => if s.flag (Reg.JOB_CFG_EN j) then dumpErr s j else 0).foldl
    (fun a e => if a ≠ 0 then a else e) 0

/-- The MNT group's check (R349, R387). -/
def mntErr (old new : State) : Nat :=
  if new.actsF then 1
  else
    let e := dumpErrs new
    let changed (j : Nat) : Bool :=
      new.flag (Reg.JOB_CFG_EN j) && (jobState old j == 2 || old.f (Reg.DUMP_STATE_STATE j) != 0) &&
      ([0, 4, 8, 0xC, 0x10] : List Nat).any fun o =>
        old.reg (0x110100 + 0x40 * j + o) != new.reg (0x110100 + 0x40 * j + o)
    if e ≠ 0 then e else if [0, 1, 2, 3].any changed then 7 else 0

/-! ## Effects of a commit -/

/-- SLOT_COUNT, BLOCKS and DUMP_SIZE from the committed geometry (R325, R379). -/
def geoRegs (s : State) : State :=
  ([0, 1, 2, 3] : List Nat).foldl (fun s j =>
    let g := jobGeo s j
    ((s.setF (Reg.JOB_SLOT_SLOT_COUNT j) g.slotCount).setF (Reg.JOB_STATE_BLOCKS j) g.blocks).setF (Reg.DUMP_SIZE j)
      (imageSize g (s.flag (Reg.DUMP_CFG_FORMAT j)) / 64)) s

/-- A job is enabled (R329, R334, R355). -/
def jobEnable (j : Nat) (s : State) : State :=
  let r := jobRun s j
  let s := putJobRun j { r with q := 0, serial := 0, nextNum := 0, starvedBelow := 0, reseedAt := 0 } s
  let s := putMjob j { s.mjob j with seq := 0 } s
  let s := { s with lan := { s.lan with lanterns := s.lan.lanterns.map fun (x : Nat × Lantern) => (x.1, { x.2 with reseeded := x.2.reseeded.filter fun y => y.1 != j }) } }
  let s := ((s.setF (Reg.JOB_PERIOD j) 0).setF64 (Reg.JOB_TASKS_LO j) (Reg.JOB_TASKS_HI j) 0).setF64 (Reg.DUMP_SEQ_LO j) (Reg.DUMP_SEQ_HI j) 0
  let s := setJobState j 1 s
  let g := jobGeo s j
  (List.range g.slotCount).foldl (fun s i =>
    slotArrive (g.slotFirst + i) (.tagSet (if g.pingpong && decide (g.bankSlots ≤ i) then 1 else 0)) s) s

/-- A job is disabled (R329, R332, R372); `g`: its geometry before the commit. -/
def jobDisable (j : Nat) (g : JobGeo) (s : State) : State :=
  let running := jobState s j == 2
  let s := setJobState j 0 s
  let s := if running then
      let m := s.mjob j
      let s := putMjob j { m with periods := m.periods.filter Period.closed, clears := m.clears + g.slotCount } s
      let limit := s.lan.nextSerial
      let s := stopWindows j g false s
      (List.range g.slotCount).foldl (fun s i => slotArrive (g.slotFirst + i) (.clear j limit) s) s
    else s
  -- boundaries waiting at the job execute at once (R329)
  let due := (s.sched.live.filter fun n => slotState s n == 2 && slotAct s n == 1 && slotTarget s n == j).foldr (insSlot s) []
  let s := due.foldl (fun s n => boundaryExec n false s) s
  dumpStateReg j s

/-- The LAN group has taken effect; `old` is the state before. -/
def lanTrans (old s : State) : State :=
  let js := ([0, 1, 2, 3] : List Nat)
  let en (x : State) (j : Nat) : Bool := x.flag (Reg.JOB_CFG_EN j)
  let s := { s with lan := { s.lan with seeds := s.lan.seedsStg } }
  let s := (js.filter fun j => en old j && !en s j).foldl (fun s j => jobDisable j (jobGeo old j) s) s
  let new := js.filter fun j => !en old j && en s j
  let s := new.foldl (fun s j => jobEnable j s) s
  let s := if new.isEmpty then s else reseedAll s
  js.foldl (fun s j => lanTurn j s) (geoRegs s)

/-- LAN_COMMIT.COMMIT (R326, R387, R496). -/
def lanCommit (s : State) : State :=
  let new := s.commitRange 0x100000 0x110000
  let e := lanErr s new
  if e.1 ≠ 0 then
    ((s.setF Reg.LAN_STATUS_COMMIT_ERR 1).setF Reg.LAN_STATUS_ERR_CODE e.1).setF Reg.LAN_STATUS_ERR_JOB e.2
  else
    let d := dumpErrs new
    if d ≠ 0 then (s.setF Reg.LAN_STATUS_COMMIT_ERR 1).setF Reg.MNT_STATUS_ERR_CODE d
    else lanTrans s new

/-- MNT_COMMIT.COMMIT (R387). -/
def mntCommit (s : State) : State :=
  let new := s.commitRange 0x110000 0x120000
  let e := mntErr s new
  if e ≠ 0 then (s.setF Reg.MNT_STATUS_COMMIT_ERR 1).setF Reg.MNT_STATUS_ERR_CODE e
  else geoRegs new

end Sys2Proof.Machine
end

