-- ==== Sys2Proof/Machine/Lens.lean ====
section
/-! DEFINITION. Sys2Proof/Machine/Lens.lean: the Lens: its inputs, coarse delay, filter bank and transform, coefficient
banks and hand-off (04_lens.md). -/
namespace Sys2Proof.Machine

def lensEv (kind i n : Nat) : FaultEv := fev kind 0x0E i n

def lensTaps (s : State) : Nat := 4 * (s.f Reg.LENS_CTRL_TAPS + 1)
def lensDom (s : State) : Nat := s.f Reg.LENS_CTRL_DOMAIN
/-- FORMAT codes of the Lens formats RE8, RE12, C8 (R117). -/
def lensFmt (s : State) : Nat := ([2, 3, 1] : List Nat).getD (s.f Reg.LENS_CTRL_FMT) 15
def lensOn (s : State) (i : Nat) : Bool := s.flag Reg.LENS_CTRL_EN && s.flag (Reg.LENS_IN_CFG_EN i)
def setFrontier (i f : Nat) (s : State) : State :=
  { s with lens := { s.lens with frontier := mapSet none s.lens.frontier i (some f) } }
def ringKey (i n : Nat) : Nat := i * 262144 + n % 262144
def ringAt (s : State) (i n : Nat) : RingPos := mapGet RingPos.reset s.lens.ring (ringKey i n)
def setRing (i n : Nat) (r : RingPos) (s : State) : State :=
  { s with lens := { s.lens with ring := mapSet RingPos.reset s.lens.ring (ringKey i n) r } }
/-- Raw count n of input i was zero-filled by a marker (R172). -/
def zeroFilled (s : State) (i n : Nat) : Bool := s.lens.zero.any fun z => z.1 == i && decide (z.2.1 ≤ n) && decide (n < z.2.2)

/-- The Lens has read raw count n of input i. -/
def wasRead (s : State) (i n : Nat) : Bool := (mapGet [] s.lens.reads i).any fun r => decide (r.1 ≤ n) && decide (n < r.2)

def noteRead (i n : Nat) (s : State) : State :=
  let runs := match mapGet [] s.lens.reads i with
    | (a, b) :: r => if b = n then (a, n + 1) :: r else (n, n + 1) :: (a, b) :: r
    | [] => [(n, n + 1)]
  { s with lens := { s.lens with reads := mapSet [] s.lens.reads i runs } }

/-! ## Receiving (R169 to R173, R177) -/

/-- A Lens input rejects a packet (R169). -/
def lensReject (i : Nat) (d : Desc) (s : State) : State :=
  let s := s.incF (Reg.LENS_IN_PKT_REJ i) 1
  let s := s.incF (Reg.LENS_IN_DROP i) (dSamples d)
  raiseOnce (Reg.LENS_IN_PKT_REJ i).key (lensEv FK.LENS_INPUT_REJ i (dCount d)) s

/-- The descriptor meets R169 at input i. -/
def lensAccepts (s : State) (i : Nat) (d : Desc) : Bool :=
  lensOn s i && dFormat d == lensFmt s && dDomain d == lensDom s && dInputFirst d == s.f (Reg.LENS_IN_CFG_INPUT_ID i) &&
  !dDump d && (dWicks d == 0 || (dInputs d == 1 && dChanFirst d == 0))

/-- One received sample (R170, R171, R177). -/
def lensSample (i n v : Nat) (valid : Bool) (s : State) : State :=
  let r := ringAt s i n
  if (r.held ∧ r.count = n) ∨ wasRead s i n ∨ zeroFilled s i n then s.incF (Reg.LENS_IN_DROP i) 1
  else
    let s := if r.held ∧ !wasRead s i r.count then
        raiseOnce 0xE0000 (lensEv FK.LENS_OVERRUN i r.count) (s.incF (Reg.LENS_IN_DROP i) 1)
      else s
    let s := setRing i n { held := true, count := n, value := if valid then v else 0, valid := valid } s
    let s := setFrontier i (max ((frontier s i).getD 0) (n + 1)) s
    s.incF (Reg.LENS_IN_ACCEPT i) 1

/-- The stored 16 bits of a sample (R173). -/
def lensCode (s : State) (v : Int × Int) : Nat :=
  if s.f Reg.LENS_CTRL_FMT = 2 then 256 * wrap 8 v.1 + wrap 8 v.2 else wrap 16 v.1

/-- A whole packet at Lens input i; `pre` runs the actions due at a count, `post` those that wait for every sample below theirs. -/
def lensPacket (i : Nat) (d : Desc) (area : List Byte) (pre : Nat → State → State) (post : State → State) (s : State) : State :=
  let m := max 1 (dChans d)
  (List.range (dChans d * dTimes d)).foldl (fun s k =>
    let n := dCount d + k
    let s := pre n s
    post <| reach tgtLensIn (dDomain d) n (lensSample i n (lensCode s (dSample d area 0 (k % m) (k / m))) (!dSrcInvalid d) s)) s

/-- A count marker at Lens input i: every count below it without a received sample is zero-filled (R172, R722). (DEDUCED, log 49.) -/
def lensMarker (i S : Nat) (dom : Nat) (s : State) : State :=
  let old := (s.lens.zero.find? fun z => z.1 == i).map fun z => z.2.2
  let s := { s with lens := { s.lens with zero := s.lens.zero.filter (fun z => z.1 != i) ++ [(i, 0, max S (old.getD 0))] } }
  reachMarker tgtLensIn dom S (setFrontier i (max S ((frontier s i).getD 0)) s)

/-! ## Coefficient banks (R193 to R199) -/

def lensShape (s : State) : Nat × Nat × Nat := (lensTaps s, s.f Reg.LENS_CTRL_FFT_LOG2, s.f Reg.LENS_CTRL_FRAME_HALF)
def lensLive (s : State) : Nat := s.f Reg.LENS_STATUS_LIVE_BANK
def sealShape (s : State) (b : Nat) : Option (Nat × Nat × Nat) := if b = 0 then s.lens.sealShape0 else s.lens.sealShape1
def setSealShape (b : Nat) (x : Option (Nat × Nat × Nat)) (s : State) : State :=
  { s with lens := if b = 0 then { s.lens with sealShape0 := x } else { s.lens with sealShape1 := x } }

/-- A write to LENS_COEF_DATA (R193). -/
def lensCoefData (w : Nat) (s : State) : State :=
  if s.flag Reg.LENS_COEF_STATUS_SEALED ∨ s.lens.ptr ≥ 1048576 then s.setF Reg.LENS_COEF_STATUS_REFUSED 1
  else
    let s := { s with lens := { s.lens with coef := mapSet 0 s.lens.coef ((1 - lensLive s) * 1048576 + s.lens.ptr) (w % 2 ^ 18),
                                            ptr := s.lens.ptr + 1 } }
    s.incF Reg.LENS_COEF_STATUS_WR_COUNT 1

def lensResetPtr (s : State) : State :=
  { s with lens := { s.lens with ptr := 0 }, dict := { s.dict with coefPtr := 0 } }.setF Reg.LENS_COEF_STATUS_WR_COUNT 0

/-- LENS_COEF_CTRL.SEAL (R194). -/
def lensSeal (s : State) : State :=
  if s.f Reg.LENS_COEF_STATUS_WR_COUNT = lensTaps s * lensF s then
    setSealShape (1 - lensLive s) (some (lensShape s)) (s.setF Reg.LENS_COEF_STATUS_SEALED 1)
  else s.setF Reg.LENS_COEF_STATUS_SEAL_ERR 1

def lensUnseal (s : State) : State := setSealShape (1 - lensLive s) none (s.setF Reg.LENS_COEF_STATUS_SEALED 0)

/-- The banks exchange, for spectra from `sp` on (R196). -/
def lensExchange (sp : Nat) (s : State) : State :=
  let old := lensLive s
  let s := setSealShape old none (s.setF Reg.LENS_STATUS_LIVE_BANK (1 - old))
  let s := (s.setF Reg.LENS_COEF_STATUS_SEALED 0).setF Reg.LENS_STATUS_STALE 0
  let s := { s with lens := { s.lens with banks := s.lens.banks ++ [(sp, 1 - old)], stale := s.lens.stale ++ [(sp, false)] } }
  (lensResetPtr s).incF Reg.LENS_SWAP_CNT 1

/-- A TABLE_SWAP of the Lens at trigger T (R195 to R197). -/
def lensSwapAt (T : Nat) (s : State) : State :=
  let sp := ceilDiv T (lensF s)
  if s.flag Reg.LENS_COEF_STATUS_SEALED then lensExchange sp s
  else
    let s := (s.setF Reg.LENS_STATUS_STALE 1).incF Reg.LENS_SKIP_CNT 1
    raise (lensEv FK.LENS_SWAP_SKIP 0 T) { s with lens := { s.lens with stale := s.lens.stale ++ [(sp, true)] } }

/-- LENS_COEF_CTRL.SWAP_NOW (R198). -/
def lensSwapNow (s : State) : State :=
  if !s.flag Reg.LENS_CTRL_EN && s.flag Reg.LENS_COEF_STATUS_SEALED then
    let s := lensExchange 0 s
    { s with lens := { s.lens with banks := [(0, lensLive s)], stale := [(0, false)] } }
  else s.setF Reg.LENS_COEF_STATUS_SEAL_ERR 1

/-- The last entry of a list of (from, value) at or below `sp`. -/
def inForce {α : Type} (d : α) (l : List (Nat × α)) (sp : Nat) : α :=
  ((l.filter fun x => decide (x.1 ≤ sp)).getLast?.map Prod.snd).getD d

/-! ## Delay steps (R179, R180) -/

def stepDelay (arg : Nat) (T : Nat) (i : Nat) (s : State) : State :=
  let v : Int := (s.f (Reg.LENS_IN_STATUS_DELAY i) : Int) + sext 32 arg
  if v < 0 ∨ v > 262143 then
    raise (lensEv FK.LENS_DELAY_RANGE i T)
      ((s.setF (Reg.LENS_IN_STATUS_DELAY i) (if v < 0 then 0 else 262143)).setF (Reg.LENS_IN_STATUS_CLAMP i) 1)
  else s.setF (Reg.LENS_IN_STATUS_DELAY i) v.toNat

/-- Execute a DELAY_STEP slot. One that starves before the output has come to its count governs the counts from there on (R179). -/
def delayStep (slot : Nat) (starved : Bool) (s : State) : State :=
  let t := slotTarget s slot
  let is := if t = 0x30FF then lensIns s else [t % 128]
  let T := slotWhen s slot
  let now := !starved || s.lens.nextOut.any fun n => decide (T ≤ n)
  endDone slot starved
    (if now then is.foldl (fun s i => stepDelay (slotArg s slot) T i s) s
     else { s with lens := { s.lens with steps := s.lens.steps ++ is.map fun i => (T, i, slotArg s slot) } })

/-- The delay steps of output count n take effect, those that starved first (R72, R179). -/
def delaysDue (n : Nat) (s : State) : State :=
  let due := s.lens.steps.filter fun x => decide (x.1 ≤ n)
  let s := { s with lens := { s.lens with steps := s.lens.steps.filter fun x => decide (n < x.1) } }
  let s := due.foldl (fun s x => stepDelay x.2.2 x.1 x.2.1 s) s
  runDue (lensDom s + 1) n (fun a _ => a == 0x04) (fun slot s => delayStep slot false s) s

/-- Execute a Lens TABLE_SWAP slot. -/
def lensSwapSlot (slot : Nat) (starved : Bool) (s : State) : State := endDone slot starved (lensSwapAt (slotWhen s slot) s)

/-! ## Output counts (R174 to R176) -/

/-- The lead a_i at output count n; an input that has received nothing has none. -/
def lead (s : State) (i n : Nat) : Option Int :=
  (frontier s i).map fun f => (f : Int) - ((n : Int) - s.f (Reg.LENS_IN_STATUS_DELAY i))

/-- R175. -/
def lensMay (s : State) (n : Nat) : Bool :=
  let is := lensIns s
  s.flag Reg.LENS_CTRL_EN && !is.isEmpty &&
  (is.all (fun i => match lead s i n with | some a => decide (a ≥ 1) | none => false) ||
   is.any fun i => match lead s i n with | some a => decide (a ≥ s.f Reg.LENS_SKEW_LIMIT_SAMPLES) | none => false)

/-- Read y_i[n] (R174, R176). A sample that has been read is let go when its position is read for a later count (R177). -/
def lensRead (i n : Nat) (s : State) : State :=
  let m : Int := (n : Int) - s.f (Reg.LENS_IN_STATUS_DELAY i)
  let behind := match lead s i n with | some a => decide (a < 1) | none => true
  let s := s.setFlag (Reg.LENS_IN_STATUS_BEHIND i) behind
  let put (y : YSample) (s : State) : State :=
    { s with lens := { s.lens with y := mapSet YSample.reset s.lens.y (i * 1048576 + n % 1048576) y } }
  if m < 0 then put YSample.reset (s.incF (Reg.LENS_IN_FILL i) 1)
  else
    let k := m.toNat
    let r := ringAt s i k
    let gone := decide (r.count < k) && wasRead s i r.count
    let s := noteRead i k (setRing i k { r with held := r.held && !gone } s)
    if r.held ∧ r.count = k then
      let y : YSample := if s.f Reg.LENS_CTRL_FMT = 2 then { re := sext 8 (r.value / 256), im := sext 8 r.value, valid := r.valid }
        else { re := sext 16 r.value, im := 0, valid := r.valid }
      put y s
    else put YSample.reset (s.incF (Reg.LENS_IN_FILL i) 1)

/-! ## Spectra (R182 to R190) -/

/-- A word of the gain, window and hand-off registers in force for spectrum sp (R191). In FX the Lens output comes to a count before the
ingest stage does. -/
def lensWord (s : State) (sp key : Nat) : Word :=
  match s.lens.epochs.find? fun e => decide (sp < e.1) with
  | some e => mapGet (regReset key) e.2 key
  | none => if s.isFX then underShadows (dueShadows s (lensDom s) (sp * lensF s)) key (s.reg key) else s.reg key

def lensField (s : State) (sp : Nat) (F : Field) : Nat := getBits (lensWord s sp F.key) F.hi F.lo

def yAt (s : State) (i : Nat) (n : Int) : YSample :=
  if n < 0 then YSample.reset else mapGet YSample.reset s.lens.y (i * 1048576 + n.toNat % 1048576)

/-- Round and saturate a component (R184, R186): the value, and 1 when it saturated. -/
def sat18c (x : Int) : Int × Nat := (satS 18 x, b2n (outS 18 x))

/-- The folded frame of input i for spectrum sp (R182, R184): values, saturated components. -/
def lensFold (s : State) (i sp : Nat) : List (Int × Int) × Nat :=
  let F := lensF s
  let T := lensTaps s
  let bank := inForce 0 s.lens.banks sp
  let sh := 17 - lensField s sp Reg.LENS_GAIN_FIR_SHIFT
  let cx := s.f Reg.LENS_CTRL_FMT = 2
  (List.range F).foldr (fun j a =>
    let terms := (List.range T).map fun t =>
      let h := sext 18 (mapGet 0 s.lens.coef (bank * 1048576 + t * F + j))
      let y := yAt s i (((sp : Int) - T + 1 + t) * F + j)
      (h * y.re, h * y.im)
    let r := sat18c (roundEven ((terms.map Prod.fst).sum) sh)
    let m := if cx then sat18c (roundEven ((terms.map Prod.snd).sum) sh) else (0, 0)
    ((r.1, m.1) :: a.1, a.2 + r.2 + m.2)) ([], 0)

/-- The transform stages (R185 to R187). -/
def lensFft (log2 mask : Nat) : Nat → Nat → List (Int × Int) → Nat → List (Int × Int) × Nat
  | 0, _, x, sat => (x, sat)
  | fuel + 1, k, x, sat =>
    if k ≥ log2 then (x, sat)
    else
      let y := fftStage log2 k x
      let y := if mask.testBit k then y.map fun e => (roundEven e.1 1, roundEven e.2 1) else y
      let z := y.map fun e => (sat18c e.1, sat18c e.2)
      lensFft log2 mask fuel (k + 1) (z.map fun e => (e.1.1, e.2.1)) (sat + (z.map fun e => e.1.2 + e.2.2).sum)

/-- One input's spectrum: its points, mark bits, and the saturated components of the filter and the transform. -/
def lensSpectrum (s : State) (i sp : Nat) : List (Int × Int) × Nat × Nat × Nat :=
  let F := lensF s
  let T := lensTaps s
  let log2 := s.f Reg.LENS_CTRL_FFT_LOG2
  let (u, satFir) := lensFold s i sp
  let (x, satFft) := lensFft log2 (lensField s sp Reg.LENS_GAIN_SHIFT_MASK) log2 0
    (fftOrder true log2 (u ++ List.replicate (2 ^ log2 - F) (0, 0))) 0
  let X := fftOrder false log2 x
  let valid := (List.range (T * F)).all fun k => (yAt s i (((sp : Int) - T + 1) * F + k)).valid
  let marks := b2n valid + 2 * b2n (decide (0 < satFir + satFft)) + 4 * b2n (inForce false s.lens.stale sp)
  (X, marks, satFir, satFft)

/-- A spectrum is formed and handed to the lamps (R182 to R190, R200 to R203). The first after a start of the Lens leaves no part of an
earlier run at its count or above. -/
def lensSpectra (sp : Nat) (s : State) : State :=
  let is := lensIns s
  let s := if s.lmp.lensFirst.isNone then
      { s with lmp := { s.lmp with egrParts := s.lmp.egrParts.filter fun p => decide (p.count < sp) } } else s
  let step := 2 ^ s.f Reg.LENS_CTRL_FFT_LOG2 / max 1 (lensF s)
  let specs := is.map fun i => (i, lensSpectrum s i sp)
  let s := specs.foldl (fun s x =>
    let (i, _, _, a, b) := x
    let s := s.incF (Reg.LENS_IN_SAT_FIR i) a
    let s := s.incF (Reg.LENS_IN_SAT_FFT i) b
    let s := if a = 0 then s else raiseOnce (Reg.LENS_IN_SAT_FIR i).key (lensEv FK.LENS_SAT i (sp * lensF s)) s
    let s := if b = 0 then s else raiseOnce (Reg.LENS_IN_SAT_FFT i).key (lensEv FK.LENS_SAT i (sp * lensF s)) s
    perfEvent 0x0E 0x11 (a + b) s) s
  let first := lensField s sp Reg.LENS_CHAN_FIRST
  let count := lensField s sp Reg.LENS_OUT_LAMP_COUNT
  let per := lensField s sp Reg.LENS_CHAN_COUNT / max 1 count
  let s := (List.range count).foldl (fun s m =>
    let n := (lensField s sp Reg.LENS_OUT_LAMP_FIRST + m) % 64
    let chans := (List.range per).map fun c => first + m * per + c
    let elems := chans.flatMap fun c => specs.map fun x => x.2.1.getD (c * step) (0, 0)
    let hdr := partHeader sp 0 (takeGap n s) (lensDom s) (first + m * per) per is.length []
    let (ok, s) := sinPush n (hdr :: (markRecords (specs.map fun x => x.2.2.1) ++ dataRecords elems)) s
    if ok then setGap n false s
    else raiseOnce Reg.LENS_CNT_OUT_DROP.key (lensEv FK.LENS_OUT_OVERFLOW 0 (sp * lensF s))
      ((setGap n true s).incF Reg.LENS_CNT_OUT_DROP 1)) s
  { s with lmp := { s.lmp with lensPassed := some sp, lensFirst := s.lmp.lensFirst.or (some sp) } }

/-- The next output count, processed with the delays that its steps leave (R175, R179). `first`: the count the Lens starts at when it has
processed none since it was enabled. (DESIGN CHOICE, log 46.) -/
def lensOutputCount (first : Nat) (s : State) : State :=
  let n := s.lens.nextOut.getD first
  let s' := delaysDue n s
  if !lensMay s' n then s
  else
    let dom := lensDom s
    let s := s'.setF Reg.LENS_STATUS_RUNNING 1
    let s := (lensIns s).foldl (fun s i => reach (tgtDelay i) dom n (lensRead i n s)) s
    let s := perfEvent 0x0E 0x10 1 { s with lens := { s.lens with nextOut := some (n + 1) } }
    if (n + 1) % max 1 (lensF s) = 0 then lensSpectra (n / max 1 (lensF s)) s else s

/-! ## The LENS group -/

/-- The group's check: ERR_CODE, 0 none (R166, R167, R178, R181, R184, R186, R199, R200). (DEDUCED, log 47; DEDUCED, log 48.) -/
def lensErr (old new : State) : Nat :=
  let on := new.flag Reg.LENS_CTRL_EN
  let wasOn := old.flag Reg.LENS_CTRL_EN
  let shape (s : State) : List Nat := [s.f Reg.LENS_CTRL_FMT, lensDom s, s.f Reg.LENS_CTRL_TAPS, s.f Reg.LENS_CTRL_FFT_LOG2,
    s.f Reg.LENS_CTRL_FRAME_HALF]
  let log2 := new.f Reg.LENS_CTRL_FFT_LOG2
  let chans := if new.f Reg.LENS_CTRL_FMT = 2 then lensF new else lensF new / 2
  let cc := new.f Reg.LENS_CHAN_COUNT
  let lc := new.f Reg.LENS_OUT_LAMP_COUNT
  if new.isX && on then 1
  else if new.isFX && (List.range 64).any (fun i => new.flag (Reg.LENS_IN_CFG_EN (64 + i))) then 1
  else if shape old != shape new && (wasOn || on) then 2
  else if decide (log2 < 8) || decide (log2 > 16) || decide (new.f Reg.LENS_GAIN_FIR_SHIFT > 9) ||
      decide (new.f Reg.LENS_GAIN_SHIFT_MASK ≥ 2 ^ log2) || new.f Reg.LENS_CTRL_FMT == 3 || new.f Reg.LENS_SKEW_LIMIT_SAMPLES == 0 then 3
  else if on && !wasOn && sealShape new (lensLive new) != some (lensShape new) then 4
  else if !(decide (1 ≤ cc) && decide (new.f Reg.LENS_CHAN_FIRST + cc ≤ chans) && decide (1 ≤ lc) && cc % max 1 lc == 0 &&
      decide (new.f Reg.LENS_OUT_LAMP_FIRST + lc ≤ 64)) then 5
  else if (List.range 128).any fun i => old.flag (Reg.LENS_IN_CFG_EN i) && old.f (Reg.LENS_IN_DELAY i) != new.f (Reg.LENS_IN_DELAY i) then 6
  else 0

/-- An input that is enabled takes its configured delay (R178). -/
def lensInDelay (i : Nat) (s : State) : State := s.setF (Reg.LENS_IN_STATUS_DELAY i) (s.f (Reg.LENS_IN_DELAY i))

/-- Input i starts empty (R172, R176). -/
def lensInEnable (i : Nat) (s : State) : State :=
  let lo := i * 262144
  let s := { s with lens := { s.lens with
    ring := s.lens.ring.filter fun x => decide (x.1 < lo) || decide (lo + 262144 ≤ x.1),
    frontier := mapSet none s.lens.frontier i none,
    zero := s.lens.zero.filter fun z => z.1 != i,
    reads := s.lens.reads.filter fun x => x.1 != i,
    y := s.lens.y.filter fun x => x.1 / 1048576 != i } }
  (s.setF (Reg.LENS_IN_STATUS_BEHIND i) 0).setOnce (Reg.LENS_IN_PKT_REJ i).key false

/-- The LENS group has taken effect; `at_` is the domain and the raw count of a scheduled APPLY (R191). When the Lens starts, what it
passed before is forgotten, and the egress entries go on from what it outputs then (R164). -/
def lensTrans (old : State) (at_ : Option (Nat × Nat)) (s : State) : State :=
  let s := ((List.range 128).filter fun i => s.flag (Reg.LENS_IN_CFG_EN i) && !old.flag (Reg.LENS_IN_CFG_EN i)).foldl (fun s i => lensInDelay i s) s
  let news := (List.range 128).filter fun i => lensOn s i && !lensOn old i
  let s := news.foldl (fun s i => lensInEnable i s) s
  let start := s.flag Reg.LENS_CTRL_EN && !old.flag Reg.LENS_CTRL_EN
  let s := if start then { s with lens := { s.lens with nextOut := none, epochs := [] }, lmp := { s.lmp with lensPassed := none, lensFirst := none },
                                       links := { s.links with egr := s.links.egr.map fun (x : Nat × EgrEntry) => (x.1, { x.2 with old := true }) } }.setOnce 0xE0000 false
    else s
  let s := if s.flag Reg.LENS_CTRL_EN then s else s.setF Reg.LENS_STATUS_RUNNING 0
  match at_ with
  | none => s
  | some (_, T) =>
    let keys := [0xE000C, 0xE0010, 0xE0014, 0xE0018]
    if start ∨ keys.all (fun k => old.reg k == s.reg k) then s
    else { s with lens := { s.lens with epochs := s.lens.epochs ++
      [(ceilDiv T (lensF s), (keys.map fun k => (k, old.reg k)).filter fun x => x.2 != regReset x.1)] } }

/-- LENS_COMMIT.COMMIT. -/
def lensCommit (s : State) : State :=
  let new := s.commitRange 0xE0000 0xF0000
  let e := lensErr s new
  if e ≠ 0 then (s.setF Reg.LENS_STATUS_COMMIT_ERR 1).setF Reg.LENS_STATUS_ERR_CODE e else lensTrans s none new

/-! ## The port configuration of a lamp (R240) -/

/-- The LMP group of lamp n has taken effect: SOUT starts at a header after it is enabled (R264). -/
def lmpTrans (n : Nat) (old s : State) : State :=
  if s.flag (Reg.LMP_PORT_CFG_SOUT_EN n) && !old.flag (Reg.LMP_PORT_CFG_SOUT_EN n) then
    s.setLamp n { s.lamp n with sout := [], soutPart := none }
  else s

/-- LMP_COMMIT.COMMIT. -/
def lmpCommit (n : Nat) (s : State) : State := lmpTrans n s (s.commitRange (0x400000 + n * 0x10000) (0x410000 + n * 0x10000))

end Sys2Proof.Machine
end

