-- ==== Sys2Proof/Machine/Code10.lean ====
section
/-! DEFINITION. Sys2Proof/Machine/Code10.lean: the 8b/10b code that R637 names, with the code groups of IEEE 802.3. PRESUMED, log 148. -/
namespace Sys2Proof.Machine

/-- The 6-bit codes of the low five bits at negative running disparity, bit a first. -/
def code6 (x : Nat) : Nat :=
  [0b100111, 0b011101, 0b101101, 0b110001, 0b110101, 0b101001, 0b011001, 0b111000, 0b111001, 0b100101, 0b010101, 0b110100, 0b001101,
   0b101100, 0b011100, 0b010111, 0b011011, 0b100011, 0b010011, 0b110010, 0b001011, 0b101010, 0b011010, 0b111010, 0b110011, 0b100110,
   0b010110, 0b110110, 0b001110, 0b101110, 0b011110, 0b101011].getD x 0

/-- The 4-bit codes of the high three bits at negative running disparity, of data and of control characters. -/
def code4 (k : Bool) (y : Nat) : Nat :=
  (if k then [0b1011, 0b0110, 0b1010, 0b1100, 0b1101, 0b0101, 0b1001, 0b0111]
   else [0b1011, 0b1001, 0b0101, 0b1100, 0b1101, 0b1010, 0b0110, 0b1110]).getD y 0

/-- The bits of a code of n bits, the first sent first. -/
def codeBits (n c : Nat) : List Bool := (List.range n).map fun i => c.testBit (n - 1 - i)

/-- A code at a running disparity (true: positive): a code that is not balanced is inverted when the disparity is positive, and so is
one that `both` says has two forms. Answers its bits and the disparity after it. -/
def codeAt (pos both : Bool) (l : List Bool) : List Bool × Bool :=
  let even := 2 * (l.filter id).length == l.length
  (if pos && (both || !even) then l.map (!·) else l, if even then pos else !pos)

/-- One character: a control character, or a byte of data. (PRESUMED, log 148.) -/
def code10 (pos k : Bool) (b : Byte) : List Bool × Bool :=
  let x := b.toNat % 32
  let y := b.toNat / 32
  let six := codeAt pos (x == 7 || k) (codeBits 6 (if k && x == 28 then 0b001111 else code6 x))
  let alt := !k && y == 7 && (if six.2 then [11, 13, 14] else [17, 18, 20]).contains x
  let four := codeAt six.2 (k || y == 3) (codeBits 4 (if alt then 0b0111 else code4 k y))
  (six.1 ++ four.1, four.2)

/-- Characters one after the other. -/
def code10List (pos : Bool) : List (Bool × Byte) → List Bool
  | [] => []
  | c :: r => let g := code10 pos c.1 c.2; g.1 ++ code10List g.2 r

end Sys2Proof.Machine
end

