-- ==== Sys2Proof/Machine/Pair.lean ====
section
/-! DEFINITION. Sys2Proof/Machine/Pair.lean: the pair unit: roles and the claim, the pilot, digests and trims
(18_pairs.md). -/
namespace Sys2Proof.Machine

/-- Enter a pair state and raise what that raises. -/
def pairGo (st : Nat) (s : State) : State :=
  let (s, ev) := pairEnter st s
  collect 8 ev s

/-- A unit that neither claims nor is ACTIVE is STANDBY, ISOLATED or OFF (R628). -/
def pairSettle (s : State) : State := if pairState s = 2 ∨ pairState s = 3 then s else pairGo (pairIdle s) s

/-- The outputs are gated, or their gate is closing (R628, R629, R632). -/
def pairGated (s : State) : Bool :=
  s.pair.releasing || pairState s == 1 || pairState s == 2 || pairState s == 4

/-- COMPARING (R642); when it falls, what was being compared is not. -/
def updComparing (s : State) : State :=
  let c := s.flag Reg.PAIR_CFG_EN && s.pair.partnerEn && s.flag Reg.PAIR_STATUS_PILOT_UP && s.pair.partnerPilot
  let s := s.setFlag Reg.PAIR_STATUS_COMPARING c
  if c then s
  else
    let s := pairSet (fun p => { p with beams := p.beams.map fun b => { b with comparing := false } }) s
    ([0, 1, 2, 3] : List Nat).foldl (fun s j =>
      let m := s.mjob j
      putMjob j { m with periods := m.periods.map fun p => { p with comparing := false } } s) s

/-! ## Lanes and the gate -/

/-- The domain of a packet handed to a lane. -/
def TxPacket.dom (p : TxPacket) : Nat := dDomain p.desc

/-- A TRIM in progress gives a packet to the partner, or holds it for this unit (R646 to R648). -/
def trimTakes (s : State) (p : TxPacket) : Bool :=
  match s.pair.trimAt with
  | some T => p.dom == s.pair.trimDomain && decide (T ≤ p.count)
  | none => false

/-- The packets that wait on lanes. -/
def queuedPackets (s : State) : List TxPacket := s.links.tx.flatMap fun x => x.2.queue

/-- A packet that the gate discards (R629, R646 to R648). -/
def gateDrops (s : State) (p : TxPacket) : Bool :=
  if pairGated s then !(s.pair.trimHold && trimTakes s p) else !s.pair.trimHold && trimTakes s p

/-- Discard waiting packets that `p` names, counting them in PAIR_CNT_GATED (R629). -/
def dropQueued (p : TxPacket → Bool) (s : State) : State :=
  let n := ((queuedPackets s).filter p).length
  let s := { s with links := { s.links with tx := s.links.tx.map fun (x : Nat × TxLane) => (x.1, { x.2 with queue := x.2.queue.filter fun q => !p q }) } }
  s.incF Reg.PAIR_CNT_GATED n

/-! ## The claim (R630 to R636) -/

/-- The claim is asserted (R630, R648). The waits of 1 µs and 10 µs have passed when the command comes. -/
def claimAssert (s : State) : State :=
  let st := pairState s
  if s.flag Reg.PAIR_CFG_EN ∧ !s.snuffed ∧ !s.flag Reg.PAIR_CTRL_HOLD ∧ !s.flag Reg.PAIR_STATUS_SENSE ∧ (st = 1 ∨ st = 4) then pairGo 2 s
  else s

/-- A claim held for 500 ns makes the unit ACTIVE (R631, R636, R648). -/
def claimConfirm (s : State) : State :=
  if pairState s ≠ 2 ∨ s.flag Reg.PAIR_STATUS_SENSE then s
  else
    let hold := s.pair.trimHold
    let keep (p : TxPacket) : Bool := hold && trimTakes s p
    let s := dropQueued (fun p => !keep p) s
    let s := pairGo 3 s
    if hold then (pairSet (fun p => { p with trimAt := none, trimHold := false, claimedBefore := true }) s).incF Reg.PAIR_CNT_TRIM 1
    else
      let silent := !s.pair.claimedBefore && !s.pair.heard
      let s := pairSet (fun p => { p with claimedBefore := true }) s
      let s := (s.incF Reg.PAIR_CNT_TAKEOVER 1).lifeAdd 16 1
      if silent then s else raise (fev FK.PAIR_TAKEOVER 0x05 0 0) s

/-- A filtered change of PAIR_SENSE_IN (R631). A CLAIMING unit without priority gives way, and no fault is raised. In device reset
only the level is seen. -/
def senseChange (level : Bool) (s : State) : State :=
  let s := s.setFlag Reg.PAIR_STATUS_SENSE level
  if !s.bring.holding.isEmpty then s
  else pairSettle (if level ∧ pairState s = 2 ∧ !s.flag Reg.PAIR_STATUS_PRIO then (pairEnter (pairIdle s) s).1 else s)

/-- An ACTIVE unit has sensed the partner's claim for 100 ns (R633). -/
def dualClaim (s : State) : State :=
  if pairState s = 3 ∧ s.flag Reg.PAIR_STATUS_SENSE then
    raise (fev FK.PAIR_DUAL_CLAIM 0x05 0 0) (s.incF Reg.PAIR_CNT_DUAL 1)
  else s

/-- A sourced lane has a packet in progress. -/
def laneBusy (s : State) : Bool := s.links.tx.any fun x => x.2.cur.isSome

/-- Stream k may still open a block below channel count T (R396): its last block below T is open to contributions, and one of those that
are has not closed. (DEDUCED, log 166.) -/
def streamMay (s : State) (k T : Nat) : Bool :=
  let tpp := max 1 (s.f (Reg.STR_TIME_TPP k))
  match mapGet none s.can.front k with
  | none => false
  | some f =>
    let m := (T - 1) / tpp
    decide (0 < T) && decide (f ≤ m + 3) &&
      (List.range (m + 1 - (f - 3))).any fun i => !s.can.closed.contains (k, f - 3 + i)

/-- Output below a TRIM's count still to be sent or formed (R647): packets and count markers that wait, blocks that are open or may open,
egress blocks, and images of periods that have closed or have a boundary ahead below the count. -/
def trimOwes (s : State) : Bool :=
  match s.pair.trimAt with
  | none => false
  | some T =>
    let d := s.pair.trimDomain
    let domK (k : Nat) : Bool := s.f (Reg.SET_CFG_DOMAIN (s.f (Reg.STR_CFG_SET k))) == d
    s.links.tx.any (fun x => x.2.marker.any fun h => dDomain h == d && decide (dCount h ≤ T)) ||
    (List.range 16).any (fun k => s.flag Reg.CAN_CTRL_EN && s.flag (Reg.STR_CFG_EN k) && domK k && streamMay s k T) ||
    s.links.egr.any (fun x => s.flag Reg.EGR_CTRL_EN && s.flag (Reg.EGR_ENT0_EN x.1) && s.f (Reg.EGR_ENT0_DOMAIN x.1) == d &&
      (x.2.block.or s.lmp.lensFirst).any fun b => decide (b < T)) ||
    s.sched.live.any (fun n => slotAct s n == 1 && slotDom s n == d + 1 && s.f (Reg.JOB_STATE_STATE (slotTarget s n % 4)) == 2 &&
      decide (1 ≤ s.f (Reg.DUMP_CFG_DEST (slotTarget s n % 4))) && decide (slotWhen s n / chanF s < T)) ||
    (queuedPackets s).any (fun p => p.dom == d && decide (p.count < T)) ||
    s.can.blocks.any (fun b => s.f (Reg.SET_CFG_DOMAIN (s.f (Reg.STR_CFG_SET b.stream))) == d &&
      decide (b.m * s.f (Reg.STR_TIME_TPP b.stream) < T)) ||
    s.lmp.egrParts.any (fun p => p.domain == d && decide (p.count < T)) ||
    s.mnt.jobs.any fun x => x.2.periods.any fun p => p.closed && p.lanes && p.geo.domain == d && decide (p.outCount s < T)

/-- Once its outputs are gated the unit releases its claim (R632, R647). -/
def claimRelease (s : State) : State :=
  if laneBusy s ∨ (pairState s ≠ 3 ∧ pairState s ≠ 2) then s
  else if s.pair.releasing ∨ (s.flag Reg.PAIR_STATUS_TRIM_PENDING ∧ !trimOwes s) then
    let s := pairSet (fun p => { p with releasing := false, trimAt := if p.trimHold then p.trimAt else none }) s
    let s := dropQueued (fun p => !trimTakes s p || !s.pair.trimHold) s
    pairGo (pairIdle s) (s.setF Reg.PAIR_STATUS_TRIM_PENDING 0)
  else s

/-- A write of PAIR_CTRL.HOLD (R630, R632). The outputs of a CLAIMING unit are gated already, so it releases its claim at once. -/
def holdWrite (hold : Bool) (s : State) : State :=
  let s := s.setFlag Reg.PAIR_CTRL_HOLD hold
  if hold ∧ pairState s = 3 then pairSet (fun p => { p with releasing := true }) s
  else if hold ∧ pairState s = 2 then pairGo (pairIdle s) s
  else pairSet (fun p => { p with releasing := p.releasing && !s.flag Reg.PAIR_CFG_EN }) s

/-- PAIR_CTRL.CLEAR_CNT. -/
def pairClearCnt (s : State) : State := s.resetRange 0x50020 0x5004C

/-! ## The PAIR group (R635) -/

def pairErr (old new : State) : Nat :=
  if old.flag Reg.PAIR_CFG_EN && !new.flag Reg.PAIR_CFG_EN && new.flag Reg.PAIR_STATUS_SENSE then 1
  else if new.f Reg.PAIR_BEAM_INTERVAL = 0 then 2 else 0

def pairTrans (old s : State) : State :=
  let s := if old.flag Reg.PAIR_CFG_EN ∧ !s.flag Reg.PAIR_CFG_EN then
      -- outputs are enabled while EN is 0 (R635): no trim is waited for
      let s := pairSet (fun p => { p with trimAt := none, trimHold := false }) (s.setF Reg.PAIR_STATUS_TRIM_PENDING 0)
      if pairState s = 3 then pairSet (fun p => { p with releasing := true }) s
      else if pairState s = 2 then pairGo (pairIdle s) s else s
    else s
  updComparing (pairSettle s)

def pairCommit (s : State) : State :=
  let new := s.commitRange 0x50000 0x60000
  let e := pairErr s new
  if e ≠ 0 then (s.setF Reg.PAIR_STATUS_COMMIT_ERR 1).setF Reg.PAIR_STATUS_ERR_CODE e else pairTrans s new

/-! ## Divergence (R643, R650) -/

def diverge (cause id key own partner : Nat) (s : State) : State :=
  let s := (s.setF Reg.PAIR_LAST_DIV_CAUSE cause).setF Reg.PAIR_LAST_DIV_ID id
  let s := s.setF64 Reg.PAIR_LAST_DIV_KEY_LO Reg.PAIR_LAST_DIV_KEY_HI key
  let s := s.setF64 Reg.PAIR_LAST_DIV_OWN_LO Reg.PAIR_LAST_DIV_OWN_HI own
  let s := s.setF64 Reg.PAIR_LAST_DIV_PARTNER_LO Reg.PAIR_LAST_DIV_PARTNER_HI partner
  raise (fev FK.PAIR_DIVERGE 0x05 0 (cause * 2 ^ 44 + id * 2 ^ 32 + key % 2 ^ 32)) s

/-- Compare an own digest with the partner's. -/
def compareDigests (own partner : Digest) (s : State) : State :=
  let same := own.value == partner.value && own.packets % 65536 == partner.packets % 65536
  if own.cause = 1 then
    let s := s.incF Reg.PAIR_CNT_DUMP_CMP 1
    if same then s else diverge 1 own.unit own.key own.value partner.value (s.incF Reg.PAIR_CNT_DUMP_DIV 1)
  else
    let s := s.incF Reg.PAIR_CNT_BEAM_CMP 1
    if same then s else diverge 2 own.unit own.key own.value partner.value (s.incF Reg.PAIR_CNT_BEAM_DIV 1)

def sameDigest (a b : Digest) : Bool := a.cause == b.cause && a.unit == b.unit && a.key == b.key

/-- An own digest is eligible and waits, or meets the partner's; only eligible ones are compared (R643). -/
def ownDigest (d : Digest) (s : State) : State :=
  match s.pair.partner.find? (sameDigest d) with
  | some p =>
    let s := pairSet (fun x => { x with partner := x.partner.filter fun y => !sameDigest d y }) s
    if d.eligible ∧ p.eligible then compareDigests d p s else s
  | none => if d.eligible then pairSet (fun x => { x with own := x.own ++ [d] }) s else s

/-- A digest frame from the partner (R643). One that is not eligible is not compared, and it has arrived all the same.
(DEDUCED, log 116.) -/
def partnerDigest (d : Digest) (s : State) : State :=
  match s.pair.own.find? (sameDigest d) with
  | some o =>
    let s := pairSet (fun x => { x with own := x.own.filter fun y => !sameDigest d y }) s
    if d.eligible then compareDigests o d s else s
  | none => pairSet (fun x => { x with partner := x.partner ++ [d] }) s

/-- PAIR_DIG_WAIT_MS after an own digest without the partner's. -/
def digestTimeout (cause unit key : Nat) (s : State) : State :=
  match s.pair.own.find? fun d => d.cause == cause && d.unit == unit && d.key == key with
  | none => s
  | some d =>
    let s := pairSet (fun x => { x with own := x.own.filter fun y => !sameDigest d y }) s
    diverge 3 unit key d.value 0 (s.incF Reg.PAIR_CNT_DIG_MISS 1)

/-! ## The pilot (R637, R638) -/

/-- A pilot frame's bytes between K27.7 and K29.7. -/
def pilotFrame (type : Nat) (payload : List Byte) : List Byte :=
  let body := BitVec.ofNat 8 type :: BitVec.ofNat 8 payload.length :: payload
  body ++ leBytes 4 (crcBytes 32 0x1EDC6F41 body)

/-- The line's bits of a frame: K27.7, the frame, K29.7 and the K28.5 after it. -/
def pilotLine (pos : Bool) (l : List Byte) : List Bool :=
  code10List pos ((true, 0xFB) :: l.map (fun b => (false, b)) ++ [(true, 0xFD), (true, 0xBC)])

/-- A frame is sent. The running disparity it begins with depends on how many K28.5 were sent before it, which is free (log 148). -/
def sendPilot (type : Nat) (payload : List Byte) (s : State) : State :=
  s.draw.2.emit (.pilot (pilotLine (s.draw.1 % 2 == 1) (pilotFrame type payload)))

/-- The digest frame of a result digest. -/
def digestPayload (d : Digest) : List Byte :=
  if d.cause = 1 then
    leBytes 1 d.unit ++ leBytes 1 (b2n d.eligible) ++ leBytes 6 0 ++ leBytes 8 d.key ++ leBytes 8 d.value
  else leBytes 1 d.unit ++ leBytes 1 (b2n d.eligible) ++ leBytes 2 d.packets ++ leBytes 8 d.key ++ leBytes 4 d.value

/-- The oldest digest is sent, and its own side waits for the partner's (R641, R643). -/
def digestSend (s : State) : State :=
  match s.pair.sendQueue with
  | [] => s
  | d :: r =>
    let s := pairSet (fun p => { p with sendQueue := r }) s
    ownDigest d (sendPilot (if d.cause = 1 then 2 else 3) (digestPayload d) s)

def heartbeatPayload (s : State) : List Byte :=
  leBytes 2 (s.f (Reg.LNK_SOURCE_CHIP_ID 0)) ++
  leBytes 1 (pairState s + 8 * s.f Reg.PAIR_STATUS_CLAIM_OUT + 16 * s.f Reg.PAIR_STATUS_SENSE + 32 * b2n s.snuffed +
    64 * s.f Reg.PAIR_CTRL_HOLD + 128 * s.f Reg.PAIR_STATUS_PRIO) ++
  leBytes 1 (s.f Reg.PAIR_STATUS_PILOT_UP + 2 * s.f Reg.PAIR_CFG_EN) ++ leBytes 2 s.pair.beatSeq ++ leBytes 2 0 ++
  leBytes 4 s.time.sec ++ leBytes 4 s.time.ns

def heartbeatSend (s : State) : State :=
  pairSet (fun p => { p with beatSeq := (p.beatSeq + 1) % 65536 }) (sendPilot 1 (heartbeatPayload s) s)

/-- A CRC-good HEARTBEAT (R637, R638, R643). -/
def heartbeat (pl : List Byte) (s : State) : State :=
  let b2 := leAt pl 2 1
  let b3 := leAt pl 3 1
  let s := (s.setF Reg.PAIR_STATUS_PARTNER_STATE (b2 % 8)).setF Reg.PAIR_STATUS_PARTNER_CHIP (leAt pl 0 2)
  let up := s.flag Reg.PAIR_STATUS_PILOT_UP
  let s := pairSet (fun p => { p with heard := true, goodBeats := min 3 (p.goodBeats + 1), partnerEn := b3.testBit 1,
                                      partnerPilot := b3.testBit 0 }) s
  let now := up || decide (s.pair.goodBeats ≥ 3)
  let s := s.setFlag Reg.PAIR_STATUS_PILOT_UP now
  let s := if now ∧ !up then pairSet (fun p => { p with prioRaised := false, pilotLow := false }) s else s
  let s := updComparing (pairSettle s)
  let claim := b2.testBit 3
  let s := if claim ∧ pairState s = 3 ∧ !s.pair.dualBeat then diverge 4 0 0 0 0 s else s
  let s := pairSet (fun p => { p with dualBeat := claim && pairState s == 3 }) s
  if b2n (b2.testBit 7) = s.f Reg.PAIR_STATUS_PRIO ∧ now ∧ !s.pair.prioRaised then
    diverge 5 0 0 0 0 (pairSet (fun p => { p with prioRaised := true }) s)
  else s

/-- A frame with a bad CRC or a reserved TYPE; a bad CRC ends a run of good heartbeats. (DEDUCED, log 100.) -/
def pilotFrameError (crcBad : Bool) (s : State) : State :=
  let s := s.incF Reg.PAIR_CNT_PILOT_BAD 1
  if crcBad ∧ !s.flag Reg.PAIR_STATUS_PILOT_UP then pairSet (fun p => { p with goodBeats := 0 }) s else s

/-- No good heartbeat for 50 µs. -/
def pilotDown (s : State) : State :=
  let up := s.flag Reg.PAIR_STATUS_PILOT_UP
  let s := pairSet (fun p => { p with goodBeats := 0, pilotLow := true, dualBeat := false }) (s.setF Reg.PAIR_STATUS_PILOT_UP 0)
  let s := if up then raise (fev FK.PAIR_PILOT_LOSS 0x05 0 0) s else s
  updComparing (pairSettle s)

/-- A DUMP_DIGEST payload. -/
def dumpDigestOf (pl : List Byte) : Digest :=
  { cause := 1, unit := leAt pl 0 1, key := leAt pl 8 8, value := leAt pl 16 8, packets := 0, eligible := (leAt pl 1 1).testBit 0 }

/-- DEDUCED, log 120. -/
def beamDigestOf (pl : List Byte) : Digest :=
  { cause := 2, unit := leAt pl 0 1, key := leAt pl 4 8, value := leAt pl 12 4, packets := leAt pl 2 2, eligible := (leAt pl 1 1).testBit 0 }

/-! ## Beam digests (R641, R642) -/

/-- A block of stream k opens: intervals far enough behind are complete, and its own begins. The sums go on whatever BEAM_CMP
says; it decides whether a frame goes (R638). -/
def beamOpen (k m tpp : Nat) (s : State) : State :=
  let int := max 1 (s.f Reg.PAIR_BEAM_INTERVAL)
  let first := m * tpp
  let whole (b : BeamInterval) : Bool := b.stream == k && decide ((b.interval + 1) * int + 4 * tpp ≤ first)
  let ds := (s.pair.beams.filter whole).map fun b : BeamInterval =>
    ({ cause := 2, unit := k, key := b.interval, value := b.sum, packets := b.packets, eligible := b.comparing } : Digest)
  let rest := s.pair.beams.filter fun b => !whole b
  let j := first / int
  let rest := if rest.any (fun b => b.stream == k && b.interval == j) then rest
    else rest ++ [{ stream := k, interval := j, sum := 0, packets := 0, comparing := s.flag Reg.PAIR_STATUS_COMPARING }]
  pairSet (fun p => { p with beams := rest, sendQueue := if s.flag Reg.PAIR_CFG_BEAM_CMP then p.sendQueue ++ ds else p.sendQueue }) s

/-- A packet of stream k has been formed. -/
def beamFormed (k first : Nat) (d : Desc) (area : List Byte) (s : State) : State :=
  let int := max 1 (s.f Reg.PAIR_BEAM_INTERVAL)
  let db := descBytes d
  let c := crcBytes 32 0x1EDC6F41 (db.take 2 ++ [0, 0] ++ db.drop 4 ++ area)
  pairSet (fun p => { p with beams := p.beams.map fun b =>
    if b.stream = k ∧ b.interval = first / int then { b with sum := (b.sum + c) % 2 ^ 32, packets := b.packets + 1 } else b }) s

/-! ## Trims (R645 to R648) -/

/-- No release sensed within PAIR_TRIM_WAIT_US (R648): nothing to do once the sense shows no claim, as a CLAIMING unit has seen. -/
def trimTimeout (s : State) : State :=
  if !s.pair.trimHold ∨ pairState s = 2 ∨ !s.flag Reg.PAIR_STATUS_SENSE then s
  else
    let s := dropQueued (trimTakes s) s
    let s := pairSet (fun p => { p with trimAt := none, trimHold := false }) s
    (s.incF Reg.PAIR_CNT_TRIM_FAIL 1).intPend 26

end Sys2Proof.Machine
end

