-- ==== Sys2Proof/Machine/StgFlow.lean ====
section
/-! DEFINITION. Sys2Proof/Machine/StgFlow.lean: from a sample to a handed dwell: the input map, windows, inspection parts,
verdicts, hand-out, and the STG group (07_staging.md). -/
namespace Sys2Proof.Machine

/-! ## The input map (R287, R288) -/

/-- The set and position that the enabled entry of domain d holding input g gives; `rd` reads a map word. -/
def mapLookup (rd : Nat → Word) (d g : Nat) : Option (Nat × Nat) :=
  (List.range 256).findSome? fun e =>
    let w0 := rd (0xF1000 + 8 * e)
    let w1 := rd (0xF1004 + 8 * e)
    let first := getBits w0 18 5
    if getBits w0 0 0 = 1 ∧ getBits w0 2 1 = d ∧ first ≤ g ∧ g < first + getBits w1 13 0 then
      some (getBits w0 4 3, getBits w1 27 14 + (g - first))
    else none

/-- The map words in force for the window of count n of input g (R287). -/
def mapVersion (s : State) (d g n : Nat) : Nat → Word :=
  let old (e : MapEpoch) (k : Nat) : Word := mapGet 0 e.words k
  let governs (e : MapEpoch) : Bool :=
    match (mapLookup (old e) d g).orElse (fun _ => mapLookup s.reg d g) with
    | some x => decide (n / jobD s x.1 < mapGet 0 e.lims x.1)
    | none => false
  match s.stg.epochs.find? governs with
  | some e => old e
  | none => s.reg

/-- The channel index of a global channel in a set's list (R283). -/
def chanIndex (rd : Nat → Word) (s : State) (j ch : Nat) : Option Nat :=
  (List.range (s.f (Reg.SET_SHAPE_NCH j))).find? fun i => getBits (rd (0xF2000 + 4 * (s.f (Reg.SET_CH_BASE j) + i))) 16 0 == ch

/-! ## Inspection parts (R296, R297) -/

def stgEv (kind j k : Nat) : FaultEv := fev kind 0x0F j k

/-- The set sends inspection parts: X personality with LAMPS. -/
def inspects (s : State) (j : Nat) : Bool := s.isX && s.flag (Reg.SET_CFG_LAMPS j)

def Win.nb (w : Win) : Nat := ceilDiv w.nin 128
def Win.blockSize (w : Win) (b : Nat) : Nat := min 128 (w.nin - 128 * b)

/-- The header of the inspection part of block b at dwell offset t (R297). The channel is that of the table in force for the window
(R287). -/
def inspectHeader (s : State) (j : Nat) (w : Win) (c b t : Nat) (gap : Bool) : Record :=
  partHeader (w.k * w.dlen) 1 gap (s.f (Reg.SET_CFG_DOMAIN j)) (windowChan s j w.k c) 1 (w.blockSize b)
    [j + 4 * w.fmt + 8 * s.f (Reg.SET_CFG_DWELL j), t, 128 * b, c, s.f (Reg.SET_CFG_DECIM j)]

/-- The header lanes of a verdict part are those of the inspection header in lanes 0 to 6, 8, 9, 11 and 12, every bit of them but GAP, and
lane 7 is zero (R298). (DEDUCED, log 63.) -/
def verdictMatches (s : State) (j : Nat) (w : Win) (c b : Nat) (hdr : List Nat) : Bool :=
  let want := (inspectHeader s j w c b 0 false).lanes
  ([0, 1, 2, 3, 5, 6, 8, 9, 11, 12] : List Nat).all (fun i => hdr.getD i 0 == want.getD i 0) &&
  (hdr.getD 4 0 ||| 4) == (want.getD 4 0 ||| 4) && hdr.getD 7 0 == 0

/-- The samples of an inspection part; a position not written shows whatever the half holds, a free value.
(DESIGN CHOICE, log 62.) -/
def inspectElems (w : Win) (c b t : Nat) : Nat → Nat → State → List (Int × Int) × State
  | 0, _, s => ([], s)
  | n + 1, i, s =>
    let p := 128 * b + i
    let (e, s) := if w.cell p c t = 0 then
        let (x, s) := s.draw
        let (y, s) := s.draw
        let bits := if w.fmt = 1 then 8 else 4
        ((sext bits x, sext bits y), s)
      else (winSample s w p c t, s)
    let (r, s) := inspectElems w c b t n (i + 1) s
    (e :: r, s)

/-- Send one inspection part (R296). -/
def inspectSend (j k c b t : Nat) (s : State) : State :=
  match findWin s j k with
  | none => s
  | some w =>
    let key := (c * 64 + b) * 4096 + t
    if mapGet 0 w.inspected key ≠ 0 then s
    else
      let s := putWin j { w with inspected := mapSet 0 w.inspected key 1 } s
      let n := w.blockSize b
      let lamp := (s.f (Reg.SET_LAMP_FIRST j) + (c * w.nb + b) % max 1 (s.f (Reg.SET_LAMP_COUNT j))) % 64
      let (elems, s) := inspectElems w c b t n 0 s
      let hdr := inspectHeader s j w c b t (takeGap lamp s)
      let marks := (List.range n).map fun i => b2n (w.cell (128 * b + i) c t % 2 == 1)
      let (ok, s) := sinPush lamp (hdr :: (markRecords marks ++ dataRecords elems)) s
      if ok then setGap lamp false s else setCount j .inspectDrop 1 (setGap lamp true s)

/-- Send the part of a block at (c, t) once every position of it is written. -/
def inspectIfFull (j k c b t : Nat) (s : State) : State :=
  match findWin s j k with
  | none => s
  | some w =>
    if inspects s j && t % 2 ^ (s.f (Reg.SET_CFG_DECIM j)) == 0 &&
        (List.range (w.blockSize b)).all (fun i => w.cell (128 * b + i) c t != 0) then inspectSend j k c b t s
    else s

/-! ## Closing and opening (R290, R291, R293) -/

/-- Window k of set j closes: the inspection parts not yet sent are sent. -/
def closeWin (j k : Nat) (s : State) : State :=
  match findWin s j k with
  | none => s
  | some w =>
    if w.state ≠ 1 then s
    else
      let s := if inspects s j then
          (List.range w.nch).foldl (fun s c => (List.range w.nb).foldl (fun s b =>
            ((List.range w.dlen).filter fun t => t % 2 ^ (s.f (Reg.SET_CFG_DECIM j)) == 0).foldl
              (fun s t => inspectSend j k c b t s) s) s) s
        else s
      match findWin s j k with
      | none => s
      | some w => putWin j { w with state := 2 } s

def filling (s : State) (j : Nat) : List Win := (s.setRun j).wins.filter fun w => w.state == 1

/-- A sample or marker of the set at count n closes every FILLING window whose lag it passes (R291). -/
def lagClose (j n : Nat) (s : State) : State :=
  ((filling s j).filter fun w => decide ((w.k + 1) * w.dlen + s.f (Reg.SET_LAG j) ≤ n)).foldl (fun s w => closeWin j w.k s) s

/-- FILLING windows that every position's frontier has passed close (R291). -/
def frontClose (j : Nat) (s : State) : State :=
  let r := s.setRun j
  ((filling s j).filter fun w => (List.range w.nin).all fun p => decide ((w.k + 1) * w.dlen ≤ mapGet 0 r.front p)).foldl
    (fun s w => closeWin j w.k s) s

/-- Discard the window that still holds the half (R290). -/
def discardWin (j : Nat) (w : Win) (s : State) : State :=
  let s := lanAbandon j w.k w.nch s
  let s := dropWin j w .dropHalf s
  let s := delWin j w.k s
  raise (stgEv FK.STG_HALF_DISCARD j w.k) (setCount j .winDiscarded 1 s)

/-- Window k of set j opens (R289, R290, R293). (DEDUCED, log 61.) -/
def openWin (j k : Nat) (s : State) : State :=
  let first := (s.setRun j).nextK
  let s := ((s.setRun j).wins.filter fun w => w.k % 2 == k % 2).foldl (fun s w => discardWin j w s) s
  let s := if first < k then lanAbsent j first (k - first) (setCount j .winAbsent (k - first) s) else s
  let w : Win := { k := k, nin := s.f (Reg.SET_SHAPE_NIN j), nch := s.f (Reg.SET_SHAPE_NCH j), dlen := jobD s j,
                   fmt := s.f (Reg.SET_CFG_FMT j), base := s.f (Reg.SET_PLACE_BASE j), posFirst := s.f (Reg.SET_PLACE_POS_FIRST j),
                   state := 1, cells := [], verdicts := [], inspected := [], valid := [] }
  let s := putSetRun j { s.setRun j with nextK := k + 1 } s
  putWin j w s

/-! ## Samples (R288, R292, R302) -/

/-- A mapped sample arrives and its fate is DROP at once. -/
def dropMapped (j q : Nat) (cause : SetCnt) (s : State) : State :=
  perfEvent 0x0F 0x11 1 (setCount j cause 1 (posCount q 3 1 s))

/-- Store a sample in a FILLING window. -/
def storeSample (j p c n : Nat) (v : Int × Int) (inval : Bool) (w : Win) (s : State) : State :=
  let t := n % w.dlen
  let a := winAddr s w p c t
  let bytes : List Byte := if w.fmt = 1 then [BitVec.ofInt 8 v.1, BitVec.ofInt 8 v.2]
    else [BitVec.ofNat 8 (wrap 4 v.1 * 16 + wrap 4 v.2)]
  let s := { s with stg := { s.stg with sram := mapSetList 0 s.stg.sram a bytes } }
  let s := putWin j { w with cells := mapSet 0 w.cells ((c * w.nin + p) * w.dlen + t) (if inval then 2 else 1) } s
  let r := s.setRun j
  let s := putSetRun j { r with front := mapSet 0 r.front p (max (mapGet 0 r.front p) (n + 1)) } s
  inspectIfFull j w.k c (p / 128) t (setCount j .pending 1 s)

/-- The lane that a position's last sample arrived on, stored or not (R291). -/
def noteLane (j p lane : Nat) (s : State) : State :=
  let r := s.setRun j
  putSetRun j { r with lastLane := mapSet 0 r.lastLane p (lane + 1) } s

/-- One sample of input g, channel ch, count n that the map gives to position q of set j; `c` its channel index when it is
listed and the format agrees. -/
def stageMapped (lane j q : Nat) (c : Option Nat) (n : Nat) (v : Int × Int) (inval : Bool) (s : State) : State :=
  let p := q - s.f (Reg.SET_PLACE_POS_FIRST j)
  let s := perfEvent 0x0F 0x10 1 (setCount j .arrived 1 (posCount q 0 1 s))
  let s := lagClose j n (noteLane j p lane s)
  match c with
  | none => dropMapped j q .dropMismatch s
  | some c =>
    if !s.flag (Reg.SET_CFG_STAGE j) then dropMapped j q .dropNostage s
    else
      let k := n / jobD s j
      -- CLOSED, HANDED, released, discarded or absent (R292)
      let late := match findWin s j k with
        | some w => w.state != 1
        | none => decide (k < (s.setRun j).nextK)
      if late then dropMapped j q .dropLate s
      else
        let s := if (findWin s j k).isSome then s else openWin j k s
        match findWin s j k with
        | none => s
        | some w => if w.cell p c (n % w.dlen) ≠ 0 then dropMapped j q .dropDup s else storeSample j p c n v inval w s

/-- One sample of a whole C4 or C8 packet (R288). -/
def stageSample (lane : Nat) (d : Desc) (area : List Byte) (i c t : Nat) (s : State) : State :=
  let g := dInputFirst d + i
  let n := dCount d + t
  let ch := dChanFirst d + c
  let rd := mapVersion s (dDomain d) g n
  match mapLookup rd (dDomain d) g with
  | none => laneUnmapped lane 1 s
  | some (j, q) =>
    let idx := if s.f (Reg.SET_CFG_FMT j) = dFormat d then chanIndex rd s j ch else none
    stageMapped lane j q idx n (dSample d area i c t) (dSrcInvalid d) s

/-- The samples of one time step of a packet, input fastest, then channel. -/
def stageStep (lane : Nat) (d : Desc) (area : List Byte) (t : Nat) (s : State) : State :=
  (List.range (dChans d)).foldl (fun s c => (List.range (dInputs d)).foldl (fun s i => stageSample lane d area i c t s) s) s

/-- One time step of a discarded packet: each sample that the map gives to a position arrives (R291), and is dropped with cause PKT (R123,
R302). -/
def stageLostStep (lane : Nat) (d : Desc) (t : Nat) (s : State) : State :=
  (List.range (dInputs d)).foldl (fun s i =>
    let g := dInputFirst d + i
    match mapLookup (mapVersion s (dDomain d) g (dCount d + t)) (dDomain d) g with
    | none => laneUnmapped lane (dChans d) s
    | some (j, q) =>
      let m := dChans d
      let s := perfEvent 0x0F 0x10 m (setCount j .arrived m (posCount q 0 m s))
      let s := perfEvent 0x0F 0x11 m (setCount j .dropPkt m (posCount q 3 m s))
      if m = 0 then s else lagClose j (dCount d + t) (noteLane j (q - s.f (Reg.SET_PLACE_POS_FIRST j)) lane s)) s

/-- A count marker at the ingest stage (R119, R291): frontiers of the positions whose last sample came on its lane. -/
def stageMarker (lane : Nat) (d : Desc) (s : State) : State :=
  ([0, 1, 2, 3] : List Nat).foldl (fun s j =>
    let r := s.setRun j
    let ps := (r.lastLane.filter fun x => x.2 == lane + 1).map Prod.fst
    if s.flag (Reg.SET_CFG_EN j) && s.f (Reg.SET_CFG_DOMAIN j) == dDomain d && !ps.isEmpty then
      let front := ps.foldl (fun m p => mapSet 0 m p (max (mapGet 0 m p) (dCount d))) r.front
      frontClose j (lagClose j (dCount d) (putSetRun j { r with front := front } s))
    else s) s

/-- After a whole packet has been written, frontiers are judged. (DEDUCED, log 60.) -/
def stageEnd (s : State) : State := ([0, 1, 2, 3] : List Nat).foldl (fun s j => frontClose j s) s

/-- A window that has been FILLING for TIMEOUT_US closes (R291). -/
def windowTimeout (j k : Nat) (s : State) : State :=
  match findWin s j k with
  | some w => if w.state = 1 then raise (stgEv FK.STG_WINDOW_TIMEOUT j k) (closeWin j k s) else s
  | none => s

/-! ## Verdicts and hand-out (R294, R298 to R300) -/

/-- A verdict part in X personality: header lanes and mark bits (R298). -/
def verdictPart (hdr : List Nat) (marks : List Nat) (s : State) : State :=
  let l9 := hdr.getD 9 0
  let j := l9 % 4
  let c := hdr.getD 12 0
  let b := hdr.getD 11 0 / 128
  let count := hdr.getD 0 0 % 2 ^ 16 + 2 ^ 16 * (hdr.getD 1 0 % 2 ^ 16) + 2 ^ 32 * (hdr.getD 2 0 % 2 ^ 16) +
    2 ^ 48 * (hdr.getD 3 0 % 2 ^ 16)
  let k := count / jobD s j
  match findWin s j k with
  | none => setCount j .verdictStray 1 s
  | some w =>
    if inspects s j && s.flag (Reg.SET_CFG_EN j) && decide (w.state ≤ 2) && decide (c < w.nch) && decide (b < w.nb) &&
        verdictMatches s j w c b hdr && (mapGet [] w.verdicts (c * 64 + b)).isEmpty then
      let s := putWin j { w with verdicts := mapSet [] w.verdicts (c * 64 + b) (marks.map fun m => m % 2) } s
      setCount j .rfiMarks ((marks.filter fun m => m.testBit 3).length) s
    else setCount j .verdictStray 1 s

/-- Blocks of channel index c without a verdict. -/
def Win.missing (w : Win) (c : Nat) : List Nat :=
  (List.range w.nb).filter fun b => (mapGet [] w.verdicts (c * 64 + b)).isEmpty

/-- VERDICT_WAIT after the close of window k: its blocks without a verdict take MISS_VALID (R299). -/
def verdictWaitExpiry (j k : Nat) (s : State) : State :=
  match findWin s j k with
  | none => s
  | some w =>
    if w.state ≠ 2 ∨ !inspects s j then s
    else
      let miss := (List.range w.nch).flatMap fun c => (w.missing c).map fun b => (c, b)
      miss.foldl (fun s x =>
        match findWin s j k with
        | none => s
        | some w =>
          let v := List.replicate (w.blockSize x.2) (s.f (Reg.SET_CFG_MISS_VALID j))
          let s := putWin j { w with verdicts := mapSet [] w.verdicts (x.1 * 64 + x.2) v } s
          raise (stgEv FK.STG_VERDICT_MISS j k) (setCount j .verdictMiss 1 s)) s

/-- V(p, c, k) for every position (R300). -/
def validity (s : State) (j : Nat) (w : Win) (c : Nat) : List Nat :=
  (List.range w.nin).map fun p =>
    let lamp := if inspects s j then (mapGet [] w.verdicts (c * 64 + p / 128)).getD (p % 128) 0 == 1 else true
    b2n (w.fill p c && lamp)

/-- Samples of a handed C4 channel with a component at −8 (R317). (DEDUCED, log 110.) -/
def clampCount (s : State) (w : Win) (c : Nat) (v : List Nat) : Nat :=
  if w.fmt = 1 then 0
  else
    ((List.range w.nin).map fun p =>
      if v.getD p 0 = 0 then 0
      else ((List.range w.dlen).filter fun t => let x := winSample s w p c t; x.1 == -8 || x.2 == -8).length).sum

/-- The set's oldest window that has channel indices to hand. -/
def handable (s : State) (j : Nat) : Option Win := ((s.setRun j).wins.filter fun w => decide (w.state ≤ 2)).head?

/-- Channel index c of the set's oldest closed window is handed to the lantern array (R294). -/
def windowHandOut (j c : Nat) (s : State) : State :=
  match handable s j with
  | none => s
  | some w =>
    if w.state ≠ 2 ∨ w.nch ≤ c ∨ !(mapGet [] w.valid c).isEmpty ∨ (inspects s j ∧ !(w.missing c).isEmpty) then s
    else
      let v := validity s j w c
      let w := { w with valid := mapSet [] w.valid c v }
      let whole := (List.range w.nch).all fun i => !(mapGet [] w.valid i).isEmpty
      let s := putWin j { w with state := if whole then 3 else 2 } s
      let s := if s.flag (Reg.JOB_CFG_EN j) then s.incF (Reg.JOB_CLAMP j) (clampCount s w c v) else s
      let s := if whole then perfEvent 0x0F 0x13 1 s else s
      lanHand j w.k w.nch c s

/-! ## FX staging (R301) -/

/-- Enabled Lens inputs, ascending. -/
def lensInputs (s : State) : List Nat := (List.range 128).filter fun i => s.flag (Reg.LENS_IN_CFG_EN i)

/-- A lamp's SOUT part is staged as a packet; `pre` runs the actions due at the ingest stage for a count. -/
def stagePart (part : LampPart) (s : State) : State :=
  let ins := (lensInputs s).take part.inputs
  let pairs := ins.mapIdx fun x i => (x, i)
  let s := pairs.foldl (fun s x =>
    let m := part.marks.getD x.1 0
    if m.testBit 3 then
      match mapLookup (mapVersion s part.domain (s.f (Reg.LENS_IN_CFG_INPUT_ID x.2)) part.count) part.domain (s.f (Reg.LENS_IN_CFG_INPUT_ID x.2)) with
      | some (j, _) => setCount j .rfiMarks 1 s
      | none => s
    else s) s
  let s := (List.range part.chans).foldl (fun s c => pairs.foldl (fun s x =>
    let g := s.f (Reg.LENS_IN_CFG_INPUT_ID x.2)
    let rd := mapVersion s part.domain g part.count
    match mapLookup rd part.domain g with
    | none => laneUnmapped x.2 1 s
    | some (j, q) =>
      stageMapped x.2 j q (chanIndex rd s j (part.first + c)) part.count (part.elems.getD (c * part.inputs + x.1) (0, 0))
        (part.marks.getD x.1 0 % 2 == 0) s) s) s
  stageEnd s

/-! ## The STG group (R285 to R287, R328, R496) -/

def mapEntryRange (s : State) (e : Nat) : Nat × Nat := (s.f (Reg.STG_MAP0_INPUT_FIRST e), s.f (Reg.STG_MAP1_COUNT e))
def mapEntryPos (s : State) (e : Nat) : Nat × Nat := (s.f (Reg.STG_MAP1_POS_FIRST e), s.f (Reg.STG_MAP1_COUNT e))

/-- Some two different elements satisfy a relation. -/
def anyPair {α : Type} (r : α → α → Bool) : List α → Bool
  | [] => false
  | x :: l => l.any (r x) || anyPair r l

def regionUnits (s : State) (j : Nat) : Nat :=
  ceilDiv (s.f (Reg.SET_SHAPE_NCH j) * s.f (Reg.SET_SHAPE_NIN j) * jobD s j * (if s.f (Reg.SET_CFG_FMT j) = 1 then 2 else 1)) 0x10000

/-- Words of the input map or the channel table that set j uses, in two states. -/
def mapTouches (old new : State) (j : Nat) : Bool :=
  let es := List.range 256
  let mine (s : State) (e : Nat) : Bool := s.flag (Reg.STG_MAP0_EN e) && s.f (Reg.STG_MAP0_SET e) == j
  es.any (fun e => (mine old e || mine new e) &&
      (old.reg (0xF1000 + 8 * e) != new.reg (0xF1000 + 8 * e) || old.reg (0xF1004 + 8 * e) != new.reg (0xF1004 + 8 * e))) ||
    (List.range (old.f (Reg.SET_SHAPE_NCH j))).any fun i =>
      let k := 0xF2000 + 4 * (old.f (Reg.SET_CH_BASE j) + i)
      old.reg k != new.reg k

/-- The STG group's own check: ERR_CODE, 0 none. `at_` is the domain and the count of a scheduled APPLY. (DEDUCED, log 122.) -/
def stgErr (old new : State) (at_ : Option (Nat × Nat)) : Nat :=
  let js := ([0, 1, 2, 3] : List Nat)
  let en := js.filter fun j => new.flag (Reg.SET_CFG_EN j)
  let es := (List.range 256).filter fun e => new.flag (Reg.STG_MAP0_EN e)
  let posR (j : Nat) : Nat × Nat := (new.f (Reg.SET_PLACE_POS_FIRST j), new.f (Reg.SET_SHAPE_NIN j))
  let staged := en.filter fun j => new.flag (Reg.SET_CFG_STAGE j)
  let base (j : Nat) : Nat := new.f (Reg.SET_PLACE_BASE j)
  let nin (j : Nat) : Nat := new.f (Reg.SET_SHAPE_NIN j)
  let nch (j : Nat) : Nat := new.f (Reg.SET_SHAPE_NCH j)
  let chans (j : Nat) : List Nat := (List.range (nch j)).map fun i => new.f (Reg.STG_CHAN (new.f (Reg.SET_CH_BASE j) + i))
  let kept (j : Nat) : Bool := old.flag (Reg.SET_CFG_EN j) && new.flag (Reg.SET_CFG_EN j)
  let ring := (new.f Reg.RELAY_BASE + new.f Reg.RELAY_SIZE) * 0x10000
  if new.actsF && !en.isEmpty then 1
  else if new.isFX && js.any (fun j => new.flag (Reg.SET_CFG_LAMPS j)) then 1
  else if js.any fun j => nin j % 64 != 0 || decide (nin j < 64) || decide (nin j > 8192) || decide (nch j < 1) || decide (nch j > 512) then 2
  else if js.any fun j => decide (new.f (Reg.SET_CH_BASE j) + nch j > 1024) then 3
  else if js.any fun j => anyPair (fun a b => a == b) (chans j) then 3
  else if anyPair (fun a b => meets (posR a).1 (posR a).2 (posR b).1 (posR b).2) en || js.any fun j => decide ((posR j).1 + (posR j).2 > 16384) then 4
  else if staged.any (fun j => decide ((base j + regionUnits new j) * 0x10000 > halfSize new)) ||
      anyPair (fun a b => meets (base a) (regionUnits new a) (base b) (regionUnits new b)) staged then 5
  else if anyPair (fun a b => new.f (Reg.STG_MAP0_DOMAIN a) == new.f (Reg.STG_MAP0_DOMAIN b) &&
      meets (mapEntryRange new a).1 (mapEntryRange new a).2 (mapEntryRange new b).1 (mapEntryRange new b).2) es then 6
  else if es.any (fun e => let j := new.f (Reg.STG_MAP0_SET e); let p := mapEntryPos new e
      decide (p.1 < (posR j).1) || decide ((posR j).1 + (posR j).2 < p.1 + p.2)) then 6
  else if anyPair (fun a b => meets (mapEntryPos new a).1 (mapEntryPos new a).2 (mapEntryPos new b).1 (mapEntryPos new b).2) es then 6
  else if es.any fun e => !new.flag (Reg.SET_CFG_EN (new.f (Reg.STG_MAP0_SET e))) then 6
  else if en.any fun j => decide (2 * new.f (Reg.SET_LAG j) > jobD new j) then 0xB
  else if new.isX && en.any fun j => new.flag (Reg.SET_CFG_LAMPS j) &&
      (new.f (Reg.SET_LAMP_COUNT j) == 0 || decide (new.f (Reg.SET_LAMP_FIRST j) + new.f (Reg.SET_LAMP_COUNT j) > 64)) then 0xA
  else if new.flag Reg.RELAY_CFG_EN && (new.f Reg.RELAY_SIZE == 0 || decide (ring > dramBytes new)) then 9
  else if js.any fun j => kept j &&
      (old.f (Reg.SET_CFG_DOMAIN j) != new.f (Reg.SET_CFG_DOMAIN j) || old.f (Reg.SET_CFG_FMT j) != new.f (Reg.SET_CFG_FMT j) ||
       old.f (Reg.SET_CFG_DWELL j) != new.f (Reg.SET_CFG_DWELL j) || old.reg (0xF0104 + 64 * j) != new.reg (0xF0104 + 64 * j) ||
       old.reg (0xF0108 + 64 * j) != new.reg (0xF0108 + 64 * j) || old.f (Reg.SET_CH_BASE j) != new.f (Reg.SET_CH_BASE j)) then 7
  else
    match at_ with
    | none => 0
    | some x => if js.any fun j => kept j && mapTouches old new j && x.2 % jobGranule new j != 0 then 8 else 0

/-- A set is disabled (R731): a HANDED window keeps its half until the lantern array releases it (R294); one partly handed is released,
and its samples stay readable for the tasks that have them. Enabled again, the set numbers its windows anew, under the map then in force
(R287). (DEDUCED, log 161.) -/
def setDisable (j : Nat) (s : State) : State :=
  let wins := (s.setRun j).wins
  let s := (wins.filter fun w => decide (w.state ≤ 2)).foldl (fun s w => dropWin j w .dropSkip s) s
  let part := wins.filterMap fun w => if w.state = 3 ∨ w.valid.isEmpty then none else some (j, { w with state := 0 })
  let s := putSetRun j SetRun.reset { s with stg := { s.stg with
    gone := s.stg.gone ++ part, epochs := s.stg.epochs.map fun e => { e with lims := e.lims.filter fun x => x.1 != j } } }
  let s := putWins j (wins.filter fun w => w.state == 3) s
  -- the array waits for no more channel indices of these windows
  let r := jobRun s j
  lanTurn j (putJobRun j { r with wins := r.wins.map fun w => { w with nch := min w.nch w.handed.length } } s)

/-- The STG group has taken effect; `old` is the state before. -/
def stgTrans (old : State) (at_ : Option (Nat × Nat)) (s : State) : State :=
  let js := ([0, 1, 2, 3] : List Nat)
  let s := (js.filter fun j => old.flag (Reg.SET_CFG_EN j) && !s.flag (Reg.SET_CFG_EN j)).foldl (fun s j => setDisable j s) s
  let inMap (p : Nat × Word) : Bool := (decide (0xF1000 ≤ p.1) && decide (p.1 < 0xF1800)) || (decide (0xF2000 ≤ p.1) && decide (p.1 < 0xF3000))
  let before := old.regs.filter inMap
  let s := if before = s.regs.filter inMap then s
    else
      let lim (j : Nat) : Nat := match at_ with
        | some (d, T) =>
          if !s.flag (Reg.SET_CFG_EN j) then 0
          else if s.f (Reg.SET_CFG_DOMAIN j) = d then ceilDiv (ceilDiv T (chanF s)) (jobD s j) else (s.setRun j).nextK
        | none => (s.setRun j).nextK
      { s with stg := { s.stg with epochs := s.stg.epochs ++ [{ words := before, lims := (js.map fun j => (j, lim j)).filter fun x => x.2 != 0 }] } }
  let s := if s.flag Reg.RELAY_CFG_EN && !old.flag Reg.RELAY_CFG_EN then
      { s with stg := { s.stg with relaySeq := 0, relayGap := false } } else s
  geoRegs s

/-- STG_COMMIT.COMMIT. -/
def stgCommit (s : State) : State :=
  let new := s.commitRange 0xF0000 0x100000
  let e := stgErr s new none
  if e ≠ 0 then (s.setF Reg.STG_STATUS_COMMIT_ERR 1).setF Reg.STG_STATUS_ERR_CODE e
  else
    let l := lanErr s new
    if l.1 ≠ 0 then (s.setF Reg.STG_STATUS_COMMIT_ERR 1).setF Reg.LAN_STATUS_ERR_CODE l.1
    else stgTrans s none new

end Sys2Proof.Machine
end

