-- ==== Sys2Proof/Machine/Can.lean ====
section
/-! DEFINITION. Sys2Proof/Machine/Can.lean: the Candelabra: blocks, partial beams, output, weight banks and the CAN group
(10_candelabra.md). -/
namespace Sys2Proof.Machine

def canEv (kind k m : Nat) : FaultEv := fev kind 0x12 k m
def canSet (f : CanState → CanState) (s : State) : State := { s with can := f s.can }

/-- A stream runs (R727). -/
def strRuns (s : State) (k : Nat) : Bool := s.flag Reg.CAN_CTRL_EN && s.flag (Reg.STR_CFG_EN k)
def strSet (s : State) (k : Nat) : Nat := s.f (Reg.STR_CFG_SET k)
def strDom (s : State) (k : Nat) : Nat := s.f (Reg.SET_CFG_DOMAIN (strSet s k))
def strTpp (s : State) (k : Nat) : Nat := s.f (Reg.STR_TIME_TPP k)

/-- Covered positions of set j in its window k, by the map in force for that window (R287, R391). -/
def covered (s : State) (j k : Nat) : Nat :=
  ((List.range 256).map fun e =>
    let w := windowMap s j k (0xF1000 + 8 * e)
    if getBits w 0 0 = 1 ∧ getBits w 4 3 = j then getBits (windowMap s j k (0xF1004 + 8 * e)) 13 0 else 0).sum

/-- Covered positions of set j summed over the n counts from `first` on. -/
def coveredCounts (s : State) (j first n : Nat) : Nat :=
  let D := max 1 (jobD s j)
  ((List.range ((first + n + D - 1) / D - first / D)).map fun i =>
    let k := first / D + i
    covered s j k * (min ((k + 1) * D) (first + n) - max (k * D) first)).sum

/-- The words of the stream and beam configuration. -/
def canCfgWord (p : Nat × Word) : Bool := decide (0x120100 ≤ p.1) && decide (p.1 < 0x122000)

/-- The words for counts below earlier scheduled ones after a commit or an APPLY (R411). A commit or an unscheduled APPLY governs every block
that opens after it, and so does one scheduled at T in a domain for the streams of the other domains: the words that it changed take their
new values below the earlier counts too. In its own domain it governs the counts from T on. -/
def canEpochs (old s : State) (at_ : Option (Nat × Nat)) : List (Nat × Nat × List (Nat × Word)) :=
  let keys := ((old.regs ++ s.regs).filter canCfgWord).map Prod.fst |>.filter fun k => old.reg k != s.reg k
  let patch (e : Nat × Nat × List (Nat × Word)) : Nat × Nat × List (Nat × Word) :=
    (e.1, e.2.1, keys.foldl (fun m k => mapSet (regReset k) m k (s.reg k)) e.2.2)
  match at_ with
  | none => s.can.epochs.map patch
  | some (d, T) =>
    let at' := ceilDiv T (chanF s)
    let es := s.can.epochs.map fun e => if e.1 ≠ d ∨ at' < e.2.1 then patch e else e
    let below (e : Nat × Nat × List (Nat × Word)) : Bool := e.1 == d && decide (at' ≤ e.2.1)
    if es.any fun e => e.1 == d && e.2.1 == at' then es
    else
      let words := match s.can.epochs.find? below with
        | some e => e.2.2
        | none => old.regs.filter canCfgWord
      es.takeWhile (fun e => !below e) ++ (d, at', words) :: es.dropWhile fun e => !below e

/-- A word of a stream's configuration for a block of domain d whose first count is `first` (R411): what feeds the Candelabra comes to a
count before the ingest stage does, so an APPLY due there governs the block already (R69). -/
def canWord (s : State) (d first key : Nat) : Word :=
  match s.can.epochs.find? fun e => e.1 == d && decide (first < e.2.1) with
  | some e => mapGet (regReset key) e.2.2 key
  | none => underShadows (dueShadows s d (first * chanF s)) key (s.reg key)

def frontOf (s : State) (k : Nat) : Option Nat := mapGet none s.can.front k
def findBlock (s : State) (k m : Nat) : Option CanBlock := s.can.blocks.find? fun b => b.stream == k && b.m == m
def putBlock (b : CanBlock) (s : State) : State :=
  canSet (fun c => { c with blocks := c.blocks.map fun x => if x.stream = b.stream ∧ x.m = b.m then b else x }) s

/-! ## Weight banks (R412 to R417) -/

def canLive (s : State) : Nat := s.f Reg.CAN_STATUS_LIVE_BANK
def retiring (s : State) : Bool := s.flag Reg.CAN_STATUS_RETIRING

/-- The retiring bank becomes the shadow once nothing can use it (R415). -/
def retireCheck (s : State) : State :=
  match s.can.retire with
  | none => s
  | some r =>
    let held := r.opened.any fun x => (findBlock s x.1 x.2).isSome
    let may (k : Nat) : Bool :=
      strRuns s k && strDom s k == r.domain && decide (0 < r.trigger) &&
        (s.can.blocks.any (fun b => b.stream == k && decide (b.m * strTpp s k < r.trigger)) ||
         match frontOf s k with
         | none => true
         | some f => decide (f < (r.trigger - 1) / max 1 (strTpp s k) + 4))
    if held || (List.range 16).any may then s
    else (canSet (fun c => { c with retire := none }) s).setF Reg.CAN_STATUS_RETIRING 0

/-- The shadow becomes live: in `domain` from count `T`, elsewhere for blocks that open from now on (R414, R416). -/
def canExchange (domain T : Nat) (s : State) : State :=
  let b := 1 - canLive s
  let own (d : Nat) {α : Type} (l : List (Nat × α)) (v : α) : List (Nat × α) :=
    if d = domain then (l.filter fun x => decide (x.1 < T)) ++ [(T, v)] else [(0, v)]
  let ds := ([0, 1, 2, 3] : List Nat)
  let s := canSet (fun c => { c with
    blocks := c.blocks.map fun x => if strDom s x.stream = domain then
        { x with banks := own domain x.banks b, stales := own domain x.stales false } else x,
    banks := ds.map fun d => (d, own d (mapGet [] c.banks d) b),
    stales := ds.map fun d => (d, own d (mapGet [] c.stales d) false),
    retire := some { opened := c.blocks.map fun x => (x.stream, x.m), domain := domain, trigger := T } }) s
  let s := ((s.setF Reg.CAN_STATUS_LIVE_BANK b).setF Reg.CAN_STATUS_STALE 0).setF Reg.CAN_W_STATUS_SEALED 0
  retireCheck ((s.setF Reg.CAN_STATUS_RETIRING 1).incF Reg.CAN_SWAP_CNT 1)

/-- A weight TABLE_SWAP in a domain at count T (R414, R416). -/
def canSwapAt (domain T : Nat) (s : State) : State :=
  if s.flag Reg.CAN_W_STATUS_SEALED then canExchange domain T s
  else
    let mark (l : List (Nat × Bool)) : List (Nat × Bool) := (l.filter fun x => decide (x.1 < T)) ++ [(T, true)]
    let s := canSet (fun c => { c with
      blocks := c.blocks.map fun x => if strDom s x.stream = domain then { x with stales := mark x.stales } else x,
      stales := ([0, 1, 2, 3] : List Nat).map fun d =>
        (d, if d = domain then mark (mapGet [] c.stales d) else mapGet [] c.stales d) }) s
    raise (canEv FK.CAN_SWAP_SKIP 0 0) ((s.setF Reg.CAN_STATUS_STALE 1).incF Reg.CAN_SKIP_CNT 1)

/-- CAN_W_CTRL.SWAP_NOW (R417): for all counts of every domain. -/
def canSwapNow (s : State) : State :=
  if !s.flag Reg.CAN_CTRL_EN && s.flag Reg.CAN_W_STATUS_SEALED then
    let s := canExchange 0 0 s
    canSet (fun c => { c with banks := ([0, 1, 2, 3] : List Nat).map fun d => (d, [(0, canLive s)]),
                              stales := ([0, 1, 2, 3] : List Nat).map fun d => (d, [(0, false)]) }) s
  else s.setF Reg.CAN_W_STATUS_SEAL_ERR 1

def canBusy (s : State) : Bool := s.flag Reg.CAN_W_STATUS_SEALED || retiring s || s.flag Reg.CAN_W_STATUS_BUSY

/-- A write of CAN_W_DATA (R412). -/
def canData (w : Word) (s : State) : State :=
  let p := s.f Reg.CAN_W_PTR / 2 * 2
  if canBusy s ∨ s.can.ptrEnd then s.setF Reg.CAN_W_STATUS_REFUSED 1
  else
    let base := (1 - canLive s) * 8388608
    let put (m : List (Nat × Nat)) : List (Nat × Nat) :=
      mapSet 0 (mapSet 0 m (base + p) (getBits w 15 0)) (base + p + 1) (getBits w 31 16)
    let s := canSet (fun c => { c with weights := put c.weights, ptrEnd := decide (p + 2 ≥ 8388608) }) s
    s.setF Reg.CAN_W_PTR (p + 2)

/-- CAN_W_CTRL.COPY_LIVE (R413). -/
def canCopyLive (s : State) : State :=
  if canBusy s then s.setF Reg.CAN_W_STATUS_REFUSED 1 else s.setF Reg.CAN_W_STATUS_BUSY 1

/-- The copy of the live bank into the shadow is complete. -/
def canCopyDone (s : State) : State :=
  if !s.flag Reg.CAN_W_STATUS_BUSY then s
  else
    let live := canLive s
    let from_ := s.can.weights.filter fun x => x.1 / 8388608 == live
    let moved := from_.map fun x => ((1 - live) * 8388608 + x.1 % 8388608, x.2)
    let s := canSet (fun c => { c with weights := if live = 0 then from_ ++ moved else moved ++ from_ }) s
    s.setF Reg.CAN_W_STATUS_BUSY 0

def canSeal (s : State) : State :=
  if s.flag Reg.CAN_W_STATUS_BUSY ∨ retiring s then s.setF Reg.CAN_W_STATUS_SEAL_ERR 1 else s.setF Reg.CAN_W_STATUS_SEALED 1

/-! ## Forming the packet of a block (R392, R403 to R407) -/

/-- The state of a beam at a count (R419). -/
def beamOn (s : State) (beam n : Nat) : Bool :=
  (((s.can.beams.filter fun x => x.1 == beam && decide (x.2.1 ≤ n)).getLast?).map fun x => x.2.2).getD true

/-- y(β, c, t) of a block: beam number within the stream `i`, channel `c` from CH_FIRST, offset `t` (R392, R403). -/
def beamValue (s : State) (b : CanBlock) (first i c t : Nat) : Int × Int :=
  let bw := b.beamW.getD i 0
  let nin := s.f (Reg.SET_SHAPE_NIN (getBits b.cfg 2 1))
  let bank := inForce 0 b.banks (first + t)
  let base := bank * 8388608 + getBits bw 22 0 + (if getBits bw 23 23 = 1 then c * nin else 0)
  let sum := b.cells.foldl (fun a x =>
    if x.1 / 4096 / 8192 = c ∧ x.1 % 4096 = t then
      let w := mapGet 0 s.can.weights (base + x.1 / 4096 % 8192)
      let wr := sext 8 (w / 256)
      let wi := sext 8 w
      let xr := sext 8 ((x.2 - 1) % 256)
      let xi := sext 8 ((x.2 - 1) / 256)
      (a.1 + (wr * xr - wi * xi), a.2 + (wr * xi + wi * xr))
    else a) ((0 : Int), (0 : Int))
  b.parts.foldl (fun a x =>
    if x.1 / 4096 % 512 = c ∧ x.1 % 4096 = t then
      let v := x.2.getD i (0, 0)
      (a.1 + v.1 * 2 ^ getBits b.cfg 15 11, a.2 + v.2 * 2 ^ getBits b.cfg 15 11)
    else a) sum

/-- One output component of w bits: its code and whether it saturated (R404). -/
def outComp (w sh : Nat) (v : Int) : Int × Bool := let r := roundEven v sh; (satS w r, outS w r)

/-- The samples of a block's packet: codes of `bits` bits, beam fastest, then channel, then time; and saturation. -/
def blockSamples (s : State) (b : CanBlock) (nb nc tpp integ fmt first : Nat) (dom : Nat) : List Nat × Bool :=
  let sh := getBits b.cfg 10 5
  let bf := s.f (Reg.STR_BEAMS_BEAM_FIRST b.stream)
  let comp (i c t : Nat) : (Int × Int) × Bool :=
    if !beamOn s (bf + i) (first + t) then ((0, 0), false)
    else
      let y := beamValue s b first i c t
      let w := if fmt = 0 then 8 else 16
      let r := outComp w sh y.1
      let m := outComp w sh y.2
      ((r.1, m.1), r.2 || m.2)
  let cells (n : Nat) : List (Nat × Nat × Nat) :=
    (List.range n).flatMap fun t => (List.range nc).flatMap fun c => (List.range nb).map fun i => (i, c, t)
  let _ := dom
  if fmt = 2 then
    let p := (cells (tpp / max 1 integ)).map fun x =>
      let zs := (List.range integ).map fun u => comp x.1 x.2.1 (x.2.2 * integ + u)
      let v := (zs.map fun z => (z.1.1 * z.1.1 + z.1.2 * z.1.2).toNat).sum
      (min v (2 ^ 32 - 1), zs.any Prod.snd || decide (v > 2 ^ 32 - 1))
    (p.map Prod.fst, p.any Prod.snd)
  else
    let w := if fmt = 0 then 8 else 16
    let p := (cells tpp).map fun x =>
      let z := comp x.1 x.2.1 x.2.2
      (wrap w z.1.1 * 2 ^ w + wrap w z.1.2, z.2)
    (p.map Prod.fst, p.any Prod.snd)

/-- Waiting packets of a stream (R407). -/
def strQueue (s : State) (k : Nat) : Nat := ((queuedPackets s).filter fun p => p.source == 2 && p.unit == k).length

/-- Every beam of the block's stream is disabled at every count of it (R419). -/
def blockDark (s : State) (b : CanBlock) : Bool :=
  let bf := s.f (Reg.STR_BEAMS_BEAM_FIRST b.stream)
  let tpp := strTpp s b.stream
  (List.range (s.f (Reg.STR_BEAMS_BEAM_COUNT b.stream))).all fun i => (List.range tpp).all fun t => !beamOn s (bf + i) (b.m * tpp + t)

/-- The global channel of a stream's first channel index, by the table in force for the window of a count (R287, R402, R405). -/
def strChan (s : State) (k first : Nat) : Nat :=
  windowChan s (strSet s k) (first / max 1 (jobD s (strSet s k))) (s.f (Reg.STR_CHAN_CH_FIRST k))

/-- The expected units E of a block (R395). -/
def CanBlock.expected (s : State) (b : CanBlock) : Nat :=
  let k := b.stream
  let parts := (([0, 1, 2, 3] : List Nat).filter fun q => (getBits b.cfg 19 16).testBit q).length
  (coveredCounts s (strSet s k) (b.m * strTpp s k) (strTpp s k) + parts * strTpp s k) * s.f (Reg.STR_CHAN_CH_COUNT k)

/-- A block closes: units never received are counted missing, and its packet is formed and queued or dropped. (DEDUCED, log 65.) -/
def closeBlock (k m : Nat) (skew : Bool) (s : State) : State :=
  match findBlock s k m with
  | none => s
  | some b =>
    let f := (frontOf s k).getD 0
    let s := canSet (fun c => { c with
      blocks := c.blocks.filter fun x => !(x.stream == k && x.m == m),
      closed := (c.closed ++ [(k, m)]).filter fun x => x.1 != k || decide (f ≤ x.2 + 3) }) s
    let s := perfEvent 0x12 0x11 1 s
    let s := if skew then perfEvent 0x12 0x12 1 s else s
    let tpp := strTpp s k
    let first := m * tpp
    let nb := s.f (Reg.STR_BEAMS_BEAM_COUNT k)
    let bf := s.f (Reg.STR_BEAMS_BEAM_FIRST k)
    let nc := s.f (Reg.STR_CHAN_CH_COUNT k)
    if blockDark s b then retireCheck s
    else
      let expected := b.expected s
      let missing := expected - b.got + b.inval
      let s := s.incF (Reg.STR_CNT_MISS k) (expected - b.got + b.uncounted)
      let fmt := getBits b.cfg 4 3
      let integ := s.f (Reg.STR_TIME_INTEG k)
      let dom := strDom s k
      let (codes, satd) := blockSamples s b nb nc tpp integ fmt first dom
      let width := if fmt = 0 then 16 else 32
      let stale := b.stale || (List.range tpp).any fun t => inForce false b.stales (first + t)
      let flags := b2n (decide (missing > b.missLimit)) + 2 * b2n stale + 4 * b2n b.rfi + 8 * b2n (b.sat || satd)
      let lanes := s.f (Reg.STR_LANES_LANE_COUNT_M1 k) + 1
      let turn := mapGet 0 s.can.nextLane k
      let lane := s.f (Reg.STR_LANES_LANE_FIRST k) + turn % lanes
      let times := if fmt = 2 then tpp / max 1 integ else tpp
      let wicks := wicksFor (nb * nc * times) width
      let chan := strChan s k first
      let d := mkDesc dom (4 + fmt) flags (s.f (Reg.LNK_SOURCE_CHIP_ID (lane / 8)))
        (if fmt = 2 then first / max 1 integ else first) bf nb chan nc times wicks
      let area := fitBytes (wicks * 120) (codes.flatMap fun c => leBytes (width / 8) c)
      let s := outputUnit dom first (beamFormed k first d area s)
      let p : TxPacket := { desc := d, area := area, source := 2, unit := k, count := first }
      let s := if strQueue s k ≥ 4 then
          if gateDrops s p then s.incF Reg.PAIR_CNT_GATED 1
          else raiseOnce (Reg.STR_CNT_PKT_DROP k).key (canEv FK.CAN_OUT_OVERFLOW k m) (s.incF (Reg.STR_CNT_PKT_DROP k) 1)
        else
          let t := s.txLane lane
          let s := putTx lane { t with queue := t.queue ++ [p] } s
          canSet (fun c => { c with nextLane := mapSet 0 c.nextLane k (turn + 1) }) s
      retireCheck s

/-! ## Contributions (R394 to R400) -/

/-- A block with the configuration words that govern it (R411). -/
def blockWords (s : State) (b : CanBlock) : CanBlock :=
  let k := b.stream
  let w := canWord s (strDom s k) (b.m * strTpp s k)
  { b with cfg := w (0x120100 + 64 * k), partSrc := [w (0x120114 + 64 * k), w (0x120118 + 64 * k)],
           missLimit := (w (0x12011C + 64 * k)).toNat,
           beamW := (List.range (s.f (Reg.STR_BEAMS_BEAM_COUNT k))).map fun i => w (0x121000 + 4 * (s.f (Reg.STR_BEAMS_BEAM_FIRST k) + i)) }

/-- Open block m of stream k. -/
def openBlock (k m : Nat) (s : State) : State :=
  let d := strDom s k
  let b : CanBlock := blockWords s
    { stream := k, m := m, got := 0, uncounted := 0, inval := 0, cells := [], parts := [], rfi := false, sat := false, stale := false,
      cfg := 0, partSrc := [], missLimit := 0, beamW := [], banks := mapGet [] s.can.banks d, stales := mapGet [] s.can.stales d }
  let s := canSet (fun c => { c with blocks := c.blocks ++ [b] }) s
  beamOpen k m (strTpp s k) s

/-- A contribution reaches block m of stream k: the block is opened, or the contribution is late. Answers the block. -/
def reachBlock (k m : Nat) (s : State) : Bool × State :=
  let late (s : State) : Bool × State :=
    (false, raiseOnce (Reg.STR_CNT_LATE k).key (canEv FK.CAN_LATE k m) (s.incF (Reg.STR_CNT_LATE k) 1))
  if (findBlock s k m).isSome then (true, s)
  else if s.can.closed.contains (k, m) then late s
  else
    match frontOf s k with
    | none => (true, retireCheck (openBlock k m (canSet (fun c => { c with front := mapSet none c.front k (some m) }) s)))
    | some f =>
      if m + 3 < f then late s
      else if m ≤ f then (true, openBlock k m s)
      else
        let old := (s.can.blocks.filter fun b => b.stream == k && decide (b.m + 3 < m)).map CanBlock.m
        let s := old.foldl (fun s x => closeBlock k x false s) s
        let s := canSet (fun c => { c with front := mapSet none c.front k (some m),
                                           closed := c.closed.filter fun x => x.1 != k || decide (m ≤ x.2 + 3) }) s
        (true, retireCheck (openBlock k m s))

/-- A block whose units have reached E closes (R396). -/
def fullBlock (k m : Nat) (s : State) : State :=
  match findBlock s k m with
  | some b => if b.got ≥ b.expected s then closeBlock k m false s else s
  | none => s

/-- Execute a BEAM_ENABLE or BEAM_DISABLE slot (R419). -/
def beamSlot (slot : Nat) (starved : Bool) (s : State) : State :=
  let beam := slotTarget s slot % 256
  let en := slotAct s slot == 0x08
  let T := ceilDiv (slotWhen s slot) (chanF s)
  let s := canSet (fun c => { c with beams := c.beams ++ [(beam, T, en)] }) s
  let w := s.f (Reg.CAN_BEAM_EN (beam / 32))
  let s := s.setF (Reg.CAN_BEAM_EN (beam / 32)) (if w.testBit (beam % 32) == en then w else w ^^^ 2 ^ (beam % 32))
  endDone slot starved s

/-- Beam actions due at count n of a domain. -/
def beamsDue (dom n : Nat) (s : State) : State :=
  runDue (dom + 1) (n * chanF s) (fun a _ => a == 0x08 || a == 0x09) (fun slot s => beamSlot slot false s) s

/-- Some beam of stream k is enabled at count n. -/
def anyBeamOn (s : State) (k n : Nat) : Bool :=
  (List.range (s.f (Reg.STR_BEAMS_BEAM_COUNT k))).any fun i => beamOn s (s.f (Reg.STR_BEAMS_BEAM_FIRST k) + i) n

/-- One feed sample for stream k: local position p, channel index c, count n (R392, R396 to R398, R400). A sample of a packet with
SRC_INVALID is counted in STR_CNT_MISS as it is received, or, where every beam is disabled at its count, once its block turns out to
hold a count that is not (R419). A sample that the multiplier array cannot take is counted there at once, and is missing again from the
units of its block at the close (R398, R400). (DEDUCED, log 132.) -/
def feedStream (k p c n : Nat) (v : Int × Int) (inval rfi sat overload : Bool) (s : State) : State :=
  let tpp := max 1 (strTpp s k)
  let m := n / tpp
  let cc := c - s.f (Reg.STR_CHAN_CH_FIRST k)
  if overload then
    let s := (s.incF (Reg.STR_CNT_OVF k) 1).incF (Reg.STR_CNT_MISS k) 1
    raiseOnce (Reg.STR_CNT_OVF k).key (canEv FK.CAN_OVERLOAD k m) s
  else
    let (ok, s) := reachBlock k m s
    if !ok then s
    else
      match findBlock s k m with
      | none => s
      | some b =>
        let key := (cc * 8192 + p) * 4096 + n % tpp
        if mapGet 0 b.cells key ≠ 0 then s.incF (Reg.STR_CNT_DUP k) 1
        else
          let code := if inval then 1 else 1 + wrap 8 v.1 + 256 * wrap 8 v.2
          let lit := anyBeamOn s k n
          let b := { b with cells := mapSet 0 b.cells key code, got := b.got + 1, inval := b.inval + b2n inval,
                            uncounted := b.uncounted + b2n (inval && !lit), rfi := b.rfi || rfi, sat := b.sat || sat }
          let s := perfEvent 0x12 0x10 1 ((putBlock b s).incF (Reg.STR_CNT_MISS k) (b2n (inval && lit)))
          fullBlock k m (reach tgtCan (strDom s k) n s)

/-- A feed sample of set j (R305, R391). -/
def canFeed (j p c n : Nat) (v : Int × Int) (inval rfi sat overload : Bool) (s : State) : State :=
  let ks := (List.range 16).filter fun k => strRuns s k && strSet s k == j &&
    decide (s.f (Reg.STR_CHAN_CH_FIRST k) ≤ c) && decide (c < s.f (Reg.STR_CHAN_CH_FIRST k) + s.f (Reg.STR_CHAN_CH_COUNT k))
  if ks.isEmpty then s
  else
    let s := beamsDue (s.f (Reg.SET_CFG_DOMAIN j)) n s
    ks.foldl (fun s k => feedStream k p c n v inval rfi sat overload s) s

/-- Where a sample of a packet enters the feed: the set with BEAM, local position and channel index of a listed channel (R305). -/
def feedTarget (s : State) (d : Desc) (i c t : Nat) : Option (Nat × Nat × Nat) :=
  let g := dInputFirst d + i
  let rd := mapVersion s (dDomain d) g (dCount d + t)
  match mapLookup rd (dDomain d) g with
  | none => none
  | some (j, q) =>
    if !s.flag (Reg.SET_CFG_BEAM j) then none
    else (chanIndex rd s j (dChanFirst d + c)).map fun x => (j, q - s.f (Reg.SET_PLACE_POS_FIRST j), x)

/-- One sample of a wick offered to the feed (R305). -/
def feedSample (d : Desc) (i c t : Nat) (v : Int × Int) (overload : Bool) (s : State) : State :=
  match feedTarget s d i c t with
  | none => s
  | some (j, p, x) => canFeed j p x (dCount d + t) v (dSrcInvalid d) (dRfi d) (dSaturated d) overload s

/-- An abandon notice on the feed (R399). -/
def canAbandon (s : State) : State := s.incF Reg.CAN_ABANDON_CNT 1

/-! ## Partial beams (R402, R403) -/

/-- The words that name block m's partial sources: STR_CFG and the two of STR_PART_SRC, as they were when the block opened, or are for
one that would open now (R411). -/
def partWords (s : State) (k m : Nat) : Word × List Word :=
  match findBlock s k m with
  | some b => (b.cfg, b.partSrc)
  | none =>
    let w (o : Nat) : Word := canWord s (strDom s k) (m * strTpp s k) (0x120100 + 64 * k + o)
    (w 0, [w 0x14, w 0x18])

/-- The source number of a partial of stream k, when it is accepted. -/
def partSource (s : State) (k : Nat) (d : Desc) : Option Nat :=
  let tpp := max 1 (strTpp s k)
  let ws := partWords s k (dCount d / tpp)
  let src (q : Nat) : Nat := getBits (ws.2.getD (q / 2) 0) (16 * (q % 2) + 15) (16 * (q % 2))
  if dDomain d = strDom s k ∧ dInputFirst d = s.f (Reg.STR_BEAMS_BEAM_FIRST k) ∧ dInputs d = s.f (Reg.STR_BEAMS_BEAM_COUNT k) ∧
      dChanFirst d = strChan s k (dCount d) ∧
      dChans d = s.f (Reg.STR_CHAN_CH_COUNT k) ∧ dCount d / tpp = (dCount d + dTimes d - 1) / tpp then
    ([0, 1, 2, 3] : List Nat).find? fun q => (getBits ws.1 19 16).testBit q && src q == dChip d
  else none

/-- One accepted partial sample group (R397, R403). -/
def partGroup (k q c n : Nat) (vals : List (Int × Int)) (stale : Bool) (s : State) : State :=
  let tpp := max 1 (strTpp s k)
  let m := n / tpp
  let (ok, s) := reachBlock k m s
  if !ok then s
  else
    match findBlock s k m with
    | none => s
    | some b =>
      let key := (q * 512 + c) * 4096 + n % tpp
      if !(mapGet [] b.parts key).isEmpty then s.incF (Reg.STR_CNT_DUP k) 1
      else
        let b := { b with parts := mapSet [] b.parts key vals, got := b.got + 1, stale := b.stale || stale }
        fullBlock k m (reach tgtCan (strDom s k) n (putBlock b s))

/-- The stream in whose counters a B16 packet that no stream accepts is counted (R402): the one whose beams INPUT_FIRST names, or
stream 0; none when that one does not run (R727). A running stream is named before one that does not run. -/
def streamNamed (s : State) (beam : Nat) : Option Nat :=
  let names (k : Nat) : Bool := decide (s.f (Reg.STR_BEAMS_BEAM_FIRST k) ≤ beam) &&
    decide (beam < s.f (Reg.STR_BEAMS_BEAM_FIRST k) + s.f (Reg.STR_BEAMS_BEAM_COUNT k))
  match (List.range 16).find? fun k => strRuns s k && names k with
  | some k => some k
  | none => if (List.range 16).any names then none else some 0

/-- A whole B16 packet (R402). -/
def canPartial (d : Desc) (area : List Byte) (s : State) : State :=
  match (List.range 16).findSome? fun k => if strRuns s k then (partSource s k d).map fun q => (k, q) else none with
  | some (k, q) =>
    (List.range (dTimes d)).foldl (fun s t =>
      let s := beamsDue (dDomain d) (dCount d + t) s
      (List.range (dChans d)).foldl (fun s c =>
        partGroup k q c (dCount d + t) ((List.range (dInputs d)).map fun i => dSample d area i c t) (dStale d) s) s) s
  | none =>
    match streamNamed s (dInputFirst d) with
    | none => s
    | some k => raiseOnce (Reg.STR_CNT_PART_REJ k).key (canEv FK.CAN_PART_REJ k 0) (s.incF (Reg.STR_CNT_PART_REJ k) 1)

/-! ## The CAN group (R390, R410, R411, R419, R727) -/

/-- The group's check: ERR_CODE, 0 none. -/
def canErr (old new : State) (at_ : Option (Nat × Nat)) : Nat :=
  let ks := (List.range 16).filter fun k => new.flag (Reg.STR_CFG_EN k)
  let f (F : Nat → Field) (k : Nat) : Nat := new.f (F k)
  let fmt := f Reg.STR_CFG_FMT
  let tpp := f Reg.STR_TIME_TPP
  let integ := f Reg.STR_TIME_INTEG
  let nb := f Reg.STR_BEAMS_BEAM_COUNT
  let bf := f Reg.STR_BEAMS_BEAM_FIRST
  let nc := f Reg.STR_CHAN_CH_COUNT
  let c0 := f Reg.STR_CHAN_CH_FIRST
  let chan (k i : Nat) : Nat := new.f (Reg.STG_CHAN (new.f (Reg.SET_CH_BASE (strSet new k)) + c0 k + i))
  let times (k : Nat) : Nat := if fmt k = 2 then tpp k / max 1 (integ k) else tpp k
  let lanes (k : Nat) : List Nat := (List.range (f Reg.STR_LANES_LANE_COUNT_M1 k + 1)).map (f Reg.STR_LANES_LANE_FIRST k + ·)
  let weightsEnd (k i : Nat) : Nat :=
    let w := bf k + i
    new.f (Reg.BEAM_W_WBASE w) + (if new.flag (Reg.BEAM_W_WCH w) then (nc k - 1) else 0) * new.f (Reg.SET_SHAPE_NIN (strSet new k)) +
      new.f (Reg.SET_SHAPE_NIN (strSet new k))
  let changed (k : Nat) : Bool :=
    strRuns old k && strRuns new k &&
    (strSet old k != strSet new k || old.f (Reg.STR_CFG_FMT k) != fmt k ||
     ([4, 8, 0xC, 0x10] : List Nat).any fun o => old.reg (0x120100 + 64 * k + o) != new.reg (0x120100 + 64 * k + o))
  if new.actsF && (new.flag Reg.CAN_CTRL_EN || !ks.isEmpty) then 1
  else if ks.any fun k => !(new.flag (Reg.SET_CFG_EN (strSet new k)) && new.flag (Reg.SET_CFG_BEAM (strSet new k))) then 2
  else if ks.any (fun k => decide (bf k + nb k > 256)) || anyPair (fun a b => meets (bf a) (nb a) (bf b) (nb b)) ks then 3
  else if ks.any fun k => decide (c0 k + nc k > new.f (Reg.SET_SHAPE_NCH (strSet new k))) ||
      (List.range (nc k)).any (fun i => chan k i != chan k 0 + i) then 4
  else if ks.any fun k => (List.range (nb k)).any fun i => decide (weightsEnd k i > 8388608) then 5
  else if ks.any fun k => decide (nb k * nc k * times k * (if fmt k = 0 then 16 else 32) > 60480) then 6
  else if ks.any fun k => tpp k == 0 || (fmt k == 2 && (integ k == 0 || tpp k % max 1 (integ k) != 0)) then 7
  else if ks.any fun k => (lanes k).any fun l => !laneSends new l 2 then 8
  else if ks.any fun k => decide (f Reg.STR_CFG_SHIFT k > 40) || decide (f Reg.STR_CFG_PART_SHIFT k > 24) then 9
  else if ks.any fun k => fmt k == 3 then 0xD
  else if ks.any changed then 0xA
  else if new.f Reg.CAN_SKEW_NS > 1800 then 0xC
  else
    match at_ with
    | none => 0
    | some (_, T) =>
      let touched (k : Nat) : Bool := (List.range 8).any (fun o => old.reg (0x120100 + 64 * k + 4 * o) != new.reg (0x120100 + 64 * k + 4 * o)) ||
        (List.range (nb k)).any fun i => old.reg (0x121000 + 4 * (bf k + i)) != new.reg (0x121000 + 4 * (bf k + i))
      if ks.any fun k => touched k && ceilDiv T (chanF new) % max 1 (tpp k) != 0 then 0xB else 0

/-- A stream stops (R727). -/
def strStop (k : Nat) (s : State) : State :=
  let open_ := s.can.blocks.filter fun b => b.stream == k
  let n := open_.length
  let s := s.incF (Reg.STR_CNT_MISS k) (sumOf ((open_.filter fun b => !blockDark s b).map CanBlock.uncounted))
  let s := canSet (fun c => { c with blocks := c.blocks.filter fun b => b.stream != k, front := mapSet none c.front k none,
                                     closed := c.closed.filter fun x => x.1 != k }) s
  retireCheck (s.incF (Reg.STR_CNT_PKT_DROP k) n)

/-- A stream starts: its beams are enabled (R419). -/
def strStart (k : Nat) (s : State) : State :=
  let nb := s.f (Reg.STR_BEAMS_BEAM_COUNT k)
  let bf := s.f (Reg.STR_BEAMS_BEAM_FIRST k)
  let s := canSet (fun c => { c with beams := c.beams.filter fun x => decide (x.1 < bf) || decide (bf + nb ≤ x.1) }) s
  let s := (List.range nb).foldl (fun s i =>
    let F := Reg.CAN_BEAM_EN ((bf + i) / 32)
    s.setF F (s.f F ||| 2 ^ ((bf + i) % 32))) s
  ((s.setOnce (Reg.STR_CNT_LATE k).key false).setOnce (Reg.STR_CNT_OVF k).key false).setOnce (Reg.STR_CNT_PKT_DROP k).key false

/-- The CAN group has taken effect; `at_` is the domain and the count of a scheduled APPLY, which governs the open blocks from its count on
too (R411). -/
def canTrans (old : State) (at_ : Option (Nat × Nat)) (s : State) : State :=
  let ks := List.range 16
  let s := (ks.filter fun k => strRuns old k && !strRuns s k).foldl (fun s k => strStop k s) s
  let s := (ks.filter fun k => !strRuns old k && strRuns s k).foldl (fun s k => strStart k s) s
  let s := canSet (fun c => { c with epochs := canEpochs old s at_ }) s
  match at_ with
  | none => s
  | some (d, T) =>
    let ahead (b : CanBlock) : Bool := strDom s b.stream == d && decide (ceilDiv T (chanF s) ≤ b.m * strTpp s b.stream)
    canSet (fun c => { c with blocks := c.blocks.map fun b => if ahead b then blockWords s b else b }) s

def canCommit (s : State) : State :=
  let new := s.commitRange 0x120000 0x130000
  let e := canErr s new none
  if e ≠ 0 then (s.setF Reg.CAN_STATUS_COMMIT_ERR 1).setF Reg.CAN_STATUS_ERR_CODE e else canTrans s none new

/-- A Candelabra TABLE_SWAP slot is delivered and executes at once (R414); `slotDeliver` has judged it. -/
def weightSwapSlot (slot : Nat) (s : State) : State :=
  if slotState s slot ≠ 2 then s
  else endDone slot false (canSwapAt (slotDom s slot - 1) (ceilDiv (slotWhen s slot) (chanF s)) s)

end Sys2Proof.Machine
end

