-- ==== Sys2Proof/Machine/DictTable.lean ====
section
/-! DEFINITION. Sys2Proof/Machine/DictTable.lean: the object tables of the spec as data (R530 to R533 and the object tables of
every chapter): index and element ranges, type, access flags (R9), persistence (R10) and where the value lives. -/
namespace Sys2Proof.Machine

/-- The object types of R532. -/
inductive OType where
  | bool | u8 | u16 | u32 | u64 | s8 | s16 | s32 | s64 | f32 | f64 | time96 | count64 | text | blob | enum | bits
deriving DecidableEq, Repr

/-- Objects whose value or write effect is more than register bits, by name. -/
inductive OSpec where
  | capTriggerTime | classTable | coefShadow | completionRecords | deviceReset | dumpImage | eye | faultRing
  | firmwareVersion | firstError | lampCmem | lampDmem | lampImem | lanternHold | lanternPlanes | lanternSeed
  | lanternStatus | lanternTasks | lastMessage | lifetimeClear | lifetimeRecord | lifetimeSequence
  | linkSourceChip | logNext | logOldest | logOldestKept | nvmCounters | positionCounters | powerOnMinutes
  | psetCommand | psetContents | psetError | psetSlot | psetState | restoreDefaults | revokedKeys
  | rollbackCounter | sessionPeer | sessionSequence | slotControl | slotVersion | tb0Now | tb0Step
  | tempLimit | trialAttempts | updateCommand | updateError | updateHistory | updateImage | updateState
  | voltLimit | weightShadow | zmpCount
deriving DecidableEq, Repr

/-- Bits [hi:lo] of the register at key + (i / 8) × s1 + (i % 8) × s0 + j × es, for index i and element j of the row. -/
structure Slice where
  key : Nat
  s1 : Nat
  s0 : Nat
  es : Nat
  hi : Nat
  lo : Nat
deriving DecidableEq, Repr

/-- Where the value of an object lives. -/
inductive Home where
  /-- Register bits, least significant first. -/
  | bits (l : List Slice)
  /-- `n` consecutive register words from key + (i / 8) × s1 + (i % 8) × s0, as bytes. -/
  | words (key s1 s0 n : Nat)
  /-- No register: the dictionary holds it; its default. -/
  | held (dflt : List Byte)
  /-- Written value v makes a write of word codes[v - 1] to a command register. -/
  | cmd (key s1 s0 : Nat) (codes : List Nat)
  | spec (k : OSpec)
deriving DecidableEq, Repr

/-- One row of an object table. `h n f m`: flags of the origin classes, 1 R, 2 W, 4 S (R9). `len`: bytes of a BLOB, 0 where it
has no fixed length. `vals`: the values of an ENUM; none: whatever its field holds. -/
structure ObjRow where
  ix : Nat
  ixN : Nat
  el : Nat
  elN : Nat
  array : Bool
  ty : OType
  len : Nat
  h : Nat
  n : Nat
  f : Nat
  m : Nat
  persist : Bool
  home : Home
  vals : List Nat
deriving DecidableEq, Repr

/-- vendor_name and part_code (R568). -/
def textVendor : List Byte := [72, 111, 108, 116, 105, 108, 111, 32, 83, 101, 109, 105, 99, 111, 110, 100, 117, 99, 116, 111, 114]
def textPart : List Byte := [85, 90, 52, 48, 57, 54, 45, 88, 69]

def objTable0_0 : List ObjRow := [
  ⟨0x0000, 1, 0x01, 1, false, .text, 0, 1, 1, 1, 1, true, .held textVendor, []⟩,
  ⟨0x0000, 1, 0x02, 1, false, .text, 0, 1, 1, 1, 1, true, .held textPart, []⟩,
  ⟨0x0000, 1, 0x03, 1, false, .u32, 0, 1, 1, 1, 1, true, .held (leBytes 4 1083580323), []⟩,
  ⟨0x0000, 1, 0x04, 1, false, .u8, 0, 1, 1, 1, 3, true, .held (List.replicate 1 0), []⟩,
  ⟨0x0000, 1, 0x05, 1, false, .blob, 16, 1, 1, 1, 3, true, .held (List.replicate 16 0), []⟩,
  ⟨0x0000, 1, 0x06, 2, false, .u64, 0, 1, 1, 1, 3, true, .held (List.replicate 8 0), []⟩,
  ⟨0x0000, 1, 0x08, 1, false, .u32, 0, 1, 1, 1, 3, true, .held (leBytes 4 10), []⟩,
  ⟨0x0000, 1, 0x09, 1, false, .u32, 0, 1, 1, 1, 0, false, .spec .firmwareVersion, []⟩,
  ⟨0x0000, 1, 0x0A, 1, false, .enum, 0, 1, 1, 1, 0, false, .bits [⟨0x4, 0x0, 0x0, 0x0, 1, 0⟩], []⟩]

def objTable1_0 : List ObjRow := [
  ⟨0x1000, 1, 0x01, 1, false, .enum, 0, 3, 5, 3, 0, true, .held (leBytes 1 1), [0, 1]⟩,
  ⟨0x1000, 1, 0x02, 3, false, .u32, 0, 3, 5, 3, 0, true, .held (List.replicate 4 0), []⟩,
  ⟨0x1000, 1, 0x05, 1, false, .u16, 0, 3, 5, 3, 0, true, .held (leBytes 2 50117), []⟩,
  ⟨0x1000, 1, 0x06, 1, false, .bool, 0, 3, 5, 3, 0, true, .held (leBytes 1 1), []⟩,
  ⟨0x1000, 1, 0x07, 1, false, .u32, 0, 1, 1, 1, 0, false, .held (List.replicate 4 0), []⟩,
  ⟨0x1000, 1, 0x08, 1, false, .u32, 0, 2, 2, 2, 0, false, .spec .restoreDefaults, []⟩,
  ⟨0x1010, 8, 0x01, 1, false, .bool, 0, 3, 5, 3, 0, true, .held (List.replicate 1 0), []⟩,
  ⟨0x1010, 8, 0x02, 1, false, .u32, 0, 3, 5, 3, 0, true, .held (List.replicate 4 0), []⟩,
  ⟨0x1020, 8, 0x01, 1, false, .bool, 0, 3, 0, 3, 3, true, .held (List.replicate 1 0), []⟩,
  ⟨0x1020, 8, 0x02, 1, false, .blob, 32, 2, 0, 2, 2, true, .held (List.replicate 32 0), []⟩,
  ⟨0x1020, 8, 0x03, 1, false, .u16, 0, 3, 0, 3, 0, true, .held (leBytes 2 60), []⟩,
  ⟨0x1020, 8, 0x04, 1, false, .u64, 0, 1, 1, 1, 0, false, .spec .sessionPeer, []⟩,
  ⟨0x1020, 8, 0x05, 1, false, .u32, 0, 1, 1, 1, 0, false, .spec .sessionSequence, []⟩,
  ⟨0x1030, 2, 0x01, 1, false, .bool, 0, 3, 5, 3, 0, true, .bits [⟨0x60100, 0x80, 0x10, 0x0, 0, 0⟩], []⟩,
  ⟨0x1030, 2, 0x02, 1, false, .enum, 0, 3, 5, 3, 0, true, .bits [⟨0x60100, 0x80, 0x10, 0x0, 1, 1⟩], []⟩,
  ⟨0x1030, 2, 0x03, 1, false, .u32, 0, 1, 1, 1, 0, false, .bits [⟨0x60104, 0x80, 0x10, 0x0, 31, 0⟩], []⟩,
  ⟨0x1030, 2, 0x04, 2, false, .u32, 0, 1, 1, 1, 0, false, .bits [⟨0x60108, 0x80, 0x10, 0x4, 31, 0⟩], []⟩,
  ⟨0x1040, 1, 0x01, 5, false, .u32, 0, 1, 1, 1, 0, false, .spec .zmpCount, []⟩,
  ⟨0x1050, 1, 0x01, 1, false, .enum, 0, 3, 5, 3, 0, true, .held (leBytes 1 1), [0, 1, 2]⟩,
  ⟨0x1050, 1, 0x02, 1, false, .bool, 0, 3, 5, 3, 0, true, .bits [⟨0x10, 0x0, 0x0, 0x0, 0, 0⟩], []⟩,
  ⟨0x1050, 1, 0x03, 1, false, .u32, 0, 2, 2, 2, 0, false, .spec .deviceReset, []⟩,
  ⟨0x1050, 1, 0x04, 1, false, .u32, 0, 1, 1, 1, 0, false, .bits [⟨0xc, 0x0, 0x0, 0x0, 31, 0⟩], []⟩,
  ⟨0x1050, 1, 0x05, 1, false, .u32, 0, 1, 1, 1, 0, false, .bits [⟨0x4, 0x0, 0x0, 0x0, 31, 0⟩], []⟩,
  ⟨0x1050, 1, 0x06, 1, false, .u32, 0, 1, 1, 1, 0, false, .bits [⟨0x14, 0x0, 0x0, 0x0, 31, 0⟩], []⟩,
  ⟨0x1050, 1, 0x07, 1, false, .u8, 0, 3, 5, 3, 0, true, .bits [⟨0x20, 0x0, 0x0, 0x0, 31, 0⟩], []⟩,
  ⟨0x1050, 1, 0x08, 1, false, .u32, 0, 3, 5, 3, 0, true, .bits [⟨0x24, 0x0, 0x0, 0x0, 31, 0⟩], []⟩,
  ⟨0x1050, 1, 0x09, 1, false, .u8, 0, 1, 1, 1, 0, false, .bits [⟨0x0, 0x0, 0x0, 0x0, 31, 0⟩], []⟩,
  ⟨0x1100, 1, 0x01, 1, false, .count64, 0, 1, 1, 1, 0, false, .spec .logNext, []⟩,
  ⟨0x1100, 1, 0x02, 1, false, .count64, 0, 1, 1, 1, 0, false, .spec .logOldest, []⟩,
  ⟨0x1100, 1, 0x03, 1, false, .count64, 0, 1, 1, 1, 0, false, .spec .logOldestKept, []⟩,
  ⟨0x1200, 4, 0x01, 1, false, .enum, 0, 2, 2, 2, 0, false, .spec .psetCommand, [1, 2, 3]⟩,
  ⟨0x1200, 4, 0x02, 1, false, .u32, 0, 1, 1, 1, 0, false, .spec .psetState, []⟩,
  ⟨0x1200, 4, 0x03, 1, false, .u64, 0, 1, 1, 1, 0, false, .spec .psetError, []⟩,
  ⟨0x1200, 4, 0x04, 1, false, .u8, 0, 1, 1, 1, 0, false, .spec .psetSlot, []⟩,
  ⟨0x1200, 4, 0x05, 1, false, .blob, 0, 1, 1, 1, 0, false, .spec .psetContents, []⟩]

def objTable2_0 : List ObjRow := [
  ⟨0x2000, 1, 0x01, 1, false, .enum, 0, 3, 5, 3, 0, true, .bits [⟨0x10000, 0x0, 0x0, 0x0, 1, 0⟩], []⟩,
  ⟨0x2000, 1, 0x02, 1, false, .enum, 0, 3, 5, 3, 0, true, .bits [⟨0x10000, 0x0, 0x0, 0x0, 2, 2⟩], []⟩,
  ⟨0x2000, 1, 0x03, 1, false, .u32, 0, 3, 5, 3, 0, true, .bits [⟨0x1000c, 0x0, 0x0, 0x0, 31, 0⟩], []⟩,
  ⟨0x2000, 1, 0x04, 1, false, .time96, 0, 1, 1, 1, 0, false, .spec .tb0Now, []⟩,
  ⟨0x2000, 1, 0x05, 1, false, .enum, 0, 1, 1, 1, 0, false, .bits [⟨0x10004, 0x0, 0x0, 0x0, 2, 0⟩], []⟩,
  ⟨0x2000, 1, 0x06, 1, false, .u32, 0, 1, 1, 1, 0, false, .bits [⟨0x10008, 0x0, 0x0, 0x0, 31, 0⟩], []⟩,
  ⟨0x2000, 1, 0x07, 1, false, .s32, 0, 3, 5, 3, 0, true, .bits [⟨0x10038, 0x0, 0x0, 0x0, 31, 0⟩], []⟩,
  ⟨0x2000, 1, 0x08, 1, false, .u16, 0, 3, 5, 3, 0, true, .bits [⟨0x1003c, 0x0, 0x0, 0x0, 15, 0⟩], []⟩,
  ⟨0x2000, 1, 0x09, 1, false, .u8, 0, 3, 5, 3, 0, true, .bits [⟨0x10040, 0x0, 0x0, 0x0, 7, 0⟩], []⟩,
  ⟨0x2000, 1, 0x0A, 1, false, .enum, 0, 3, 5, 3, 0, true, .bits [⟨0x10040, 0x0, 0x0, 0x0, 9, 8⟩], []⟩,
  ⟨0x2000, 1, 0x0B, 1, false, .bool, 0, 3, 5, 3, 0, true, .bits [⟨0x10040, 0x0, 0x0, 0x0, 10, 10⟩], []⟩,
  ⟨0x2000, 1, 0x0C, 1, false, .time96, 0, 2, 0, 2, 0, false, .spec .tb0Step, []⟩,
  ⟨0x2010, 4, 0x01, 1, false, .bool, 0, 3, 5, 3, 0, true, .bits [⟨0x10100, 0x200, 0x40, 0x0, 0, 0⟩], []⟩,
  ⟨0x2010, 4, 0x02, 1, false, .u32, 0, 3, 5, 3, 0, true, .bits [⟨0x10104, 0x200, 0x40, 0x0, 31, 0⟩], []⟩,
  ⟨0x2010, 4, 0x03, 1, false, .u32, 0, 3, 5, 3, 0, true, .bits [⟨0x10108, 0x200, 0x40, 0x0, 31, 0⟩], []⟩,
  ⟨0x2010, 4, 0x04, 1, false, .count64, 0, 3, 5, 3, 0, true,
    .bits [⟨0x1010c, 0x200, 0x40, 0x0, 31, 0⟩, ⟨0x10110, 0x200, 0x40, 0x0, 31, 0⟩], []⟩,
  ⟨0x2010, 4, 0x05, 1, false, .time96, 0, 3, 5, 3, 0, true,
    .bits [⟨0x10114, 0x200, 0x40, 0x0, 31, 0⟩, ⟨0x10118, 0x200, 0x40, 0x0, 31, 0⟩,
      ⟨0x1011c, 0x200, 0x40, 0x0, 31, 0⟩], []⟩,
  ⟨0x2010, 4, 0x06, 1, false, .bool, 0, 3, 5, 3, 0, false, .bits [⟨0x10100, 0x200, 0x40, 0x0, 1, 1⟩], []⟩,
  ⟨0x2010, 4, 0x07, 1, false, .u32, 0, 3, 5, 3, 0, true, .bits [⟨0x10138, 0x200, 0x40, 0x0, 31, 0⟩], []⟩,
  ⟨0x2010, 4, 0x08, 1, false, .u32, 0, 3, 5, 3, 0, true, .bits [⟨0x10134, 0x200, 0x40, 0x0, 31, 0⟩], []⟩,
  ⟨0x2010, 4, 0x09, 1, false, .count64, 0, 1, 1, 1, 0, false,
    .bits [⟨0x10120, 0x200, 0x40, 0x0, 31, 0⟩, ⟨0x10124, 0x200, 0x40, 0x0, 31, 0⟩], []⟩,
  ⟨0x2010, 4, 0x0A, 1, false, .count64, 0, 1, 1, 1, 0, false,
    .bits [⟨0x10128, 0x200, 0x40, 0x0, 31, 0⟩, ⟨0x1012c, 0x200, 0x40, 0x0, 31, 0⟩], []⟩,
  ⟨0x2010, 4, 0x0B, 1, false, .s32, 0, 1, 1, 1, 0, false, .bits [⟨0x10130, 0x200, 0x40, 0x0, 31, 0⟩], []⟩,
  ⟨0x2020, 4, 0x01, 1, false, .u16, 0, 3, 5, 3, 0, true, .bits [⟨0x10200, 0x80, 0x10, 0x0, 15, 0⟩], []⟩,
  ⟨0x2020, 4, 0x02, 1, false, .enum, 0, 3, 5, 3, 0, true, .bits [⟨0x10200, 0x80, 0x10, 0x0, 16, 16⟩], []⟩,
  ⟨0x2020, 4, 0x03, 1, false, .bool, 0, 3, 5, 3, 0, true, .bits [⟨0x10200, 0x80, 0x10, 0x0, 17, 17⟩], []⟩,
  ⟨0x2100, 1, 0x01, 1, false, .bool, 0, 3, 3, 3, 0, false, .bits [⟨0x20000, 0x0, 0x0, 0x0, 0, 0⟩], []⟩,
  ⟨0x2100, 1, 0x02, 1, false, .u16, 0, 3, 5, 3, 0, true, .bits [⟨0x20000, 0x0, 0x0, 0x0, 31, 16⟩], []⟩,
  ⟨0x2100, 1, 0x03, 1, false, .u32, 0, 1, 1, 1, 0, false, .bits [⟨0x20010, 0x0, 0x0, 0x0, 31, 0⟩], []⟩,
  ⟨0x2100, 1, 0x04, 1, false, .u32, 0, 1, 1, 1, 0, false, .bits [⟨0x20014, 0x0, 0x0, 0x0, 31, 0⟩], []⟩,
  ⟨0x2100, 1, 0x05, 1, false, .u32, 0, 1, 1, 1, 0, false, .bits [⟨0x20018, 0x0, 0x0, 0x0, 31, 0⟩], []⟩,
  ⟨0x2101, 1, 0x01, 1, false, .blob, 0, 1, 1, 1, 0, false, .spec .completionRecords, []⟩,
  ⟨0x2101, 1, 0x02, 1, false, .u16, 0, 3, 3, 3, 0, false, .bits [⟨0x20008, 0x0, 0x0, 0x0, 10, 0⟩], []⟩,
  ⟨0x2200, 256, 0x01, 1, false, .u8, 0, 3, 3, 3, 0, false, .bits [⟨0x21000, 0x100, 0x20, 0x0, 7, 0⟩], []⟩,
  ⟨0x2200, 256, 0x02, 1, false, .enum, 0, 3, 3, 3, 0, false, .bits [⟨0x21000, 0x100, 0x20, 0x0, 10, 8⟩], [0, 1, 2, 3, 4]⟩,
  ⟨0x2200, 256, 0x03, 1, false, .enum, 0, 3, 3, 3, 0, false, .bits [⟨0x21000, 0x100, 0x20, 0x0, 11, 11⟩], []⟩,
  ⟨0x2200, 256, 0x04, 1, false, .bool, 0, 3, 3, 3, 0, false, .bits [⟨0x21000, 0x100, 0x20, 0x0, 12, 12⟩], []⟩,
  ⟨0x2200, 256, 0x05, 1, false, .u64, 0, 3, 3, 3, 0, false,
    .bits [⟨0x21004, 0x100, 0x20, 0x0, 31, 0⟩, ⟨0x21008, 0x100, 0x20, 0x0, 31, 0⟩], []⟩,
  ⟨0x2200, 256, 0x06, 1, false, .u32, 0, 3, 3, 3, 0, false, .bits [⟨0x2100c, 0x100, 0x20, 0x0, 31, 0⟩], []⟩,
  ⟨0x2200, 256, 0x07, 1, false, .u64, 0, 3, 3, 3, 0, false,
    .bits [⟨0x21010, 0x100, 0x20, 0x0, 31, 0⟩, ⟨0x21014, 0x100, 0x20, 0x0, 31, 0⟩], []⟩]

def objTable2_1 : List ObjRow := [
  ⟨0x2200, 256, 0x08, 1, false, .u16, 0, 3, 3, 3, 0, false, .bits [⟨0x21018, 0x100, 0x20, 0x0, 15, 0⟩], []⟩,
  ⟨0x2200, 256, 0x09, 1, false, .u16, 0, 3, 3, 3, 0, false, .bits [⟨0x21018, 0x100, 0x20, 0x0, 31, 16⟩], []⟩,
  ⟨0x2200, 256, 0x0A, 1, false, .u32, 0, 3, 3, 3, 0, false, .bits [⟨0x2101c, 0x100, 0x20, 0x0, 31, 0⟩], []⟩,
  ⟨0x2200, 256, 0x0B, 1, false, .enum, 0, 3, 3, 3, 0, false, .spec .slotControl, [1, 2]⟩]

def objTable3_0 : List ObjRow := [
  ⟨0x3000, 1, 0x01, 1, false, .u16, 0, 3, 5, 3, 0, true, .spec .linkSourceChip, []⟩,
  ⟨0x3010, 16, 0x01, 1, false, .bool, 0, 3, 5, 3, 0, true, .bits [⟨0x200000, 0x80000, 0x10000, 0x0, 0, 0⟩], []⟩,
  ⟨0x3010, 16, 0x02, 1, false, .enum, 0, 3, 5, 3, 0, true, .bits [⟨0x200000, 0x80000, 0x10000, 0x0, 2, 1⟩], []⟩,
  ⟨0x3010, 16, 0x03, 1, false, .bool, 0, 3, 5, 3, 0, true, .bits [⟨0x200000, 0x80000, 0x10000, 0x0, 3, 3⟩], []⟩,
  ⟨0x3010, 16, 0x04, 1, false, .bool, 0, 3, 5, 3, 0, true, .bits [⟨0x200000, 0x80000, 0x10000, 0x0, 4, 4⟩], []⟩,
  ⟨0x3010, 16, 0x05, 1, false, .bool, 0, 3, 5, 3, 0, false, .bits [⟨0x200000, 0x80000, 0x10000, 0x0, 5, 5⟩], []⟩,
  ⟨0x3010, 16, 0x06, 1, false, .u32, 0, 1, 1, 1, 0, false, .bits [⟨0x200008, 0x80000, 0x10000, 0x0, 31, 0⟩], []⟩,
  ⟨0x3010, 16, 0x07, 1, false, .u32, 0, 3, 5, 3, 0, true, .bits [⟨0x200010, 0x80000, 0x10000, 0x0, 31, 0⟩], []⟩,
  ⟨0x3100, 128, 0x01, 1, false, .u32, 0, 3, 5, 3, 0, true, .bits [⟨0x200100, 0x10000, 0x80, 0x0, 31, 0⟩], []⟩,
  ⟨0x3100, 128, 0x02, 1, false, .u32, 0, 3, 5, 3, 0, true, .bits [⟨0x200104, 0x10000, 0x80, 0x0, 31, 0⟩], []⟩,
  ⟨0x3100, 128, 0x03, 1, false, .u32, 0, 1, 1, 1, 0, false, .bits [⟨0x20010c, 0x10000, 0x80, 0x0, 31, 0⟩], []⟩,
  ⟨0x3100, 128, 0x04, 1, false, .u32, 0, 1, 1, 1, 0, false, .bits [⟨0x200110, 0x10000, 0x80, 0x0, 31, 0⟩], []⟩,
  ⟨0x3100, 128, 0x05, 1, false, .u32, 0, 1, 1, 1, 0, false, .bits [⟨0x200114, 0x10000, 0x80, 0x0, 31, 0⟩], []⟩,
  ⟨0x3100, 128, 0x06, 1, false, .u8, 0, 2, 2, 2, 0, false, .bits [⟨0x200108, 0x10000, 0x80, 0x0, 31, 0⟩], []⟩,
  ⟨0x3200, 128, 0x01, 16, true, .u32, 0, 1, 1, 1, 0, false, .bits [⟨0x200120, 0x10000, 0x80, 0x4, 31, 0⟩], []⟩,
  ⟨0x3200, 128, 0x11, 1, false, .u64, 0, 1, 1, 1, 0, false,
    .bits [⟨0x200160, 0x10000, 0x80, 0x0, 31, 0⟩, ⟨0x200164, 0x10000, 0x80, 0x0, 31, 0⟩], []⟩,
  ⟨0x3300, 1, 0x01, 1, false, .bool, 0, 3, 5, 3, 0, true, .bits [⟨0x130000, 0x0, 0x0, 0x0, 0, 0⟩], []⟩,
  ⟨0x3300, 1, 0x02, 1, false, .u16, 0, 3, 5, 3, 0, true, .bits [⟨0x13000c, 0x0, 0x0, 0x0, 13, 0⟩], []⟩,
  ⟨0x3300, 1, 0x03, 1, false, .u32, 0, 1, 1, 1, 0, false, .bits [⟨0x130008, 0x0, 0x0, 0x0, 31, 0⟩], []⟩,
  ⟨0x3400, 256, 0x01, 1, false, .blob, 16, 3, 5, 3, 0, true, .words 0x131000 0x80 0x10 4, []⟩,
  ⟨0x3400, 256, 0x02, 1, false, .u32, 0, 1, 1, 1, 0, false, .bits [⟨0x132000, 0x20, 0x4, 0x0, 31, 0⟩], []⟩]

def objTable4_0 : List ObjRow := [
  ⟨0x4000, 1, 0x01, 1, false, .bool, 0, 3, 5, 3, 0, true, .bits [⟨0xe0000, 0x0, 0x0, 0x0, 0, 0⟩], []⟩,
  ⟨0x4000, 1, 0x02, 1, false, .enum, 0, 3, 5, 3, 0, true, .bits [⟨0xe0000, 0x0, 0x0, 0x0, 2, 1⟩], [0, 1, 2]⟩,
  ⟨0x4000, 1, 0x03, 1, false, .enum, 0, 3, 5, 3, 0, true, .bits [⟨0xe0000, 0x0, 0x0, 0x0, 4, 3⟩], []⟩,
  ⟨0x4000, 1, 0x04, 1, false, .u8, 0, 3, 5, 3, 0, true, .bits [⟨0xe0000, 0x0, 0x0, 0x0, 9, 5⟩], []⟩,
  ⟨0x4000, 1, 0x05, 1, false, .bool, 0, 3, 5, 3, 0, true, .bits [⟨0xe0000, 0x0, 0x0, 0x0, 10, 10⟩], []⟩,
  ⟨0x4000, 1, 0x06, 1, false, .u8, 0, 3, 5, 3, 0, true, .bits [⟨0xe0000, 0x0, 0x0, 0x0, 12, 11⟩], []⟩,
  ⟨0x4000, 1, 0x07, 1, false, .u8, 0, 3, 5, 3, 0, true, .bits [⟨0xe000c, 0x0, 0x0, 0x0, 3, 0⟩], []⟩,
  ⟨0x4000, 1, 0x08, 1, false, .bits, 0, 3, 5, 3, 0, true, .bits [⟨0xe000c, 0x0, 0x0, 0x0, 31, 16⟩], []⟩,
  ⟨0x4000, 1, 0x09, 1, false, .u32, 0, 3, 5, 3, 0, true, .bits [⟨0xe0010, 0x0, 0x0, 0x0, 16, 0⟩], []⟩,
  ⟨0x4000, 1, 0x0A, 1, false, .u32, 0, 3, 5, 3, 0, true, .bits [⟨0xe0014, 0x0, 0x0, 0x0, 16, 0⟩], []⟩,
  ⟨0x4000, 1, 0x0B, 1, false, .u8, 0, 3, 5, 3, 0, true, .bits [⟨0xe0018, 0x0, 0x0, 0x0, 5, 0⟩], []⟩,
  ⟨0x4000, 1, 0x0C, 1, false, .u8, 0, 3, 5, 3, 0, true, .bits [⟨0xe0018, 0x0, 0x0, 0x0, 12, 6⟩], []⟩,
  ⟨0x4000, 1, 0x0D, 1, false, .u16, 0, 3, 5, 3, 0, true, .bits [⟨0xe001c, 0x0, 0x0, 0x0, 12, 0⟩], []⟩,
  ⟨0x4000, 1, 0x0E, 1, false, .u32, 0, 1, 1, 1, 0, false, .bits [⟨0xe0008, 0x0, 0x0, 0x0, 31, 0⟩], []⟩,
  ⟨0x4000, 1, 0x0F, 1, false, .u32, 0, 1, 1, 1, 0, false, .bits [⟨0xe002c, 0x0, 0x0, 0x0, 31, 0⟩], []⟩,
  ⟨0x4000, 1, 0x10, 1, false, .u32, 0, 1, 1, 1, 0, false, .bits [⟨0xe0030, 0x0, 0x0, 0x0, 31, 0⟩], []⟩,
  ⟨0x4000, 1, 0x11, 1, false, .u32, 0, 1, 1, 1, 0, false, .bits [⟨0xe0034, 0x0, 0x0, 0x0, 31, 0⟩], []⟩,
  ⟨0x4001, 1, 0x01, 1, false, .blob, 0, 2, 2, 2, 0, false, .spec .coefShadow, []⟩,
  ⟨0x4001, 1, 0x02, 1, false, .enum, 0, 2, 2, 2, 0, false, .cmd 0xe0020 0x0 0x0 [1, 2, 4, 8], [1, 2, 3, 4]⟩,
  ⟨0x4001, 1, 0x03, 1, false, .u32, 0, 1, 1, 1, 0, false, .bits [⟨0xe0024, 0x0, 0x0, 0x0, 31, 0⟩], []⟩,
  ⟨0x4100, 128, 0x01, 1, false, .bool, 0, 3, 5, 3, 0, true, .bits [⟨0xe1000, 0x200, 0x40, 0x0, 0, 0⟩], []⟩,
  ⟨0x4100, 128, 0x02, 1, false, .u16, 0, 3, 5, 3, 0, true, .bits [⟨0xe1000, 0x200, 0x40, 0x0, 14, 1⟩], []⟩,
  ⟨0x4100, 128, 0x03, 1, false, .u32, 0, 3, 5, 3, 0, true, .bits [⟨0xe1004, 0x200, 0x40, 0x0, 17, 0⟩], []⟩,
  ⟨0x4100, 128, 0x04, 1, false, .u32, 0, 1, 1, 1, 0, false, .bits [⟨0xe1008, 0x200, 0x40, 0x0, 31, 0⟩], []⟩,
  ⟨0x4100, 128, 0x05, 6, true, .u32, 0, 1, 1, 1, 0, false, .bits [⟨0xe1010, 0x200, 0x40, 0x4, 31, 0⟩], []⟩,
  ⟨0x4200, 65, 0x01, 1, false, .enum, 0, 2, 2, 2, 0, false,
    .cmd 0x400000 0x80000 0x10000 [1, 2, 4, 8], [1, 2, 3, 4]⟩,
  ⟨0x4200, 65, 0x02, 1, false, .u32, 0, 1, 1, 1, 0, false, .bits [⟨0x400004, 0x80000, 0x10000, 0x0, 31, 0⟩], []⟩,
  ⟨0x4200, 65, 0x03, 1, false, .u16, 0, 3, 3, 3, 0, false, .bits [⟨0x400008, 0x80000, 0x10000, 0x0, 12, 0⟩], []⟩,
  ⟨0x4200, 65, 0x04, 1, false, .u32, 0, 3, 5, 3, 0, true, .bits [⟨0x400014, 0x80000, 0x10000, 0x0, 31, 0⟩], []⟩,
  ⟨0x4200, 65, 0x05, 1, false, .enum, 0, 2, 2, 2, 0, false, .cmd 0x40001c 0x80000 0x10000 [1, 2, 4], [1, 2, 3]⟩,
  ⟨0x4200, 65, 0x06, 1, false, .u32, 0, 1, 1, 1, 0, false, .bits [⟨0x400020, 0x80000, 0x10000, 0x0, 31, 0⟩], []⟩,
  ⟨0x4200, 65, 0x07, 1, false, .u32, 0, 1, 1, 1, 0, false, .bits [⟨0x400024, 0x80000, 0x10000, 0x0, 31, 0⟩], []⟩,
  ⟨0x4200, 65, 0x08, 1, false, .u16, 0, 2, 2, 2, 0, false, .bits [⟨0x400010, 0x80000, 0x10000, 0x0, 15, 0⟩], []⟩,
  ⟨0x4200, 65, 0x09, 9, true, .u32, 0, 1, 1, 1, 0, false, .bits [⟨0x400040, 0x80000, 0x10000, 0x4, 31, 0⟩], []⟩,
  ⟨0x4200, 65, 0x12, 1, false, .blob, 32768, 3, 3, 3, 0, false, .spec .lampImem, []⟩,
  ⟨0x4200, 65, 0x13, 1, false, .blob, 0, 3, 3, 3, 0, false, .spec .lampDmem, []⟩,
  ⟨0x4200, 65, 0x14, 1, false, .blob, 131072, 3, 3, 3, 0, false, .spec .lampCmem, []⟩]

def objTable5_0 : List ObjRow := [
  ⟨0x5000, 1, 0x01, 1, false, .bool, 0, 3, 5, 3, 0, true, .bits [⟨0x100000, 0x0, 0x0, 0x0, 0, 0⟩], []⟩,
  ⟨0x5000, 1, 0x02, 1, false, .u32, 0, 1, 1, 1, 0, false, .bits [⟨0x100008, 0x0, 0x0, 0x0, 31, 0⟩], []⟩,
  ⟨0x5000, 1, 0x03, 1, false, .bool, 0, 2, 2, 2, 0, false, .bits [⟨0x100004, 0x0, 0x0, 0x0, 1, 1⟩], []⟩,
  ⟨0x5000, 1, 0x04, 1, false, .u32, 0, 1, 1, 1, 0, false, .bits [⟨0x10000c, 0x0, 0x0, 0x0, 31, 0⟩], []⟩,
  ⟨0x5000, 1, 0x05, 1, false, .u32, 0, 1, 1, 1, 0, false, .bits [⟨0x100010, 0x0, 0x0, 0x0, 31, 0⟩], []⟩,
  ⟨0x5000, 1, 0x06, 1, false, .bool, 0, 3, 0, 3, 0, false, .bits [⟨0x100300, 0x0, 0x0, 0x0, 0, 0⟩], []⟩,
  ⟨0x5000, 1, 0x07, 1, false, .blob, 32, 3, 0, 3, 0, false, .words 0x100310 0x0 0x0 8, []⟩,
  ⟨0x5000, 1, 0x08, 1, false, .bool, 0, 1, 0, 1, 0, false, .bits [⟨0x100304, 0x0, 0x0, 0x0, 0, 0⟩], []⟩,
  ⟨0x5010, 4, 0x01, 1, false, .bool, 0, 3, 5, 3, 0, true, .bits [⟨0x100100, 0x100, 0x20, 0x0, 0, 0⟩], []⟩,
  ⟨0x5010, 4, 0x02, 1, false, .enum, 0, 3, 5, 3, 0, true, .bits [⟨0x100100, 0x100, 0x20, 0x0, 1, 1⟩], []⟩,
  ⟨0x5010, 4, 0x03, 1, false, .bool, 0, 3, 5, 3, 0, true, .bits [⟨0x100100, 0x100, 0x20, 0x0, 2, 2⟩], []⟩,
  ⟨0x5010, 4, 0x04, 1, false, .u8, 0, 3, 5, 3, 0, true, .bits [⟨0x100100, 0x100, 0x20, 0x0, 9, 3⟩], []⟩,
  ⟨0x5010, 4, 0x05, 1, false, .u8, 0, 3, 5, 3, 0, true, .bits [⟨0x100100, 0x100, 0x20, 0x0, 17, 10⟩], []⟩,
  ⟨0x5010, 4, 0x06, 1, false, .u16, 0, 3, 5, 3, 0, true, .bits [⟨0x100104, 0x100, 0x20, 0x0, 13, 0⟩], []⟩,
  ⟨0x5010, 4, 0x07, 1, false, .u16, 0, 1, 1, 1, 0, false, .bits [⟨0x100104, 0x100, 0x20, 0x0, 29, 16⟩], []⟩,
  ⟨0x5010, 4, 0x08, 1, false, .u32, 0, 1, 1, 1, 0, false, .bits [⟨0x100108, 0x100, 0x20, 0x0, 31, 0⟩], []⟩,
  ⟨0x5010, 4, 0x09, 1, false, .u32, 0, 1, 1, 1, 0, false, .bits [⟨0x10010c, 0x100, 0x20, 0x0, 31, 0⟩], []⟩,
  ⟨0x5010, 4, 0x0A, 1, false, .count64, 0, 1, 1, 1, 0, false,
    .bits [⟨0x100110, 0x100, 0x20, 0x0, 31, 0⟩, ⟨0x100114, 0x100, 0x20, 0x0, 31, 0⟩], []⟩,
  ⟨0x5010, 4, 0x0B, 1, false, .u32, 0, 1, 1, 1, 0, false, .bits [⟨0x100118, 0x100, 0x20, 0x0, 31, 0⟩], []⟩,
  ⟨0x5010, 4, 0x0C, 1, false, .u32, 0, 1, 1, 1, 0, false, .bits [⟨0x10011c, 0x100, 0x20, 0x0, 31, 0⟩], []⟩,
  ⟨0x5400, 256, 0x01, 1, false, .u64, 0, 3, 5, 3, 0, true, .spec .lanternSeed, []⟩,
  ⟨0x5400, 256, 0x02, 1, false, .u32, 0, 1, 1, 1, 0, false, .spec .lanternStatus, []⟩,
  ⟨0x5400, 256, 0x03, 1, false, .u32, 0, 1, 1, 1, 0, false, .spec .lanternTasks, []⟩,
  ⟨0x5400, 256, 0x04, 1, false, .u32, 0, 1, 1, 1, 0, false, .spec .lanternHold, []⟩,
  ⟨0x5400, 256, 0x05, 1, false, .u64, 0, 1, 0, 1, 0, false, .spec .lanternPlanes, []⟩,
  ⟨0x5600, 1, 0x01, 1, false, .u32, 0, 1, 1, 1, 0, false, .bits [⟨0x110004, 0x0, 0x0, 0x0, 31, 0⟩], []⟩,
  ⟨0x5600, 1, 0x02, 5, true, .u32, 0, 1, 1, 1, 0, false, .bits [⟨0x110010, 0x0, 0x0, 0x4, 31, 0⟩], []⟩,
  ⟨0x5610, 4, 0x01, 1, false, .enum, 0, 3, 5, 3, 0, true, .bits [⟨0x110100, 0x200, 0x40, 0x0, 1, 0⟩], []⟩,
  ⟨0x5610, 4, 0x02, 1, false, .enum, 0, 3, 5, 3, 0, true, .bits [⟨0x110100, 0x200, 0x40, 0x0, 2, 2⟩], []⟩,
  ⟨0x5610, 4, 0x03, 1, false, .u32, 0, 3, 5, 3, 0, true, .bits [⟨0x110104, 0x200, 0x40, 0x0, 19, 0⟩], []⟩,
  ⟨0x5610, 4, 0x04, 1, false, .u32, 0, 3, 5, 3, 0, true, .bits [⟨0x110108, 0x200, 0x40, 0x0, 19, 0⟩], []⟩,
  ⟨0x5610, 4, 0x05, 1, false, .u8, 0, 3, 5, 3, 0, true, .bits [⟨0x11010c, 0x200, 0x40, 0x0, 4, 0⟩], []⟩,
  ⟨0x5610, 4, 0x06, 1, false, .u16, 0, 3, 5, 3, 0, true,
    .bits [⟨0x110110, 0x200, 0x40, 0x0, 6, 0⟩, ⟨0x110110, 0x200, 0x40, 0x0, 11, 7⟩], []⟩,
  ⟨0x5610, 4, 0x07, 1, false, .u32, 0, 1, 1, 1, 0, false, .bits [⟨0x110114, 0x200, 0x40, 0x0, 29, 0⟩], []⟩,
  ⟨0x5610, 4, 0x08, 1, false, .u16, 0, 1, 1, 1, 0, false, .bits [⟨0x110118, 0x200, 0x40, 0x0, 15, 0⟩], []⟩,
  ⟨0x5610, 4, 0x09, 1, false, .u16, 0, 3, 3, 3, 0, false, .bits [⟨0x11011c, 0x200, 0x40, 0x0, 15, 0⟩], []⟩,
  ⟨0x5610, 4, 0x0A, 1, false, .u32, 0, 1, 1, 1, 0, false, .bits [⟨0x110120, 0x200, 0x40, 0x0, 31, 0⟩], []⟩,
  ⟨0x5610, 4, 0x0B, 1, false, .count64, 0, 1, 1, 1, 0, false,
    .bits [⟨0x110124, 0x200, 0x40, 0x0, 31, 0⟩, ⟨0x110128, 0x200, 0x40, 0x0, 31, 0⟩], []⟩,
  ⟨0x5610, 4, 0x0C, 1, false, .u32, 0, 1, 1, 1, 0, false, .bits [⟨0x11012c, 0x200, 0x40, 0x0, 31, 0⟩], []⟩,
  ⟨0x5610, 4, 0x0D, 1, false, .u32, 0, 1, 1, 1, 0, false, .bits [⟨0x110130, 0x200, 0x40, 0x0, 31, 0⟩], []⟩]

def objTable5_1 : List ObjRow := [
  ⟨0x5610, 4, 0x0E, 1, false, .u32, 0, 1, 1, 1, 0, false, .bits [⟨0x110134, 0x200, 0x40, 0x0, 31, 0⟩], []⟩,
  ⟨0x5620, 4, 0x01, 1, false, .blob, 0, 1, 1, 1, 0, false, .spec .dumpImage, []⟩,
  ⟨0x5800, 1, 0x01, 1, false, .bool, 0, 3, 5, 3, 0, true, .bits [⟨0xf0000, 0x0, 0x0, 0x0, 0, 0⟩], []⟩,
  ⟨0x5800, 1, 0x02, 1, false, .u32, 0, 1, 1, 1, 0, false, .bits [⟨0xf0008, 0x0, 0x0, 0x0, 31, 0⟩], []⟩,
  ⟨0x5800, 1, 0x03, 1, false, .u16, 0, 3, 5, 3, 0, true, .bits [⟨0xf000c, 0x0, 0x0, 0x0, 15, 0⟩], []⟩,
  ⟨0x5800, 1, 0x04, 1, false, .bool, 0, 2, 2, 2, 0, false, .bits [⟨0xf0004, 0x0, 0x0, 0x0, 1, 1⟩], []⟩,
  ⟨0x5810, 4, 0x01, 7, true, .u32, 0, 3, 5, 3, 0, true, .bits [⟨0xf0100, 0x200, 0x40, 0x4, 31, 0⟩], []⟩,
  ⟨0x5810, 4, 0x08, 1, false, .u32, 0, 1, 1, 1, 0, false, .bits [⟨0xf011c, 0x200, 0x40, 0x0, 31, 0⟩], []⟩,
  ⟨0x5810, 4, 0x09, 1, false, .blob, 144, 1, 1, 1, 0, false, .words 0xf0800 0x800 0x100 36, []⟩,
  ⟨0x5810, 4, 0x0A, 1, false, .blob, 144, 1, 1, 1, 0, false, .words 0xf0c00 0x800 0x100 36, []⟩,
  ⟨0x5820, 256, 0x01, 1, false, .blob, 8, 3, 5, 3, 0, true, .words 0xf1000 0x40 0x8 2, []⟩,
  ⟨0x5A00, 1, 0x01, 1, false, .blob, 4096, 3, 5, 3, 0, true, .words 0xf2000 0x0 0x0 1024, []⟩,
  ⟨0x5B00, 128, 0x01, 1, false, .u64, 0, 1, 1, 1, 0, false,
    .bits [⟨0xf3000, 0x80, 0x10, 0x0, 31, 0⟩, ⟨0xf3004, 0x80, 0x10, 0x0, 31, 0⟩], []⟩,
  ⟨0x5B00, 128, 0x02, 1, false, .u32, 0, 1, 1, 1, 0, false, .bits [⟨0xf3008, 0x80, 0x10, 0x0, 31, 0⟩], []⟩,
  ⟨0x5C00, 1, 0x01, 1, false, .blob, 524288, 1, 1, 1, 0, false, .spec .positionCounters, []⟩]

def objTable6_0 : List ObjRow := [
  ⟨0x6000, 1, 0x01, 1, false, .bool, 0, 3, 5, 3, 0, true, .bits [⟨0x120000, 0x0, 0x0, 0x0, 0, 0⟩], []⟩,
  ⟨0x6000, 1, 0x02, 1, false, .u32, 0, 1, 1, 1, 0, false, .bits [⟨0x120008, 0x0, 0x0, 0x0, 31, 0⟩], []⟩,
  ⟨0x6000, 1, 0x03, 1, false, .u16, 0, 3, 5, 3, 0, true, .bits [⟨0x12000c, 0x0, 0x0, 0x0, 10, 0⟩], []⟩,
  ⟨0x6000, 1, 0x04, 4, true, .u32, 0, 1, 1, 1, 0, false, .bits [⟨0x120020, 0x0, 0x0, 0x4, 31, 0⟩], []⟩,
  ⟨0x6000, 1, 0x08, 1, false, .blob, 32, 1, 1, 1, 0, false, .words 0x120040 0x0 0x0 8, []⟩,
  ⟨0x6001, 1, 0x01, 1, false, .blob, 0, 2, 2, 2, 0, false, .spec .weightShadow, []⟩,
  ⟨0x6001, 1, 0x02, 1, false, .u32, 0, 3, 3, 3, 0, false, .bits [⟨0x120018, 0x0, 0x0, 0x0, 22, 0⟩], []⟩,
  ⟨0x6001, 1, 0x03, 1, false, .enum, 0, 2, 2, 2, 0, false, .cmd 0x120010 0x0 0x0 [1, 2, 4, 8], [1, 2, 3, 4]⟩,
  ⟨0x6001, 1, 0x04, 1, false, .u32, 0, 1, 1, 1, 0, false, .bits [⟨0x120014, 0x0, 0x0, 0x0, 31, 0⟩], []⟩,
  ⟨0x6010, 16, 0x01, 1, false, .u32, 0, 3, 5, 3, 0, true, .bits [⟨0x120100, 0x200, 0x40, 0x0, 31, 0⟩], []⟩,
  ⟨0x6010, 16, 0x02, 1, false, .u32, 0, 3, 5, 3, 0, true, .bits [⟨0x120104, 0x200, 0x40, 0x0, 31, 0⟩], []⟩,
  ⟨0x6010, 16, 0x03, 1, false, .u32, 0, 3, 5, 3, 0, true, .bits [⟨0x120108, 0x200, 0x40, 0x0, 31, 0⟩], []⟩,
  ⟨0x6010, 16, 0x04, 1, false, .u32, 0, 3, 5, 3, 0, true, .bits [⟨0x12010c, 0x200, 0x40, 0x0, 31, 0⟩], []⟩,
  ⟨0x6010, 16, 0x05, 1, false, .u16, 0, 3, 5, 3, 0, true,
    .bits [⟨0x120110, 0x200, 0x40, 0x0, 6, 0⟩, ⟨0x120110, 0x200, 0x40, 0x0, 11, 7⟩], []⟩,
  ⟨0x6010, 16, 0x06, 1, false, .u64, 0, 3, 5, 3, 0, true,
    .bits [⟨0x120114, 0x200, 0x40, 0x0, 31, 0⟩, ⟨0x120118, 0x200, 0x40, 0x0, 31, 0⟩], []⟩,
  ⟨0x6010, 16, 0x07, 1, false, .u32, 0, 3, 5, 3, 0, true, .bits [⟨0x12011c, 0x200, 0x40, 0x0, 31, 0⟩], []⟩,
  ⟨0x6010, 16, 0x08, 1, false, .u32, 0, 1, 1, 1, 0, false, .bits [⟨0x120120, 0x200, 0x40, 0x0, 31, 0⟩], []⟩,
  ⟨0x6010, 16, 0x09, 7, true, .u32, 0, 1, 1, 1, 0, false, .bits [⟨0x120124, 0x200, 0x40, 0x4, 31, 0⟩], []⟩,
  ⟨0x6100, 256, 0x01, 1, false, .u32, 0, 3, 5, 3, 0, true, .bits [⟨0x121000, 0x20, 0x4, 0x0, 31, 0⟩], []⟩]

def objTable7_0 : List ObjRow := [
  ⟨0x7000, 1, 0x01, 1, false, .u32, 0, 1, 1, 3, 3, true, .bits [⟨0xc0004, 0x0, 0x0, 0x0, 31, 0⟩], []⟩,
  ⟨0x7000, 1, 0x02, 1, false, .u32, 0, 1, 1, 1, 0, false, .bits [⟨0xc000c, 0x0, 0x0, 0x0, 31, 0⟩], []⟩,
  ⟨0x7000, 1, 0x03, 1, false, .bool, 0, 3, 5, 3, 0, true, .bits [⟨0xc0000, 0x0, 0x0, 0x0, 1, 1⟩], []⟩,
  ⟨0x7000, 1, 0x04, 1, false, .bool, 0, 3, 5, 3, 0, true, .bits [⟨0xc0000, 0x0, 0x0, 0x0, 2, 2⟩], []⟩,
  ⟨0x7000, 1, 0x05, 1, false, .u16, 0, 3, 5, 3, 0, true, .bits [⟨0xc002c, 0x0, 0x0, 0x0, 15, 0⟩], []⟩,
  ⟨0x7000, 1, 0x06, 1, false, .u16, 0, 3, 5, 3, 0, true, .bits [⟨0xc0020, 0x0, 0x0, 0x0, 15, 0⟩], []⟩,
  ⟨0x7000, 1, 0x07, 1, false, .u16, 0, 3, 5, 3, 0, true, .bits [⟨0xc0024, 0x0, 0x0, 0x0, 15, 0⟩], []⟩,
  ⟨0x7000, 1, 0x08, 1, false, .u16, 0, 3, 5, 3, 0, true, .bits [⟨0xc0028, 0x0, 0x0, 0x0, 15, 0⟩], []⟩,
  ⟨0x7000, 1, 0x09, 1, false, .u16, 0, 3, 5, 3, 0, true, .bits [⟨0xc0050, 0x0, 0x0, 0x0, 13, 0⟩], []⟩,
  ⟨0x7000, 1, 0x0A, 1, false, .u64, 0, 1, 1, 1, 0, false,
    .bits [⟨0xc0054, 0x0, 0x0, 0x0, 31, 0⟩, ⟨0xc0058, 0x0, 0x0, 0x0, 15, 0⟩], []⟩,
  ⟨0x7000, 1, 0x0B, 3, true, .u32, 0, 1, 1, 1, 0, false, .bits [⟨0xc0060, 0x0, 0x0, 0x4, 31, 0⟩], []⟩,
  ⟨0x7001, 1, 0x01, 2, false, .u8, 0, 3, 5, 3, 0, true, .bits [⟨0xc0010, 0x0, 0x0, 0x4, 31, 0⟩], []⟩,
  ⟨0x7001, 1, 0x03, 1, false, .enum, 0, 2, 2, 2, 0, false, .cmd 0xc0018 0x0 0x0 [1, 2], [1, 2]⟩,
  ⟨0x7001, 1, 0x04, 1, false, .u32, 0, 1, 1, 1, 0, false, .bits [⟨0xc001c, 0x0, 0x0, 0x0, 31, 0⟩], []⟩,
  ⟨0x7010, 7, 0x01, 1, false, .u32, 0, 3, 5, 3, 0, true, .bits [⟨0xc0030, 0x20, 0x4, 0x0, 31, 0⟩], []⟩,
  ⟨0x7020, 8, 0x01, 5, true, .u32, 0, 1, 1, 1, 0, false, .bits [⟨0xc0100, 0x100, 0x20, 0x4, 31, 0⟩], []⟩,
  ⟨0x7020, 8, 0x06, 1, false, .u32, 0, 1, 1, 1, 0, false, .bits [⟨0xc0114, 0x100, 0x20, 0x0, 31, 0⟩], []⟩,
  ⟨0x7400, 1, 0x01, 1, false, .bool, 0, 3, 1, 3, 0, false, .bits [⟨0xd0000, 0x0, 0x0, 0x0, 0, 0⟩], []⟩,
  ⟨0x7400, 1, 0x02, 1, false, .u16, 0, 3, 1, 3, 0, false, .bits [⟨0xd0004, 0x0, 0x0, 0x0, 15, 0⟩], []⟩,
  ⟨0x7410, 16, 0x01, 1, false, .enum, 0, 2, 0, 2, 0, false, .cmd 0xd0100 0x200 0x40 [1, 2, 4, 8], [1, 2, 3, 4]⟩,
  ⟨0x7410, 16, 0x02, 1, false, .u32, 0, 3, 1, 3, 0, false, .bits [⟨0xd0104, 0x200, 0x40, 0x0, 31, 0⟩], []⟩,
  ⟨0x7410, 16, 0x03, 1, false, .u64, 0, 3, 1, 3, 0, false,
    .bits [⟨0xd0108, 0x200, 0x40, 0x0, 31, 0⟩, ⟨0xd010c, 0x200, 0x40, 0x0, 31, 0⟩], []⟩,
  ⟨0x7410, 16, 0x04, 1, false, .u64, 0, 1, 1, 1, 0, false,
    .bits [⟨0xd0110, 0x200, 0x40, 0x0, 31, 0⟩, ⟨0xd0114, 0x200, 0x40, 0x0, 31, 0⟩], []⟩,
  ⟨0x7410, 16, 0x05, 1, false, .u32, 0, 1, 1, 1, 0, false, .bits [⟨0xd0118, 0x200, 0x40, 0x0, 31, 0⟩], []⟩,
  ⟨0x7410, 16, 0x06, 1, false, .u64, 0, 3, 1, 3, 0, false,
    .bits [⟨0xd011c, 0x200, 0x40, 0x0, 31, 0⟩, ⟨0xd0120, 0x200, 0x40, 0x0, 31, 0⟩], []⟩,
  ⟨0x7410, 16, 0x07, 1, false, .u32, 0, 1, 1, 1, 0, false, .bits [⟨0xd0124, 0x200, 0x40, 0x0, 16, 0⟩], []⟩,
  ⟨0x7410, 16, 0x08, 1, false, .u32, 0, 3, 1, 3, 0, false, .bits [⟨0xd0128, 0x200, 0x40, 0x0, 16, 0⟩], []⟩,
  ⟨0x7410, 16, 0x09, 1, false, .u32, 0, 1, 1, 1, 0, false, .bits [⟨0xd012c, 0x200, 0x40, 0x0, 31, 0⟩], []⟩,
  ⟨0x7410, 16, 0x0A, 1, false, .count64, 0, 1, 1, 1, 0, false,
    .bits [⟨0xd0130, 0x200, 0x40, 0x0, 31, 0⟩, ⟨0xd0134, 0x200, 0x40, 0x0, 31, 0⟩], []⟩,
  ⟨0x7410, 16, 0x0B, 1, false, .u32, 0, 1, 1, 1, 0, false, .bits [⟨0xd0138, 0x200, 0x40, 0x0, 31, 0⟩], []⟩,
  ⟨0x7410, 16, 0x0C, 1, false, .u32, 0, 1, 1, 1, 0, false, .bits [⟨0xd013c, 0x200, 0x40, 0x0, 31, 0⟩], []⟩,
  ⟨0x7800, 1, 0x01, 3, false, .u32, 0, 3, 5, 3, 0, true, .bits [⟨0xf0504, 0x0, 0x0, 0x4, 31, 0⟩], []⟩,
  ⟨0x7800, 1, 0x04, 1, false, .enum, 0, 2, 2, 2, 0, false, .cmd 0xf0500 0x0 0x0 [1, 2, 4], [1, 2, 3]⟩,
  ⟨0x7800, 1, 0x05, 1, false, .u8, 0, 3, 5, 3, 0, true,
    .bits [⟨0xf0500, 0x0, 0x0, 0x0, 3, 3⟩, ⟨0xf0500, 0x0, 0x0, 0x0, 4, 4⟩], []⟩,
  ⟨0x7800, 1, 0x06, 1, false, .u32, 0, 1, 1, 1, 0, false, .bits [⟨0xf0510, 0x0, 0x0, 0x0, 31, 0⟩], []⟩,
  ⟨0x7800, 1, 0x07, 2, false, .u32, 0, 1, 1, 1, 0, false, .bits [⟨0xf0514, 0x0, 0x0, 0x4, 31, 0⟩], []⟩,
  ⟨0x7800, 1, 0x09, 1, false, .time96, 0, 1, 1, 1, 0, false, .spec .capTriggerTime, []⟩,
  ⟨0x7800, 1, 0x0A, 2, false, .u32, 0, 1, 1, 1, 0, false, .bits [⟨0xf0524, 0x0, 0x0, 0x4, 31, 0⟩], []⟩,
  ⟨0x7810, 16, 0x01, 1, false, .blob, 16, 3, 5, 3, 0, true, .words 0xf0600 0x80 0x10 4, []⟩,
  ⟨0x7820, 1, 0x01, 3, false, .u32, 0, 3, 5, 3, 0, true, .bits [⟨0xf0400, 0x0, 0x0, 0x4, 31, 0⟩], []⟩]

def objTable7_1 : List ObjRow := [
  ⟨0x7820, 1, 0x04, 1, false, .u32, 0, 1, 1, 1, 0, false, .bits [⟨0xf040c, 0x0, 0x0, 0x0, 31, 0⟩], []⟩,
  ⟨0x7820, 1, 0x05, 1, false, .u32, 0, 3, 3, 3, 0, false, .bits [⟨0xf0410, 0x0, 0x0, 0x0, 31, 0⟩], []⟩,
  ⟨0x7820, 1, 0x06, 1, false, .u32, 0, 1, 1, 1, 0, false, .bits [⟨0xf0414, 0x0, 0x0, 0x0, 31, 0⟩], []⟩,
  ⟨0x7A00, 1, 0x01, 1, false, .enum, 0, 3, 5, 3, 0, true, .bits [⟨0xb0000, 0x0, 0x0, 0x0, 1, 0⟩], []⟩,
  ⟨0x7A00, 1, 0x02, 1, false, .enum, 0, 3, 5, 3, 0, true, .bits [⟨0xb0000, 0x0, 0x0, 0x0, 4, 2⟩], []⟩,
  ⟨0x7A00, 1, 0x03, 1, false, .bool, 0, 3, 5, 3, 0, true, .bits [⟨0xb0000, 0x0, 0x0, 0x0, 6, 6⟩], []⟩,
  ⟨0x7A00, 1, 0x04, 1, false, .u32, 0, 1, 1, 1, 0, false, .bits [⟨0xb0004, 0x0, 0x0, 0x0, 31, 0⟩], []⟩,
  ⟨0x7A00, 1, 0x05, 1, false, .bool, 0, 2, 0, 2, 0, false, .bits [⟨0xb0000, 0x0, 0x0, 0x0, 5, 5⟩], []⟩,
  ⟨0x7A00, 1, 0x06, 1, false, .u64, 0, 3, 0, 3, 0, false,
    .bits [⟨0xb0008, 0x0, 0x0, 0x0, 31, 0⟩, ⟨0xb000c, 0x0, 0x0, 0x0, 31, 0⟩], []⟩,
  ⟨0x7A00, 1, 0x07, 5, true, .u32, 0, 1, 1, 1, 0, false, .bits [⟨0xb0014, 0x0, 0x0, 0x4, 31, 0⟩], []⟩,
  ⟨0x7A00, 1, 0x0C, 1, false, .u32, 0, 3, 1, 3, 0, false, .bits [⟨0xb0010, 0x0, 0x0, 0x0, 31, 0⟩], []⟩,
  ⟨0x7A10, 32, 0x01, 1, false, .u16, 0, 3, 5, 3, 0, true, .bits [⟨0xb0100, 0x20, 0x4, 0x0, 15, 0⟩], []⟩,
  ⟨0x7A30, 1, 0x01, 1, false, .u32, 0, 1, 1, 1, 3, true, .held (List.replicate 4 0), []⟩,
  ⟨0x7C00, 1, 0x01, 1, false, .u16, 0, 3, 5, 3, 0, true, .bits [⟨0x70000, 0x0, 0x0, 0x0, 15, 0⟩], []⟩,
  ⟨0x7C00, 1, 0x02, 6, true, .u32, 0, 1, 1, 1, 0, false, .bits [⟨0x70004, 0x0, 0x0, 0x4, 31, 0⟩], []⟩,
  ⟨0x7C00, 1, 0x08, 1, false, .bool, 0, 3, 1, 3, 0, false, .bits [⟨0x104, 0x0, 0x0, 0x0, 0, 0⟩], []⟩,
  ⟨0x7C00, 1, 0x09, 1, false, .u64, 0, 3, 0, 3, 0, false,
    .bits [⟨0x108, 0x0, 0x0, 0x0, 31, 0⟩, ⟨0x10c, 0x0, 0x0, 0x0, 31, 0⟩], []⟩,
  ⟨0x7C00, 1, 0x0A, 1, false, .u16, 0, 3, 0, 3, 0, false, .bits [⟨0x110, 0x0, 0x0, 0x0, 15, 0⟩], []⟩]

def objTable8_0 : List ObjRow := [
  ⟨0x8000, 1, 0x01, 1, false, .u32, 0, 1, 1, 1, 0, false, .bits [⟨0x30010, 0x0, 0x0, 0x0, 31, 0⟩], []⟩,
  ⟨0x8000, 1, 0x02, 1, false, .enum, 0, 2, 2, 2, 0, false, .cmd 0x30000 0x0 0x0 [1, 2], [1, 2]⟩,
  ⟨0x8000, 1, 0x03, 1, false, .u32, 0, 3, 5, 3, 0, true, .bits [⟨0x30008, 0x0, 0x0, 0x0, 31, 0⟩], []⟩,
  ⟨0x8000, 1, 0x04, 1, false, .u8, 0, 3, 5, 3, 0, true, .bits [⟨0x30004, 0x0, 0x0, 0x0, 15, 8⟩], []⟩,
  ⟨0x8000, 1, 0x05, 1, false, .u32, 0, 3, 5, 3, 0, true, .bits [⟨0x3000c, 0x0, 0x0, 0x0, 31, 0⟩], []⟩,
  ⟨0x8000, 1, 0x06, 1, false, .bool, 0, 3, 5, 3, 0, true, .bits [⟨0x30004, 0x0, 0x0, 0x0, 3, 3⟩], []⟩,
  ⟨0x8000, 1, 0x07, 1, false, .enum, 0, 3, 5, 3, 0, true, .bits [⟨0x30004, 0x0, 0x0, 0x0, 2, 0⟩], [0, 1, 2, 3, 4]⟩,
  ⟨0x8000, 1, 0x08, 1, false, .blob, 32, 1, 1, 1, 0, false, .spec .firstError, []⟩,
  ⟨0x8000, 1, 0x09, 1, false, .bool, 0, 2, 2, 2, 0, false, .bits [⟨0x30000, 0x0, 0x0, 0x0, 2, 2⟩], []⟩,
  ⟨0x8000, 1, 0x0A, 1, false, .u16, 0, 3, 5, 3, 0, true, .bits [⟨0x30004, 0x0, 0x0, 0x0, 31, 16⟩], []⟩,
  ⟨0x8000, 1, 0x0B, 1, false, .bits, 0, 3, 5, 3, 0, true, .held (leBytes 4 255), []⟩,
  ⟨0x8000, 1, 0x0C, 4, true, .u32, 0, 1, 1, 1, 0, false, .bits [⟨0x30020, 0x0, 0x0, 0x4, 31, 0⟩], []⟩,
  ⟨0x8000, 1, 0x10, 1, false, .bool, 0, 3, 0, 3, 3, false, .held (List.replicate 1 0), []⟩,
  ⟨0x8000, 1, 0x11, 1, false, .blob, 0, 1, 1, 1, 0, false, .spec .faultRing, []⟩,
  ⟨0x8000, 1, 0x12, 1, false, .u16, 0, 3, 3, 3, 0, false, .bits [⟨0x3001c, 0x0, 0x0, 0x0, 10, 0⟩], []⟩,
  ⟨0x8000, 1, 0x13, 1, false, .blob, 16, 1, 1, 1, 0, false, .words 0x30060 0x0 0x0 4, []⟩,
  ⟨0x8000, 1, 0x14, 1, false, .blob, 16, 1, 1, 1, 0, false, .spec .lastMessage, []⟩,
  ⟨0x8001, 1, 0x01, 1, false, .blob, 4096, 3, 5, 3, 0, true, .spec .classTable, []⟩,
  ⟨0x8001, 1, 0x02, 1, false, .blob, 16384, 1, 1, 1, 0, false, .words 0x34000 0x0 0x0 4096, []⟩,
  ⟨0x8002, 1, 0x01, 1, false, .u32, 0, 3, 0, 3, 3, false, .bits [⟨0x30080, 0x0, 0x0, 0x0, 31, 0⟩], []⟩,
  ⟨0x8002, 1, 0x02, 1, false, .enum, 0, 2, 0, 2, 2, false, .cmd 0x30084 0x0 0x0 [1, 2], [1, 2]⟩,
  ⟨0x8002, 1, 0x03, 1, false, .u32, 0, 1, 0, 1, 1, false, .bits [⟨0x30088, 0x0, 0x0, 0x0, 31, 0⟩], []⟩,
  ⟨0x8100, 1, 0x01, 1, false, .bool, 0, 3, 5, 3, 0, true, .bits [⟨0x50000, 0x0, 0x0, 0x0, 0, 0⟩], []⟩,
  ⟨0x8100, 1, 0x02, 1, false, .bool, 0, 3, 5, 3, 0, true, .bits [⟨0x50000, 0x0, 0x0, 0x0, 1, 1⟩], []⟩,
  ⟨0x8100, 1, 0x03, 1, false, .bool, 0, 3, 5, 3, 0, true, .bits [⟨0x50000, 0x0, 0x0, 0x0, 2, 2⟩], []⟩,
  ⟨0x8100, 1, 0x04, 1, false, .bool, 0, 3, 5, 3, 0, true, .bits [⟨0x50000, 0x0, 0x0, 0x0, 3, 3⟩], []⟩,
  ⟨0x8100, 1, 0x05, 1, false, .bits, 0, 3, 5, 3, 0, true, .bits [⟨0x50000, 0x0, 0x0, 0x0, 7, 4⟩], []⟩,
  ⟨0x8100, 1, 0x06, 1, false, .bool, 0, 3, 3, 3, 0, false, .bits [⟨0x50008, 0x0, 0x0, 0x0, 0, 0⟩], []⟩,
  ⟨0x8100, 1, 0x07, 1, false, .u32, 0, 1, 1, 1, 0, false, .bits [⟨0x5000c, 0x0, 0x0, 0x0, 31, 0⟩], []⟩,
  ⟨0x8100, 1, 0x08, 1, false, .u32, 0, 3, 5, 3, 0, true, .bits [⟨0x50010, 0x0, 0x0, 0x0, 31, 0⟩], []⟩,
  ⟨0x8100, 1, 0x09, 1, false, .u16, 0, 3, 5, 3, 0, true, .bits [⟨0x50014, 0x0, 0x0, 0x0, 15, 0⟩], []⟩,
  ⟨0x8100, 1, 0x0A, 1, false, .u16, 0, 3, 5, 3, 0, true, .bits [⟨0x50018, 0x0, 0x0, 0x0, 15, 0⟩], []⟩,
  ⟨0x8100, 1, 0x0B, 11, true, .u32, 0, 1, 1, 1, 0, false, .bits [⟨0x50020, 0x0, 0x0, 0x4, 31, 0⟩], []⟩,
  ⟨0x8100, 1, 0x16, 1, false, .blob, 28, 1, 1, 1, 0, false, .words 0x50050 0x0 0x0 7, []⟩,
  ⟨0x8100, 1, 0x17, 1, false, .bool, 0, 2, 2, 2, 0, false, .bits [⟨0x50008, 0x0, 0x0, 0x0, 1, 1⟩], []⟩]

def objTable9_0 : List ObjRow := [
  ⟨0x9000, 1, 0x01, 1, false, .blob, 18560, 1, 1, 1, 1, true, .spec .lifetimeRecord, []⟩,
  ⟨0x9000, 1, 0x02, 1, false, .u64, 0, 1, 1, 1, 0, true, .spec .powerOnMinutes, []⟩,
  ⟨0x9000, 1, 0x03, 1, false, .u32, 0, 1, 1, 1, 0, true, .spec .lifetimeSequence, []⟩,
  ⟨0x9000, 1, 0x04, 1, false, .u32, 0, 0, 0, 0, 2, false, .spec .lifetimeClear, []⟩,
  ⟨0x9100, 32, 0x01, 1, false, .s16, 0, 1, 1, 1, 0, false, .bits [⟨0x90040, 0x20, 0x4, 0x0, 11, 0⟩], []⟩,
  ⟨0x9120, 1, 0x01, 2, false, .s8, 0, 3, 5, 3, 0, true, .spec .tempLimit, []⟩,
  ⟨0x9120, 1, 0x03, 1, false, .u16, 0, 3, 5, 3, 0, true, .bits [⟨0x90000, 0x0, 0x0, 0x0, 15, 0⟩], []⟩,
  ⟨0x9120, 1, 0x04, 1, false, .u32, 0, 1, 1, 1, 0, false, .bits [⟨0x90004, 0x0, 0x0, 0x0, 31, 0⟩], []⟩,
  ⟨0x9130, 24, 0x01, 1, false, .u16, 0, 1, 1, 1, 0, false, .bits [⟨0x90100, 0x80, 0x10, 0x0, 15, 0⟩], []⟩,
  ⟨0x9130, 24, 0x02, 2, false, .u16, 0, 1, 1, 3, 3, true, .spec .voltLimit, []⟩,
  ⟨0x9130, 24, 0x04, 2, false, .u32, 0, 1, 1, 1, 0, false, .bits [⟨0x90108, 0x80, 0x10, 0x4, 31, 0⟩], []⟩,
  ⟨0x9150, 128, 0x01, 1, false, .u32, 0, 1, 1, 1, 0, false, .spec .eye, []⟩,
  ⟨0x9200, 1, 0x01, 1, false, .u32, 0, 1, 1, 1, 0, false, .bits [⟨0x8000c, 0x0, 0x0, 0x0, 31, 0⟩], []⟩,
  ⟨0x9200, 1, 0x02, 4, true, .u32, 0, 1, 1, 1, 0, false, .spec .nvmCounters, []⟩,
  ⟨0x9200, 1, 0x06, 1, false, .u32, 0, 1, 1, 1, 0, false, .bits [⟨0x8001c, 0x0, 0x0, 0x0, 23, 0⟩], []⟩,
  ⟨0x9800, 1, 0x01, 1, false, .enum, 0, 2, 2, 2, 0, false, .cmd 0x40000 0x0 0x0 [1, 2, 4, 8], [1, 2, 3, 4]⟩,
  ⟨0x9800, 1, 0x02, 1, false, .u32, 0, 1, 1, 1, 0, false, .bits [⟨0x4000c, 0x0, 0x0, 0x0, 31, 0⟩], []⟩,
  ⟨0x9800, 1, 0x03, 1, false, .u8, 0, 3, 5, 3, 0, true, .bits [⟨0x40008, 0x0, 0x0, 0x0, 2, 0⟩], []⟩,
  ⟨0x9800, 1, 0x04, 1, false, .bool, 0, 3, 5, 3, 0, true, .bits [⟨0x40008, 0x0, 0x0, 0x0, 3, 3⟩], []⟩,
  ⟨0x9800, 1, 0x05, 1, false, .u8, 0, 1, 1, 1, 0, false, .bits [⟨0x40010, 0x0, 0x0, 0x0, 7, 0⟩], []⟩,
  ⟨0x9800, 1, 0x06, 1, false, .u8, 0, 3, 3, 3, 0, false, .bits [⟨0x40014, 0x0, 0x0, 0x0, 7, 0⟩], []⟩,
  ⟨0x9800, 1, 0x07, 1, false, .u32, 0, 1, 1, 1, 0, false, .bits [⟨0x40018, 0x0, 0x0, 0x0, 31, 0⟩], []⟩,
  ⟨0x9801, 1, 0x01, 1, false, .blob, 6400, 3, 5, 3, 0, true, .words 0x41000 0x0 0x0 1600, []⟩,
  ⟨0x9810, 2, 0x01, 1, false, .blob, 12864, 1, 1, 1, 0, false, .words 0x44000 0x20000 0x4000 3216, []⟩]

def objTableA_0 : List ObjRow := [
  ⟨0xA000, 1, 0x01, 1, false, .blob, 0, 2, 2, 2, 0, false, .spec .updateImage, []⟩,
  ⟨0xA000, 1, 0x02, 1, false, .enum, 0, 2, 2, 2, 0, false, .spec .updateCommand, [1, 2, 3, 4, 5, 6]⟩,
  ⟨0xA000, 1, 0x03, 1, false, .enum, 0, 1, 1, 1, 0, false, .spec .updateState, []⟩,
  ⟨0xA000, 1, 0x04, 1, false, .u8, 0, 1, 1, 1, 0, false, .spec .updateError, []⟩,
  ⟨0xA000, 1, 0x05, 2, false, .u32, 0, 1, 1, 1, 0, false, .spec .slotVersion, []⟩,
  ⟨0xA000, 1, 0x07, 1, false, .enum, 0, 1, 1, 1, 0, false, .bits [⟨0x8000c, 0x0, 0x0, 0x0, 4, 4⟩], []⟩,
  ⟨0xA000, 1, 0x08, 1, false, .u32, 0, 1, 1, 1, 0, true, .spec .rollbackCounter, []⟩,
  ⟨0xA000, 1, 0x09, 1, false, .u8, 0, 1, 1, 1, 0, true, .spec .revokedKeys, []⟩,
  ⟨0xA000, 1, 0x0A, 1, false, .u8, 0, 1, 1, 1, 0, true, .spec .trialAttempts, []⟩,
  ⟨0xA000, 1, 0x0B, 1, false, .blob, 512, 1, 1, 1, 0, true, .spec .updateHistory, []⟩]

/-- Every object row. -/
def objTable : List ObjRow :=
  objTable0_0
  ++ objTable1_0
  ++ objTable2_0
  ++ objTable2_1
  ++ objTable3_0
  ++ objTable4_0
  ++ objTable5_0
  ++ objTable5_1
  ++ objTable6_0
  ++ objTable7_0
  ++ objTable7_1
  ++ objTable8_0
  ++ objTable9_0
  ++ objTableA_0

/-- The rows of an index. -/
def objRows (ix : Nat) : List ObjRow := objTable.filter fun r => decide (r.ix ≤ ix) && decide (ix < r.ix + r.ixN)

/-- The row of an object, if the object exists (R531). -/
def objRow (ix el : Nat) : Option ObjRow :=
  (objRows ix).find? fun r => decide (r.el ≤ el) && decide (el < r.el + r.elN)

/-- The row whose whole array element 0xFF addresses: an index whose table row gives a range of elements under one name
(R533). -/
def arrayRow (ix : Nat) : Option ObjRow := (objRows ix).find? fun r => r.array

/-- The highest element number of an index (R530). -/
def topElement (ix : Nat) : Nat := (objRows ix).foldl (fun m r => max m (r.el + r.elN - 1)) 0

end Sys2Proof.Machine
end

