-- ==== Sys2Proof/Machine/Capture.lean ====
section
/-! DEFINITION. Sys2Proof/Machine/Capture.lean: the dump relay ring and the transient capture ring (R307 to R313). -/
namespace Sys2Proof.Machine

/-- A record: its 64-byte header and the sample area, padded to 64 bytes (R309). -/
def captureRecord (src flags lane seq sec ns : Nat) (d : Desc) (area : List Byte) : List Byte :=
  let len := 1 + ceilDiv (dWicks d * 120) 64
  leBytes 2 len ++ leBytes 1 src ++ leBytes 1 flags ++ leBytes 1 lane ++ leBytes 1 0 ++ leBytes 2 seq ++ leBytes 4 sec ++
  leBytes 4 ns ++ descBytes d ++ leBytes 16 0 ++ fitBytes (64 * (len - 1)) area

/-- Write bytes into a ring of `size` bytes at LPDDR6 offset `base`, from position `pos`. -/
def ringWrite (base size pos : Nat) (bs : List Byte) (s : State) : State :=
  dramPut 0xFF (bs.zipIdx.map fun x => (base + (pos + x.2) % max 1 size, x.1)) s

/-- A DUMP packet at the relay (R307). -/
def relayPacket (lane : Nat) (d : Desc) (area : List Byte) (sec ns : Nat) (s : State) : State :=
  if !s.flag Reg.RELAY_CFG_EN then laneFmt lane (dSamples d) s
  else
    let size := s.f Reg.RELAY_SIZE * 1024
    let len := 1 + ceilDiv (dWicks d * 120) 64
    let unread := (s.f Reg.RELAY_WR + size - s.f Reg.RELAY_RD % max 1 size) % max 1 size
    if unread + len ≥ size then
      let s := { s with stg := { s.stg with relayGap := true } }
      raise (stgEv FK.STG_RELAY_FULL 0 0) (s.incF Reg.RELAY_DROP 1)
    else
      let rec_ := captureRecord 2 (b2n s.stg.relayGap) lane s.stg.relaySeq sec ns d area
      let s := ringWrite (s.f Reg.RELAY_BASE * 0x10000) (size * 64) (s.f Reg.RELAY_WR * 64) rec_ s
      let s := { s with stg := { s.stg with relayGap := false, relaySeq := (s.stg.relaySeq + 1) % 65536 } }
      ((s.setF Reg.RELAY_WR ((s.f Reg.RELAY_WR + len) % size)).intPend 25).produce 0x08 len

def capState (s : State) : Nat := s.f Reg.CAP_STATUS_STATE
def capSet (f : Capture → Capture) (s : State) : State := { s with stg := { s.stg with cap := f s.stg.cap } }

/-- CAP_CTRL.ARM (R311). -/
def capArm (s : State) : State :=
  if s.f Reg.CAP_POST ≥ s.f Reg.CAP_SIZE then s.setF Reg.CAP_STATUS_ERR 1
  else
    let s := capSet (fun _ => { Capture.reset with base := s.f Reg.CAP_BASE, size := s.f Reg.CAP_SIZE, post := s.f Reg.CAP_POST }) s
    ((s.setF Reg.CAP_WR 0).setF Reg.CAP_STATUS_STATE 1).drainSource 0x09

def capStop (s : State) : State := s.setF Reg.CAP_STATUS_STATE 0

/-- The capture trigger fires (R311 to R313). (DEDUCED, log 64.) -/
def capTrigger (s : State) : State :=
  if capState s ≠ 1 then s.incF Reg.CAP_IGNORED 1
  else
    let s := ((s.setF Reg.CAP_TRIG_POS (s.f Reg.CAP_WR)).setF Reg.CAP_TRIG_TIME_SEC s.time.sec).setF Reg.CAP_TRIG_TIME_NS s.time.ns
    let s := capSet (fun c => { c with trigNext := true, postLeft := c.post * 0x10000 }) s
    s.setF Reg.CAP_STATUS_STATE 2

/-- An active edge of CAPTURE_TRIG_IN (R312). -/
def capTrigIn (rising : Bool) (s : State) : State :=
  if s.flag Reg.CAP_CTRL_TRIG_EN && (s.f Reg.CAP_CTRL_TRIG_EDGE == (if rising then 0 else 1)) then capTrigger s else s

/-- Execute a CAPTURE_FREEZE slot. -/
def capSlot (slot : Nat) (starved : Bool) (s : State) : State := endDone slot starved (capTrigger s)

/-- An enabled filter matches a packet (R308). -/
def capMatches (s : State) (src : Nat) (d : Desc) : Bool :=
  (List.range 16).any fun i =>
    let first := s.f (Reg.CAP_FILT1_INPUT_FIRST i)
    let last := s.f (Reg.CAP_FILT1_INPUT_LAST i)
    s.flag (Reg.CAP_FILT0_EN i) && s.f (Reg.CAP_FILT0_SRC i) == src &&
    (if src = 0 then
      s.f (Reg.CAP_FILT0_DOMAIN i) == dDomain d && meets (dInputFirst d) (dInputs d) first (last + 1 - first) &&
      meets (dChanFirst d) (dChans d) (s.f (Reg.CAP_FILT_CHAN_FIRST i)) (s.f (Reg.CAP_FILT_CHAN_LAST i) + 1 - s.f (Reg.CAP_FILT_CHAN_FIRST i))
    else decide (first ≤ dInputFirst d) && decide (dInputFirst d ≤ last))

/-- A packet reaches the capture writer (R308 to R312). `ok`: it can be written (R310). -/
def capPacket (src lane : Nat) (d : Desc) (area : List Byte) (sec ns : Nat) (ok : Bool) (s : State) : State :=
  if !capMatches s src d then s
  else
    let last := if src = 0 then dCount d + dTimes d - 1 else dCount d + dChans d * dTimes d - 1
    let cmp := if src = 0 then last * chanF s else last
    let s := runDue (dDomain d + 1) cmp (fun a _ => a == 0x06) (fun slot s => capSlot slot false s) s
    let s := reach tgtCapture (dDomain d) cmp s
    if capState s ≠ 1 ∧ capState s ≠ 2 then s
    else if !ok then
      let first := !s.stg.cap.dropRaised
      let s := (capSet (fun c => { c with gap := true, dropRaised := true }) s).incF Reg.CAP_DROP 1
      if first then raise (stgEv FK.CAP_DROP 0 0) s else s
    else
      let c := s.stg.cap
      let rec_ := captureRecord src (b2n c.gap + 2 * b2n c.trigNext) lane c.seq sec ns d area
      let s := ringWrite (c.base * 0x10000) (c.size * 0x10000) (s.f Reg.CAP_WR * 64) rec_ s
      let s := (s.setF Reg.CAP_WR ((s.f Reg.CAP_WR + rec_.length / 64) % max 1 (c.size * 1024))).produce 0x09 (rec_.length / 64)
      let s := capSet (fun c => { c with gap := false, trigNext := false, seq := (c.seq + 1) % 65536,
                                         postLeft := c.postLeft - rec_.length }) s
      if capState s = 2 ∧ s.stg.cap.postLeft = 0 then (s.setF Reg.CAP_STATUS_STATE 3).intPend 24 else s

end Sys2Proof.Machine
end

