-- ==== Sys2Proof/Machine/LinkCore.lean ====
section
/-! DEFINITION. Sys2Proof/Machine/LinkCore.lean: the link lanes: training states, credits, the LNK and EGR groups
(03_steras_links.md). A lane number is 8 × group + lane. -/
namespace Sys2Proof.Machine

/-- The field of a lane register. -/
def lf (F : Nat → Nat → Field) (l : Nat) : Field := F (l / 8) (l % 8)
def lnkSrc (l : Nat) : Nat := 0x20 + l / 8
def State.rxLane (s : State) (l : Nat) : RxLane := mapGet RxLane.reset s.links.rx l
def putRx (l : Nat) (r : RxLane) (s : State) : State :=
  { s with links := { s.links with rx := mapSet RxLane.reset s.links.rx l r } }
def updRx (l : Nat) (f : RxLane → RxLane) (s : State) : State := putRx l (f (s.rxLane l)) s
def updTx (l : Nat) (f : TxLane → TxLane) (s : State) : State := putTx l (f (s.txLane l)) s

def rxState (s : State) (l : Nat) : Nat := s.f (lf Reg.LANE_STATUS_STATE l)
def setRxState (l st : Nat) (s : State) : State := s.setF (lf Reg.LANE_STATUS_STATE l) st
def rxEn (s : State) (l : Nat) : Bool := s.flag (lf Reg.LANE_CFG_RX_EN l)
def txEn (s : State) (l : Nat) : Bool := s.flag (lf Reg.LANE_CFG_TX_EN l)
def rxCredited (s : State) (l : Nat) : Bool := s.flag (lf Reg.LANE_CFG_RX_MODE l)
def txCredited (s : State) (l : Nat) : Bool := s.flag (lf Reg.LANE_CFG_TX_MODE l)
def reverse (s : State) (l : Nat) : Bool := s.flag (lf Reg.LANE_CFG_REVERSE l)
def pairCredited (s : State) (l : Nat) : Bool := rxCredited s l || txCredited s l
/-- A receive lane under test (R154). (DEDUCED, log 39.) -/
def laneTest (s : State) (l : Nat) : Bool :=
  s.f (lf Reg.LANE_CFG_LOOP l) != 0 || s.f (lf Reg.LANE_CFG_PRBS_CHK l) != 0 || s.flag (Reg.LNK_GRP_CTRL_FAR_LOOP (l / 8))
def clkAcquired (s : State) (g : Nat) : Bool := s.f (Reg.LNK_GRP_STATUS_CLK_STATE g) == 6
/-- The value of the lane counter of a kind goes into ADDR (R600). -/
def lnkEv (s : State) (kind l : Nat) (F : Nat → Nat → Field) : FaultEv := fev kind (lnkSrc l) (l % 8) (s.f (lf F l))
/-- An event of received data: ACCESS is 0x8 (R599). -/
def laneRxOnce (kind l : Nat) (F : Nat → Nat → Field) (inj : Bool) (s : State) : State :=
  raiseOnce (lf F l).key { lnkEv s kind l F with access := 8, injected := inj } s
def laneFault (kind l : Nat) (F : Nat → Nat → Field) (s : State) : State := raise (lnkEv s kind l F) s
def laneFaultOnce (kind l : Nat) (F : Nat → Nat → Field) (s : State) : State := raiseOnce (lf F l).key (lnkEv s kind l F) s
def lanesOf (g : Nat) : List Nat := (List.range 8).map fun i => 8 * g + i

/-! ## Discarded packets (R120, R123) -/

/-- The lane's packets go to a Lens input (R167, R281). -/
def lensLane (s : State) (l : Nat) : Bool := s.actsF || (s.isFX && decide (l < 64))

/-- A descriptor passed as discarded reaches the ingest stage (R123, R281, R725); `pre` runs the actions due at a count. On a lane of a
Lens input its samples are counted in LENS_IN_DROP, so that each is counted once, on its input (R45).
(DEDUCED, log 123; DESIGN CHOICE, log 158.) -/
def ingestLost (pre : Nat → Nat → State → State) (l : Nat) (d : Desc) (s : State) : State :=
  if lensLane s l then s.incF (Reg.LENS_IN_DROP l) (dSamples d)
  else if dFormat d ≤ 1 ∧ s.isX ∧ !dDump d then
    (List.range (dTimes d)).foldl (fun s t =>
      let n := dCount d + t
      let s := reach tgtIngest (dDomain d) n (pre (dDomain d) n s)
      if s.flag Reg.STG_CTRL_EN then stageLostStep l d t s else laneUnmapped l (dInputs d * dChans d) s) s
  else if !s.flag Reg.STG_CTRL_EN then laneUnmapped l (dSamples d) s
  else if s.isFX then (if dFormat d = 5 ∧ !dDump d then s else laneFmt l (dSamples d) s)
  else if dDump d then (if s.flag Reg.RELAY_CFG_EN then s else laneFmt l (dSamples d) s)
  else if dFormat d = 5 then s
  else laneFmt l (dSamples d) s

/-- A descriptor discarded inside a commit reaches the ingest stage when the command ends. -/
def deferLost (l : Nat) (d : Desc) (s : State) : State :=
  { s with links := { s.links with lost := s.links.lost ++ [(l, d)] } }

/-- The packet in progress on a receive lane is discarded (R120): counted, its positions freed, its descriptor passed on by `pass`,
and the Candelabra told when its samples had entered the feed (R305). -/
def abandonRx (pass : Nat → Desc → State → State) (l : Nat) (s : State) : State :=
  let r := s.rxLane l
  match r.pkt with
  | none => s
  | some p =>
    let s := putRx l { r with pkt := none, skipping := true, rxReleased := r.rxGot } s
    let s := s.incF (lf Reg.CNT_PKT_ABANDON_RX l) 1
    pass l p.desc (if p.fed then canAbandon s else s)

/-! ## Abandoned transmissions (R144, R151, R386, R408) -/

/-- A packet is abandoned on its transmit lane. `snuff`: by R151. -/
def countAbandonTx (l : Nat) (p : TxPacket) (snuff : Bool) (s : State) : State :=
  let s := s.incF (lf Reg.CNT_PKT_ABANDON_TX l) 1
  let s := if snuff ∧ p.source = 2 then s.incF Reg.CAN_PKT_SNUFFED 1 else s
  if p.source = 3 then
    let m := s.mjob p.unit
    if m.laneLost.contains p.count then s
    else dumpLost p.unit 0 (putMjob p.unit { m with laneLost := m.laneLost ++ [p.count], lossLane := true } s)
  else s

/-- Abandon the packet in progress of a transmit lane. -/
def abandonTx (l : Nat) (snuff : Bool) (s : State) : State :=
  let t := s.txLane l
  match t.cur with
  | none => s
  | some p =>
    let s := putTx l { t with cur := none, curWick := 0, curFlagged := false, curGated := false } s
    if t.curFlagged then s else countAbandonTx l p snuff s

/-- Whether R140 calls for TRAIN wicks on a transmit lane. -/
def mustTrain (s : State) (l : Nat) : Bool :=
  reverse s l && ((decide (2 ≤ rxState s l) && decide (rxState s l ≤ 4)) || (s.rxLane l).peerTraining)

/-- Start or stop sending TRAIN (R140, R144). -/
def txUpdate (l : Nat) (s : State) : State :=
  let should := txEn s l && mustTrain s l
  let t := s.txLane l
  if should ∧ !t.training then
    updRx l (fun r => { r with epochSync := false })
      (updTx l (fun t => { t with training := true, txTotal := 0, rel := 0, csSent := 0, syncDue := false }) (abandonTx l false s))
  else if !should ∧ t.training then putTx l { t with training := false } s
  else s

/-! ## States (R136, R144 to R150) -/

/-- A lane starts an attempt at CLK_ACQ or DESKEW. -/
def laneStart (pass : Nat → Desc → State → State) (l st : Nat) (s : State) : State :=
  let s := abandonRx pass l s
  let s := s.incF (lf Reg.CNT_TRAIN_ATTEMPT l) 1
  let s := ((setRxState l st s).setF (lf Reg.LANE_STATUS_LOCK l) 0).setF (lf Reg.LANE_STATUS_FFE_FALLBACK l) 0
  let s := updRx l (fun r =>
    { r with
      syncBad := 0, goodSync := 0, lastSeq := none, lastRaw := none, goodRun := 0, undefNext := true,
      csRecv := 0, epochSync := false, creditReset := false, trainSeen := false, modeOk := true }) s
  txUpdate l s

/-- Restart at DESKEW when the group clock is acquired, else at CLK_ACQ. -/
def laneRetrain (pass : Nat → Desc → State → State) (l : Nat) (s : State) : State :=
  if !rxEn s l ∨ laneTest s l then s else laneStart pass l (if clkAcquired s (l / 8) then 2 else 1) s

/-- The attempt of a lane ends: ABSENT or FAILED with its cause (R145, R146, R148). -/
def laneFail (l : Nat) (absent : Bool) (cause : Nat) (s : State) : State :=
  let s := abandonRx deferLost l s
  let s := (setRxState l (if absent then 8 else 9) s).setF (lf Reg.LANE_STATUS_LAST_FAIL l) cause
  let n := s.f (lf Reg.LANE_BACKOFF_ATTEMPTS l) + 1
  let s := s.satF (lf Reg.LANE_BACKOFF_ATTEMPTS l) 1
  let s := s.setF (lf Reg.LANE_BACKOFF_MS l) (if n > 10 then 1000 else min (2 ^ (n - 1)) 1000)
  let first := !(s.rxLane l).failRaised
  let s := updRx l (fun r => { r with failRaised := true }) s
  let s := if first then laneFault (if absent then FK.LNK_ABSENT else FK.LNK_TRAIN_FAIL) l Reg.CNT_TRAIN_ATTEMPT s else s
  txUpdate l s

/-- FAILED with cause MODE (R143, R144). -/
def modeFail (l : Nat) (s : State) : State := laneFault FK.LNK_MODE l Reg.CNT_TRAIN_ATTEMPT (laneFail l false 7 s)

/-- A lane reaches ACTIVE. -/
def laneActive (l : Nat) (s : State) : State :=
  let s := ((setRxState l 6 s).setF (lf Reg.LANE_BACKOFF_ATTEMPTS l) 0).setF (lf Reg.LANE_BACKOFF_MS l) 0
  let s := updRx l (fun r => { r with failRaised := false, trainSeen := false, trainLeft := false }) s
  let s := ((s.setOnce (lf Reg.CNT_CRC_ERR l).key false).setOnce (lf Reg.CNT_PKT_MALFORMED l).key false).setOnce (lf Reg.CNT_PKT_OVF l).key false
  txUpdate l s

/-- The group clock is acquired: lanes waiting in CLK_ACQ move to DESKEW. -/
def clockAcquired (g : Nat) (s : State) : State :=
  let s := (s.setF (Reg.LNK_GRP_STATUS_CLK_STATE g) 6).setF (Reg.LNK_GRP_STATUS_CLK_ACTIVITY g) 1
  (lanesOf g).foldl (fun s l => if rxState s l = 1 then txUpdate l (updRx l (fun r => { r with undefNext := true }) (setRxState l 2 s)) else s) s

/-- The group clock is lost (R150). -/
def clockLoss (pass : Nat → Desc → State → State) (g : Nat) (activity : Bool) (s : State) : State :=
  let s := (s.setF (Reg.LNK_GRP_STATUS_CLK_STATE g) 1).setFlag (Reg.LNK_GRP_STATUS_CLK_ACTIVITY g) activity
  let s := (lanesOf g).foldl (fun s l => if rxEn s l && !laneTest s l then laneStart pass l 1 s else s) s
  raise (fev FK.LNK_CLK_LOSS (0x20 + g) 0 0) (s.lifeAdd (1472 + 4 * g) 1)

/-- A stage's timeout (R136, R145). `activity`: the stage saw electrical activity. -/
def stageTimeout (l : Nat) (activity : Bool) (s : State) : State :=
  match rxState s l with
  | 1 => (laneFail l (!activity) (if activity then 2 else 1) s).setF (Reg.LNK_GRP_STATUS_CLK_STATE (l / 8)) (if activity then 9 else 8)
    |>.setFlag (Reg.LNK_GRP_STATUS_CLK_ACTIVITY (l / 8)) activity
  | 2 => laneFail l (!activity) (if activity then 3 else 1) s
  | 3 => laneFail l false 4 s
  | 4 => laneFail l false 5 s
  | 5 => laneFail l false 6 s
  | _ => s

/-- The backoff of a lane ends (R146). -/
def backoffExpiry (l : Nat) (s : State) : State :=
  if rxState s l ≠ 8 ∧ rxState s l ≠ 9 then s
  else if clkAcquired s (l / 8) then laneStart deferLost l 2 s
  else laneStart deferLost l 1 (s.setF (Reg.LNK_GRP_STATUS_CLK_STATE (l / 8)) 1)

/-- The forwarded clock starts (R147). -/
def clockStart (g : Nat) (s : State) : State :=
  let none_ := !s.flag (Reg.LNK_GRP_STATUS_CLK_ACTIVITY g)
  let s := s.setF (Reg.LNK_GRP_STATUS_CLK_ACTIVITY g) 1
  if none_ then (lanesOf g).foldl (fun s l => backoffExpiry l s) s else s

/-- A lane in DESKEW finds its alignment (R136). -/
def deskewDone (l : Nat) (s : State) : State :=
  if rxState s l ≠ 2 then s
  else txUpdate l ((setRxState l 3 s).setFlag (lf Reg.LANE_STATUS_FFE_FALLBACK l) (!reverse s l))

/-- 2 ms of FFE_ADAPT without a TRAIN wick (R142). -/
def ffeFallback (l : Nat) (s : State) : State :=
  if rxState s l = 3 ∧ !(s.rxLane l).trainSeen then s.setF (lf Reg.LANE_STATUS_FFE_FALLBACK l) 1 else s

/-- Adaptation completes with the eye open (R136). -/
def ffeDone (l : Nat) (s : State) : State :=
  if rxState s l ≠ 3 then s else txUpdate l (updRx l (fun r => { r with goodRun := 0 }) (setRxState l 4 s))

/-- In FRAME_ACQ, fail where the partner's modes do not match (R143), and leave once the state's conditions hold (R136).
(DEDUCED, log 37.) -/
def frameCheck (l : Nat) (s : State) : State :=
  let r := s.rxLane l
  if rxState s l ≠ 4 then s
  else if reverse s l && !r.modeOk then modeFail l s
  else if !s.flag (lf Reg.LANE_STATUS_LOCK l) ∨ r.goodRun < 16 then s
  else if pairCredited s l then
    txUpdate l (updRx l (fun r => { r with csRecv := 0, creditReset := false }) (setRxState l 5 s))
  else laneActive l s

/-- CREDIT_SYNC, step 3 of R144. -/
def creditReset (l : Nat) (s : State) : State :=
  let r := s.rxLane l
  if rxState s l = 5 ∧ r.rxGot = r.rxReleased ∧ r.trainLeft ∧ !r.creditReset then
    putRx l { r with rxGot := 0, rxReleased := 0, creditReset := true, epochSync := false, csRecv := 0 }
      (updTx l (fun t => { t with csSent := 0 }) s)
  else s

/-- CREDIT_SYNC, step 5 of R144. -/
def creditCheck (l : Nat) (s : State) : State :=
  if rxState s l = 5 ∧ (s.rxLane l).creditReset ∧ (s.txLane l).csSent ≥ 16 ∧ (s.rxLane l).csRecv ≥ 8 then laneActive l s else s

/-- LNK_COMMIT.RETRAIN_ALL (R136). -/
def retrainAll (pass : Nat → Desc → State → State) (g : Nat) (s : State) : State :=
  let s := if s.flag (Reg.LNK_GRP_CTRL_EN g) then s.setF (Reg.LNK_GRP_STATUS_CLK_STATE g) 1 else s
  (lanesOf g).foldl (fun s l => if rxEn s l && !laneTest s l then laneStart pass l 1 s else s) s

/-- LANE_CMD.CLEAR_CNT. -/
def laneClearCnt (l : Nat) (s : State) : State :=
  let b := (lf Reg.CNT_WICK_RX l).key
  s.resetRange b (b + 0x48)

/-! ## The LNK group (R127, R724, R728) -/

def presetTable : List (Nat × Nat × Nat) :=
  [(0, 63, 0), (0, 55, 8), (0, 49, 14), (0, 43, 20), (4, 51, 8), (4, 45, 14), (6, 39, 18), (8, 35, 20)]

/-- R96. -/
def ffeOk (c : Nat × Nat × Nat) : Bool := decide (c.1 ≤ 15) && decide (20 ≤ c.2.1) && decide (c.2.1 ≤ 63) && decide (c.2.2 ≤ 31) &&
  decide (c.1 + c.2.1 + c.2.2 ≤ 63)

def laneFfe (s : State) (l : Nat) : Nat × Nat × Nat := (s.f (lf Reg.LANE_FFE_CM1 l), s.f (lf Reg.LANE_FFE_C0 l), s.f (lf Reg.LANE_FFE_CP1 l))
def coefOf (s : State) (l : Nat) : Nat × Nat × Nat := (s.f (lf Reg.LANE_COEF_CM1 l), s.f (lf Reg.LANE_COEF_C0 l), s.f (lf Reg.LANE_COEF_CP1 l))
def setCoef (l : Nat) (c : Nat × Nat × Nat) (s : State) : State :=
  ((s.setF (lf Reg.LANE_COEF_CM1 l) c.1).setF (lf Reg.LANE_COEF_C0 l) c.2.1).setF (lf Reg.LANE_COEF_CP1 l) c.2.2

/-- The group's own check (R127): ERR_CODE and lane. (DEDUCED, log 42.) -/
def lnkErr (s : State) (g : Nat) : Nat × Nat :=
  let ls := lanesOf g
  let first (code : Nat) (p : Nat → Bool) : Option (Nat × Nat) := (ls.find? p).map fun l => (code, l % 8)
  let txTest (l : Nat) : Bool := laneTest s l || s.f (lf Reg.LANE_CFG_PRBS_GEN l) != 0
  let checks : List (Option (Nat × Nat)) :=
    [ first 1 fun l => pairCredited s l && !reverse s l,
      if s.f (Reg.LNK_GRP_CTRL_RATE g) = 3 then some (2, 0) else none,
      first 3 fun l => decide (s.f (lf Reg.LANE_CFG_TX_SRC l) > 3),
      first 4 fun l => s.f (lf Reg.LANE_CFG_TX_SRC l) == 1 && !s.isF,
      first 5 fun l => !ffeOk (laneFfe s l),
      first 6 fun l => s.f (lf Reg.LANE_CFG_LOOP l) == 3 || decide (s.f (lf Reg.LANE_CFG_PRBS_GEN l) > 4) || decide (s.f (lf Reg.LANE_CFG_PRBS_CHK l) > 4),
      if s.noPers then first 7 fun l => (rxEn s l && !laneTest s l) || (txEn s l && !txTest l) else none ]
  (checks.findSome? id).getD (0, 0)

/-- Lanes an egress entry names. -/
def egrLanes (s : State) (e : Nat) : List Nat :=
  (List.range (s.f (Reg.EGR_ENT3_LANE_COUNT_M1 e) + 1)).map (s.f (Reg.EGR_ENT3_LANE_FIRST e) + ·)

/-- R728: a user of a lane of group g that the group would fail: the block of its page and the reason that page shows. -/
def lnkUser (s : State) (g : Nat) : Option (Nat × Nat) :=
  let bad (src : Nat) (ls : List Nat) : Bool := ls.any fun l => l / 8 == g && !laneSends s l src
  match (List.range 256).find? fun e => s.flag (Reg.EGR_ENT0_EN e) && bad 1 (egrLanes s e) with
  | some e => some (0x13, e)
  | none =>
    let jobLanes (j : Nat) : List Nat := (List.range (s.f (Reg.DUMP_LANES_LANE_COUNT_M1 j) + 1)).map (s.f (Reg.DUMP_LANES_LANE_FIRST j) + ·)
    let strLanes (k : Nat) : List Nat := (List.range (s.f (Reg.STR_LANES_LANE_COUNT_M1 k) + 1)).map (s.f (Reg.STR_LANES_LANE_FIRST k) + ·)
    if ([0, 1, 2, 3] : List Nat).any fun j => s.flag (Reg.JOB_CFG_EN j) && (s.f (Reg.DUMP_CFG_DEST j) == 1 || s.f (Reg.DUMP_CFG_DEST j) == 2) &&
        bad 3 (jobLanes j) then some (0x11, 6)
    else if (List.range 16).any fun k => s.flag (Reg.STR_CFG_EN k) && bad 2 (strLanes k) then some (0x12, 8)
    else none

/-- The user's page shows the reason (R728). -/
def lnkUserMark (u : Nat × Nat) (s : State) : State :=
  s.setF (if u.1 = 0x13 then Reg.EGR_STATUS_ERR_ENTRY else if u.1 = 0x11 then Reg.MNT_STATUS_ERR_CODE else Reg.CAN_STATUS_ERR_CODE) u.2

/-- R728: the state `mark` with the page of a user marked that the group would fail. -/
def lnkUserErr (s : State) (g : Nat) (mark : State) : Option State := (lnkUser s g).map fun u => lnkUserMark u mark

/-- A transmit lane that is enabled or disabled starts afresh; packets handed to it go on waiting, and the credit counts of its epoch
stand (R135). (DEDUCED, log 124.) -/
def txRestart (l : Nat) (s : State) : State :=
  updTx l (fun t => { TxLane.reset with queue := t.queue, marker := t.marker, txTotal := t.txTotal, rel := t.rel }) (abandonTx l false s)

/-- A receive lane starts afresh; it still passes over the body wicks of a discarded packet (R120). Its credit counts are zeroed by step 3
of R144 alone, and its one fault record stands until it is enabled or ACTIVE (R148). -/
def rxRestart (l : Nat) (s : State) : State :=
  updRx l (fun r => { RxLane.reset with skipping := r.skipping, rxGot := r.rxGot, rxReleased := r.rxReleased, failRaised := r.failRaised,
                                        trainLeft := r.trainLeft }) s

/-- A receive lane is enabled: its next failure raises its fault (R148). -/
def rxEnabled (l : Nat) (s : State) : State := updRx l (fun r => { r with failRaised := false }) s

/-- The PRBS checker of a lane starts to synchronise itself anew (R156). -/
def prbsRestart (l : Nat) (s : State) : State :=
  (updRx l (fun r => { r with prbsRun := 0, prbsReg := 0 }) s).setF (lf Reg.LANE_STATUS_PRBS_LOCK l) 0

/-- The transmit side of a lane of a group that has taken effect (R98, R155, R724). -/
def lnkTxTrans (old : State) (modes : Bool) (l : Nat) (s : State) : State :=
  let s := if !txEn old l && txEn s l then
      let c := if s.flag (lf Reg.LANE_CFG_FFE_MAN l) then laneFfe s l else presetTable.getD (s.f (lf Reg.LANE_CFG_PRESET l)) (0, 63, 0)
      setCoef l c (txRestart l s)
    else if txEn old l && !txEn s l then txRestart l s
    else if modes && txEn s l then abandonTx l false s
    else s
  if old.f (lf Reg.LANE_CFG_PRBS_GEN l) = s.f (lf Reg.LANE_CFG_PRBS_GEN l) then s else updTx l (fun t => { t with prbs := none }) s

/-- One lane of a group that has taken effect. -/
def lnkLaneTrans (old : State) (whole : Bool) (l : Nat) (s : State) : State :=
  let modes := rxCredited old l != rxCredited s l || txCredited old l != txCredited s l || reverse old l != reverse s l
  let s := lnkTxTrans old modes l s
  let s := s.setF (lf Reg.LANE_CREDIT_RX_LIMIT l) (if rxCredited s l then 128 else 0)
  let s := if rxEn s l && !rxEn old l then rxEnabled l s else s
  let s := if rxState old l = 10 ∧ (!laneTest s l ∨ old.f (lf Reg.LANE_CFG_PRBS_CHK l) ≠ s.f (lf Reg.LANE_CFG_PRBS_CHK l)) then
      prbsRestart l s else s
  if !rxEn s l then
    if rxEn old l then
      let s := abandonRx deferLost l s
      txUpdate l (rxRestart l (s.resetRange (lf Reg.LANE_STATUS_STATE l).key ((lf Reg.LANE_STATUS_STATE l).key + 4)))
    else s
  else if laneTest s l then
    if rxState s l = 10 then s else setRxState l 10 (rxRestart l (abandonRx deferLost l s))
  else if !rxEn old l || laneTest old l then
    laneStart deferLost l (if clkAcquired s (l / 8) then 2 else 1) (rxRestart l s)
  else if whole then laneStart deferLost l 1 s
  else if modes then laneRetrain deferLost l s
  else txUpdate l s

/-- An LNK group has taken effect. -/
def lnkTrans (g : Nat) (old s : State) : State :=
  let en (x : State) : Bool := x.flag (Reg.LNK_GRP_CTRL_EN g)
  let whole := old.f (Reg.LNK_GRP_CTRL_RATE g) != s.f (Reg.LNK_GRP_CTRL_RATE g) || old.f (Reg.LNK_GRP_CTRL_SPLIT g) != s.f (Reg.LNK_GRP_CTRL_SPLIT g)
  let s := if !en s then s.setF (Reg.LNK_GRP_STATUS_CLK_STATE g) 0
    else if !en old || whole then s.setF (Reg.LNK_GRP_STATUS_CLK_STATE g) 1 else s
  let s := s.setFlag (Reg.LNK_GRP_STATUS_FAR_LOOP_ON g) (s.flag (Reg.LNK_GRP_CTRL_FAR_LOOP g))
  (lanesOf g).foldl (fun s l => lnkLaneTrans old (whole || (en old && !en s)) l s) s

/-- LNK_COMMIT.COMMIT. -/
def lnkCommit (g : Nat) (s : State) : State :=
  let new := s.commitRange (0x200000 + g * 0x10000) (0x210000 + g * 0x10000)
  let e := lnkErr new g
  if e.1 ≠ 0 then
    ((s.setF (Reg.LNK_GRP_STATUS_COMMIT_ERR g) 1).setF (Reg.LNK_GRP_STATUS_ERR_CODE g) e.1).setF (Reg.LNK_GRP_STATUS_ERR_LANE g) e.2
  else
    match lnkUserErr new g (s.setF (Reg.LNK_GRP_STATUS_COMMIT_ERR g) 1) with
    | some r => r
    | none => lnkTrans g s new

/-! ## The EGR group (R158, R161, R162) -/

/-- The first entry that breaks R161, or 0 for R158; none when the map is good. -/
def egrErr (s : State) : Option Nat :=
  let bad (e : Nat) : Bool :=
    let fmt := s.f (Reg.EGR_ENT0_FORMAT e)
    let lc := s.f (Reg.EGR_ENT0_LOCAL_COUNT e)
    s.flag (Reg.EGR_ENT0_EN e) &&
    (decide (lc * s.f (Reg.EGR_ENT3_CPP e) * s.f (Reg.EGR_ENT3_TPP e) * fmtWidth fmt > 60480) ||
     s.f (Reg.EGR_ENT2_CHAN_COUNT e) % s.f (Reg.EGR_ENT3_CPP e) != 0 || decide (s.f (Reg.EGR_ENT0_LOCAL_FIRST e) + lc > 128) ||
     decide (fmt > 1) || (egrLanes s e).any fun l => !laneSends s l 1)
  if s.flag Reg.EGR_CTRL_EN && !s.isF && !s.noPers then some 0 else (List.range 256).find? bad

/-- The first block of an entry that the map starts anew: at T of a scheduled map, else at the next count that the Lens outputs. -/
def egrFirst (at_ : Option (Nat × Nat)) (s : State) : Option Nat :=
  match at_ with
  | some (_, T) => some (ceilDiv T (lensF s))
  | none => s.lmp.lensPassed.map (· + 1)

/-- The egress map words in force at a channel count (R162). -/
def egrWord (s : State) (n key : Nat) : Word :=
  match s.links.egrEpochs.find? fun e => decide (n < e.1) with
  | some e => mapGet (regReset key) e.2 key
  | none => s.reg key

def egrField (s : State) (n : Nat) (F : Field) : Nat := getBits (egrWord s n F.key) F.hi F.lo

/-- Entry e has a packet in progress below count n, under the map of that packet: it is still to be sent (R162). -/
def egrUnsent (s : State) (e n : Nat) : Bool :=
  (mapGet EgrEntry.reset s.links.egr e).block.any fun b =>
    decide (b < n) && egrField s b Reg.EGR_CTRL_EN == 1 && egrField s b (Reg.EGR_ENT0_EN e) == 1

/-- The EGR group has taken effect; a scheduled map governs counts from T on (R162). An entry that starts anew ends its packet in progress
of an earlier map first. -/
def egrTrans (old : State) (at_ : Option (Nat × Nat)) (s : State) : State :=
  let words (p : Nat × Word) : Bool := decide (0x130000 ≤ p.1) && decide (p.1 < 0x132000)
  let on (x : State) (e : Nat) : Bool := x.flag Reg.EGR_CTRL_EN && x.flag (Reg.EGR_ENT0_EN e)
  let first := egrFirst at_ s
  let fresh := (List.range 256).filter fun e => on s e && !on old e && !(first.any fun n => egrUnsent old e n)
  let s := { s with links := { s.links with egr := fresh.foldl (fun m e => mapSet EgrEntry.reset m e { EgrEntry.reset with block := first }) s.links.egr } }
  match at_ with
  | some (_, T) => { s with links := { s.links with egrEpochs := s.links.egrEpochs ++ [(ceilDiv T (lensF s), old.regs.filter words)] } }
  | none => s

def egrCommit (s : State) : State :=
  let new := s.commitRange 0x130000 0x140000
  match egrErr new with
  | some e => (s.setF Reg.EGR_STATUS_COMMIT_ERR 1).setF Reg.EGR_STATUS_ERR_ENTRY e
  | none => egrTrans s none new

end Sys2Proof.Machine
end

