-- ==== Sys2Proof/Machine/LinkTx.lean ====
section
/-! DEFINITION. Sys2Proof/Machine/LinkTx.lean: the egress packetiser and the transmit lanes (03_steras_links.md). -/
namespace Sys2Proof.Machine

/-! ## The egress packetiser (R159 to R164) -/

/-- Entry e runs for count n. -/
def egrOn (s : State) (e n : Nat) : Bool :=
  s.isF && egrField s n Reg.EGR_CTRL_EN == 1 && egrField s n (Reg.EGR_ENT0_EN e) == 1 &&
  decide (1 ≤ egrField s n (Reg.EGR_ENT3_TPP e)) && decide (1 ≤ egrField s n (Reg.EGR_ENT3_CPP e)) &&
  decide (1 ≤ egrField s n (Reg.EGR_ENT2_CHAN_COUNT e))

def egrEntry (s : State) (e : Nat) : EgrEntry := mapGet EgrEntry.reset s.links.egr e
def putEgr (e : Nat) (x : EgrEntry) (s : State) : State :=
  { s with links := { s.links with egr := mapSet EgrEntry.reset s.links.egr e x } }

/-- The part that holds a channel at a count. -/
def egrPart (s : State) (dom n c : Nat) : Option LampPart :=
  s.lmp.egrParts.find? fun p => p.domain == dom && p.count == n && decide (p.first ≤ c) && decide (c < p.first + p.chans)

/-- First count of the block an entry forms now: blocks follow one another (R159), from the first count that the Lens outputs after
the entry's enable, or that has a part. (DEDUCED, log 125.) -/
def egrBlock (s : State) (e : Nat) : Option Nat :=
  match (egrEntry s e).block, s.lmp.lensFirst.filter (egrOn s e) with
  | some b, _ => some b
  | none, some n => some n
  | none, none =>
    let ns := (s.lmp.egrParts.filter fun p => egrOn s e p.count && p.domain == egrField s p.count (Reg.EGR_ENT0_DOMAIN e)).map LampPart.count
    ns.foldl (fun a n => match a with | none => some n | some m => some (min m n)) none

/-- The count above a block's last: TPP on, but not beyond the end of its map (R162). -/
def egrBlockEnd (s : State) (e b : Nat) : Nat :=
  let t := b + egrField s b (Reg.EGR_ENT3_TPP e)
  match s.links.egrEpochs.find? fun x => decide (b < x.1) with
  | some x => min t x.1
  | none => t

/-- Index of a local input in the parts: they hold the enabled Lens inputs in ascending order (R201). -/
def egrPos (s : State) (i : Nat) : Option Nat := (lensIns s).findIdx? (· == i)

/-- The elements of the packet an entry forms next, in sample order, with their inputs' marks; none when one is missing. -/
def egrElems (s : State) (e b : Nat) : Option (List ((Int × Int) × Nat)) :=
  let dom := egrField s b (Reg.EGR_ENT0_DOMAIN e)
  let lf := egrField s b (Reg.EGR_ENT0_LOCAL_FIRST e)
  let lc := egrField s b (Reg.EGR_ENT0_LOCAL_COUNT e)
  let cpp := egrField s b (Reg.EGR_ENT3_CPP e)
  let c0 := egrField s b (Reg.EGR_ENT1_CHAN_FIRST e) + (egrEntry s e).nextGroup * cpp
  let pos := (List.range lc).map fun i => egrPos s (lf + i)
  let n := egrBlockEnd s e b - b
  ((List.range n).flatMap fun t => (List.range cpp).flatMap fun c => pos.map fun p => (t, c, p)).foldr (fun x a =>
    match a, x.2.2, egrPart s dom (b + x.1) (c0 + x.2.1) with
    | some l, some p, some q =>
      if p < q.inputs then some ((q.elems.getD (p + q.inputs * (c0 + x.2.1 - q.first)) (0, 0), q.marks.getD p 0) :: l) else none
    | _, _, _ => none) (some [])

/-- The entry goes on to its next channel group, or to the first of the next block. -/
def egrNext (e b : Nat) (s : State) : State :=
  let x := egrEntry s e
  let groups := egrField s b (Reg.EGR_ENT2_CHAN_COUNT e) / max 1 (egrField s b (Reg.EGR_ENT3_CPP e))
  putEgr e (if x.nextGroup + 1 < groups then { x with block := some b, nextGroup := x.nextGroup + 1, nextLane := x.nextLane + 1 }
    else { block := some (egrBlockEnd s e b), nextGroup := 0, nextLane := x.nextLane + 1, old := false }) s

/-- The lane an entry's next packet is due on (R160). -/
def egrLane (s : State) (e b : Nat) : Nat :=
  egrField s b (Reg.EGR_ENT3_LANE_FIRST e) + (egrEntry s e).nextLane % (egrField s b (Reg.EGR_ENT3_LANE_COUNT_M1 e) + 1)

/-- The count marker for the missing packet of an entry (R164), waiting on its lane. -/
def egrMarker (e b : Nat) (s : State) : State :=
  let l := egrLane s e b
  let chan := egrField s b (Reg.EGR_ENT1_CHAN_FIRST e) + (egrEntry s e).nextGroup * egrField s b (Reg.EGR_ENT3_CPP e)
  let d := mkDesc (egrField s b (Reg.EGR_ENT0_DOMAIN e)) (egrField s b (Reg.EGR_ENT0_FORMAT e)) 0
    (s.f (Reg.LNK_SOURCE_CHIP_ID (l / 8))) (egrBlockEnd s e b)
    (egrField s b Reg.EGR_INPUT_BASE + egrField s b (Reg.EGR_ENT0_LOCAL_FIRST e)) 0 chan 0 0 0
  updTx l (fun t => { t with marker := some d }) s

/-- The lowest count an entry may still form a packet of, under the map of each count (R162); none when it forms no more. -/
def egrNeeds (s : State) (e : Nat) : Option Nat :=
  let starts := s.links.egrEpochs.map Prod.fst
  match (egrEntry s e).block with
  | none => if (0 :: starts).any (egrOn s e) || s.flag (Reg.EGR_ENT0_EN e) then some 0 else none
  | some b => if egrOn s e b then some b else (starts.filter fun x => decide (b < x)).find? (egrOn s e)

/-- Parts that no entry needs any more are let go. -/
def egrPrune (s : State) : State :=
  let low := ((List.range 256).filterMap (egrNeeds s)).foldl min (2 ^ 64)
  { s with lmp := { s.lmp with egrParts := s.lmp.egrParts.filter fun p => decide (low ≤ p.count) } }

/-- An entry's block belongs to a map in which the entry does not run: it goes on at the next map. -/
def egrSkip (e b : Nat) (s : State) : State :=
  match s.links.egrEpochs.find? fun x => decide (b < x.1) with
  | some x => putEgr e { egrEntry s e with block := some x.1, nextGroup := 0, nextLane := 0 } s
  | none => s

/-- The Lens has started anew at a count below the entry's block, which goes on from there (R164). -/
def egrRebase (e : Nat) (s : State) : State :=
  let x := egrEntry s e
  match x.block, s.lmp.lensFirst with
  | some b, some n => if x.old && decide (n < b) && egrOn s e n then putEgr e { x with block := some n, nextGroup := 0, old := false } s else s
  | _, _ => s

/-- A packet of entry e as the gate of the pair sees it (R629): its domain and its count. -/
def egrUnit (s : State) (e b : Nat) : TxPacket :=
  { desc := mkDesc (egrField s b (Reg.EGR_ENT0_DOMAIN e)) 0 0 0 0 0 0 0 0 0 0, area := [], source := 1, unit := e, count := b }

/-- The packetiser forms the next packet of entry e (R159, R160, R233), and queues it or, when the entry's packets cannot be
sent as fast as they come, drops it (R163). Behind the gate of the pair it is no drop of the entry's (R629). (DEDUCED, log 167.) -/
def egressPacket (e : Nat) (blocked : Bool) (s : State) : State :=
  let s := egrRebase e s
  match egrBlock s e with
  | none => s
  | some b =>
    if !egrOn s e b then egrSkip e b s
    else
      match egrElems s e b with
      | none => s
      | some els =>
        let dom := egrField s b (Reg.EGR_ENT0_DOMAIN e)
        let unit := egrUnit s e b
        let s := perfEvent 0x13 0x10 1 (outputUnit dom b s)
        if blocked ∧ gateDrops s unit then egrPrune (egrNext e b (s.incF Reg.PAIR_CNT_GATED 1))
        else if blocked then
          let s := perfEvent 0x13 0x11 1 (s.incF (Reg.EGR_CNT_DROP e) 1)
          let s := raiseOnce (Reg.EGR_CNT_DROP e).key (fev FK.EGR_OVERFLOW 0x13 0 0) s
          egrPrune (egrNext e b (egrMarker e b s))
        else
          let fmt := egrField s b (Reg.EGR_ENT0_FORMAT e)
          let w := fmtWidth fmt / 2
          let l := egrLane s e b
          let lc := egrField s b (Reg.EGR_ENT0_LOCAL_COUNT e)
          let cpp := egrField s b (Reg.EGR_ENT3_CPP e)
          let n := egrBlockEnd s e b - b
          let wicks := wicksFor (lc * cpp * n) (2 * w)
          let mark (i : Nat) : Bool := els.any fun x => x.2.testBit i
          let flags := b2n (els.all fun x => !x.2.testBit 0) + 2 * b2n (mark 2) + 4 * b2n (mark 3) + 8 * b2n (mark 1)
          let d := mkDesc dom fmt flags (s.f (Reg.LNK_SOURCE_CHIP_ID (l / 8))) b
            (egrField s b Reg.EGR_INPUT_BASE + egrField s b (Reg.EGR_ENT0_LOCAL_FIRST e)) lc
            (egrField s b (Reg.EGR_ENT1_CHAN_FIRST e) + (egrEntry s e).nextGroup * cpp) cpp n wicks
          let area := fitBytes (120 * wicks) (els.flatMap fun x => leBytes (w / 4) (wrap w x.1.1 * 2 ^ w + wrap w x.1.2))
          let s := updTx l (fun t => { t with queue := t.queue ++ [{ desc := d, area := area, source := 1, unit := e, count := b }] }) s
          egrPrune (egrNext e b s)

/-- The Lens output has passed a block whose next packet has not been sent: a count marker takes its place (R164). -/
def countMarker (e : Nat) (s : State) : State :=
  let s := egrRebase e s
  match egrBlock s e with
  | none => s
  | some b =>
    if !egrOn s e b then egrSkip e b s
    else
      match egrElems s e b, s.lmp.lensPassed with
      | none, some p => if egrBlockEnd s e b ≤ p + 1 then egrPrune (egrNext e b (egrMarker e b s)) else s
      | _, _ => s

/-! ## Wicks (R99 to R103) -/

/-- Scramble a byte, most significant bit first: the last 58 output bits, newest in bit 0, and the output byte (R102). -/
def scramByte (st : Nat) (b : Byte) : Nat × Byte :=
  let r := [7, 6, 5, 4, 3, 2, 1, 0].foldl (fun (a : Nat × Nat) i =>
    let o := (b.toNat.testBit i != a.1.testBit 38) != a.1.testBit 57
    ((a.1 * 2 + b2n o) % 2 ^ 58, a.2 * 2 + b2n o)) (st, 0)
  (r.1, BitVec.ofNat 8 r.2)

def scramBytes : Nat → List Byte → Nat × List Byte
  | st, [] => (st, [])
  | st, b :: r =>
    let x := scramByte st b
    let y := scramBytes x.1 r
    (y.1, x.2 :: y.2)

/-- Descramble a byte by the inverse relation on the last 58 received bits (R102). The wick commands carry payloads as it leaves
them. (DESIGN CHOICE, log 126.) -/
def descramByte (st : Nat) (b : Byte) : Nat × Byte :=
  let r := [7, 6, 5, 4, 3, 2, 1, 0].foldl (fun (a : Nat × Nat) i =>
    let x := b.toNat.testBit i
    ((a.1 * 2 + b2n x) % 2 ^ 58, a.2 * 2 + b2n ((x != a.1.testBit 38) != a.1.testBit 57))) (st, 0)
  (r.1, BitVec.ofNat 8 r.2)

def descramBytes : Nat → List Byte → List Byte
  | _, [] => []
  | st, b :: r => let x := descramByte st b; x.2 :: descramBytes x.1 r

/-- A header word (R100). -/
def wickHeader (type seq credit : Nat) : Nat := 0x2CD * 2 ^ 22 + type % 16 * 2 ^ 18 + seq % 1024 * 2 ^ 8 + credit % 256

/-- The 128 bytes of a wick from its header and scrambled payload (R99, R103). -/
def wickImage (header : Nat) (payload : List Byte) : List Byte :=
  let body := beBytes 4 header ++ payload
  body ++ beBytes 4 (crcBytes 32 0x1EDC6F41 body)

/-! ## Patterns (R155, R156) -/

/-- Degree and second tap of a pattern code. -/
def prbsTaps (code : Nat) : Nat × Nat := ([(1, 1), (7, 6), (15, 14), (23, 18), (31, 28)] : List (Nat × Nat)).getD code (1, 1)

/-- The next bit of a pattern from its last bits, newest in bit 0. -/
def prbsNext (code reg : Nat) : Bool := reg.testBit ((prbsTaps code).1 - 1) != reg.testBit ((prbsTaps code).2 - 1)

def prbsPush (code reg : Nat) (b : Bool) : Nat := (reg * 2 + b2n b) % 2 ^ (prbsTaps code).1

def prbsBits (code : Nat) : Nat → Nat → List Bool × Nat
  | 0, reg => ([], reg)
  | n + 1, reg =>
    let b := prbsNext code reg
    let r := prbsBits code n (prbsPush code reg b)
    (b :: r.1, r.2)

/-- One bit at the checker: it loads received bits until it has followed them for 64 bits, then predicts. (DEDUCED, log 43.) -/
def prbsBit (l code : Nat) (s : State) (b : Bool) : State :=
  let r := s.rxLane l
  let ok := r.prbsReg != 0 && prbsNext code r.prbsReg == b
  if s.flag (lf Reg.LANE_STATUS_PRBS_LOCK l) then
    let s := putRx l { r with prbsReg := prbsPush code r.prbsReg (prbsNext code r.prbsReg) } s
    if ok then s
    else
      let n := min (s.f64 (lf Reg.PRBS_ERR_LO l) (lf Reg.PRBS_ERR_HI l) + 1) (2 ^ 48 - 1)
      s.setF64 (lf Reg.PRBS_ERR_LO l) (lf Reg.PRBS_ERR_HI l) n
  else
    let run := if ok then r.prbsRun + 1 else 0
    let s := putRx l { r with prbsReg := prbsPush code r.prbsReg b, prbsRun := run } s
    if run ≥ 64 then s.setF (lf Reg.LANE_STATUS_PRBS_LOCK l) 1 else s

/-- Bits reach the checker of a lane in TEST (R156). -/
def prbsCheck (l : Nat) (bits : List Bool) (s : State) : State :=
  let code := s.f (lf Reg.LANE_CFG_PRBS_CHK l)
  if rxState s l ≠ 10 ∨ code = 0 ∨ code > 4 then s else bits.foldl (prbsBit l code) s

/-- The lane runs a near-end loop: its pins are idle and its bits go to its own receiver (R154). -/
def nearLoop (s : State) (l : Nat) : Bool := s.f (lf Reg.LANE_CFG_LOOP l) != 0

/-- The bits of bytes in transmission order, most significant bit first (R99). -/
def bitsOf (bs : List Byte) : List Bool := bs.flatMap fun b => [7, 6, 5, 4, 3, 2, 1, 0].map fun i => b.toNat.testBit i

/-- Transmit lane l sends a wick (R101, R128); in a near-end loop it goes to the lane's own receiver alone (R154). -/
def sendWick (l type : Nat) (payload : List Byte) (s : State) : State :=
  let t := s.txLane l
  let credit := if rxCredited s l then (s.rxLane l).rxReleased else 0
  let x := scramBytes t.scram (fitBytes 120 payload)
  let seq := (t.seq + 1) % 1024
  let s := putTx l { t with seq := seq, scram := x.1, syncDue := seq == 0 } s
  let image := wickImage (wickHeader type t.seq credit) x.2
  if nearLoop s l then prbsCheck l (bitsOf image) s else s.emit (.wick l image)

/-- IDLE, or FLAGGED_IDLE while snuffed (R151). -/
def sendIdle (l : Nat) (s : State) : State := sendWick l (if s.snuffed then 7 else 0) [] s

/-- A TRAIN payload (R137). -/
def trainPayload (s : State) (l : Nat) : List Byte :=
  let t := s.txLane l
  let c := coefOf s l
  leBytes 2 (s.f (Reg.LNK_SOURCE_CHIP_ID (l / 8))) ++ leBytes 1 (l / 8 + 16 * (l % 8)) ++
  leBytes 1 (rxState s l + 16 * b2n (rxCredited s l) + 32 * b2n (txCredited s l)) ++
  leBytes 1 (s.f (Reg.LNK_GRP_CTRL_RATE (l / 8))) ++ leBytes 1 t.reqTaps ++ leBytes 1 (t.reqSeq + 16 * t.reqPreset) ++
  leBytes 1 t.ackSeq ++ leBytes 1 t.ackResults ++ leBytes 1 c.1 ++ leBytes 1 c.2.1 ++ leBytes 1 c.2.2

/-- A lane in FFE_ADAPT may make a new request of the partner (R136, R138). What it asks is not stated: it is free. -/
def newRequest (l : Nat) (s : State) : State :=
  if rxState s l ≠ 3 ∨ s.flag (lf Reg.LANE_STATUS_FFE_FALLBACK l) then s
  else
    let (r, s) := s.draw
    if r % 2 = 0 then s
    else
      let r := r / 2
      updTx l (fun t =>
        { t with
          reqSeq := (t.reqSeq + 1) % 16, reqTaps := r % 3 + 4 * (r / 3 % 3) + 16 * (r / 9 % 3),
          reqPreset := r / 27 % 8 + 8 * (r / 216 % 2) }) s

/-- A CREDIT_SYNC payload (R131). -/
def creditPayload (s : State) (l : Nat) : List Byte :=
  leBytes 4 (s.txLane l).txTotal ++ leBytes 1 (if rxCredited s l then 128 else 0) ++
  leBytes 1 (b2n (txCredited s l) + 2 * b2n (rxCredited s l))

/-! ## Packets on a lane -/

/-- The lane has credit for one more consuming wick (R125, R130). (DEDUCED, log 41.) -/
def hasCredit (s : State) (l : Nat) : Bool :=
  !txCredited s l || decide ((s.txLane l).txTotal < (s.txLane l).rel + s.f (lf Reg.LANE_CREDIT_TX_LIMIT l))

/-- Packets the gate discards before the lane's next packet (R629, R646 to R648). -/
def gateLane (l : Nat) (s : State) : State :=
  let t := s.txLane l
  let n := (t.queue.filter (gateDrops s)).length
  if n = 0 then s else (putTx l { t with queue := t.queue.filter fun p => !gateDrops s p } s).incF Reg.PAIR_CNT_GATED n

/-- The next packet waiting on the lane from the source that TX_SRC selects (R157), unless a trim holds it. -/
def nextPacket (s : State) (l : Nat) : Option TxPacket :=
  let src := s.f (lf Reg.LANE_CFG_TX_SRC l)
  match (s.txLane l).queue.find? fun p => p.source == src with
  | none => none
  | some p => if !s.snuffed ∧ s.pair.trimHold ∧ trimTakes s p then none else some p

/-- A CREDITED lane holds a wick for lack of credit (R130, R658): of its packet in progress, of its marker, or of its next packet. -/
def creditWaits (s : State) (l : Nat) : Bool :=
  let t := s.txLane l
  s.flag (lf Reg.LANE_CFG_TX_EN l) && !hasCredit s l && !s.snuffed &&
    (match t.cur with
      | some _ => !t.curFlagged
      | none => (t.marker.isSome && s.f (lf Reg.LANE_CFG_TX_SRC l) == 1) || (nextPacket s l).isSome)

/-- The transmit lane sends no packet that the snuff is yet to abandon. -/
def laneSnuffed (t : TxLane) : Bool := t.cur.isNone || t.curFlagged

/-- No lane of a snuffed device is in the middle of a packet that still counts (R151). -/
def lanesQuiet (s : State) : Bool := !s.snuffed || s.links.tx.all fun x => laneSnuffed x.2

/-- Every lane's packet in progress is sent flagged from here. -/
def flagLanes (s : State) : State :=
  { s with links := { s.links with tx := s.links.tx.map fun (x : Nat × TxLane) => (x.1, { x.2 with curFlagged := laneSnuffed x.2 && x.2.curFlagged || x.2.cur.isSome }) } }

/-- The packets in progress when the device is snuffed are abandoned, each once (R151). -/
def snuffLanes (s : State) : State :=
  if lanesQuiet s then s
  else flagLanes (s.links.tx.foldl (fun s x =>
    match x.2.cur with
    | some p => if x.2.curFlagged then s else countAbandonTx x.1 p true s
    | none => s) s)

/-- Packet p of the lane's queue begins. -/
def takePacket (l : Nat) (p : TxPacket) (s : State) : State :=
  let s := updTx l (fun t => { t with queue := t.queue.eraseP fun x => x.source == p.source, cur := some p, curWick := 0, curFlagged := s.snuffed }) s
  if s.snuffed then countAbandonTx l p true s else s

/-- The last wick of a packet has been sent: it is counted. -/
def packetSent (l : Nat) (p : TxPacket) (s : State) : State :=
  let s := s.incF (lf Reg.CNT_PKT_TX l) 1
  if p.source = 2 then s.incF (Reg.STR_CNT_PKT_TX p.unit) 1 else s

/-- One wick slot of the packet in progress. -/
def packetSlot (l : Nat) (p : TxPacket) (s : State) : State :=
  let t := s.txLane l
  let last := t.curWick == dWicks p.desc
  let step (s : State) : State :=
    updTx l (fun t => if last then { t with cur := none, curWick := 0, curFlagged := false } else { t with curWick := t.curWick + 1 }) s
  if t.curFlagged then step (sendWick l 7 [] s)
  else if !hasCredit s l then sendIdle l s
  else
    let type := if t.curWick = 0 then 1 else if last then 3 else 2
    let payload := if t.curWick = 0 then descBytes p.desc else (p.area.drop (120 * (t.curWick - 1))).take 120
    let s := updTx l (fun t => { t with txTotal := t.txTotal + 1 }) (sendWick l type payload s)
    step (if last then packetSent l p s else s)

/-- The waiting count marker goes between packets (R164); it is a packet of a HEAD alone (R110, R119). -/
def markerSlot (l : Nat) (d : Desc) (s : State) : State :=
  if s.snuffed then sendWick l 7 [] (updTx l (fun t => { t with marker := none }) (s.incF (lf Reg.CNT_PKT_ABANDON_TX l) 1))
  else if pairGated s then sendIdle l (updTx l (fun t => { t with marker := none }) (s.incF Reg.PAIR_CNT_GATED 1))
  else if !hasCredit s l then sendIdle l s
  else updTx l (fun t => { t with marker := none, txTotal := t.txTotal + 1 })
    ((sendWick l 1 (descBytes d) s).incF (lf Reg.CNT_PKT_TX l) 1)

/-- The packet flow of a lane at one wick slot (R110, R111, R130, R151, R157, R629). (DESIGN CHOICE, log 160.) -/
def packetFlow (l : Nat) (s : State) : State :=
  let t := s.txLane l
  let s := match t.cur with
    | some _ =>
      if !s.snuffed ∧ t.curFlagged then updTx l (fun t => { t with cur := none, curWick := 0, curFlagged := false }) s
      else s
    | none => s
  match (s.txLane l).cur with
  | some p => packetSlot l p s
  | none =>
    match t.marker with
    | some d => if s.f (lf Reg.LANE_CFG_TX_SRC l) = 1 then markerSlot l d s else sendIdle l s
    | none =>
      let s := if s.snuffed then s else gateLane l s
      match nextPacket s l with
      | none => sendIdle l s
      | some p =>
        if s.snuffed || hasCredit s l then packetSlot l p (takePacket l p s)
        else sendIdle l s

/-- 1,024 bits of the lane's pattern. Where the pattern starts is not stated: it is free, but not all zeros. -/
def prbsSend (l code : Nat) (s : State) : State :=
  let (reg, s) : Nat × State := match (s.txLane l).prbs with
    | some r => (r, s)
    | none => let (v, s) := s.draw; (v % (2 ^ (prbsTaps code).1 - 1) + 1, s)
  let x := prbsBits code 1024 reg
  let s := updTx l (fun t => { t with prbs := some x.2 }) s
  if nearLoop s l then prbsCheck l x.1 s else s.emit (.pattern l x.1)

/-! ## WICK_TRANSMIT -/

/-- A transmit data lane sends its next wick (R99 to R111, R124 to R132, R140, R144, R151, R153 to R157). The CREDIT_SYNC of a SEQ
that wrapped to 0 goes before a RETRAIN_REQ, and that before all else. (DEDUCED, log 127.) -/
def wickTransmit (l : Nat) (s : State) : State :=
  if !txEn s l ∨ s.flag (Reg.LNK_GRP_CTRL_FAR_LOOP (l / 8)) then s
  else
    let gen := s.f (lf Reg.LANE_CFG_PRBS_GEN l)
    if gen ≠ 0 then prbsSend l gen s
    else
      let s := txUpdate l s
      let t := s.txLane l
      if t.syncDue ∧ rxState s l = 6 ∧ pairCredited s l ∧ !t.training then sendWick l 6 (creditPayload s l) s
      else if t.retrainReq ∧ !s.snuffed then
        sendWick l 4 [1] (updTx l (fun t => { t with retrainReq := false }) s)
      else if t.training then
        let s := newRequest l s
        sendWick l 5 (trainPayload s l) s
      else if rxState s l = 5 then
        if (s.rxLane l).creditReset then
          creditCheck l (updTx l (fun t => { t with csSent := t.csSent + 1 }) (sendWick l 6 (creditPayload s l) s))
        else sendIdle l s
      else packetFlow l s

/-- LANE_CMD.SEND_RETRAIN_REQ (R153). -/
def sendRetrainReq (l : Nat) (s : State) : State := updTx l (fun t => { t with retrainReq := true }) s

end Sys2Proof.Machine
end

