-- ==== Sys2Proof/Machine/Apply.lean ====
section
/-! DEFINITION. Sys2Proof/Machine/Apply.lean: the change log (R564 to R567), the hardware shadows of a parameter set (R545), the
APPLY check (R500, R543) and its taking effect, at once (R544) or at a count (R547). -/
namespace Sys2Proof.Machine

/-! ## Power-gated pages -/

/-- Pages of power-gated blocks (R166, R315, R349, R390): the Lens in X, the lantern array, the mantle and the Candelabra
in F and, all four of them, without a personality (R684). (DEDUCED, log 50.) -/
def pageGated (s : State) (page : Nat) : Bool :=
  (page == 0x0E && (s.isX || s.noPers)) || ((page == 0x10 || page == 0x11 || page == 0x12) && s.actsF)

/-! ## The change log -/

/-- TIME96 of TB0 (R532). -/
def time96 (s : State) : List Byte := leBytes 8 s.time.sec ++ leBytes 4 s.time.ns

/-- Append one entry with a given TIME to the RAM ring (R565, R567). -/
def logPutAt (time : List Byte) (ctrl old new : Nat) (s : State) : State :=
  let e := time ++ leBytes 4 ctrl ++ leBytes 8 old ++ leBytes 8 new
  let d := s.dict
  let next := d.logNext + 1
  { s with dict := { d with log := mapSet [] d.log (d.logNext % 65536) e, logNext := next,
                            logOldest := max d.logOldest (next - 65536) } }

def logPut (ctrl old new : Nat) (s : State) : State := logPutAt (time96 s) ctrl old new s

/-- CTRL of an entry: KIND, origin (0 H, 1 N, 2 F, 3 M), session and ADDR. -/
def logCtrl (kind origin session addr : Nat) : Nat :=
  addr % 2 ^ 24 + (if origin = 1 then session % 8 else 0) * 2 ^ 24 + origin % 4 * 2 ^ 27 + kind % 8 * 2 ^ 29

/-- Move the entries of the matrix's buffer to the ring (R504). -/
def logDrain (s : State) : State :=
  let s' := s.dict.logBuf.foldl (fun s e =>
    logPutAt ((e.drop 16).take 12) (logCtrl 1 (leAt e 4 1) 0 (leAt e 0 4)) (leAt e 8 4) (leAt e 12 4) s) s
  { s' with dict := { s'.dict with logBuf := [] } }

/-! ## Objects held by the dictionary, and their journal -/

def objKey (ix el : Nat) : Nat := ix * 256 + el

def setObj (k : Nat) (v : List Byte) (s : State) : State := { s with objs := mapSet [] s.objs k v }

/-- A persistent object has changed: it is to be journaled within 1 s (R539). A change of index 0x4240 is one of all 64 lamps
(R248). -/
def journalPut (k : Nat) (v : List Byte) (s : State) : State :=
  let put (s : State) (k : Nat) : State :=
    { s with mgmt := { s.mgmt with journal := s.mgmt.journal.filter (fun e => e.1 != k) ++ [(k, v)] } }
  if k / 256 = 0x4240 then (List.range 64).foldl (fun s n => put s (objKey (0x4200 + n) (k % 256))) s else put s k

/-! ## Shadows -/

/-- The register address of a slice for index i and element j of its row. -/
def sliceKey (sl : Slice) (i j : Nat) : Nat := sl.key + i / 8 * sl.s1 + i % 8 * sl.s0 + j * sl.es

def sliceWidth (sl : Slice) : Nat := sl.hi - sl.lo + 1

/-- A value spread over slices: register address, mask and word. -/
def bitsShadow : List Slice → Nat → Nat → Nat → List (Nat × Word × Word)
  | [], _, _, _ => []
  | sl :: r, i, j, v =>
    (sliceKey sl i j, fieldMask sl.hi sl.lo, BitVec.ofNat 32 ((v % 2 ^ sliceWidth sl) <<< sl.lo)) ::
      bitsShadow r i j (v >>> sliceWidth sl)

def wordsShadow (key : Nat) : Nat → List Byte → List (Nat × Word × Word)
  | 0, _ => []
  | n + 1, l => (key, BitVec.allOnes 32, BitVec.ofNat 32 (leAt l 0 4)) :: wordsShadow (key + 4) n (l.drop 4)

/-- MODEL'S OWN addresses, above every register, under which a shadow holds the seed of lantern L: L × 8 and L × 8 + 4. -/
def seedShadow : Nat := 0x10000000

/-- A class-table word from eight bytes of object 0x8001.01; a byte that no field of the word can hold stages 15, which the commit rejects as
it rejects every value above 4 (R609). -/
def classWord (l : List Byte) : Word :=
  (List.range 8).foldl (fun w n => setBits w (4 * n + 3) (4 * n) (min 15 (leAt l n 1))) 0

/-- Where the value of an object goes in the registers: index i and element j of row r. -/
def objShadow (r : ObjRow) (i j : Nat) (v : List Byte) : List (Nat × Word × Word) :=
  match r.home with
  | .bits l => bitsShadow l i j (ofLe v)
  | .words k s1 s0 n => wordsShadow (k + i / 8 * s1 + i % 8 * s0) n v
  | .spec .linkSourceChip => (List.range 16).map fun g => (0x20000C + g * 0x10000, 0xFFFF, BitVec.ofNat 32 (leAt v 0 2))
  | .spec .lanternSeed => [(seedShadow + 8 * i, BitVec.allOnes 32, BitVec.ofNat 32 (leAt v 0 4)),
                           (seedShadow + 8 * i + 4, BitVec.allOnes 32, BitVec.ofNat 32 (leAt v 4 4))]
  | .spec .tempLimit => [(0x90008, fieldMask (8 * j + 7) (8 * j), BitVec.ofNat 32 (leAt v 0 1 <<< (8 * j)))]
  | .spec .voltLimit => [(0x90104 + 0x10 * i, fieldMask (16 * j + 15) (16 * j), BitVec.ofNat 32 (leAt v 0 2 <<< (16 * j)))]
  | .spec .classTable => (List.range 512).map fun w =>
      (0x32000 + 4 * w, BitVec.allOnes 32, maskClassWord (0x32000 + 4 * w) (classWord (v.drop (8 * w))))
  | _ => []

/-- The register group of an RWS register (R495): its page, with the SDn groups of TIME apart. -/
def groupOf (key : Nat) : Nat :=
  if key ≥ seedShadow then 0x10 * 16
  else if key / 0x10000 = 1 then 16 + (key % 0x10000 - 0x100) / 0x40
  else key / 0x10000 * 16

/-- The RWS bits a shadow word sets. -/
def shadowRws (p : Nat × Word × Word) : Word := if p.1 ≥ seedShadow then p.2.1 else p.2.1 &&& rwsMask p.1

/-- The groups a shadow changes, in ascending block ID. -/
def shadowGroups (sh : List (Nat × Word × Word)) : List Nat :=
  (sh.filter fun p => shadowRws p != 0).foldl (fun l p => insNat (groupOf p.1) l) []

/-- The addresses of a group. -/
def groupRange (g : Nat) : Nat × Nat :=
  if g / 16 = 1 then (0x10100 + 0x40 * (g % 16), 0x10140 + 0x40 * (g % 16)) else (g / 16 * 0x10000, (g / 16 + 1) * 0x10000)

/-- A register write staged in the group and not committed (R500). -/
def stagedOpen (s : State) (g : Nat) : Bool :=
  let r := groupRange g
  (s.staged.any fun p => decide (r.1 ≤ p.1) && decide (p.1 < r.2) && ((p.2 ^^^ s.reg p.1) &&& rwsMask p.1) != 0) ||
  (s.regs.any fun p => decide (r.1 ≤ p.1) && decide (p.1 < r.2) && ((s.stgd p.1 ^^^ p.2) &&& rwsMask p.1) != 0) ||
  (g == 0x100 && s.lan.seeds != s.lan.seedsStg)

/-- Overwrite the staged values of a group with its active ones (R500). -/
def groupRestage (g : Nat) (s : State) : State :=
  let s := s.restage (groupRange g).1 (groupRange g).2
  if g = 0x100 then { s with lan := { s.lan with seedsStg := s.lan.seeds } } else s

/-- Put one shadow word's RWS bits into the active and the staged values. -/
def shadowPut (p : Nat × Word × Word) (s : State) : State :=
  if p.1 ≥ seedShadow then
    let L := (p.1 - seedShadow) / 8
    let old := mapGet 0 s.lan.seeds L
    let v := if (p.1 - seedShadow) % 8 = 0 then old / 2 ^ 32 * 2 ^ 32 + p.2.2.toNat else p.2.2.toNat * 2 ^ 32 + old % 2 ^ 32
    { s with lan := { s.lan with seeds := mapSet 0 s.lan.seeds L v, seedsStg := mapSet 0 s.lan.seedsStg L v } }
  else
    let m := shadowRws p
    if m = 0 then s
    else (s.setReg p.1 ((s.reg p.1 &&& ~~~m) ||| (p.2.2 &&& m))).setStg p.1 ((s.stgd p.1 &&& ~~~m) ||| (p.2.2 &&& m))

/-- The groups of the shadow formed by R500 and taken together. -/
def formGroups (sh : List (Nat × Word × Word)) (s : State) : State :=
  sh.foldl (fun s p => shadowPut p s) ((shadowGroups sh).foldl (fun s g => groupRestage g s) s)

/-! ## Plain fields -/

/-- A register write of an RW field that belongs to no group, with what it does (R52, R459). -/
def rwWrite (p : Nat × Word × Word) (s : State) : State :=
  let m := p.2.1 &&& (match rowAt p.1 with | none => 0 | some r => accMask r (· == .rw))
  if m = 0 ∨ p.1 ≥ seedShadow then s
  else
    let w := (s.reg p.1 &&& ~~~m) ||| (p.2.2 &&& m)
    if p.1 = 0x10000 then timeCtrlWrite w s
    else if p.1 = 0xC0010 then fspRateWrite 0 (getBits w 2 0) s
    else if p.1 = 0xC0014 then fspRateWrite 1 (getBits w 2 0) s
    else s.setReg p.1 w

/-! ## The check -/

/-- A failing check: block ID, ERR_CODE, and the state in which its page shows the reason (R543). -/
structure ApplyFail where
  block : Nat
  code : Nat
  state : State

/-- The checks of one group's chapter on the groups formed together, `at_` the domain and the trigger of a scheduled APPLY. The page of the
rule that fails shows COMMIT_ERR and ERR_CODE. -/
def groupFail (old new : State) (at_ : Option (Nat × Nat)) (g : Nat) : Option ApplyFail :=
  let b := g / 16
  let lan (e : Nat × Nat) : ApplyFail := ⟨0x10, e.1, ((old.setF Reg.LAN_STATUS_COMMIT_ERR 1).setF Reg.LAN_STATUS_ERR_CODE e.1).setF Reg.LAN_STATUS_ERR_JOB e.2⟩
  let mnt (c : Nat) : ApplyFail := ⟨0x11, c, (old.setF Reg.MNT_STATUS_COMMIT_ERR 1).setF Reg.MNT_STATUS_ERR_CODE c⟩
  if b = 0x03 then
    let c := fltErr new
    if c = 0 then none else some ⟨b, c, (old.setF Reg.FLT_STATUS_COMMIT_ERR 1).setF Reg.FLT_STATUS_ERR_CODE c⟩
  else if b = 0x04 then
    (pmrBadWord new).map fun p => ⟨b, p.2.2, (((old.setF Reg.PMR_STATUS_COMMIT_ERR 1).setF Reg.PMR_STATUS_ERR_CODE p.2.2).setF
      Reg.PMR_STATUS_ERR_BANK p.1).setF Reg.PMR_STATUS_ERR_CTR p.2.1⟩
  else if b = 0x05 then
    let c := pairErr old new
    if c = 0 then none else some ⟨b, c, (old.setF Reg.PAIR_STATUS_COMMIT_ERR 1).setF Reg.PAIR_STATUS_ERR_CODE c⟩
  else if b = 0x0C then
    let c := memGroupErr new
    if c = 0 then none else some ⟨b, c, (old.setF Reg.MEM_STATUS_COMMIT_ERR 1).setF Reg.MEM_STATUS_ERR_CODE c⟩
  else if b = 0x0E then
    let c := lensErr old new
    if c = 0 then none else some ⟨b, c, (old.setF Reg.LENS_STATUS_COMMIT_ERR 1).setF Reg.LENS_STATUS_ERR_CODE c⟩
  else if b = 0x0F then
    let c := stgErr old new at_
    let l := lanErr old new
    if c ≠ 0 then some ⟨b, c, (old.setF Reg.STG_STATUS_COMMIT_ERR 1).setF Reg.STG_STATUS_ERR_CODE c⟩
    else if l.1 ≠ 0 then let x := lan l; some { x with state := x.state.setF Reg.STG_STATUS_COMMIT_ERR 1 } else none
  else if b = 0x10 then
    let l := lanErr old new
    let d := dumpErrs new
    if l.1 ≠ 0 then some (lan l)
    else if d ≠ 0 then let x := mnt d; some { x with state := x.state.setF Reg.LAN_STATUS_COMMIT_ERR 1 } else none
  else if b = 0x11 then
    let c := mntErr old new
    if c = 0 then none else some (mnt c)
  else if b = 0x12 then
    let c := canErr old new at_
    if c = 0 then none else some ⟨b, c, (old.setF Reg.CAN_STATUS_COMMIT_ERR 1).setF Reg.CAN_STATUS_ERR_CODE c⟩
  else if b = 0x13 then
    (egrErr new).map fun e => ⟨b, 0, (old.setF Reg.EGR_STATUS_COMMIT_ERR 1).setF Reg.EGR_STATUS_ERR_ENTRY e⟩
  else if 0x20 ≤ b ∧ b ≤ 0x2F then
    let gg := b - 0x20
    let e := lnkErr new gg
    if e.1 ≠ 0 then
      some ⟨b, e.1, ((old.setF (Reg.LNK_GRP_STATUS_COMMIT_ERR gg) 1).setF (Reg.LNK_GRP_STATUS_ERR_CODE gg) e.1).setF
        (Reg.LNK_GRP_STATUS_ERR_LANE gg) e.2⟩
    else
      (lnkUser new gg).map fun u =>
        let err := if u.1 = 0x13 then Reg.EGR_STATUS_COMMIT_ERR else if u.1 = 0x11 then Reg.MNT_STATUS_COMMIT_ERR else Reg.CAN_STATUS_COMMIT_ERR
        ⟨u.1, if u.1 = 0x13 then 0 else u.2, lnkUserMark u ((old.setF (Reg.LNK_GRP_STATUS_COMMIT_ERR gg) 1).setF err 1)⟩
  else none

/-- A group takes effect; `s` holds every group formed. -/
def groupTrans (old : State) (at_ : Option (Nat × Nat)) (g : Nat) (s : State) : State :=
  let b := g / 16
  if b = 0x01 then sdCommit (g % 16) s
  else if b = 0x05 then pairTrans old s
  else if b = 0x0E then lensTrans old at_ s
  else if b = 0x0F then stgTrans old at_ s
  else if b = 0x10 then lanTrans old s
  else if b = 0x11 then geoRegs s
  else if b = 0x12 then canTrans old at_ s
  else if b = 0x13 then egrTrans old at_ s
  else if 0x20 ≤ b ∧ b ≤ 0x2F then lnkTrans (b - 0x20) old s
  else if 0x40 ≤ b ∧ b ≤ 0x7F then lmpTrans (b - 0x40) old s
  else s

/-- The APPLY check of a shadow (R543). -/
def applyFail (sh : List (Nat × Word × Word)) (at_ : Option (Nat × Nat)) (s : State) : Option ApplyFail :=
  let new := formGroups sh s
  (shadowGroups sh).findSome? fun g => groupFail s new at_ g

/-- Every changed group takes effect in ascending block ID, and the plain fields with them (R500, R544); what names the page of a
power-gated block has no effect (R166, R315, R349, R390). -/
def applyTake (sh : List (Nat × Word × Word)) (at_ : Option (Nat × Nat)) (s : State) : State :=
  let sh := sh.filter fun p => p.1 ≥ seedShadow || !pageGated s (p.1 / 0x10000)
  let gs := shadowGroups sh
  let lost := (gs.filter fun g => stagedOpen s g).length
  let new := gs.foldl (fun x g => groupTrans s at_ g x) (formGroups sh s)
  let new := new.incF ⟨0x70014, 31, 0⟩ lost
  sh.foldl (fun s p => rwWrite p s) new

/-! ## Parameter sets -/

def State.pset (s : State) (n : Nat) : PSet := mapGet PSet.reset s.dict.psets n

def State.putPset (s : State) (n : Nat) (p : PSet) : State :=
  { s with dict := { s.dict with psets := mapSet PSet.reset s.dict.psets n p } }

/-- A shadow word of index 0x4240 is one of all 64 lamps (R248). -/
def fanOut (p : Nat × Word × Word) : List (Nat × Word × Word) :=
  if p.1 / 0x10000 = 0x80 then (List.range 64).map fun n => (p.1 - 0x400000 + n * 0x10000, p.2) else [p]

/-- The shadow of one entry of a set. -/
def entryShadow (e : Nat × List Byte) : List (Nat × Word × Word) :=
  match objRow (e.1 / 256) (e.1 % 256) with
  | none => []
  | some r => (objShadow r (e.1 / 256 - r.ix) (e.1 % 256 - r.el) e.2).flatMap fanOut

def setShadow (p : PSet) : List (Nat × Word × Word) := p.entries.flatMap entryShadow

/-- The entry of a set that reaches a group, for pset_error. -/
def entryOf (p : PSet) (block : Nat) : Nat :=
  ((p.entries.find? fun e => (shadowGroups (entryShadow e)).any fun g => g / 16 == block).map Prod.fst).getD
    ((p.entries.head?.map Prod.fst).getD 0)

/-- The log entry of an APPLY outcome (R565). `status`: as the response gives it. -/
def logApply (n : Nat) (slot trigger : Nat) (sched rej : Bool) (entries block code status origin session : Nat) (s : State) : State :=
  logPut (logCtrl 2 origin session (n + 4 * b2n sched + 8 * b2n rej + slot * 2 ^ 16)) trigger
    (entries + block * 2 ^ 16 + code * 2 ^ 24 + status * 2 ^ 28) s

/-- An APPLY of set n that is refused before its check, or whose slot is not armed: `block`, the page concerned (R564, R565). -/
def logRefusal (n slot trigger : Nat) (sched : Bool) (block status origin session : Nat) (s : State) : State :=
  logApply n slot trigger sched true (s.pset n).entries.length block 0 status origin session s

/-- The rejection of R543 of set n. -/
def applyReject (n : Nat) (fl : ApplyFail) (slot trigger : Nat) (sched : Bool) (origin session : Nat) : State :=
  let s := fl.state
  let p := s.pset n
  let e := entryOf p fl.block
  let s := s.putPset n { p with state := 3, shadow := [],
                                error := e / 256 + e % 256 * 2 ^ 16 + 0x0A * 2 ^ 24 + fl.block * 2 ^ 32 + fl.code * 2 ^ 40 }
  logApply n slot trigger sched true p.entries.length fl.block fl.code 0x0A origin session (raise (fev FK.DICT_APPLY_REJECT 0x00 0 0) s)

/-- The dictionary's own effects of a held object: test_enable at 0 ends an injection (R622); a static address is in use at once
(R568). -/
def heldEffect (k : Nat) (v : List Byte) (s : State) : State :=
  if k = 0x800010 ∧ v.all (· == 0) then injectEnd s
  else if k = 0x100002 ∧ objNat s 0x100001 1 = 0 then setObj 0x100007 v s
  else if k = 0x100001 ∧ ofLe v = 0 then setObj 0x100007 (leBytes 4 (objNat s 0x100002 0)) s
  else s

/-- A held object of default d takes the value v. -/
def heldPut (k : Nat) (d v : List Byte) (s : State) : State := heldEffect k v (setObj k (if v = d then [] else v) s)

/-- The objects of a set that no register holds take their values, and persistent ones are journaled. -/
def applyObjects (p : PSet) (s : State) : State :=
  p.entries.foldl (fun s e =>
    match objRow (e.1 / 256) (e.1 % 256) with
    | none => s
    | some r =>
      let s := match r.home with | .held d => heldPut e.1 d e.2 s | _ => s
      if r.persist then journalPut e.1 e.2 s else s) s

/-- A set takes effect and becomes EMPTY (R544, R547). -/
def applySet (n : Nat) (sh : List (Nat × Word × Word)) (at_ : Option (Nat × Nat)) (slot trigger : Nat) (sched : Bool)
    (origin session : Nat) (s : State) : State :=
  let p := s.pset n
  let s := applyObjects p (applyTake sh at_ s)
  logApply n slot trigger sched false p.entries.length 0 0 0 origin session (s.putPset n { PSet.reset with error := p.error })

/-- An APPLY_SET occurrence executes (R547). A set that no scheduled APPLY armed for the slot has nothing to apply.
(DEDUCED, log 85.) -/
def applySlot (slot : Nat) (starved : Bool) (s : State) : State :=
  if slotState s slot ≠ 2 then s
  else
    let n := slotTarget s slot % 4
    let p := s.pset n
    let T := slotWhen s slot
    let at_ := if slotDom s slot = 0 then none else some (slotDom s slot - 1, T)
    let s' :=
      if p.state ≠ 2 ∨ p.slot ≠ slot then s
      else
        match applyFail p.shadow at_ s with
        | some fl => applyReject n fl slot T true 2 0
        | none => applySet n p.shadow at_ slot T true 2 0 s
    endDone slot starved s'

/-- An ARMED parameter set belongs to a slot that waits for its first occurrence (R548). -/
def psetQuiet (s : State) (n : Nat) : Bool :=
  !((s.pset n).state == 2 && (slotState s (s.pset n).slot == 0 || (slotRun s (s.pset n).slot).occ != 0))

/-- The trigger in the words of a slot. -/
def slotWords (s : State) (slot : Nat) : Nat :=
  (s.reg (Reg.SLOT_TRIG_LO slot).key).toNat + 2 ^ 32 * (s.reg (Reg.SLOT_TRIG_HI slot).key).toNat

/-- A set whose APPLY_SET occurrence was cancelled or rejected returns to OPEN (R548), and the outcome is logged with the status REJECTED
(R564). -/
def psetSettleOne (n : Nat) (s : State) : State :=
  if psetQuiet s n then s
  else
    let p := s.pset n
    (logRefusal n p.slot (slotWords s p.slot) true 0x02 0x06 2 0 s).putPset n { p with state := 1, shadow := [] }

def psetSettle (s : State) : State := psetSettleOne 3 (psetSettleOne 2 (psetSettleOne 1 (psetSettleOne 0 s)))

/-! ## COUNTER_SNAPSHOT -/

/-- A COUNTER_SNAPSHOT occurrence executes (R661): the staging set counters are copied and a snapshot is triggered. -/
def snapSlot (slot : Nat) (starved : Bool) (s : State) : State :=
  if slotState s slot ≠ 2 then s
  else
    let s := (List.range 4).foldl (fun s j =>
      (List.range 36).foldl (fun s i => s.setReg (0xF0C00 + 0x100 * j + 4 * i) (s.reg (0xF0800 + 0x100 * j + 4 * i))) s) s
    let r := snapTrigger 4 (slotDom s slot) slot (slotTrig s slot) 0 (slotArg s slot % 2 == 1) s
    endDone slot starved (if r.2 then raise (fev FK.PMR_SNAP_OVERRUN 0x04 0 0) r.1 else r.1)

/-- The actions compared at the ingest stage (X, FX) or the Lens input (F): APPLY_SET and COUNTER_SNAPSHOT. -/
def ingestAction (slot : Nat) (s : State) : State :=
  if slotAct s slot = 3 then applySlot slot false s else if slotAct s slot = 7 then snapSlot slot false s else s

/-- Run the due APPLY_SET and COUNTER_SNAPSHOT occurrences of a domain code at a count (R69, R72). -/
def ingestDue (dom cnt : Nat) (s : State) : State :=
  runDue dom cnt (fun a _ => a == 3 || a == 7) ingestAction s

end Sys2Proof.Machine
end

