-- ==== Sys2Proof/Machine/Ingest.lean ====
section
/-! DEFINITION. Sys2Proof/Machine/Ingest.lean: what becomes of a whole packet or a count marker that a receive lane delivers: the
ingest stage (R281, R282, R725) and the Lens inputs (R167 to R172). -/
namespace Sys2Proof.Machine

/-- Actions due at the ingest stage before a sample of domain d and count n (R62, R69, R191). -/
def preIngest (d n : Nat) (s : State) : State := ingestDue (d + 1) (n * chanF s) s

/-- Actions due at the Lens input before raw count n of domain d: the TABLE_SWAP of the Lens coefficients, and in F personality
APPLY_SET. -/
def preLens (d n : Nat) (s : State) : State :=
  runDue (d + 1) n (fun a t => (a == 2 && t == 0x1100) || (s.actsF && a == 3))
    (fun slot s => if slotAct s slot = 2 then lensSwapSlot slot false s else ingestAction slot s) s

/-- COUNTER_SNAPSHOT occurrences of domain d in F whose every raw sample below the count has come (R191). (DEDUCED, log 140.) -/
def snapLens (d : Nat) (s : State) : State :=
  if !s.actsF then s
  else runDue (d + 1) ((passage s tgtLensIn d).getD 0) (fun a _ => a == 7)
    (fun slot s => if lensReached s (slotWhen s slot) then snapSlot slot false s else s) s

/-- A packet of C4 or C8 samples is staged, one time step at a time (R288); a step that finds STG_CTRL.EN at 0 is counted unmapped
(R725). -/
def stagePacket (l : Nat) (d : Desc) (area : List Byte) (s : State) : State :=
  stageEnd ((List.range (dTimes d)).foldl (fun s t =>
    let n := dCount d + t
    let s := reach tgtIngest (dDomain d) n (preIngest (dDomain d) n s)
    if s.flag Reg.STG_CTRL_EN then stageStep l d area t s else laneUnmapped l (dInputs d * dChans d) s) s)

/-- A packet reaches the ingest stage (R281, R282, R307, R402, R725). `capOk`: the capture writer can write it (R310). -/
def ingestPacket (l : Nat) (d : Desc) (area : List Byte) (sec ns : Nat) (capOk : Bool) (s : State) : State :=
  let s := capPacket 0 l d area sec ns capOk s
  if dFormat d ≤ 1 ∧ s.isX ∧ !dDump d then stagePacket l d area s
  else if !s.flag Reg.STG_CTRL_EN then laneUnmapped l (dSamples d) s
  else if dDump d ∧ s.isX then relayPacket l d area sec ns s
  else if dFormat d = 5 ∧ !dDump d then canPartial d area s
  else laneFmt l (dSamples d) s

/-- A packet reaches its Lens input (R169, R308). -/
def lensDeliver (l : Nat) (d : Desc) (area : List Byte) (sec ns : Nat) (capOk : Bool) (s : State) : State :=
  if lensAccepts s l d then lensPacket l d area (fun n s => preLens (dDomain d) n s) (snapLens (dDomain d)) (capPacket 1 l d area sec ns capOk s)
  else lensReject l d s

/-- A whole packet of a receive lane is delivered. -/
def deliverPacket (l : Nat) (d : Desc) (area : List Byte) (sec ns : Nat) (capOk : Bool) (s : State) : State :=
  if lensLane s l then lensDeliver l d area sec ns capOk s else ingestPacket l d area sec ns capOk s

/-- A count marker of a receive lane is delivered (R119, R172, R722). On LG8 to LG15 of FX, where it names no position, and while
STG_CTRL.EN is 0 it moves P and executes what is due all the same. -/
def deliverMarker (l : Nat) (d : Desc) (s : State) : State :=
  let dom := dDomain d
  if lensLane s l then
    if lensAccepts s l d then snapLens dom (lensMarker l (dCount d) dom (preLens dom (dCount d) s)) else lensReject l d s
  else
    let s := reachMarker tgtIngest dom (dCount d) (preIngest dom (dCount d) s)
    if s.flag Reg.STG_CTRL_EN ∧ s.isX then stageMarker l d s else s

/-- A descriptor passed as discarded is accounted with the actions due at its counts. -/
def passLost (l : Nat) (d : Desc) (s : State) : State := ingestLost preIngest l d s

/-- The descriptors that commits of this command discarded reach the ingest stage; a commit due at one of their counts may discard
more. -/
def settleLost : Nat → State → State
  | 0, s => s
  | n + 1, s =>
    match s.links.lost with
    | [] => s
    | (l, d) :: r => settleLost n (passLost l d { s with links := { s.links with lost := r } })

end Sys2Proof.Machine
end

