-- ==== Sys2Proof/Machine/LampRun.lean ====
section
/-! DEFINITION. Sys2Proof/Machine/LampRun.lean: a lamp at work: the issue of an instruction, interrupts, run control, the SOUT port,
the outbox and the debug port (05_lamps.md, 06_lamp_isa.md). -/
namespace Sys2Proof.Machine

/-! ## Special registers (R207, R268) -/

/-- A special register as a program or the debug port reads it. CYCLE is the core clock's count since device reset with the lamp's own
offset (DESIGN CHOICE, log 134). -/
def specRead (n k : Nat) (s : State) : Nat × State :=
  let l := s.lamp n
  match k with
  | 0x45 => (l.intPend, s)
  | 0x54 => (match l.events with | v :: _ => v % 65536 + 65536 | [] => 0, s)
  | 0x57 => (cycleOf n s, s)
  | 0x58 => (l.portst, s)
  | 0x59 => (n, s)
  | 0x5A => (b2n l.fetchJob.isSome + 2 * (l.sp 0x5A / 2 % 2), s)
  | _ => (l.sp k, s)

/-- The read side effects of EVT, DBV and FETCHST. -/
def specReadEffect (n k : Nat) (s : State) : State :=
  let l := s.lamp n
  match k with
  | 0x54 => s.setLamp n { l with events := l.events.drop 1 }
  | 0x55 => s.setLamp n { l with doorbell := false }
  | 0x5A => s.setLamp n { l with fetchDone := false }
  | _ => s

/-! ## Small helpers of the instructions -/

def updLamp (n : Nat) (f : Lamp → Lamp) (s : State) : State := s.setLamp n (f (s.lamp n))

/-- The cycle in which lamp n issues an instruction: its clock counts, and the results due land. -/
def issueTick (n : Nat) (s : State) : State := landTick n (updLamp n (Lamp.clock 1) s)

/-- A class-A result into an S register, with or without flags. -/
def putS (n d v : Nat) (s : State) : State := updLamp n (fun l => l.fly 1 (.sreg d (v % 2 ^ 36)) false) s

/-- Z, N, C and V (R255). -/
def putFlags (n r : Nat) (c v : Bool) (s : State) : State :=
  updLamp n (fun l => l.fly 1 (.flags (b2n (r % 2 ^ 36 == 0) + 2 * b2n (r.testBit 35) + 4 * b2n c + 8 * b2n v)) false) s

/-- Sum of two 36-bit values with its flags (R255, R275). -/
def addFlags (n d x y : Nat) (s : State) : State :=
  let r := (x + y) % 2 ^ 36
  let v := outS 36 (sext 36 x + sext 36 y)
  putFlags n r (decide (x + y ≥ 2 ^ 36)) v (putS n d r s)

/-- Flags of x − y; `d`: where the difference goes, if anywhere. -/
def subFlags (n : Nat) (d : Option Nat) (x y : Nat) (s : State) : State :=
  let r := (x + 2 ^ 36 - y) % 2 ^ 36
  let s := match d with | some d => putS n d r s | none => s
  putFlags n r (decide (x ≥ y)) (outS 36 (sext 36 x - sext 36 y)) s

def logicOp (n d r : Nat) (s : State) : State := putFlags n r false false (putS n d r s)

/-- A shift of a 36-bit value: result and last bit shifted out. -/
def shiftOp (n d : Nat) (r : Nat) (out : Bool) (s : State) : State := putFlags n r out false (putS n d r s)

/-- A class-A lane-wise result into a V register (R252). -/
def putV (n d : Nat) (x : List Int) (s : State) : State :=
  let r := satLanes 18 x
  updLamp n (fun l => l.fly 1 (.vreg d r.1) r.2) s

/-- A lane-wise operation on 18-bit patterns. -/
def putVBits (n d : Nat) (x : List Nat) (s : State) : State := updLamp n (fun l => l.fly 1 (.vreg d x) false) s

def zipLanes (f : Int → Int → Int) (a b : List Int) : List Int := (List.range 16).map fun j => f (a.getD j 0) (b.getD j 0)
def zipBits (f : Nat → Nat → Nat) (a b : List Nat) : List Nat := (List.range 16).map fun j => f (a.getD j 0) (b.getD j 0)

/-- The 16 words of the data row of an effective address (R257, R259). -/
def dataRow (s : State) (n ea : Nat) : List Nat := (List.range 16).map fun j => dmemWord s n (ea % 2 ^ 17 / 16 * 16 + j)

/-- The coefficient word at a program address (R240, R257). -/
def coefWord (s : State) (n a : Nat) : Nat := cmemWord s n (cmemIndex s n (a % 2 ^ 15))

def coefRow (s : State) (n ea : Nat) : List Nat := (List.range 16).map fun j => coefWord s n (ea % 2 ^ 15 / 16 * 16 + j)

/-- PEMPTY, PHDR and PMARK after a SIN read (R230, R262). -/
def portFlagsOf (r : Option Record) : Nat :=
  match r with
  | none => 1
  | some r => if r.kind = 0 then 2 else if r.kind = 1 then 4 else 0

/-- Pop SIN with its flags in flight; an empty read is a counted event. -/
def sinRead (n : Nat) (s : State) : Option Record × State :=
  let r := sinPop n s
  let s := if r.1.isNone then perfEvent (bankLmp n) 0x12 1 r.2 else r.2
  (r.1, updLamp n (fun l => l.fly 3 (.portFlags (portFlagsOf r.1)) false) s)

/-- Queue a record for SOUT, ready `w` issues on (R263). -/
def soutQueue (n w : Nat) (r : Record) (s : State) : State := updLamp n (fun l => { l with soutPend := l.soutPend ++ [(r, w)] }) s

/-- OBX (R235). -/
def obxPush (n a : Nat) (s : State) : State :=
  let l := s.lamp n
  if l.outbox.length < 256 then (s.setLamp n { l with outbox := l.outbox ++ [l.vNats a] }).produce (0x40 + n) 1
  else raise (fev FK.LMP_OBX_OVERFLOW (lampSrc n) 2 (lampPc s n)) (s.incF (Reg.LMP_CNT_OBX_DROP n) 1)

/-- FETCH (R272, R273). -/
def fetchStart (n : Nat) (a b aa rows dir pk : Nat) (s : State) : State :=
  let l := s.lamp n
  let bus := l.s b % 2 ^ 12 * 2 ^ 36 + l.s a
  if bus % 4 ≠ 0 ∨ l.fetchJob.isSome then
    let l := { l.setSp 0x5A 2 with fetchDone := l.fetchDone || l.fetchJob.isNone }
    raise (fev FK.LMP_FETCH_ERR (lampSrc n) 2 (lampPc s n)) (s.setLamp n l)
  else
    s.setLamp n { l.setSp 0x5A 0 with
      fetchJob := some { bus := bus, row := l.a aa % 2 ^ 17 / 16, rows := if rows = 0 then 64 else rows, toBus := dir == 1, p9 := pk == 1 } }

/-! ## The effect of an instruction -/

/-- After the memory checks of an access to a word or a row: its effect, or nothing when the lamp halts (R214). -/
def withCheck (n chk : Nat) (row : Bool) (w err : Nat) (f : State → State) (s : State) : State :=
  let r := lampEcc n chk row w err s
  if r.1 then r.2 else f r.2

/-- A load from data memory into V or S with its post-modify. -/
def loadData (n : Nat) (row : Bool) (m : MemOp) (err : Nat) (dest : State → LandDest) (s : State) : State :=
  withCheck n 0 row ((s.lamp n).ea m % 2 ^ 17) err
    (fun s => updLamp n (fun l => (l.fly 3 (dest s) false).modify m) s) s

def loadCoef (n : Nat) (row : Bool) (m : MemOp) (err : Nat) (dest : State → LandDest) (s : State) : State :=
  withCheck n 1 row (cmemIndex s n ((s.lamp n).ea m % 2 ^ 15)) err
    (fun s => updLamp n (fun l => (l.fly 3 (dest s) false).modify m) s) s

/-- A store into data memory, landing for loads two issues on. -/
def storeData (n : Nat) (m : MemOp) (ws : List (Nat × Nat)) (s : State) : State :=
  updLamp n (fun l => (l.fly 2 (.words ws) false).modify m) s

/-- The multiply of MUL and XMUL (R253, R271, R279). -/
def mulLanes (cx : Bool) (cj sh : Nat) (a b : List Int) : List Nat × Bool :=
  satLanes 18 ((productLanes cx cj a b).map fun x => roundEven x sh)

/-- XMUL (R271). (DEDUCED, log 53.) -/
def xmulRun (n sh cj : Nat) (m : MemOp) (err : Nat) (s : State) : State :=
  let r := sinRead n s
  match r.1 with
  | none => r.2
  | some rec_ =>
    if rec_.kind ≠ 2 then soutQueue n 5 rec_ r.2
    else
      withCheck n 1 true (cmemIndex r.2 n ((r.2.lamp n).ea m % 2 ^ 15)) err (fun s =>
        let l := s.lamp n
        let c := (coefRow s n (l.ea m)).map fun v => sext 18 v
        let x := mulLanes l.cmplx cj sh (rec_.lanes.map fun v => sext 18 v) c
        let s := soutQueue n 5 { rec_ with lanes := x.1 } s
        updLamp n (fun l => (l.fly 5 .none x.2).modify m) s) r.2

/-- SRCH (R269). -/
def srchLanes (l : Lamp) (d aa : Nat) : List Int :=
  let acc := l.accIn 3
  (List.range 16).map fun j =>
    let v := (l.vInts d).getD j 0
    let a := wrap 48 (acc.getD j 0)
    let c := sext 24 a
    if (if l.statusBit 3 then decide (v > c) else decide (v < c)) then
      sext 48 (l.a aa * 2 ^ 24 + wrap 24 v)
    else acc.getD j 0

/-- Terms of PWR (R279). -/
def pwrTerms (l : Lamp) (a : Nat) : List Int :=
  let x := l.vInts a
  (List.range 16).map fun j =>
    let v := x.getD j 0
    if l.cmplx then (if j % 2 = 0 then v * v + x.getD (j + 1) 0 * x.getD (j + 1) 0 else 0) else v * v

/-- What an instruction does beside control flow; `err`: what the memory check of its access finds (R214).
(DEDUCED, log 52; DEDUCED, log 113.) -/
def lampExec (n : Nat) (op : LampOp) (err : Nat) (s : State) : State :=
  let l := s.lamp n
  let A (f : Lamp → Lamp) : State := updLamp n f s
  match op with
  | .nop => s
  | .halt => s
  | .b _ _ => s
  | .call _ => putS n 15 ((lampPc s n + 3) % 2 ^ 13) s
  | .jr _ _ => s
  | .reti => s
  | .loop k e c => A fun l => l.fly 3 (.loop k ((lampPc s n + 3) % 2 ^ 13) e c) false
  | .loopReg k e a => A fun l => l.fly 3 (.loop k ((lampPc s n + 3) % 2 ^ 13) e (l.s a % 2 ^ 16)) false
  | .add d a b => addFlags n d (l.s a) (l.s b) s
  | .sub d a b => subFlags n (some d) (l.s a) (l.s b) s
  | .and d a b => logicOp n d (l.s a &&& l.s b) s
  | .or d a b => logicOp n d (l.s a ||| l.s b) s
  | .xor d a b => logicOp n d (l.s a ^^^ l.s b) s
  | .lsl d a c => shiftOp n d ((l.s a * 2 ^ c) % 2 ^ 36) (c != 0 && decide (c ≤ 36) && (l.s a).testBit (36 - c)) s
  | .asr d a c => shiftOp n d (wrap 36 (sext 36 (l.s a) >>> c)) (c != 0 && (l.s a).testBit (min (c - 1) 35)) s
  | .lsr d a c => shiftOp n d (l.s a / 2 ^ c) (c != 0 && (l.s a).testBit (c - 1)) s
  | .addImm d a imm => addFlags n d (l.s a) (wrap 36 (sext 18 imm)) s
  | .movImm d imm => putS n d (wrap 36 (sext 18 imm)) s
  | .movh d imm => putS n d (imm * 2 ^ 18 + l.s d % 2 ^ 18) s
  | .cmp a b => subFlags n none (l.s a) (l.s b) s
  | .cmpImm a imm => subFlags n none (l.s a) (wrap 36 (sext 18 imm)) s
  | .getl d a k => putS n d (wrap 36 ((l.vInts a).getD k 0)) s
  | .setl d a k => putVBits n d ((l.vNats d).set k (l.s a % 2 ^ 18)) s
  | .rsum d ac sh x =>
    let acc := (l.accLanes ac).map fun v => sext 48 v
    let sum := ((List.range 16).map fun j => if x = 0 ∨ j % 2 = x - 1 then acc.getD j 0 else 0).sum
    let r := roundEven sum sh
    A fun l => l.fly 2 (.sreg d (wrap 36 (satS 36 r))) (outS 36 r)
  | .geta d ac k x =>
    let v := (l.accLanes ac).getD k 0
    putS n d (if x = 0 then v % 2 ^ 36 else if x = 1 then v / 2 ^ 12 else if x = 2 then wrap 36 (sext 24 v) else v / 2 ^ 24) s
  | .obx a => obxPush n a s
  | .addAImm p imm => A fun l => l.setA p (wrap 24 ((l.a p : Int) + sext 18 imm))
  | .movAS p q => A fun l => l.setA p (l.s q)
  | .movSA p q => putS n q (l.a p) s
  | .movMS p q => A fun l => l.setM p (l.s q)
  | .movAImm p imm => A fun l => l.setA p imm
  | .movlM p imm => A fun l => l.setM p (l.m p / 2 ^ 12 * 2 ^ 12 + imm)
  | .movhM p imm => A fun l => l.setM p (imm * 2 ^ 12 + l.m p % 2 ^ 12)
  | .mts d sp => if specReadOnly sp then s else A fun l => l.fly 3 (.spec sp (l.s d)) false
  | .mfs d sp =>
    let r := specRead n sp s
    updLamp n (fun l => l.fly (if sp = 0x54 then 3 else 1) (.sreg d r.1) false) (specReadEffect n sp r.2)
  | .ld d m => loadData n true m err (fun s => .vreg d (dataRow s n (l.ea m))) s
  | .st d m => storeData n m ((List.range 16).map fun j => (l.ea m % 2 ^ 17 / 16 * 16 + j, l.vLane d j)) s
  | .ldc d m => loadCoef n true m err (fun s => .vreg d (coefRow s n (l.ea m))) s
  | .ldcb d m => loadCoef n false m err (fun s =>
      let ea := l.ea m
      let w (j : Nat) : Nat := if l.cmplx then coefWord s n (ea / 2 * 2 + j % 2) else coefWord s n ea
      .vreg d ((List.range 16).map w)) s
  | .ldS d m => loadData n false m err (fun s => .sreg d (wrap 36 (sext 18 (dmemWord s n (l.ea m))))) s
  | .stS d m => storeData n m [(l.ea m % 2 ^ 17, l.s d % 2 ^ 18)] s
  | .ldw d m => loadData n false m err (fun s =>
      let ea := l.ea m % 2 ^ 17 / 2 * 2
      .sreg d (dmemWord s n ea + dmemWord s n (ea + 1) * 2 ^ 18)) s
  | .stw d m =>
    let ea := l.ea m % 2 ^ 17 / 2 * 2
    storeData n m [(ea, l.s d % 2 ^ 18), (ea + 1, l.s d / 2 ^ 18)] s
  | .sin d =>
    let r := sinRead n s
    let lanes := match r.1 with | some x => x.lanes | none => List.replicate 16 0
    updLamp n (fun l => l.fly 3 (.vreg d lanes) false) r.2
  | .sout a => soutQueue n 0 { kind := 2, lanes := l.vNats a } s
  | .pass =>
    let r := sinRead n s
    match r.1 with | some x => soutQueue n 3 x r.2 | none => r.2
  | .xmul sh cj m => xmulRun n sh cj m err s
  | .tap ac d m =>
    withCheck n 0 true (l.ea m % 2 ^ 17) err (fun s =>
      let x := dataRow s n (l.ea m)
      let row := (l.ea m + 16) % 2 ^ 17 / 16 * 16
      updLamp n (fun l =>
        ((l.accumulate ac (productLanes l.cmplx 0 (x.map fun v => sext 18 v) (l.vInts d))).fly 2
          (.words (x.mapIdx fun j v => (row + j, v))) false).modify m) s) s
  | .srch d m => A fun l => (l.fly 2 (.acc 3 ((srchLanes l d m.aa).map fun v => wrap 48 v)) false).modify m
  | .srchi =>
    let c := if l.statusBit 3 then 0x800000 else 0x7FFFFF
    A fun l => l.fly 2 (.acc 3 (List.replicate 16 (0xFFFFFF * 2 ^ 24 + c))) false
  | .fetch a b aa rows dir pk => fetchStart n a b aa rows dir pk s
  | .vadd d a b => putV n d (zipLanes (· + ·) (l.vInts a) (l.vInts b)) s
  | .vsub d a b => putV n d (zipLanes (· - ·) (l.vInts a) (l.vInts b)) s
  | .vmin d a b => putV n d (zipLanes min (l.vInts a) (l.vInts b)) s
  | .vmax d a b => putV n d (zipLanes max (l.vInts a) (l.vInts b)) s
  | .vand d a b => putVBits n d (zipBits (· &&& ·) (l.vNats a) (l.vNats b)) s
  | .vor d a b => putVBits n d (zipBits (· ||| ·) (l.vNats a) (l.vNats b)) s
  | .vxor d a b => putVBits n d (zipBits (· ^^^ ·) (l.vNats a) (l.vNats b)) s
  | .vasr d a sh r => putV n d ((l.vInts a).map fun x => if r = 1 then roundEven x sh else x >>> sh) s
  | .vlsl d a sh => putV n d ((l.vInts a).map fun x => x * 2 ^ sh) s
  | .bcast d a =>
    putVBits n d ((List.range 16).map fun j => if l.cmplx ∧ j % 2 = 1 then l.s a / 2 ^ 18 else l.s a % 2 ^ 18) s
  | .mul d a b sh cj =>
    let r := mulLanes l.cmplx cj sh (l.vInts a) (l.vInts b)
    A fun l => l.fly 2 (.vreg d r.1) r.2
  | .mpy ac a b cj =>
    let r := satLanes 48 (productLanes l.cmplx cj (l.vInts a) (l.vInts b))
    A fun l => l.fly 2 (.acc ac r.1) r.2
  | .mac ac a b cj => A fun l => l.accumulate ac (productLanes l.cmplx cj (l.vInts a) (l.vInts b))
  | .msu ac a b cj => A fun l => l.accumulate ac ((productLanes l.cmplx cj (l.vInts a) (l.vInts b)).map fun v => -v)
  | .pwr ac a => A fun l => l.accumulate ac (pwrTerms l a)
  | .rnd d ac sh =>
    let r := satLanes 18 ((l.accLanes ac).map fun v => roundEven (sext 48 v) sh)
    A fun l => l.fly 1 (.vreg d r.1) r.2

/-! ## Issue -/

/-- Instructions with delay slots (R217). -/
def LampOp.branches : LampOp → Bool
  | .b _ _ => true
  | .call _ => true
  | .jr _ _ => true
  | .reti => true
  | .loop _ _ _ => true
  | .loopReg _ _ _ => true
  | _ => false

/-- An instruction at p is illegal where it stands (R217, R222, R250, R251, R267). -/
def lampOpIllegal (l : Lamp) (p : Nat) (op : LampOp) : Bool :=
  let slot := decide (0 < l.slots)
  let atEnd := l.atLoopEnd p
  !op.valid p ||
  (match op with | .tap _ _ _ => !l.statusBit 2 | .srch _ _ => l.statusBit 2 | .srchi => l.statusBit 2 | _ => false) ||
  (op.branches && (slot || atEnd)) || (op == .halt && (slot || atEnd)) || (slot && atEnd)

/-- Where a taken branch goes after its delay slots; none: on from there (R219, R265, R274). -/
def branchTarget (l : Lamp) (pc : Nat) (op : LampOp) : Option Nat :=
  match op with
  | .b c t => if l.cond c then some t else none
  | .call t => some t
  | .jr c a => if l.cond c then some (l.s a % 2 ^ 13) else none
  | .loop _ e c => if c = 0 then some ((e + 1) % 2 ^ 13) else some ((pc + 3) % 2 ^ 13)
  | .loopReg _ e a => if l.s a % 2 ^ 16 = 0 then some ((e + 1) % 2 ^ 13) else some ((pc + 3) % 2 ^ 13)
  | _ => none

/-- The address after the instruction at pc, with delay slots, RETI and loops (R217, R219, R220, R226). `tgt`: the target it
took when it issued, if it is a branch. -/
def lampAdvance (n pc : Nat) (op : LampOp) (tgt : Option Nat) (s : State) : State :=
  let l := s.lamp n
  if op.branches then
    (s.setLamp n { l with slots := 2, target := tgt, reti := op == .reti, afterReti := false }).setF (Reg.LMP_PC n) (pc + 1)
  else if l.slots = 2 then (s.setLamp n { l with slots := 1, afterReti := false }).setF (Reg.LMP_PC n) (pc + 1)
  else if l.slots = 1 then
    if l.reti then
      let l := { l with slots := 0, target := none, reti := false, afterReti := true }
      (s.setLamp n (l.setSp 0x40 (l.sp 0x42))).setF (Reg.LMP_PC n) (l.sp 0x41)
    else (s.setLamp n { l with slots := 0, target := none, afterReti := false }).setF (Reg.LMP_PC n) (l.target.getD (pc + 1))
  else
    let r := { l with afterReti := false }.loopNext pc
    (s.setLamp n r.1).setF (Reg.LMP_PC n) r.2

/-- The next instruction of lamp n issues (R215 to R222, R245, R267). -/
def issueCore (n : Nat) (op : LampOp) (err : Nat) (s : State) : State :=
  let s := issueTick n s
  let pc := lampPc s n
  if lampOpIllegal (s.lamp n) pc op then lampIllegal n s
  else
    let s := perfEvent (bankLmp n) 0x10 1 s
    if op = .halt then (lampHaltNow n 3 s).setF (Reg.LMP_PC n) (pc + 1)
    else
      let tgt := branchTarget (s.lamp n) pc op
      let s := lampExec n op err s
      if !lampRunning s n then s else lampAdvance n pc op tgt s

/-- The lamp as the decisions at the next boundary see it: with the results that land by then (R215, R218). -/
def lampAtBoundary (n : Nat) (s : State) : Lamp := (landTick n s).lamp n

/-- A pending HALT takes effect at an interruptible boundary (R245). -/
def haltCheck (n : Nat) (s : State) : State :=
  let l := lampAtBoundary n s
  if lampRunning s n ∧ l.haltReq ∧ l.interruptible then lampHaltNow n 1 s else s

/-- An instruction issues on a RUNNING lamp. (DESIGN CHOICE, log 7.) -/
def lampIssue (n : Nat) (op : LampOp) (err : Nat) (s : State) : State :=
  if lampRunning s n then haltCheck n (issueCore n op err s) else s

/-- An illegal word issues (R250). A legal word is not this event. -/
def lampIllegalWord (n w : Nat) (s : State) : State :=
  if !lampRunning s n then s
  else
    let s' := issueTick n s
    match decodeLamp w with
    | none => lampIllegal n s'
    | some op => if lampOpIllegal (s'.lamp n) (lampPc s n) op then lampIllegal n s' else s

/-! ## Run control (R245, R246) -/

def lampRun (n : Nat) (s : State) : State :=
  if lampState s n = 0 then updLamp n (fun l => { l with haltReq := false }) (s.setF (Reg.LMP_STATE_STATE n) 1) else s

def lampHalt (n : Nat) (s : State) : State :=
  if lampRunning s n then haltCheck n (updLamp n (fun l => { l with haltReq := true }) s) else s

/-- The word at LMP_PC issues, its results land, and the lamp halts. -/
def lampStep (n : Nat) (err : Nat) (s : State) : State :=
  if lampState s n ≠ 0 then s
  else
    let s := s.setF (Reg.LMP_STATE_STATE n) 1
    let s := match decodeLamp (mapGet 0 s.lmp.imem (n * 2 ^ 13 + lampPc s n)) with
      | none => lampIllegal n (issueTick n s)
      | some op => issueCore n op err s
    if lampRunning s n then lampHaltNow n 2 s else s

/-- DEDUCED, log 55. -/
def lampReset (n : Nat) (s : State) : State :=
  let s := (lampSwapsDue n s).incF (Reg.LMP_CNT_SIN_FLUSH n) (s.lamp n).sin.length
  let s := match (s.lamp n).fetchJob with
    | none => s
    | some j => { s with lmp := { s.lmp with cut := s.lmp.cut ++ [(n, j)] } }
  let s := ((setLampState n 0 0 s).setF (Reg.LMP_PC n) 0).unproduce (0x40 + n) (s.lamp n).outbox.length 0xFF
  s.setLamp n { Lamp.reset with cycleOff := (2 ^ 36 - s.lmp.coreCycles % 2 ^ 36) % 2 ^ 36 }

/-- A write of LMP_DOORBELL (R223). -/
def lampDoorbell (n v : Nat) (s : State) : State := updLamp n (fun l => { l.setSp 0x55 v with doorbell := true }) s

/-- TIMER reaches zero: the cycles it still had to count pass at the lamp (R207, R223). -/
def lampTimerExpiry (n : Nat) (s : State) : State :=
  let k := (s.lamp n).sp 0x56
  if k = 0 then s else updLamp n (Lamp.clock k) s

/-- An interrupt is taken (R224 to R226). -/
def lampInterrupt (n : Nat) (s : State) : State :=
  let l := lampAtBoundary n s
  if !lampRunning s n ∨ !l.statusBit 0 ∨ l.intPend &&& l.sp 0x44 = 0 ∨ !l.interruptible ∨ l.afterReti then s
  else
    let s := landAll n s
    let l := s.lamp n
    let active := b2n (l.sp 0x50 != 0) + 2 * b2n (l.sp 0x51 != 0) + 4 * b2n (l.sp 0x52 != 0)
    let l := (l.setSp 0x42 l.status).setSp 0x41 (lampPc s n)
    let l := ((l.setStatus 0 0 0).setStatus 4 4 1).setStatus 7 5 active
    (perfEvent (bankLmp n) 0x15 1 (s.setLamp n l)).setF (Reg.LMP_PC n) (l.sp 0x43)

/-! ## The debug port (R205 and its register section) -/

def dbgOpen (s : State) (n : Nat) : Bool := lampState s n != 1

/-- The selected register's value. (DEDUCED, log 111.) -/
def dbgValue (n : Nat) (s : State) : Nat × State :=
  let l := s.lamp n
  let r := s.f (Reg.LMP_DBG_SEL_REG n)
  let k := s.f (Reg.LMP_DBG_SEL_LANE n)
  if !dbgOpen s n then (0, s)
  else if r < 0x10 then (l.vLane r k, s)
  else if r < 0x14 then ((l.accLanes (r - 0x10)).getD k 0, s)
  else if 0x20 ≤ r ∧ r < 0x30 then (l.s (r - 0x20), s)
  else if 0x30 ≤ r ∧ r < 0x38 then (l.a (r - 0x30), s)
  else if 0x38 ≤ r ∧ r < 0x40 then (l.m (r - 0x38), s)
  else if isSpecial r then specRead n r s
  else (0, s)

/-- A write of LMP_DBG_DATA_LO stores the whole value. -/
def dbgWrite (n lo : Nat) (s : State) : State :=
  if !dbgOpen s n then s
  else
    let s := s.setF (Reg.LMP_DBG_DATA_LO n) lo
    let v := lo % 2 ^ 32 + 2 ^ 32 * s.f (Reg.LMP_DBG_DATA_HI n)
    let r := s.f (Reg.LMP_DBG_SEL_REG n)
    let k := s.f (Reg.LMP_DBG_SEL_LANE n)
    updLamp n (fun l =>
      if r < 0x10 then { l with v := mapSet 0 l.v (r * 16 + k) (v % 2 ^ 18) }
      else if r < 0x14 then { l with acc := mapSet 0 l.acc ((r - 0x10) * 16 + k) (v % 2 ^ 48) }
      else if 0x20 ≤ r ∧ r < 0x30 then l.setS (r - 0x20) v
      else if 0x30 ≤ r ∧ r < 0x38 then l.setA (r - 0x30) v
      else if 0x38 ≤ r ∧ r < 0x40 then l.setM (r - 0x38) v
      else if isSpecial r ∧ !specReadOnly r then (if r = 0x56 then { l.setSp r v with timerPend := false } else l.setSp r v)
      else l) s

/-! ## The outbox read port (R235) -/

/-- An aligned 64-byte read by master m pops the oldest entry. -/
def outboxRead (m n : Nat) (s : State) : List Byte × State :=
  let l := s.lamp n
  match l.outbox with
  | [] => (List.replicate 64 0, s.incF (Reg.LMP_CNT_OBX_UNDER n) 1)
  | e :: r => (e.flatMap fun v => leBytes 4 (wrap 32 (sext 18 v)), (s.setLamp n { l with outbox := r }).unproduce (0x40 + n) 1 m)

/-! ## SOUT (R231 to R234, R263, R264) -/

def hdrCount (h : List Nat) : Nat :=
  h.getD 0 0 % 2 ^ 16 + 2 ^ 16 * (h.getD 1 0 % 2 ^ 16) + 2 ^ 32 * (h.getD 2 0 % 2 ^ 16) + 2 ^ 48 * (h.getD 3 0 % 2 ^ 16)
def hdrChan (h : List Nat) : Nat := h.getD 5 0 % 2 ^ 16 + 2 ^ 16 * (h.getD 6 0 % 2)
def hdrDomain (h : List Nat) : Nat := h.getD 4 0 / 16 % 4

/-- Elements of a finished part, input fastest. -/
def partElems (p : SoutPart) (count : Nat) : List (Int × Int) :=
  let lanes := p.data.flatMap id
  (List.range count).map fun e => (sext 18 (lanes.getD (2 * e) 0), sext 18 (lanes.getD (2 * e + 1) 0))

/-- An FX part enters the Candelabra feed (R306). -/
def feedPart (part : LampPart) (overload : Bool) (s : State) : State :=
  let ins := ((lensInputs s).take part.inputs).mapIdx fun x i => (x, i)
  (List.range part.chans).foldl (fun s c => ins.foldl (fun s x =>
    let g := s.f (Reg.LENS_IN_CFG_INPUT_ID x.2)
    let rd := mapVersion s part.domain g part.count
    match mapLookup rd part.domain g with
    | none => s
    | some (j, q) =>
      if !s.flag (Reg.SET_CFG_BEAM j) then s
      else
        match chanIndex rd s j (part.first + c) with
        | none => s
        | some k =>
          let m := part.marks.getD x.1 0
          canFeed j (q - s.f (Reg.SET_PLACE_POS_FIRST j)) k part.count (part.elems.getD (c * part.inputs + x.1) (0, 0))
            (m % 2 == 0) (m.testBit 3) (m.testBit 1) overload s) s) s

/-- A finished part goes to its consumer (R231, R233, R298, R301). -/
def soutDeliver (n : Nat) (p : SoutPart) (overload : Bool) (s : State) : State :=
  let h := p.header
  let inputs := h.getD 8 0
  let chans := h.getD 7 0
  let stale := s.flag (Reg.LMP_COEF_STATUS_STALE n)
  let raw := (p.marks.flatMap id).take inputs
  if s.isX then verdictPart h raw s
  else
    let marks := raw.mapIdx fun i m =>
      m % 16 ||| (if p.satInputs.contains i then 2 else 0) ||| (if stale then 4 else 0)
    let elems := partElems p (inputs * chans)
    let elems := if s.isFX then elems else
      elems.mapIdx fun e v => if marks.getD (e % max 1 inputs) 0 % 2 = 0 then (0, 0) else v
    let part : LampPart := { count := hdrCount h, domain := hdrDomain h, first := hdrChan h, chans := chans, inputs := inputs,
                             marks := marks, elems := elems }
    if s.isFX then
      if !s.flag Reg.STG_CTRL_EN then s
      else
        let s := reach tgtIngest part.domain part.count (preIngest part.domain part.count s)
        feedPart part overload (stagePart part s)
    else if s.flag Reg.EGR_CTRL_EN then { s with lmp := { s.lmp with egrParts := s.lmp.egrParts ++ [part] } }
    else s

/-- A data record's lanes saturated to OUT_W in F and FX personality, with the inputs whose elements saturated (R231). `first`:
number of its first element. -/
def soutData (s : State) (n first inputs total : Nat) (lanes : List Nat) : List Nat × List Nat :=
  if s.isX then (lanes, [])
  else
    let w := if s.flag (Reg.LMP_PORT_CFG_OUT_W n) then 8 else 4
    let out := lanes.map fun v => wrap 18 (satS w (sext 18 v))
    let hit := (List.range 8).filter fun e => decide (first + e < total) &&
      (outS w (sext 18 (lanes.getD (2 * e) 0)) || outS w (sext 18 (lanes.getD (2 * e + 1) 0)))
    (out, hit.map fun e => (first + e) % max 1 inputs)

/-- One record enters SOUT. (DEDUCED, log 57.) -/
def soutEnter (n : Nat) (r : Record) (overload : Bool) (s : State) : State :=
  if !s.flag (Reg.LMP_PORT_CFG_SOUT_EN n) then s
  else
    let l := s.lamp n
    let drop (s : State) : State := s.incF (Reg.LMP_CNT_SOUT_DROP n) 1
    -- the record's place in its part (R264)
    let p : SoutPart := match l.soutPart with
      | some p => p
      | none => { header := [], marks := [], data := [], marksLeft := 0, dataLeft := 0, satInputs := [], discard := false }
    let fresh := l.soutPart.isNone
    let total := p.header.getD 7 0 * p.header.getD 8 0
    let full := decide (l.sout.length ≥ 512)
    -- R232
    let order := fresh && (match (l.soutLast.find? fun x => x.1 == hdrChan r.lanes) with
      | some x => decide (hdrCount r.lanes < x.2) | none => false)
    let sat := if !fresh && p.marksLeft == 0 then
        soutData s n (8 * p.data.length) (p.header.getD 8 0) total r.lanes else (r.lanes, [])
    let p' : SoutPart :=
      if fresh then
        { p with header := r.lanes, marksLeft := ceilDiv (r.lanes.getD 8 0) 16,
                 dataLeft := ceilDiv (r.lanes.getD 8 0 * r.lanes.getD 7 0) 8, discard := order }
      else if p.marksLeft > 0 then { p with marks := p.marks ++ [r.lanes], marksLeft := p.marksLeft - 1 }
      else { p with data := p.data ++ [sat.1], dataLeft := p.dataLeft - 1, satInputs := p.satInputs ++ sat.2 }
    let done := p'.marksLeft == 0 && p'.dataLeft == 0
    let keep := if done then none else some p'
    if fresh && order then
      raise (fev FK.LMP_OUT_ORDER (lampSrc n) 2 (lampPc s n)) (drop (s.setLamp n { l with soutPart := keep }))
    else if p'.discard then s.setLamp n { l with soutPart := keep }
    else if full then
      let s := (drop s).setF (Reg.LMP_PORT_STATUS_SOUT_OVF n) 1
      raise (fev FK.LMP_SOUT_OVERFLOW (lampSrc n) 2 (lampPc s n))
        (s.setLamp n { l with sout := [], soutPart := keep.map fun q => { q with discard := true } })
    else
      let s := s.incF (Reg.LMP_CNT_OUT_SAT n) sat.2.length
      let last := if fresh then (l.soutLast.filter fun x => x.1 != hdrChan r.lanes) ++ [(hdrChan r.lanes, hdrCount r.lanes)] else l.soutLast
      let s := s.setLamp n { l with sout := if done then [] else l.sout ++ [{ r with lanes := sat.1 }], soutPart := keep, soutLast := last }
      if done then soutDeliver n p' overload s else s

/-- SOUT_RECORD_ENTER: the oldest produced record that is ready enters (R263). -/
def soutRecordEnter (n : Nat) (overload : Bool) (s : State) : State :=
  let l := s.lamp n
  match l.soutPend with
  | (r, 0) :: rest => soutEnter n r overload (s.setLamp n { l with soutPend := rest })
  | _ => s

end Sys2Proof.Machine
end

