-- ==== Sys2Proof/Machine/MemBus.lean ====
section
/-! DEFINITION. Sys2Proof/Machine/MemBus.lean: the memory targets of the bus matrix (13_fabric.md): routing, the reach of
each master, and reads and writes of every region but the register pages. -/
namespace Sys2Proof.Machine

/-! ## Routing (R16, R479, R481) -/

/-- The base and size of each region of the address map, by its target number. -/
def regionSpan (t : Nat) : Nat × Nat :=
  if t = 0 then (0, 0x40000) else if t = 1 then (0x10000000, 0x10000) else if t = 2 then (0x11000000, 0x80000)
  else if t = 3 then (0x20000000, 0x1000000) else if t = 4 then (0x40000000, 0x10000000)
  else if t = 5 then (0x100000000, 0x4000000) else if t = 6 then (0x200000000, 0x20000000)
  else if t = 7 then (0x400000000, 0x8000000) else (0x1000000000, 0x1000000000)

/-- The target an address routes to; an access must lie within one region. -/
def routeTo (addr n : Nat) : Option Nat :=
  if 2 ^ 63 ≤ addr then some 9
  else (List.range 9).find? fun t => decide ((regionSpan t).1 ≤ addr) && decide (addr + n ≤ (regionSpan t).1 + (regionSpan t).2)

/-- Whether a master reaches a target (R17, R479, R480). -/
def masterReach (m t : Nat) (write : Bool) : Bool :=
  let fast := t != 4 && t != 0 && t != 9
  if m = 0x00 then t != 9 && !(write && t == 4)
  else if m = 0x01 then t != 9
  else if m = 0x02 then fast || t == 4
  else if m = 0x03 ∨ m = 0x23 then t == 8
  else if 0x08 ≤ m ∧ m ≤ 0x0F then fast || (t == 4 && !write)
  else if 0x10 ≤ m ∧ m ≤ 0x1F then t != 0
  else if m = 0x20 then fast || t == 4
  else if m = 0x21 ∨ m = 0x22 then fast || (t == 4 && !write)
  else false

/-- Masters of R479. -/
def isMaster (m : Nat) : Bool := decide (m ≤ 3) || (decide (8 ≤ m) && decide (m ≤ 0x23))

/-- Carry out a check for each of `n` words, word i with the error of digit i of `err`; whether all passed. -/
def checkEach (n err : Nat) (one : Nat → Nat → State → Bool × State) (s : State) : Bool × State :=
  (List.range n).foldl (fun (a : Bool × State) i =>
    let r := one i (errDigit err i) a.2
    (a.1 && r.1, r.2)) (true, s)

/-! ## Lamp memories (R208 to R214, R235, R241) -/

/-- The check of a group of four words that a bus read meets: a double error gives an error response. -/
def lampBusCheck (n chk w err access master : Nat) (s : State) : Bool × State :=
  let ((e, inj), s) := lampCheck n chk err s
  let ev (k : Nat) : FaultEv :=
    { kind := k, src := lampSrc n, sub := chk, addr := lampWordAddr n chk w, access := access, master := master, injected := inj }
  if e = 1 then (true, raise (ev FK.LMP_MEM_CE) (s.incF (Reg.LMP_CNT_ECC_CORR n) 1))
  else if e ≥ 2 then (false, raise (ev FK.LMP_MEM_UE) s)
  else (true, s)

/-- Byte k of a word in its W32 view (R209). -/
def w32Byte (w k : Nat) : Byte := BitVec.ofNat 8 (wrap 32 (sext 18 w) >>> (8 * k))

/-- A native word with one byte of its W32 view written. -/
def w32Put (w k : Nat) (b : Byte) : Nat :=
  if k ≥ 3 then w
  else (setBits (BitVec.ofNat 32 w) (8 * k + 7) (8 * k) b.toNat).toNat % 2 ^ 18

/-- Byte r of the 72-bit group g of the P9 view of a lamp's data memory (R210). -/
def p9Byte (s : State) (n g r : Nat) : Byte :=
  BitVec.ofNat 8 ((List.range 8).foldl (fun a i =>
    let b := 8 * r + i
    a + b2n ((dmemWord s n (4 * g + b / 18)).testBit (b % 18)) * 2 ^ i) 0)

/-- Put one byte of the P9 view: exactly the bits of the byte. -/
def p9Put (n g r : Nat) (v : Byte) (m : List (Nat × Nat)) : List (Nat × Nat) :=
  (List.range 8).foldl (fun m i =>
    let b := 8 * r + i
    let k := n * 2 ^ 17 + (4 * g + b / 18) % 2 ^ 17
    let w := mapGet 0 m k
    let w' := if w.testBit (b % 18) = v.toNat.testBit i then w else w ^^^ 2 ^ (b % 18)
    mapSet 0 m k w') m

def imemWord (s : State) (n w : Nat) : Nat := mapGet 0 s.lmp.imem (n * 2 ^ 13 + w % 2 ^ 13)

/-- The part of a lamp window an access lies in (R208): 0 data W32, 1 coefficients, 2 instructions, 3 outbox, 4 data P9, 5
none. -/
def lampPart (o n : Nat) : Nat :=
  if o + n ≤ 0x80000 then 0 else if 0x80000 ≤ o ∧ o + n ≤ 0xA0000 then 1 else if 0xA0000 ≤ o ∧ o + n ≤ 0xA8000 then 2
  else if 0xA8000 ≤ o ∧ o + n ≤ 0xB0000 then 3 else if 0xB0000 ≤ o ∧ o + n ≤ 0xF8000 then 4 else 5

def lampMemRead (master access n o len err : Nat) (s : State) : ReadAns × State :=
  let p := lampPart o len
  if p = 0 then
    let (ok, s) := checkEach ((o + len - 1) / 16 + 1 - o / 16) err (fun i e => lampBusCheck n 0 (o / 16 * 4 + 4 * i) e access master) s
    ((ok, if ok then (List.range len).map fun i => w32Byte (dmemWord s n ((o + i) / 4)) ((o + i) % 4) else zeros len), s)
  else if p = 1 then
    let q := o - 0x80000
    let (ok, s) := checkEach ((q + len - 1) / 16 + 1 - q / 16) err (fun i e => lampBusCheck n 1 (q / 16 * 4 + 4 * i) e access master) s
    ((ok, if ok then (List.range len).map fun i => w32Byte (cmemWord s n ((q + i) / 4)) ((q + i) % 4) else zeros len), s)
  else if p = 2 then
    let q := o - 0xA0000
    ((true, (List.range len).map fun i => BitVec.ofNat 8 (imemWord s n ((q + i) / 4) >>> (8 * ((q + i) % 4)))), s)
  else if p = 3 then
    if len = 64 ∧ o % 64 = 0 then let (bs, s) := outboxRead master n s; ((true, bs), s) else ((false, zeros len), s)
  else if p = 4 then
    let q := o - 0xB0000
    let (ok, s) := checkEach ((q + len - 1) / 9 + 1 - q / 9) err (fun i e => lampBusCheck n 0 (q / 9 * 4 + 4 * i) e access master) s
    ((ok, if ok then (List.range len).map fun i => p9Byte s n ((q + i) / 9) ((q + i) % 9) else zeros len), s)
  else ((false, zeros len), s)

/-- A bus write to a coefficient word that the bank rule refuses (R241): the live bank of a running lamp, or a sealed
shadow. DEDUCED: a sealed shadow is refused whatever the lamp's state. (DEDUCED, log 58.) -/
def coefRefused (s : State) (n w : Nat) : Bool :=
  s.flag (Reg.LMP_PORT_CFG_COEF_BANKED n) &&
    (if w / 16384 = s.f (Reg.LMP_COEF_STATUS_LIVE_BANK n) then lampRunning s n else s.flag (Reg.LMP_COEF_STATUS_SEALED n))

def setLmp (f : LampState → LampState) (s : State) : State := { s with lmp := f s.lmp }

/-- Write bytes at window offsets of lamp n. -/
def lampMemWrite (master n o len : Nat) (cells : List (Nat × Byte)) (s : State) : Bool × State :=
  let p := lampPart o len
  if p = 0 then
    (true, setLmp (fun l => { l with dmem := cells.foldl (fun m c =>
      let k := n * 2 ^ 17 + c.1 / 4 % 2 ^ 17
      mapSet 0 m k (w32Put (mapGet 0 m k) (c.1 % 4) c.2)) l.dmem }) s)
  else if p = 1 then
    if cells.any fun c => coefRefused s n ((c.1 - 0x80000) / 4) then
      (false, s.setF (Reg.LMP_COEF_STATUS_REFUSED n) 1)
    else
      (true, setLmp (fun l => { l with cmem := cells.foldl (fun m c =>
        let k := n * 2 ^ 15 + (c.1 - 0x80000) / 4
        mapSet 0 m k (w32Put (mapGet 0 m k) (c.1 % 4) c.2)) l.cmem }) s)
  else if p = 2 then
    if lampRunning s n then
      (false, raise { kind := FK.LMP_IMEM_BUSY, src := lampSrc n, sub := 2, addr := 0x100000000 + n * 0x100000 + o, access := 2,
                      master := master, injected := false } s)
    else
      (true, setLmp (fun l => { l with imem := cells.foldl (fun m c =>
        let k := n * 2 ^ 13 + (c.1 - 0xA0000) / 4
        mapSet 0 m k (setBits (BitVec.ofNat 32 (mapGet 0 m k)) (8 * (c.1 % 4) + 7) (8 * (c.1 % 4)) c.2.toNat).toNat) l.imem }) s)
  else if p = 4 then
    (true, setLmp (fun l => { l with dmem := cells.foldl (fun m c => p9Put n ((c.1 - 0xB0000) / 9) ((c.1 - 0xB0000) % 9) c.2 m) l.dmem }) s)
  else (false, s)

/-! ## The mantle debug window (R346, R347, R388) -/

/-- The job whose slots include a slot; none: 0. -/
def slotJob (s : State) (n : Nat) : Nat :=
  ((List.range 4).find? fun j => decide (s.f (Reg.JOB_SLOT_SLOT_FIRST j) ≤ n) &&
    decide (n < s.f (Reg.JOB_SLOT_SLOT_FIRST j) + s.f (Reg.JOB_SLOT_SLOT_COUNT j))).getD 0

/-- Bits [87:0] of an entry (R351). -/
def entryWord (x : MEntry) : Nat := wrap 36 x.re + wrap 36 x.im * 2 ^ 36 + x.tally % 2 ^ 16 * 2 ^ 72

/-- Bits [47:0] of a slot header (R353). -/
def headerWord (m : MSlot) : Nat :=
  m.exp % 16 + m.tag % 2 * 2 ^ 4 + b2n m.dimPend * 2 ^ 5 + b2n m.sat * 2 ^ 6 + b2n m.expMax * 2 ^ 7 + b2n m.poison * 2 ^ 8 +
    b2n m.tallySat * 2 ^ 9 + b2n m.clean * 2 ^ 10 + m.promos % 2 ^ 32 * 2 ^ 16

/-- The operations queued at a slot run (R364), as far as they may. -/
def slotTurn : Nat → Nat → State → State
  | 0, _, s => s
  | fuel + 1, n, s =>
    match (s.mslot n).queue with
    | [] => s
    | .drain _ :: _ => slotTurn fuel n (slotDrain n [] s)
    | .clear _ _ :: _ => slotTurn fuel n (slotClear n s)
    | .tagSet _ :: _ => slotTurn fuel n (slotTagSet n s)
    | _ => slotTurn fuel n (slotFlush 1 n s)

/-- The drains of job j's oldest closed period run, its marker having left the slices (R367, R370). -/
def drainOldest (j : Nat) (s : State) : State :=
  match ((s.mjob j).periods.filter Period.closed).head? with
  | none => s
  | some p =>
    let s := if p.markerIn then
        ((List.range 256).filter fun b => mapGet 0 p.slicesDone b == 0).foldl (fun s b => periodEndMarker j b s) s
      else s
    (List.range p.geo.bankSlots).foldl (fun s i =>
      let n := p.geo.bankFirst p.num + i
      slotTurn (s.mslot n).queue.length n s) s

/-- The job of a queued operation. -/
def opJob (s : State) : SlotOp → Nat
  | .promo t _ _ _ _ => t.job
  | .notice t => t.job
  | .drain serial => ((List.range 4).find? fun j => (findPeriod s j serial).isSome).getD 0
  | .clear j _ => j
  | .tagSet _ => 0

/-- Every operation that has arrived at a slot runs, with what it waits for (R364, R365, R370). (DEDUCED, log 107.) -/
def slotSettle : Nat → Nat → State → State
  | 0, _, s => s
  | fuel + 1, n, s =>
    let s := slotTurn (s.mslot n).queue.length n s
    match (s.mslot n).queue with
    | [] => s
    | op :: _ => slotSettle fuel n (drainOldest (opJob s op) s)

/-- The slots as a read sees them when a clear that has arrived still waits for a drain whose marker is on its way: both leave the slot
cleared, so the read shows it cleared, with what came behind the clear (R354, R365, R372). (DEDUCED, log 164.) -/
def slotSeen : Nat → Nat → State → State
  | 0, _, s => s
  | fuel + 1, n, s =>
    match (s.mslot n).queue.dropWhile fun x => match x with | .clear _ _ => false | _ => true with
    | .clear _ _ :: r => slotSeen fuel n (slotTurn r.length n (putSlot n { MSlot.reset with queue := r } s))
    | _ => s

/-- The debug window's entries from offset o. -/
def entriesRead (o len : Nat) (es : List Nat) (s : State) : List Byte :=
  ((es.flatMap fun e =>
    let w := entryWord ((s.mslot (e / 4096)).entry (e % 4096)); leBytes 12 (w + Config.checkCode 0 w % 256 * 2 ^ 88)).drop (o % 12)).take len

/-- The debug window's headers from offset q of theirs. -/
def headersRead (q len : Nat) (ns : List Nat) (s : State) : List Byte :=
  ((ns.flatMap fun n =>
    let w := headerWord (s.mslot n); leBytes 8 (w + Config.checkCode 1 w % 256 * 2 ^ 48) ++ zeros 8).drop (q % 16)).take len

/-- A debug read of the entries and headers (R388), of each slot after the operations that arrived before it (R365). The check
codes are free. -/
def mantleRead (by_ : StoreRead) (o len err : Nat) (s : State) : List Byte × State :=
  let settle (l : List Nat) (s : State) : State := l.foldl (fun s n => slotSettle (sumOf (s.mnt.jobs.map fun x => x.2.periods.length) + 1) n s) s
  let seen (l : List Nat) (s : State) : State := l.foldl (fun s n => slotSeen (s.mslot n).queue.length n s) s
  if o < 0x18C00000 then
    let es := (List.range ((o + len - 1) / 12 + 1 - o / 12)).map fun i => o / 12 + i
    let ns := (es.map fun e => e / 4096).eraseDups
    let s := settle ns s
    let check (s : State) : State := es.zipIdx.foldl (fun s x =>
      mntChecks by_ (slotJob s (x.1 / 4096)) (x.1 / 4096) [x.1 % 4096] [(x.1 % 4096, errDigit err x.2)] s) s
    (entriesRead o len es (check (seen ns s)), check s)
  else
    let q := o - 0x18C00000
    let ns := (List.range ((q + len - 1) / 16 + 1 - q / 16)).map fun i => q / 16 + i
    let s := settle ns s
    let check (s : State) : State := ns.zipIdx.foldl (fun s x => mntChecks by_ (slotJob s x.1) x.1 [] [(4096, errDigit err x.2)] s) s
    (headersRead q len ns (check (seen ns s)), check s)

/-- The bytes of an accumulator plane (R346). -/
def planeBytes (p : Plane) : List Byte :=
  let c8 := match p.task with | none => false | some t => t.c8
  if c8 then fitBytes 0x8000 (p.acc.flatMap fun a => leBytes 8 (wrap 64 (satS 40 a.1)) ++ leBytes 8 (wrap 64 (satS 40 a.2)))
  else fitBytes 0x8000 (p.acc.flatMap fun a => leBytes 4 (wrap 32 (satS 20 a.1)) ++ leBytes 4 (wrap 32 (satS 20 a.2)))

/-- The slot of a plane's task, 0 for none. -/
def Plane.slotNum (p : Plane) : Nat := match p.task with | none => 0 | some t => t.slot

/-- Accumulator components that a read of `len` bytes at offset `o` of a plane takes in: 4 bytes each in C4, 8 in C8 (R343, R346). -/
def planeComponents (p : Plane) (o len : Nat) : Nat :=
  let c8 := p.task.any Task.c8
  let w := if c8 then 8 else 4
  let last := min (o + len) (if c8 then 0x4000 else 0x8000)
  if last ≤ o then 0 else (last - 1) / w + 1 - o / w

/-- A read of the mantle debug window; `err`: components found with a parity error in a plane; `write`: a write, which always fails. -/
def mantleAccess (master : Nat) (write : Bool) (addr len err : Nat) (s : State) : ReadAns × State :=
  let o := addr - 0x200000000
  let acc := if write then 2 else 7
  let inLan := decide (0x1C000000 ≤ o) && decide (o + len ≤ 0x1D000000)
  if inLan then
    let l := (o - 0x1C000000) / 0x10000
    let q := (o - 0x1C000000) % 0x10000
    let x := s.lantern l
    if write || s.actsF || !x.halted then
      ((false, zeros len), raise { fevA FK.LAN_DEBUG_ACCESS 0x10 l addr acc with master := master } s)
    else
      let p := x.plane (q / 0x8000)
      let n := planeComponents p (q % 0x8000) len
      let s := planeParity (debugRead master addr) l p.slotNum (min err n) n s
      ((true, ((planeBytes p).drop (q % 0x8000)).take len), s)
  else if !write && s.flag Reg.LAN_DEBUG_EN && (decide (o + len ≤ 0x18C00000) ||
      (decide (0x18C00000 ≤ o) && decide (o + len ≤ 0x18C21000))) then
    let (bs, s) := mantleRead (debugRead master addr) o len err s
    ((true, bs), s)
  else ((false, zeros len), raise { fevA FK.MNT_DEBUG_ACCESS 0x11 0 addr acc with master := master } s)

/-! ## The staging window (R304) -/

/-- Delay-ring bytes of the first `size` bytes of the staging SRAM (R173). DEDUCED, log 27: input i's ring starts at i × 512 KiB and
position p is the two bytes at 2p. -/
def delayByte (s : State) (o : Nat) : Byte :=
  let p := mapGet RingPos.reset s.lens.ring (o / 0x80000 * 262144 + o % 0x80000 / 2)
  BitVec.ofNat 8 (p.value >>> (8 * (o % 2)))

def stgByte (s : State) (o : Nat) : Byte :=
  if o < 0x4000000 then
    (if s.isF || (s.isFX && decide (o < 0x2000000)) then delayByte s o else mapGet 0 s.stg.sram o)
  else
    let q := (o - 0x4000000) / 32
    let r := (o - 0x4000000) % 32
    BitVec.ofNat 8 (mapGet 0 s.stg.pos (q * 4 + r / 8) >>> (8 * (r % 8)))

def stgWindowRead (o len : Nat) (s : State) : ReadAns :=
  if o + len ≤ 0x4080000 then (true, (List.range len).map fun i => stgByte s (o + i)) else (false, zeros len)

/-! ## MRAM (R574, R575, R578) -/

def setNvm (f : Nvm → Nvm) (s : State) : State := { s with nvm := f s.nvm }

/-- Bytes are written: their words hold no error any more. -/
def nvmStore (a : Nat) (bs : List Byte) (s : State) : State :=
  setNvm (fun n => { n with bytes := mapSetList 0 n.bytes a bs, bad := n.bad.filter fun w => !meets (8 * w) 8 a bs.length }) s

def nvmPeek (s : State) (o n : Nat) : List Byte := mapGetList 0 s.nvm.bytes o n

/-- A word of [a, a + n) has an uncorrectable error. -/
def nvmBad (s : State) (a n : Nat) : Bool := s.nvm.bad.any fun w => meets (8 * w) 8 a n

/-- The check of an MRAM word. -/
def nvmCheck (o err access master : Nat) (s : State) : Bool × State :=
  let (i, s) := injectCheck 0x08 0 0 s
  let e := injected i err
  let ev (k : Nat) : FaultEv :=
    { kind := k, src := 0x08, sub := 0, addr := 0x20000000 + o, access := access, master := master, injected := i.isSome }
  if e = 0 then (true, s)
  else if e = 1 then (true, raise (ev FK.NVM_CE) (s.incF Reg.NVM_CNT_CE 1))
  else
    let s := s.incF Reg.NVM_CNT_UE 1
    let s := if s.once Reg.NVM_ERR_ADDR.key then s else (s.setF Reg.NVM_ERR_ADDR o).setOnce Reg.NVM_ERR_ADDR.key true
    (false, raise (ev FK.NVM_UE) s)

def nvmRead (master access o len err : Nat) (s : State) : ReadAns × State :=
  if decide (o < 0xE40000) && decide (0xE00000 < o + len) && decide (1 < master) then ((false, zeros len), s)
  else
    let (ok, s) := checkEach ((o + len - 1) / 8 + 1 - o / 8) err (fun i e =>
      nvmCheck (o / 8 * 8 + 8 * i) (if nvmBad s (o / 8 * 8 + 8 * i) 8 then 2 else e) access master) s
    ((ok, if ok then nvmPeek s o len else zeros len), s)

/-! ## Host memory (R19, R449, R518) -/

/-- The host lets the function make memory requests: bit 2, Bus Master Enable, of the command register. PRESUMED, log 147 (PCI
Express). -/
def memRequestsOn (s : State) : Bool := (mapGet 0 s.hif.cfg 4).getLsbD 2

/-- The device may reach host memory: the link is up, and the host has enabled CXL.cache, or memory requests in PCIe-only mode (R507,
R521). -/
def hostReach (s : State) : Bool :=
  s.flag Reg.HIF_STATUS_LINK_UP && (if s.flag Reg.HIF_STATUS_CXL_MODE then s.flag Reg.HIF_STATUS_CACHE_EN else memRequestsOn s)

/-- Runs of consecutive addresses among enabled bytes, as (first address, bytes). -/
def runsOf : List (Nat × Byte) → List (Nat × List Byte)
  | [] => []
  | (a, b) :: r =>
    match runsOf r with
    | (a', bs) :: t => if a + 1 = a' then (a, b :: bs) :: t else (a, [b]) :: (a', bs) :: t
    | [] => [(a, [b])]

/-- The 64-byte lines that bytes lie in. -/
def linesOf (cells : List (Nat × Byte)) : List Nat := (cells.map fun c => c.1 / 64).eraseDups

/-- A write of host memory: by CXL.cache, ItoMWr for a whole line and WOWrInv under byte enables for part of one (R518), or as memory
writes on the link in PCIe-only mode (R507). -/
def hostWrite (cells : List (Nat × Byte)) (s : State) : State :=
  let lines := linesOf cells
  let s := perfEvent 0x0B 0x11 lines.length s
  if s.flag Reg.HIF_STATUS_CXL_MODE then
    lines.foldl (fun s l =>
      let cs := (cells.filter fun c => c.1 / 64 == l).map fun c => (c.1 % 2 ^ 63, c.2)
      s.emit (.cache (if cs.length = 64 then .itoMWr else .woWrInv) (l * 64 % 2 ^ 63) cs)) s
  else (runsOf cells).foldl (fun s x => s.emit (.hostWrite (x.1 % 2 ^ 63) x.2)) s

/-- A read of host memory: RdCurr of each line, or a memory read in PCIe-only mode (R507, R518). -/
def hostRead (addr len : Nat) (s : State) : State :=
  if s.flag Reg.HIF_STATUS_CXL_MODE then
    (List.range ((addr + len - 1) / 64 + 1 - addr / 64)).foldl (fun s i => s.emit (.cache .rdCurr ((addr / 64 + i) * 64 % 2 ^ 63) [])) s
  else s.emit (.hostRead (addr % 2 ^ 63) len)

/-! ## All of them -/

/-- A read of a region other than the register pages, by a master that reaches it. `host`: what host memory answers. The low
window beyond the ROM's 64 KiB shows bytes the spec does not state (`Config.bootRom` at those offsets). -/
def targetRead (t master access addr len err : Nat) (host : List Byte) (s : State) : ReadAns × State :=
  let rom (o : Nat) : ReadAns := (true, (List.range len).map fun i => Config.bootRom (o + i))
  let sram (o : Nat) : ReadAns := (true, mapGetList 0 s.mgmt.sram o len)
  if t = 0 then
    (if s.flag Reg.TOP_REMAP_SWAP then (sram addr, s) else (rom addr, s))
  else if t = 1 then (rom (addr - 0x10000000), s)
  else if t = 2 then (sram (addr - 0x11000000), s)
  else if t = 3 then nvmRead master access (addr - 0x20000000) len err s
  else if t = 5 then lampMemRead master access ((addr - 0x100000000) / 0x100000) ((addr - 0x100000000) % 0x100000) len err s
  else if t = 6 then mantleAccess master false addr len err s
  else if t = 7 then (stgWindowRead (addr - 0x400000000) len s, s)
  else if t = 8 then dramAccess master access (addr - 0x1000000000) len [] (MemErrs.ofDigits err) s
  else if t = 9 then (if hostReach s then ((true, fitBytes len host), hostRead addr len s) else ((false, zeros len), s))
  else ((false, zeros len), s)

def putSram (cells : List (Nat × Byte)) (s : State) : State :=
  { s with mgmt := { s.mgmt with sram := cells.foldl (fun m c => mapSet 0 m c.1 c.2) s.mgmt.sram } }

/-- A write of enabled bytes at their addresses, `len` bytes from `addr` being addressed. -/
def targetWrite (t master addr len : Nat) (cells : List (Nat × Byte)) (err : Nat) (s : State) : Bool × State :=
  let rel (b : Nat) := cells.map fun c => (c.1 - b, c.2)
  if t = 0 then (if s.flag Reg.TOP_REMAP_SWAP then (true, putSram cells s) else (false, s))
  else if t = 2 then (true, putSram (rel 0x11000000) s)
  else if t = 5 then
    let n := (addr - 0x100000000) / 0x100000
    lampMemWrite master n ((addr - 0x100000000) % 0x100000) len (rel (0x100000000 + n * 0x100000)) s
  else if t = 6 then let (r, s) := mantleAccess master true addr len err s; (r.1, s)
  else if t = 8 then
    let (r, s) := dramAccess master 2 (addr - 0x1000000000) len (rel 0x1000000000) (MemErrs.ofDigits err) s
    (r.1, s)
  else if t = 9 then (if hostReach s then (true, hostWrite cells s) else (false, s))
  else (false, s)

/-- The bytes of a write whose enables are set: bit i of `en` is that of byte i (R482). -/
def enabledCells (addr en : Nat) (data : List Byte) : List (Nat × Byte) :=
  ((data.zipIdx.filter fun x => en.testBit x.2).map fun x => (addr + x.2, x.1))

/-- The access reaches LPDDR6 in a channel that holds its traffic (R461, R464). -/
def busHolds (s : State) (addr n : Nat) : Bool := routeTo addr n == some 8 && memHolds s (addr - 0x1000000000) n

/-- A read by a master of an address outside the register pages, with the matrix's own refusals (R18, R480). -/
def memRead (master access addr len err : Nat) (host : List Byte) (s : State) : ReadAns × State :=
  match routeTo addr len with
  | none => ((false, zeros len), bmxFault FK.BMX_DECODE 0 addr access master s)
  | some t =>
    if masterReach master t false then targetRead t master access addr len err host (perfEvent 0x07 0x10 1 s)
    else ((false, zeros len), bmxFault FK.BMX_ACCESS t addr access master s)

def memWrite (master addr len : Nat) (cells : List (Nat × Byte)) (err : Nat) (s : State) : Bool × State :=
  match routeTo addr len with
  | none => (false, bmxFault FK.BMX_DECODE 0 addr 2 master s)
  | some t =>
    if masterReach master t true then targetWrite t master addr len cells err (perfEvent 0x07 0x10 1 s)
    else (false, bmxFault FK.BMX_ACCESS t addr 2 master s)

end Sys2Proof.Machine
end

