-- ==== Sys2Proof/Machine/Nvm.lean ====
section
/-! DEFINITION. Sys2Proof/Machine/Nvm.lean: the copies of the persistent stores in MRAM and their commit records (R574, R576, R579 to R582).
The contents of a store's body are laid out as log 80 says where the spec does not say it. -/
namespace Sys2Proof.Machine

/-- The Lamplighter writes MRAM bytes, a word at a time (R576). -/
def nvmPut (a : Nat) (bs : List Byte) (s : State) : State :=
  if bs.isEmpty then s
  else (nvmStore a bs s).incF Reg.NVM_CNT_WRITES ((a + bs.length - 1) / 8 + 1 - a / 8)

/-! ## Copies and commit records -/

/-- A commit record (R579) over the covered bytes. -/
def commitRecord (seq : Nat) (covered : List Byte) : List Byte :=
  let r := leBytes 4 0x43544D43 ++ leBytes 4 seq ++ leBytes 4 covered.length
  r ++ leBytes 4 (crcBytes 32 0x1EDC6F41 (covered ++ r))

/-- A copy of a store: its first byte, and the offset of its commit record from there (R581). -/
structure StoreCopy where
  base : Nat
  record : Nat
deriving DecidableEq, Repr

def copyRecord (s : State) (c : StoreCopy) : List Byte := nvmPeek s (c.base + c.record) 16

def copySeq (s : State) (c : StoreCopy) : Nat := leAt (copyRecord s c) 4 4

/-- The bytes a copy's record covers. -/
def copyBody (s : State) (c : StoreCopy) : List Byte := nvmPeek s c.base (leAt (copyRecord s c) 8 4)

/-- A copy is valid (R580). A record with an uncorrectable error does not match (DEDUCED, log 80). -/
def copyValid (s : State) (c : StoreCopy) : Bool :=
  let r := copyRecord s c
  let len := leAt r 8 4
  leAt r 0 4 == 0x43544D43 && decide (len ≤ c.record) && !nvmBad s c.base len && !nvmBad s (c.base + c.record) 16 &&
    leAt r 12 4 == crcBytes 32 0x1EDC6F41 (nvmPeek s c.base len ++ r.take 12)

/-- There is something where a copy's record stands (DEDUCED, log 80). -/
def copyFound (s : State) (c : StoreCopy) : Bool := (copyRecord s c).any fun b => b != 0

/-- SEQ q is above SEQ h, modulo 2^32 (R554, R579). -/
def seqAbove (h q : Nat) : Bool :=
  let d := (q + 2 ^ 32 - h) % 2 ^ 32
  decide (1 ≤ d) && decide (d ≤ 2 ^ 31)

/-- The valid copy with the highest SEQ: its place among the copies. -/
def newestCopy (s : State) (cs : List StoreCopy) : Option (StoreCopy × Nat) :=
  cs.zipIdx.foldl (fun b c =>
    if !copyValid s c.1 then b
    else match b with
      | none => some c
      | some x => if seqAbove (copySeq s x.1) (copySeq s c.1) then some c else b) none

/-- The bytes of the copy the device uses. -/
def storeRead (s : State) (cs : List StoreCopy) : Option (List Byte) := (newestCopy s cs).map fun c => copyBody s c.1

/-- SEQ of the newest copy, 0 with none. -/
def storeSeq (s : State) (cs : List StoreCopy) : Nat := match newestCopy s cs with | some c => copySeq s c.1 | none => 0

/-- A copy is written, body first and commit record last (R579). -/
def copyWrite (c : StoreCopy) (seq : Nat) (body : List Byte) (s : State) : State :=
  nvmPut (c.base + c.record) (commitRecord seq body) (nvmPut c.base body s)

/-- A store is written: the next copy in rotation takes the next SEQ (R579, R589). The first is 1 (DESIGN CHOICE, log 80). -/
def storeWrite (cs : List StoreCopy) (body : List Byte) (s : State) : State :=
  let i := match newestCopy s cs with | some c => (c.2 + 1) % cs.length | none => 0
  match cs[i]? with
  | some c => copyWrite c ((storeSeq s cs + 1) % 2 ^ 32) body s
  | none => s

/-- A store with no valid copy takes its defaults (R580). -/
def storeCorrupt (s : State) : State := raise (fev FK.NVM_STORE_CORRUPT 0x08 0 0) s

/-- What the start-up finds of a store's copies: none valid, or invalid ones beside a valid one (R580). -/
def storeCheck (cs : List StoreCopy) (s : State) : State :=
  if cs.any (copyValid s) then s.incF Reg.NVM_CNT_STALE ((cs.filter fun c => copyFound s c && !copyValid s c).length) else storeCorrupt s

/-- The reads of a start-up find uncorrectable errors in the words `ue` (R578). -/
def nvmFound (ue : List Nat) (s : State) : State :=
  ue.foldl (fun s w =>
    (nvmCheck (8 * w) 2 1 1 (setNvm (fun n => { n with bad := if n.bad.contains w then n.bad else w :: n.bad }) s)).2) s

/-! ## The stores' copies (R574, R581) -/

def slotBase (n : Nat) : Nat := n % 2 * 0x400000
def slotCopy (n : Nat) : StoreCopy := { base := slotBase n, record := 0x3FFFF0 }
def ucrCopies : List StoreCopy := [{ base := 0xE10000, record := 8 }, { base := 0xE10100, record := 8 }]
def rollbackCopies : List StoreCopy := [{ base := 0xE00000, record := 8 }, { base := 0xE00100, record := 8 }]
def lifeCopies : List StoreCopy := (List.range 4).map fun c => { base := 0xC00000 + 0x40000 * c, record := 0x3FFF0 }
def identityCopies : List StoreCopy := (List.range 2).map fun c => { base := 0xD00000 + 0x80000 * c, record := 0x7FFF0 }
def keyCopies : List StoreCopy := (List.range 2).map fun c => { base := 0xE20000 + 0x200 * c, record := 0x1F0 }

/-! ## The update control record, the rollback counter and the revocation mask (R571, R572, R594) -/

structure Ucr where
  preferred : Nat
  trial : Bool
  trialSlot : Nat
  attempts : Nat
  reverted : Bool
deriving DecidableEq, Repr

def ucrBytes (u : Ucr) : List Byte :=
  [u.preferred % 2, b2n u.trial, u.trialSlot % 2, u.attempts, b2n u.reverted, 0, 0, 0].flatMap (leBytes 1)

def ucrOf (l : List Byte) : Ucr :=
  { preferred := leAt l 0 1 % 2, trial := leAt l 1 1 != 0, trialSlot := leAt l 2 1 % 2, attempts := leAt l 3 1, reverted := leAt l 4 1 != 0 }

/-- The record in force; its defaults are all zero (DESIGN CHOICE, log 80). -/
def ucrNow (s : State) : Ucr := ucrOf ((storeRead s ucrCopies).getD [])

/-- The control record is committed. -/
def setUcr (u : Ucr) (s : State) : State := storeWrite ucrCopies (ucrBytes u) s

/-- The rollback counter and the revocation mask in force. -/
def rollbackNow (s : State) : Nat := leAt ((storeRead s rollbackCopies).getD []) 0 4
def revokedNow (s : State) : Nat := leAt ((storeRead s rollbackCopies).getD []) 4 1

/-! ## Lists of objects -/

/-- Stored objects: index, element, length and value of each. -/
def objectBytes (l : List (Nat × List Byte)) : List Byte :=
  l.flatMap fun e => leBytes 2 (e.1 / 256) ++ leBytes 2 (e.1 % 256) ++ leBytes 4 e.2.length ++ e.2

def entriesIn : Nat → List Byte → List (Nat × List Byte)
  | 0, _ => []
  | k + 1, l =>
    if l.length < 8 then []
    else
      let n := leAt l 4 4
      (leAt l 0 2 * 256 + leAt l 2 1, (l.drop 8).take n) :: entriesIn k (l.drop (8 + n))

/-- A body of objects: its length and zero in 4 bytes each, the objects, and zeros up to a whole number of words. -/
def objectBody (l : List (Nat × List Byte)) : List Byte :=
  let b := objectBytes l
  leBytes 4 b.length ++ zeros 4 ++ fitBytes ((b.length + 7) / 8 * 8) b

def bodyObjects (b : List Byte) : List (Nat × List Byte) :=
  let l := (b.drop 8).take (leAt b 0 4)
  entriesIn l.length l

/-- A later value of an object replaces an earlier one. -/
def putObjects (l es : List (Nat × List Byte)) : List (Nat × List Byte) := es.foldl (fun l e => l.filter (fun x => x.1 != e.1) ++ [e]) l

/-! ## The dictionary store (R582) -/

/-- A base or a change record at offset p: as long as its header says. -/
def dictCopy (s : State) (p : Nat) : StoreCopy := { base := p, record := 8 + (leAt (nvmPeek s p 4) 0 4 + 7) / 8 * 8 }

def dictHalf (h : Nat) : Nat := 0x800000 + 0x100000 * h

/-- A base or change record at offset p that lies within half h and is valid. -/
def dictAt (s : State) (h p : Nat) : Bool :=
  let c := dictCopy s p
  decide (c.base + c.record + 16 ≤ dictHalf h + 0x100000) && copyValid s c

/-- Change records from offset p of half h on, in SEQ order from q + 1, up to the first that is not valid: their objects, where the next
would stand, and the last SEQ. -/
def dictChanges (s : State) (h : Nat) : Nat → Nat → Nat → List (Nat × List Byte) × Nat × Nat
  | 0, p, q => ([], p, q)
  | k + 1, p, q =>
    let c := dictCopy s p
    if dictAt s h p && copySeq s c == (q + 1) % 2 ^ 32 then
      let r := dictChanges s h k (p + c.record + 16) (copySeq s c)
      (bodyObjects (copyBody s c) ++ r.1, r.2)
    else ([], p, q)

/-- The current half: the one whose base has the higher valid SEQ. -/
def dictCurrent (s : State) : Option Nat :=
  let q (h : Nat) : Nat := copySeq s (dictCopy s (dictHalf h))
  if dictAt s 0 (dictHalf 0) then (if dictAt s 1 (dictHalf 1) && seqAbove (q 0) (q 1) then some 1 else some 0)
  else if dictAt s 1 (dictHalf 1) then some 1 else none

/-- The store as the current half holds it: its objects, where its next change record would stand, and its last SEQ. -/
def dictLoad (s : State) (h : Nat) : List (Nat × List Byte) × Nat × Nat :=
  let c := dictCopy s (dictHalf h)
  let r := dictChanges s h 43690 (dictHalf h + c.record + 16) (copySeq s c)
  (putObjects (bodyObjects (copyBody s c)) r.1, r.2)

/-- The objects of the store. -/
def dictStore (s : State) : List (Nat × List Byte) := match dictCurrent s with | some h => (dictLoad s h).1 | none => []

/-- A new base in half h. -/
def dictBase (h q : Nat) (l : List (Nat × List Byte)) (s : State) : State :=
  let b := objectBody l
  copyWrite { base := dictHalf h, record := b.length } q b s

/-- The objects become those of `l`, as a new base in the other half. -/
def dictRebase (l : List (Nat × List Byte)) (s : State) : State :=
  match dictCurrent s with
  | none => dictBase 0 1 l s
  | some h => dictBase (1 - h) (((dictLoad s h).2.2 + 1) % 2 ^ 32) l s

/-- Changed objects reach the store: a change record, or a new base in the other half where this one is full. -/
def dictAppend (es : List (Nat × List Byte)) (s : State) : State :=
  match dictCurrent s with
  | none => dictBase 0 1 (putObjects [] es) s
  | some h =>
    let d := dictLoad s h
    let b := objectBody es
    if d.2.1 + b.length + 16 ≤ dictHalf h + 0x100000 then copyWrite { base := d.2.1, record := b.length } ((d.2.2 + 1) % 2 ^ 32) b s
    else dictRebase (putObjects d.1 es) s

/-- What the start-up finds of the dictionary store. -/
def dictCheck (s : State) : State :=
  storeCheck ((List.range 2).map fun h => dictCopy s (dictHalf h)) s

/-! ## The stored objects -/

/-- An object of the identity region: the identity objects, and the subsystem IDs (R574, R682). -/
def isIdentity (k : Nat) : Bool := decide (k / 256 < 0x1000) || k == 0x7A3001

/-- A session key, which the key region keeps (R568, R574). -/
def isKey (k : Nat) : Bool := decide (0x1020 ≤ k / 256) && decide (k / 256 ≤ 0x1027) && k % 256 == 2

def identityStore (s : State) : List (Nat × List Byte) := bodyObjects ((storeRead s identityCopies).getD [])
def keyStore (s : State) : List (Nat × List Byte) := bodyObjects ((storeRead s keyCopies).getD [])

/-- Every stored object: those that have been given a value. -/
def keptObjects (s : State) : List (Nat × List Byte) := identityStore s ++ keyStore s ++ dictStore s

/-- Changed persistent objects reach their stores. -/
def keepObjects (es : List (Nat × List Byte)) (s : State) : State :=
  let ids := es.filter fun e => isIdentity e.1
  let keys := es.filter fun e => isKey e.1
  let rest := es.filter fun e => !isIdentity e.1 && !isKey e.1
  let s := if ids.isEmpty then s else storeWrite identityCopies (objectBody (putObjects (identityStore s) ids)) s
  let s := if keys.isEmpty then s else storeWrite keyCopies (objectBody (putObjects (keyStore s) keys)) s
  if rest.isEmpty then s else dictAppend rest s

/-! ## The change-log tail (R567, R581) -/

/-- Group g of the tail: 31 entries of 32 bytes, then the trailer. Bytes 16 to 23 of the trailer hold the number of its first entry. -/
def logGroup (g : Nat) : StoreCopy := { base := 0xA00000 + 1024 * g, record := 992 }

/-- The number of the first entry of group g. -/
def groupFirst (s : State) (g : Nat) : Nat := leAt (nvmPeek s (0xA00000 + 1024 * g + 1008) 8) 0 8

/-- How many of the entries 31k to 31k + 30 the tail holds: those of group k mod 2,048. -/
def blockLen (s : State) (k : Nat) : Nat :=
  let c := logGroup (k % 2048)
  if copyValid s c && groupFirst s (k % 2048) == 31 * k then (copyBody s c).length / 32 else 0

/-- The number of the next entry, after the highest the tail holds. -/
def tailNext (s : State) : Nat :=
  (List.range 2048).foldl (fun n g => let k := groupFirst s g / 31; if k % 2048 = g then max n (31 * k + blockLen s k) else n) 0

/-- The first entry of an unbroken run of whole blocks below block k. -/
def tailFrom (s : State) : Nat → Nat → Nat
  | 0, k => 31 * k
  | n + 1, k => if k ≠ 0 ∧ blockLen s (k - 1) = 31 then tailFrom s n (k - 1) else 31 * k

/-- The oldest of the newest 16,384 entries that the tail holds without a gap. -/
def tailOldest (s : State) (next : Nat) : Nat :=
  if next = 0 then 0 else max (next - 16384) (tailFrom s 530 ((next - 1) / 31))

/-- Entry n of the tail. -/
def tailEntry (s : State) (n : Nat) : List Byte := nvmPeek s (0xA00000 + 1024 * (n / 31 % 2048) + 32 * (n % 31)) 32

/-- The tail's last SEQ. -/
def tailSeq (s : State) (next : Nat) : Nat := if next = 0 then 0 else copySeq s (logGroup ((next - 1) / 31 % 2048))

/-- Block k is written with its entries below `next`, taken from the ring. -/
def tailWrite (seq k next : Nat) (ring : Nat → List Byte) (s : State) : State :=
  let g := k % 2048
  let body := (List.range (min 31 (next - 31 * k))).flatMap fun i => fitBytes 32 (ring (31 * k + i))
  nvmPut (0xA00000 + 1024 * g + 992) (commitRecord seq body ++ leBytes 8 (31 * k) ++ zeros 8) (nvmPut (0xA00000 + 1024 * g) body s)

/-- The groups of the tail's copies, and what the start-up finds of them. -/
def tailCheck (s : State) : State := storeCheck ((List.range 2048).map logGroup) s

/-! ## Lifetime records (R589, R591) -/

/-- The fields of a lifetime record before its update history: byte offset and width. -/
def lifeFields : List (Nat × Nat) := (0, 8) :: ([8, 12, 16, 20] ++ (List.range ((18048 - 32) / 4)).map fun i => 32 + 4 * i).map fun o => (o, 4)

/-- The counts of a record, by byte offset. -/
def lifeCounts (b : List Byte) : List (Nat × Nat) := lifeFields.foldl (fun m f => mapSet 0 m f.1 (leAt b f.1 f.2)) []

/-- The 32 entries of its update history. -/
def lifeHist (b : List Byte) : List (List Byte) := (List.range 32).map fun i => fitBytes 16 ((b.drop (18048 + 16 * i)).take 16)

/-- The 18,560 bytes of a record. -/
def lifeBytes (l : List (Nat × Nat)) (hist : List (List Byte)) : List Byte :=
  let w (o n : Nat) : List Byte := leBytes n (mapGet 0 l o)
  w 0 8 ++ w 8 4 ++ w 12 4 ++ w 16 4 ++ w 20 4 ++ zeros 8 ++ ((List.range ((18048 - 32) / 4)).flatMap fun i => w (32 + 4 * i) 4) ++
    fitBytes 512 (hist.flatMap (fitBytes 16))

/-- The record in force. -/
def lifeRecord (s : State) : List Byte := fitBytes 18560 ((storeRead s lifeCopies).getD [])

end Sys2Proof.Machine
end

