-- ==== Sys2Proof/Machine/Dma.lean ====
section
/-! DEFINITION. Sys2Proof/Machine/Dma.lean: the DMA engine: descriptors, streams, pacing, chains and completion records
(11_dma.md). The data of a burst moves when its target answers it. -/
namespace Sys2Proof.Machine

def chState (s : State) (c : Nat) : Nat := s.f (Reg.CH_STATUS_STATE c)
def setChState (c st : Nat) (s : State) : State := s.setF (Reg.CH_STATUS_STATE c) st
def chLast (s : State) (c : Nat) : Nat := s.f64 (Reg.CH_LAST_LO c) (Reg.CH_LAST_HI c)
def dmaMaster (c : Nat) : Nat := 0x10 + c

def dmaEv (kind c : Nat) (s : State) : FaultEv := fev kind 0x0D c (chLast s c % 2 ^ 48)

/-! ## Descriptors (R424) -/

def descSrc (d : List Byte) : Nat := leAt d 0 8
def descDst (d : List Byte) : Nat := leAt d 8 8
def descCtrl (d : List Byte) : Nat := leAt d 48 4
/-- 0 COPY, 1 FILL, 2 COMPARE. -/
def descMode (d : List Byte) : Nat := descCtrl d % 4
def descConv (d : List Byte) : Nat := descCtrl d / 4 % 4
def descInt (d : List Byte) : Bool := (descCtrl d).testBit 4
def descPace (d : List Byte) : Nat := descCtrl d / 256 % 256
def descMask (d : List Byte) : Nat := leAt d 40 1

/-- One side of a descriptor: start, bytes per line, stride and line count. -/
structure Side where
  base : Nat
  line : Nat
  stride : Int
  lines : Nat
deriving DecidableEq, Repr

def srcSide (d : List Byte) : Side := { base := descSrc d, line := leAt d 16 4, stride := sext 32 (leAt d 24 4), lines := leAt d 32 4 }
def dstSide (d : List Byte) : Side := { base := descDst d, line := leAt d 20 4, stride := sext 32 (leAt d 28 4), lines := leAt d 36 4 }
def Side.len (x : Side) : Nat := x.line * x.lines

/-- The address of a stream byte: bit 63 is kept and bits [62:0] wrap (R425). -/
def Side.addr (x : Side) (k : Nat) : Nat :=
  let i : Int := (x.base % 2 ^ 63 : Nat) + (k / max 1 x.line : Nat) * x.stride + (k % max 1 x.line : Nat)
  x.base / 2 ^ 63 % 2 * 2 ^ 63 + wrap 63 i

/-- A byte of a side lies in [lo, hi). Addresses wrap at 2^63 (R425), and a side that starts in host memory stays there. The lines that
could meet the interval are found by division, since a side may have 2^32 − 1 lines. -/
def Side.meets (x : Side) (lo hi : Nat) : Bool :=
  let up : Int := if x.stride < 0 then -x.stride else x.stride
  let first : Int := if x.stride < 0 then (x.base : Int) - (x.lines - 1 : Nat) * up else x.base
  decide (x.base < 2 ^ 63) && decide (0 < x.len) && ([-(2 ^ 63), 0, 2 ^ 63] : List Int).any fun w =>
    let l : Int := lo + w
    let h : Int := hi + w
    let past : Int := l - x.line + 1 - first
    let k : Int := if past ≤ 0 then 0 else if up = 0 then x.lines else (past + up - 1) / up
    decide (k < x.lines) && decide (first + k * up < h)

def inPages (a : Nat) : Bool := decide (0x40000000 ≤ a) && decide (a < 0x50000000)

/-- An address in a lamp outbox read port (R208). -/
def inOutbox (a : Nat) : Bool :=
  decide (0x100000000 ≤ a) && decide (a < 0x104000000) && decide (0xA8000 ≤ a % 0x100000) && decide (a % 0x100000 < 0xB0000)

/-- Bytes of the burst that starts at stream byte k (R429 to R431). -/
def Side.burst (x : Side) (k : Nat) (source : Bool) : Nat :=
  let a := x.addr k
  let left := x.line - k % max 1 x.line
  if inPages a then min left 4
  else if source && inOutbox a then min left 64
  else min left (256 - a % 256)

/-- A side lies in the register pages. (DEDUCED, log 71.) -/
def Side.pages (x : Side) : Bool := x.meets 0x40000000 0x50000000

/-- A side lies in a lamp outbox read port. -/
def Side.outbox (x : Side) : Bool :=
  (List.range 64).any fun n => x.meets (0x1000A8000 + n * 0x100000) (0x1000B0000 + n * 0x100000)

/-- 64-byte beats of a burst. -/
def beatsOf (a n : Nat) : Nat := (a + n - 1) / 64 + 1 - a / 64

/-- The reserved fields of R424 are zero. -/
def descZeros (d : List Byte) : Bool :=
  descCtrl d / 64 % 4 == 0 && descCtrl d / 65536 == 0 &&
    (if descMode d = 0 then leAt d 40 8 == 0 else if descMode d = 2 then leAt d 41 7 == 0 else true)

/-- Minimum LOW of a pacing source; none: reserved (R434). -/
def paceMin (p : Nat) : Option Nat :=
  if (1 ≤ p ∧ p ≤ 4) ∨ p = 8 ∨ p = 9 then some 3 else if 0x40 ≤ p ∧ p ≤ 0x7F then some 0 else none

/-- Every address, line length and stride of a side is a multiple of n. -/
def Side.multiple (x : Side) (n : Nat) : Bool := x.base % n == 0 && x.line % n == 0 && x.stride % (n : Int) == 0

/-- The check of R428 that a descriptor fails; 0: none. A length that fails check 0x05 fails the ratio of check 0x04 too: 0x05 is given. -/
def descErr (d : List Byte) : Nat :=
  let m := descMode d
  let cv := descConv d
  let S := srcSide d
  let D := dstSide d
  let p := descPace d
  if m = 3 ∨ cv = 3 ∨ (cv ≠ 0 ∧ m = 1) ∨ !descZeros d then 2
  else if D.len = 0 ∨ (m ≠ 1 ∧ S.len = 0) then 3
  else if (cv = 1 ∧ S.len % 16 ≠ 0) ∨ (cv = 2 ∧ S.len % 9 ≠ 0) then 5
  else if m ≠ 1 ∧ ((cv = 0 ∧ D.len ≠ S.len) ∨ (cv = 1 ∧ D.len * 16 ≠ S.len * 9) ∨ (cv = 2 ∧ D.len * 9 ≠ S.len * 16)) then 4
  else if (D.pages ∧ !D.multiple 4) ∨ (m ≠ 1 ∧ S.pages ∧ !S.multiple 4) then 6
  else if (m ≠ 1 ∧ S.outbox ∧ !S.multiple 64) ∨ D.outbox then 7
  else if p = 0 then 0
  else match paceMin p with
    | none => 8
    | some lo => if m = 1 ∨ descHigh d ≤ descLow d ∨ descLow d < lo then 8 else 0

/-! ## Streams (R426, R427) -/

/-- The n bytes of source stream from k on, if all have been read. -/
def srcBytes (x : DmaChan) (k : Nat) : Nat → Option (List Byte)
  | 0 => some []
  | n + 1 => match mapGet none x.srcBuf k with
    | none => none
    | some b => (srcBytes x (k + 1) n).map fun r => b :: r

/-- Byte k of the stream that COPY or FILL writes and COMPARE forms; none while its source bytes have not been read. -/
def formedByte (x : DmaChan) (k : Nat) : Option Byte :=
  let d := x.desc
  if descMode d = 1 then some (BitVec.ofNat 8 (leAt d (40 + k % 8) 1))
  else if descConv d = 0 then mapGet none x.srcBuf k
  else if descConv d = 1 then
    (srcBytes x (k / 9 * 16) 16).map fun g =>
      let v := (List.range 4).foldl (fun a n => a + leAt g (4 * n) 4 % 2 ^ 18 * 2 ^ (18 * n)) 0
      BitVec.ofNat 8 (v >>> (8 * (k % 9)))
  else
    (srcBytes x (k / 16 * 9) 9).map fun g =>
      let w := ofLe g >>> (18 * (k % 16 / 4)) % 2 ^ 18
      w32Byte w (k % 4)

def formedBytes (x : DmaChan) (k : Nat) : Nat → Option (List Byte)
  | 0 => some []
  | n + 1 => match formedByte x k with
    | none => none
    | some b => (formedBytes x (k + 1) n).map fun r => b :: r

/-- The first source byte that destination bytes from k on use. -/
def srcNeeded (d : List Byte) (k : Nat) : Nat := if descConv d = 0 then k else if descConv d = 1 then k / 9 * 16 else k / 16 * 9

/-- Compare as far as both streams have been read (R427); the fuel is the bytes held of the destination stream, and one. -/
def compareOn : Nat → DmaChan → DmaChan
  | 0, x => x
  | n + 1, x =>
    if x.mismatch.isSome then x
    else match formedByte x x.bytes, mapGet none x.dstBuf x.bytes with
      | some a, some b =>
        if (descMask x.desc).testBit (x.bytes % 8) && a != b then { x with mismatch := some x.bytes, bytes := x.bytes + 1 }
        else compareOn n { x with bytes := x.bytes + 1 }
      | _, _ => x

/-- Of the first n bytes of a stream, those that MASK has compared (R427, R441). -/
def comparedBytes (mask n : Nat) : Nat :=
  let ones (k : Nat) : Nat := ((List.range k).filter mask.testBit).length
  n / 8 * ones 8 + ones (n % 8)

/-- Drop the bytes no later step uses. -/
def dropUsed (x : DmaChan) : DmaChan :=
  let cmp := descMode x.desc == 2
  let k := srcNeeded x.desc (if cmp then x.bytes else x.wrPos)
  { x with srcBuf := x.srcBuf.filter (fun p => decide (k ≤ p.1)),
           dstBuf := if cmp then x.dstBuf.filter (fun p => decide (x.bytes ≤ p.1)) else x.dstBuf }

/-- The descriptor's data movement is complete. -/
def dmaMoved (x : DmaChan) : Bool :=
  let d := x.desc
  if descMode d = 2 then x.mismatch.isSome || x.bytes == (dstSide d).len
  else x.wrPos == (dstSide d).len

/-! ## Pacing (R434 to R436) -/

/-- What a pacing source holds at START. -/
def paceHeld (s : State) (p : Nat) : Nat :=
  if 1 ≤ p ∧ p ≤ 4 then (s.f (Reg.DUMP_WR (p - 1)) + 65536 - s.f (Reg.DUMP_RD (p - 1))) % 65536 * s.f (Reg.DUMP_SIZE (p - 1))
  else if p = 8 then
    let size := max 1 (s.f Reg.RELAY_SIZE * 1024)
    (s.f Reg.RELAY_WR + size - s.f Reg.RELAY_RD % size) % size
  else if 0x40 ≤ p then (s.lamp (p - 0x40)).outbox.length
  else 0

def paceSources : List Nat := [1, 2, 3, 4, 8, 9] ++ (List.range 64).map (0x40 + ·)

/-! ## Completion records (R441 to R443) -/

def cmpSize (s : State) (c : Nat) : Nat := 2 ^ (min 12 (s.f (Reg.CH_CFG_CMP_LOG2 c)) + 4)
def cmpBase (s : State) (c : Nat) : Nat := s.f64 (Reg.CMP_BASE_LO c) (Reg.CMP_BASE_HI c) / 64 * 64
def cmpFull (s : State) (c : Nat) : Bool := (s.f (Reg.CMP_WR c) + 131072 - s.f (Reg.CMP_RD c)) % 131072 == cmpSize s c

/-- A record cannot be written now: the ring is full, or it lies in host memory out of reach (R521). -/
def cmpBlocked (s : State) (c : Nat) : Bool := cmpFull s c || (decide (2 ^ 63 ≤ cmpBase s c) && !hostReach s)

/-- Write a record (R442). -/
def putRecord (c : Nat) (rec_ : List Byte) (int : Bool) (s : State) : State :=
  let a := cmpBase s c + 32 * (s.f (Reg.CMP_WR c) % cmpSize s c)
  let (_, s) := memWrite (dmaMaster c) a 32 (atOffset a rec_) 0 s
  let s := s.incF (Reg.CMP_WR c) 1
  let bad := leAt rec_ 8 1 == 2
  let s := if bad then (s.incF (Reg.CNT_ERR c) 1).setF (Reg.CH_STATUS_LAST_ERR c) (leAt rec_ 10 1) else s
  if int || bad then
    (s.setF Reg.DMA_INT_STATUS_DONE (s.f Reg.DMA_INT_STATUS_DONE ||| 2 ^ c)).intPend (8 + c)
  else s

/-- The descriptor in progress leaves the channel. -/
def clearDesc (x : DmaChan) : DmaChan :=
  { x with desc := [], reads := [], writes := [], srcPos := 0, dstPos := 0, wrPos := 0, srcBuf := [], dstBuf := [], bytes := 0,
           mismatch := none, ending := 0, err := 0, info := 0 }

/-- The link read from a NEXT field: followed, END, or not aligned (R438). -/
def goOn (c next : Nat) (s : State) : State :=
  setChState c 1 (updChan c (fun x => { x with fetch := some next }) s)

/-- Read a NEXT field again (R438, R439). -/
def readNext (c err : Nat) (host : List Byte) (s : State) : ReadAns × State :=
  memRead (dmaMaster c) 4 ((chLast s c + 56) % 2 ^ 64) 8 err host s

/-- A reset of the block that waited is done once nothing is in progress, outstanding or held (R446). -/
def dmaResetEnd (s : State) : State :=
  if s.dma.resetDue && s.dma.chans.all fun x => x.2.desc.isEmpty && x.2.held.isNone && x.2.reads.isEmpty && x.2.writes.isEmpty then
    { s.resetRange 0xD0000 0xE0000 with dma := { s.dma with chans := [], last := [], resetDue := false } }
  else s

/-- Act as on a doorbell while IDLE (R439). -/
def doorbellRead (c err : Nat) (host : List Byte) (s : State) : State :=
  let (r, s) := readNext c err host s
  let next := ofLe r.2
  if !r.1 then raise { dmaEv FK.DMA_BUS_ERR c s with addr := (chLast s c + 56) % 2 ^ 48, access := 4, master := dmaMaster c } s
  else if next ≠ 0 ∧ next % 64 = 0 then goOn c next s
  else s

/-- After a record: follow a link, or go IDLE and take a pending doorbell, which a disabled engine ignores (R439, R447).
(DEDUCED, log 114.) -/
def afterRecord (c : Nat) (next : Option Nat) (ended : Bool) (err : Nat) (host : List Byte) (s : State) : State :=
  match next with
  | some a => goOn c a s
  | none =>
    let s := setChState c 0 (updChan c (fun x => { x with fetch := none }) s)
    if ended ∧ s.flag (Reg.CH_STATUS_DB_PEND c) then
      let s := s.setF (Reg.CH_STATUS_DB_PEND c) 0
      if s.flag Reg.DMA_CTRL_EN then doorbellRead c err host s else s
    else s

/-- Write a record, or hold it (R443). -/
def recordOut (c : Nat) (rec_ : List Byte) (int : Bool) (next : Option Nat) (ended : Bool) (err : Nat) (host : List Byte)
    (s : State) : State :=
  let s := updChan c clearDesc s
  if cmpBlocked s c then
    let s := setChState c 2 (updChan c (fun x => { x with held := some (rec_, int, next), aborted := false }) s)
    if cmpFull s c then raiseOnce (Reg.CMP_RD c).key (dmaEv FK.DMA_CMP_FULL c s) s else s
  else afterRecord c next ended err host (putRecord c rec_ int s)

/-- A held record may now be written (R443, R447, R521). -/
def releaseHeld (c err : Nat) (host : List Byte) (s : State) : State :=
  match (s.chan c).held with
  | none => s
  | some (rec_, int, next) =>
    if cmpBlocked s c then s
    else
      let ended := leAt rec_ 9 1 % 2 == 1 && !(s.chan c).aborted
      let s := updChan c (fun x => { x with held := none, aborted := false }) s
      afterRecord c next ended err host (putRecord c rec_ int s)

/-- The record of the descriptor in progress (R441). -/
def recordBytes (s : State) (c status flags : Nat) : List Byte :=
  let x := s.chan c
  let d := x.desc
  let info := if status = 2 then x.info else match x.mismatch with | some k => k | none => 0
  leBytes 8 (chLast s c) ++
    leBytes 1 status ++ leBytes 1 (flags + 2 * b2n x.mismatch.isSome + 4 * b2n (descPace d != 0)) ++
    leBytes 1 (if status = 2 then x.err else 0) ++ leBytes 1 c ++ leBytes 4 ((x.seq + 2 ^ 32 - 1) % 2 ^ 32) ++
      leBytes 8 (if descMode d = 2 then comparedBytes (descMask d) x.bytes else x.bytes) ++ leBytes 8 info

/-! ## Commands (R437, R439, R445, R447) -/

/-- CH_CTRL.START. (DEDUCED, log 69.) -/
def dmaStart (c : Nat) (s : State) : State :=
  if !s.flag Reg.DMA_CTRL_EN ∨ chState s c ≠ 0 ∨ s.dma.resetDue then s
  else
    let base := paceSources.foldl (fun m p => mapSet 0 m p ((paceMade s p : Int) - paceHeld s p)) []
    let s := putChan c { DmaChan.reset with fetch := some (s.f64 (Reg.CH_DESC_LO c) (Reg.CH_DESC_HI c) / 64 * 64), paceBase := base } s
    setChState c 1 ((s.setF (Reg.CH_STATUS_DB_PEND c) 0).setF (Reg.CH_STATUS_PACE_REQ c) 0)

/-- The channel has fetched a descriptor since reset. -/
def hasLast (s : State) (c : Nat) : Bool := chLast s c != 0 || (s.chan c).seq != 0

/-- CH_CTRL.DOORBELL. -/
def dmaDoorbell (c err : Nat) (host : List Byte) (s : State) : State :=
  if !s.flag Reg.DMA_CTRL_EN ∨ s.dma.resetDue then s
  else if chState s c ≠ 0 then s.setF (Reg.CH_STATUS_DB_PEND c) 1
  else if hasLast s c then doorbellRead c err host s
  else s

/-- CH_CTRL.ABORT. A record held in WAIT_CMP is followed by no read of NEXT (R445). (DEDUCED, log 70.) -/
def dmaAbort (c : Nat) (s : State) : State :=
  let x := s.chan c
  let st := chState s c
  if st = 0 ∨ st = 3 then s
  else if st = 2 then updChan c (fun x => { x with held := x.held.map fun h => (h.1, h.2.1, none), aborted := true }) s
  else if x.desc.isEmpty ∧ x.ending = 0 then setChState c 0 (updChan c (fun x => { x with fetch := none }) s)
  else setChState c 3 (updChan c (fun x => if x.ending = 2 then x else { x with ending := 3 }) s)

/-- A write of DMA_CTRL.EN. -/
def dmaEnable (en : Bool) (s : State) : State :=
  let s' := s.setFlag Reg.DMA_CTRL_EN en
  if s.flag Reg.DMA_CTRL_EN && !en then (List.range 16).foldl (fun s c => dmaAbort c s) s' else s'

/-- CH_CTRL.CLEAR_CNT. -/
def dmaClearCnt (c : Nat) (s : State) : State :=
  ((s.setF (Reg.CNT_DESC c) 0).setF64 (Reg.CNT_BYTES_LO c) (Reg.CNT_BYTES_HI c) 0).setF (Reg.CNT_ERR c) 0

/-- A write of CMP_RD. -/
def cmpRdWrite (c v err : Nat) (host : List Byte) (s : State) : State :=
  dmaResetEnd (releaseHeld c err host ((s.setF (Reg.CMP_RD c) v).setOnce (Reg.CMP_RD c).key false))

/-- Writes to host memory end with the DISCARDED record: the device is snuffed (R448), or its outputs are gated under
GATE_HOST (R629). -/
def hostClosed (s : State) : Bool := s.snuffed || (s.flag Reg.PAIR_CFG_GATE_HOST && pairGated s)

/-! ## Fetch (R428, R437, R441, R448) -/

def endWith (ending err info : Nat) (x : DmaChan) : DmaChan := { x with ending := ending, err := err, info := info }

/-- DESCRIPTOR_FETCH. -/
def descFetch (c err : Nat) (host : List Byte) (s : State) : State :=
  match (s.chan c).fetch with
  | none => s
  | some a =>
    if !s.flag Reg.DMA_CTRL_EN ∨ chState s c ≠ 1 ∨ busHolds s a 64 then s
    else
      let s := s.setF64 (Reg.CH_LAST_LO c) (Reg.CH_LAST_HI c) a
      let s := updChan c (fun x => { clearDesc x with fetch := none, seq := x.seq + 1 }) (s.incF (Reg.CNT_DESC c) 1)
      let (r, s) := memRead (dmaMaster c) 4 a 64 err host s
      if !r.1 then
        raise { dmaEv FK.DMA_BUS_ERR c s with addr := a % 2 ^ 48, access := 4, master := dmaMaster c }
          (updChan c (fun x => { endWith 2 1 0 x with desc := zeros 64, paceSrc := 0 }) s)
      else
        let d := r.2
        let s := updChan c (fun x => { x with desc := d, paceSrc := descPace d }) s
        let e := descErr d
        let s := if e ≠ 0 then raise (dmaEv FK.DMA_DESC_INVALID c s) (updChan c (endWith 2 e 0) s)
          else if hostClosed s ∧ descMode d ≠ 2 ∧ 2 ^ 63 ≤ descDst d then updChan c (endWith 4 0 0) s else s
        paceShow c s

/-! ## Bursts (R429 to R436, R448) -/

/-- Channel c has a read burst of a stream to issue, but for its pacing. -/
def readPending (s : State) (c : Nat) (dst : Bool) : Bool :=
  let x := s.chan c
  let d := x.desc
  chState s c == 1 && !d.isEmpty && x.ending == 0 && descMode d != 1 && (!dst || descMode d == 2) && x.mismatch.isNone &&
    decide (x.reads.length < 8) && decide ((if dst then x.dstPos else x.srcPos) < (if dst then dstSide d else srcSide d).len)

/-- Channel c has a write burst to issue, but for its data. -/
def writePending (s : State) (c : Nat) : Bool :=
  let x := s.chan c
  let d := x.desc
  chState s c == 1 && !d.isEmpty && x.ending == 0 && descMode d != 2 && decide (x.writes.length < 8) &&
    decide (x.wrPos < (dstSide d).len)

/-- The bytes of channel c's next write burst, once all have been read (R432). -/
def writeData (s : State) (c : Nat) : Option (List Byte) :=
  let x := s.chan c
  formedBytes x x.wrPos ((dstSide x.desc).burst x.wrPos false)

/-- Channel c has a burst ready (R432, R433, R436). -/
def burstReady (s : State) (c : Nat) : Bool :=
  let x := s.chan c
  ((readPending s c false || readPending s c true) && (descPace x.desc == 0 || paceReq s c)) ||
    (writePending s c && (writeData s c).isSome)

/-- The arbiter serves channel c next: round-robin among the ready channels with CH_CFG.PRIO = 1, else among the rest (R433).
(DEDUCED, log 135.) -/
def dmaTurn (s : State) (c : Nat) : Bool :=
  let prio (k : Nat) : Nat := s.f (Reg.CH_CFG_PRIO k)
  let ready := (List.range 16).filter fun k => burstReady s k
  let top := ready.filter fun k => prio k == 1
  let served := if top.isEmpty then ready else top
  let last := mapGet 15 s.dma.last (prio c)
  ((List.range 16).map fun i => (last + 1 + i) % 16).find? (fun k => served.contains k) == some c

/-- The arbiter has served channel c. -/
def dmaServed (c : Nat) (s : State) : State :=
  { s with dma := { s.dma with last := mapSet 15 s.dma.last (s.f (Reg.CH_CFG_PRIO c)) c } }

/-- READ_BURST, at the channel's turn: `dst`: the destination stream of a COMPARE. (DESIGN CHOICE, log 68.) -/
def readBurst (c : Nat) (dst : Bool) (s : State) : State :=
  let x := s.chan c
  let d := x.desc
  let side := if dst then dstSide d else srcSide d
  let pos := if dst then x.dstPos else x.srcPos
  if !readPending s c dst ∨ !dmaTurn s c then s
  else
    let s := paceShow c s
    if descPace d ≠ 0 ∧ !s.flag (Reg.CH_STATUS_PACE_REQ c) then s
    else
      let n := side.burst pos (!dst)
      let a := side.addr pos
      let b : DmaBurst := { pos := pos, n := n, addr := a, dst := dst, data := [], wrAt := x.wrPos }
      let x := { x with reads := x.reads ++ [b], srcPos := if dst then x.srcPos else pos + n, dstPos := if dst then pos + n else x.dstPos,
                        cons := if descPace d = 0 then x.cons else x.cons + beatsOf a n }
      perfEvent 0x0D 0x10 1 (paceShow c (dmaServed c (putChan c x s)))

/-- WRITE_BURST, at the channel's turn. -/
def writeBurst (c : Nat) (s : State) : State :=
  let x := s.chan c
  let d := x.desc
  let side := dstSide d
  if !writePending s c then s
  else
    let n := side.burst x.wrPos false
    let a := side.addr x.wrPos
    if hostClosed s ∧ 2 ^ 63 ≤ a then updChan c (endWith 4 0 0) s
    else if !dmaTurn s c then s
    else match writeData s c with
      | none => s
      | some bs =>
        let b : DmaBurst := { pos := x.wrPos, n := n, addr := a, dst := true, data := bs, wrAt := 0 }
        perfEvent 0x0D 0x11 1 (dmaServed c (putChan c (dropUsed { x with writes := x.writes ++ [b], wrPos := x.wrPos + n }) s))

/-- An error response ends the descriptor with ERROR, an aborted one too (R444); the first is recorded. (DEDUCED, log 136.) -/
def firstError (x : DmaChan) : Bool := x.ending != 2

/-- The answer to an outstanding read. -/
def readDone (c k : Nat) (r : ReadAns) (s : State) : State :=
  let x := s.chan c
  match x.reads[k]? with
  | none => s
  | some b =>
    let x := { x with reads := x.reads.eraseIdx k }
    if !r.1 then
      let bad := firstError x
      let s := putChan c (if bad then endWith 2 9 b.addr x else x) s
      if bad then raise { dmaEv FK.DMA_BUS_ERR c s with addr := b.addr % 2 ^ 48, access := 1, master := dmaMaster c } s else s
    else
      let put (m : List (Nat × Option Byte)) := mapSetList none m b.pos (r.2.map some)
      let x := if b.dst then { x with dstBuf := put x.dstBuf } else { x with srcBuf := put x.srcBuf }
      let x := if descMode x.desc = 2 then dropUsed (compareOn (x.dstBuf.length + 1) x) else x
      putChan c x s

/-- The answer to an outstanding write. -/
def writeDone (c k : Nat) (ok : Bool) (s : State) : State :=
  let x := s.chan c
  match x.writes[k]? with
  | none => s
  | some b =>
    let x := { x with writes := x.writes.eraseIdx k }
    if !ok then
      let bad := firstError x
      let s := putChan c (if bad then endWith 2 10 b.addr x else x) s
      if bad then raise { dmaEv FK.DMA_BUS_ERR c s with addr := b.addr % 2 ^ 48, access := 2, master := dmaMaster c } s else s
    else (putChan c { x with bytes := x.bytes + b.n } s).inc64 (Reg.CNT_BYTES_LO c) (Reg.CNT_BYTES_HI c) b.n

/-! ## The end of a descriptor (R438, R444, R445, R448) -/

/-- The descriptor in progress can end: nothing is outstanding, and it has moved all its data or is to end early. -/
def descReady (s : State) (c : Nat) : Bool :=
  let x := s.chan c
  !x.desc.isEmpty && x.reads.isEmpty && x.writes.isEmpty && (x.ending != 0 || dmaMoved x)

/-- The channel ends its descriptor: `host` and `again` are what host memory answers to the read of NEXT and to that of a pending
doorbell. NEXT in a channel of LPDDR6 that holds its traffic is not read yet. -/
def endDesc (c err : Nat) (host again : List Byte) (s : State) : State :=
  let x := s.chan c
  if !descReady s c ∨ (chState s c ≠ 1 ∧ chState s c ≠ 3) ∨ busHolds s ((chLast s c + 56) % 2 ^ 64) 8 then s
  else if x.ending = 2 ∨ x.ending = 3 then
    recordOut c (recordBytes s c x.ending 0) (descInt x.desc) none false 0 [] s
  else
    let (r, s) := readNext c err host s
    if !r.1 then
      let s := updChan c (endWith 2 9 ((chLast s c + 56) % 2 ^ 64)) s
      let s := raise { dmaEv FK.DMA_BUS_ERR c s with addr := (chLast s c + 56) % 2 ^ 48, access := 4, master := dmaMaster c } s
      recordOut c (recordBytes s c 2 0) (descInt x.desc) none false 0 [] s
    else
      let next := ofLe r.2
      let st := if x.ending = 4 then 4 else 1
      if next = 0 then recordOut c (recordBytes s c st 1) (descInt x.desc) none true 0 again s
      else if next % 64 ≠ 0 then
        recordOut c (recordBytes s c st 8) (descInt x.desc) none false 0 [] (raise (dmaEv FK.DMA_NEXT_BAD c s) s)
      else recordOut c (recordBytes s c st 0) (descInt x.desc) (some next) false 0 [] s

/-- DESCRIPTOR_END. A reset of the block that waited for it is done then. -/
def descEnd (c err : Nat) (host again : List Byte) (s : State) : State := dmaResetEnd (endDesc c err host again s)

end Sys2Proof.Machine
end

