-- ==== Sys2Proof/Machine/Reset.lean ====
section
/-! DEFINITION. Sys2Proof/Machine/Reset.lean: the kinds of reset, the straps, the clocks and the watchdog (20_bringup.md), and
the block resets of C3 faults (R607). -/
namespace Sys2Proof.Machine

def bringSet (f : BringState → BringState) (s : State) : State := { s with bring := f s.bring }
def mgmtSet (f : Mgmt → Mgmt) (s : State) : State := { s with mgmt := f s.mgmt }
def hifSet (f : HifState → HifState) (s : State) : State := { s with hif := f s.hif }
def dictSet (f : DictState → DictState) (s : State) : State := { s with dict := f s.dict }

/-- The transactions of a reset master are retired as their responses arrive (R490); its port takes new requests after that, which is
here the next command. -/
def retire (n : Nat) (s : State) : State := s.incF Reg.BMX_CNT_RETIRE n

/-- Codes of the causes that hold the device in reset: those of R680, and 6 for the brown-out detector (R675, code 0). -/
def held (s : State) : Bool := !s.bring.holding.isEmpty

/-- Registers a device reset keeps (R679, R680; TOP_CLK_CFG; the levels of the snuff and sense pins). (DESIGN CHOICE, log 15.) -/
def resetKeeps (key : Nat) : Bool :=
  key == 0x24 || key == 0x0C || key == 0x10 || (decide (0x30060 ≤ key) && decide (key < 0x30070))

/-- A word write in progress at a reset completes (R677). -/
def nvmFinish (s : State) : State :=
  match s.mgmt.nvmWrite with
  | none => s
  | some (a, w) => nvmStore a (leBytes 8 w) s

/-- The device in reset: every block at reset, MRAM kept (R679). `power`: power-on reset, which keeps nothing else. -/
def resetAll (power : Bool) (s : State) : State :=
  let s := nvmFinish s
  let r := { State.reset with
    pending := s.pending, resp := s.resp, out := s.out, fresh := s.fresh, nvm := s.nvm, regs := s.regs.filter fun p => !power && resetKeeps p.1,
    bring := if power then { BringState.reset with holding := s.bring.holding, porstN := s.bring.porstN, wrstN := s.bring.wrstN,
                                                   hifPerstN := s.bring.hifPerstN, trstN := s.bring.trstN, strapPers := s.bring.strapPers,
                                                   strapPrio := s.bring.strapPrio, smbAlert := s.bring.smbAlert }
             else { s.bring with watchdogOn := false } }
  let r := { r with flt := { r.flt with snuffOut := true } }
  let r := (r.setF Reg.FLT_STATUS_IN_PIN (s.f Reg.FLT_STATUS_IN_PIN)).setF Reg.PAIR_STATUS_SENSE (s.f Reg.PAIR_STATUS_SENSE)
  if power then r else r.setF Reg.SNS_STATUS_TSHUT_SEEN (s.f Reg.SNS_STATUS_TSHUT_SEEN)

/-- A cause of device reset asserts: it resets the device, or extends the hold (R680, R681). -/
def holdReset (cause : Nat) (s : State) : State :=
  let power := cause == 0 || cause == 6
  let s := if !held s || power then resetAll power s else s
  bringSet (fun b => { b with holding := if b.holding.contains cause then b.holding else b.holding ++ [cause] }) s

/-- A cause clears. When the last one does, the device leaves reset: its cause is recorded, the straps are sampled and SSC_ON
takes its value (R670, R680, R681, R683, R618). -/
def releaseReset (cause : Nat) (s : State) : State :=
  if !s.bring.holding.contains cause then s
  else
    let s := bringSet (fun b => { b with holding := b.holding.filter (· != cause) }) s
    if held s then s
    else
      let code := if cause = 6 then 0 else cause
      let s := s.setF Reg.TOP_RST_CAUSE_LAST code
      let s := if code = 0 then s else s.satF Reg.TOP_RST_CAUSE_COUNT 1
      let s := (s.setF Reg.TOP_STRAP_PERS s.bring.strapPers).setFlag Reg.TOP_STRAP_PAIR_PRIO s.bring.strapPrio
      let s := (s.setF Reg.TOP_STATUS_PERSONALITY s.bring.strapPers).setFlag Reg.PAIR_STATUS_PRIO s.bring.strapPrio
      let s := bringSet (fun b => { b with sscPhase := 0 }) s
      let s := (s.setF Reg.TOP_PLL_STATUS_SSC_ON (s.f Reg.TOP_CLK_CFG_SSC_EN)).setF Reg.TOP_PLL_STATUS_REF_LINK_OK 1
      let s := { s with flt := { s.flt with snuffOut := false } }
      if s.flag Reg.FLT_STATUS_IN_PIN then snuffInAssert s else s

/-- RESET_RELEASE: a pin, key or clock cause clears, with the straps at the levels given. -/
def resetRelease (cause pers : Nat) (prio : Bool) (s : State) : State :=
  if cause = 3 ∨ cause = 4 then s
  else releaseReset cause (bringSet (fun b =>
    { b with strapPers := pers, strapPrio := prio, porstN := b.porstN || cause == 0, wrstN := b.wrstN || cause == 1 }) s)

def porstAssert (s : State) : State := holdReset 0 (bringSet (fun b => { b with porstN := false }) s)
def brownOut (s : State) : State := holdReset 6 s
def wrstLow (s : State) : State := holdReset 1 (bringSet (fun b => { b with wrstN := false }) s)
def refclkLoss (s : State) : State := holdReset 5 (s.setF Reg.TOP_PLL_STATUS_REF_LINK_OK 0)

/-- A write of TOP_RST_CTRL.KEY. -/
def resetKey (w : Nat) (s : State) : State := if w = 0x44565253 then holdReset 2 s else s

/-- C4_RESET_HOLD: 1 µs after the snuff of a C4 event (R586, R608, R680). -/
def c4Hold (s : State) : State := if s.flt.c4Pending = 0 then s else holdReset s.flt.c4Pending s

def c4Release (s : State) : State := releaseReset 3 s

/-! ## Clocks (R669, R672) -/

/-- PLL_LOCK: 0 PLL_SYS, 1 PLL_CORE, 2 link PLL, 3 the host interface's reference and PLL. -/
def pllLock (k : Nat) (s : State) : State :=
  if k = 0 then s.setF Reg.TOP_PLL_STATUS_SYS_LOCK 1 else if k = 1 then s.setF Reg.TOP_PLL_STATUS_CORE_LOCK 1
  else if k = 2 then s.setF Reg.TOP_PLL_STATUS_LINK_LOCK 1 else s.setF Reg.TOP_PLL_STATUS_REF_HIF_OK 1

/-- PLL_UNLOCK of PLL_SYS, PLL_CORE or the link PLL. In a device held in reset no collector takes the event (DEDUCED, log 98). -/
def pllUnlock (k : Nat) (s : State) : State :=
  let s := if k = 0 then s.setF Reg.TOP_PLL_STATUS_SYS_LOCK 0 else if k = 1 then s.setF Reg.TOP_PLL_STATUS_CORE_LOCK 0
    else s.setF Reg.TOP_PLL_STATUS_LINK_LOCK 0
  if held s then s else raise (fev FK.TOP_PLL_UNLOCK 0 0 0) s

/-! ## Personality (R684) -/

/-- A write of TOP_PERS_SEL. -/
def persSel (v : Nat) (s : State) : State :=
  if s.f Reg.TOP_STRAP_PERS ≠ 3 ∨ s.flag Reg.TOP_PERS_SEL_DONE then s
  else ((s.setF Reg.TOP_PERS_SEL_VALUE v).setF Reg.TOP_PERS_SEL_DONE 1).setF Reg.TOP_STATUS_PERSONALITY v

/-! ## The Lamplighter (R524, R542, R570, R687) -/

/-- The mailbox exchange in progress ends ABORTED (R524). -/
def mbxAbort (s : State) : State :=
  if !s.flag Reg.MBX_STATUS_BUSY then s
  else
    let s := ((s.setF Reg.MBX_STATUS_BUSY 0).setF Reg.MBX_STATUS_RESULT 1).setF Reg.MBX_STATUS_RSP_LEN 0
    (hifSet (fun h => { h with mbxTaken := false }) (s.setF Reg.MBX_STATUS_DONE 1)).intPend 0

/-- TOP_LL_WDOG.EN (R687). -/
def watchdogEnable (s : State) : State := bringSet (fun b => { b with watchdogOn := true }) (s.setF Reg.TOP_LL_WDOG_EN 1)

/-- The count restarts: its length is not state, since WATCHDOG_EXPIRY says when it ends. -/
def watchdogKick (s : State) : State := bringSet (fun b => { b with watchdogOn := s.flag Reg.TOP_LL_WDOG_EN }) s

def watchdogExpiry (s : State) : State :=
  if !s.bring.watchdogOn then s else raise (fev FK.TOP_LL_WATCHDOG 0 0 0) (s.satF Reg.TOP_LL_WDOG_EXPIRED 1)

end Sys2Proof.Machine
end

