-- ==== Sys2Proof/Machine/Mgmt.lean ====
section
/-! DEFINITION. Sys2Proof/Machine/Mgmt.lean: MRAM word writes, the sensors, the eye measurement and the lifetime record
(16_management.md). -/
namespace Sys2Proof.Machine

/-! ## MRAM word writes (R576, R577) -/

/-- The slot the ROM started, while an image runs. -/
def runningSlot (s : State) : Option Nat :=
  if s.flag Reg.TOP_REMAP_SWAP && !s.flag Reg.NVM_STATUS_RECOVERY then some (s.f Reg.NVM_STATUS_RUN_SLOT) else none

/-- A word write that the controller refuses. `maker`: the request behind it has origin class M. -/
def nvmRefused (master a : Nat) (maker : Bool) (s : State) : Bool :=
  master != 1 || s.flag Reg.NVM_STATUS_BUSY || (decide (a < 0x800000) && runningSlot s == some (a / 0x400000)) ||
    (decide (0xE00000 ≤ a) && decide (a < 0xE10000) && s.flag Reg.TOP_REMAP_SWAP) ||
    (decide (0xD00000 ≤ a) && decide (a < 0xE00000) && !maker)

/-- A write of NVM_WDATA_HI. -/
def nvmWordWrite (master hi : Nat) (maker : Bool) (s : State) : State :=
  let s := s.setF Reg.NVM_WDATA_HI hi
  let a := s.f Reg.NVM_WADDR * 8
  if nvmRefused master a maker s then
    raise { fevA FK.NVM_REFUSED 0x08 0 (0x20000000 + a) 2 with master := master } (s.setF Reg.NVM_STATUS_REFUSED 1)
  else
    mgmtSet (fun m => { m with nvmWrite := some (a, s.f Reg.NVM_WDATA_LO + 2 ^ 32 * hi) }) (s.setF Reg.NVM_STATUS_BUSY 1)

/-- The word write ends; `bad`: attempts whose read-back did not match, at most 2. After two the word's contents are not
stated: they are free. (DESIGN CHOICE, log 75.) -/
def nvmWriteComplete (bad : Nat) (s : State) : State :=
  match s.mgmt.nvmWrite with
  | none => s
  | some (a, w) =>
    let s := mgmtSet (fun m => { m with nvmWrite := none }) (s.setF Reg.NVM_STATUS_BUSY 0)
    let put (v : Nat) (s : State) : State := nvmStore a (leBytes 8 v) s
    if bad < 2 then (put w s).incF Reg.NVM_CNT_WRITES 1
    else
      let (v, s) := s.draw
      raise (fevA FK.NVM_WRITE_FAIL 0x08 0 (0x20000000 + a) 2) ((put v s).setF Reg.NVM_STATUS_WRITE_ERR 1)

/-- A read of NVM_ERR_ADDR. -/
def nvmErrAddrRead (s : State) : Nat × State :=
  (s.f Reg.NVM_ERR_ADDR, (s.setF Reg.NVM_ERR_ADDR 0).setOnce Reg.NVM_ERR_ADDR.key false)

/-! ## Thermal sensors (R583 to R586) -/

/-- The reading of sensor t in its last sample, in units of 0.125 °C; none before the first. -/
def tempOf (s : State) (t : Nat) : Option Int :=
  if s.flag (Reg.SNS_TEMP_VALID t) then some (sext 12 (s.f (Reg.SNS_TEMP_VALUE t))) else none

/-- Index and value of the highest reading, the first of equals. -/
def hottestOf : List Int → Nat → Nat × Int → Nat × Int
  | [], _, b => b
  | v :: r, i, b => hottestOf r (i + 1) (if v > b.2 then (i, v) else b)

/-- THERMAL_SAMPLE with the 32 readings. -/
def thermalSample (vals : List Nat) (s : State) : State :=
  let v := vals.map (sext 12)
  if s.bring.holding.contains 4 then (if v.all fun x => decide (x ≤ 880) then releaseReset 4 s else s)
  else if held s then s
  else
    let again (x : Int × Nat) : Bool := decide (1080 ≤ x.1) && (match tempOf s x.2 with | some p => decide (1080 ≤ p) | none => false)
    let hot := (v.zipIdx.find? again).map Prod.snd
    let s := vals.zipIdx.foldl (fun s x => (s.setF (Reg.SNS_TEMP_VALUE x.2) x.1).setF (Reg.SNS_TEMP_VALID x.2) 1) s
    let h := hottestOf v 0 (0, v.headD 0)
    let s := s.setF Reg.SNS_STATUS_HOTTEST h.1
    let warnAt := 8 * sext 8 (s.f Reg.SNS_TEMP_LIMIT_WARN_C)
    let clearAt := 8 * sext 8 (s.f Reg.SNS_TEMP_LIMIT_CLEAR_C)
    let s :=
      if h.2 ≥ warnAt ∧ !s.mgmt.warned then
        raise (fev FK.SNS_TEMP_WARN 0x09 h.1 (wrap 48 h.2)) (mgmtSet (fun m => { m with warned := true }) (s.setF Reg.SNS_STATUS_WARN 1))
      else if h.2 ≤ clearAt then mgmtSet (fun m => { m with warned := false }) (s.setF Reg.SNS_STATUS_WARN 0)
      else s
    match hot with
    | none => s
    | some t =>
      raise (fev FK.SNS_TSHUT 0x09 t (wrap 48 (v.getD t 0))) (bringSet (fun b => { b with tshutDue := true }) (s.setF Reg.SNS_STATUS_TSHUT_SEEN 1))

/-! ## Voltage monitors (R587) -/

/-- DEDUCED, log 94. -/
def voltOne (m mv : Nat) (s : State) : State :=
  let s := s.setF (Reg.SNS_VOLT_MV m) mv
  let under := decide (mv < s.f (Reg.SNS_VLIM_UNDER_MV m))
  let above := decide (s.f (Reg.SNS_VLIM_OVER_MV m) < mv)
  let was (b : Nat) := s.mgmt.voltOut.testBit b
  let put (x b : Nat) (v : Bool) : Nat := if x.testBit b == v then x else x ^^^ 2 ^ b
  let begins := !s.mgmt.voltExc.testBit m && ((under && was m) || (above && was (32 + m)))
  let s := mgmtSet (fun g => { g with voltOut := put (put g.voltOut m under) (32 + m) above,
                                      voltExc := put g.voltExc m (begins || (g.voltExc.testBit m && (under || above))) }) s
  if begins then
    let s := if under then s.incF (Reg.SNS_CNT_UNDER m) 1 else s.incF (Reg.SNS_CNT_OVER m) 1
    let s := s.lifeAdd (if under then 768 + 8 * m else 772 + 8 * m) 1
    let last := mapGet 0 s.mgmt.voltRaised m
    if last = 0 ∨ last - 1 + 1000000000 ≤ s.tb0 then
      raise (fev FK.SNS_VOLT 0x09 m mv) (mgmtSet (fun g => { g with voltRaised := mapSet 0 g.voltRaised m (s.tb0 + 1) }) s)
    else s
  else s

/-- VOLTAGE_SAMPLE with the 24 readings in mV. -/
def voltageSample (mv : List Nat) (s : State) : State :=
  let s := mv.zipIdx.foldl (fun s x => voltOne x.2 x.1 s) s
  s.setFlag Reg.SNS_STATUS_VEXC (s.mgmt.voltExc != 0)

/-! ## The eye (R588) -/

def eyeStart (lane : Nat) (s : State) : State :=
  let s := (s.setF Reg.SNS_EYE_SEL_LANE lane).setF Reg.SNS_EYE_DONE 0
  mgmtSet (fun m => { m with eye := some (lane, rxState s lane != 6) }) s

/-- The measurement ends; without a lane that stayed ACTIVE it is INVALID and its result is not stated. (DESIGN CHOICE, log 86.) -/
def eyeComplete (height width : Nat) (s : State) : State :=
  match s.mgmt.eye with
  | none => s
  | some (lane, bad) =>
    let bad := bad || rxState s lane != 6
    let s := mgmtSet (fun m => { m with eye := none }) s
    let (h, s) := if bad then s.draw else (height, s)
    let (w, s) := if bad then s.draw else (width, s)
    ((((s.setF Reg.SNS_EYE_HEIGHT_MV h).setF Reg.SNS_EYE_WIDTH w).setF Reg.SNS_EYE_DONE 1)).setFlag Reg.SNS_EYE_INVALID bad

/-! ## Lifetime record (R589 to R591, R597) -/

/-- The counters the record follows: offset and present value. -/
def lifeSources (s : State) : List (Nat × Nat) :=
  ((List.range 128).map fun l => (960 + 4 * l, s.f (lf Reg.CNT_TRAIN_ATTEMPT l))) ++
  ((List.range 8).flatMap fun m => [(1536 + 12 * m, s.f (Reg.CH_CE m)), (1540 + 12 * m, s.f (Reg.CH_UE m)), (1544 + 12 * m, s.f (Reg.CH_TAG m))]) ++
  [(1632, s.f Reg.MNT_ECC_CORR), (1636, s.f Reg.MNT_ECC_UNCORR),
   (1640, (List.range 64).foldl (fun a n => a + s.f (Reg.LMP_CNT_ECC_CORR n)) 0), (1644, s.f (Reg.FLT_KIND_CNT FK.LMP_MEM_UE)),
   (1648, s.f Reg.NVM_CNT_CE), (1652, s.f Reg.NVM_CNT_UE)] ++
  ((s.regs.filter fun p => decide (0x34000 ≤ p.1) && decide (p.1 < 0x38000)).map fun p => (1664 + (p.1 - 0x34000), p.2.toNat))

/-- Add what the counters, which wrap at 32 bits, have counted since the last time (R603). -/
def lifeGather (s : State) : State :=
  (lifeSources s).foldl (fun s x =>
    let seen := mapGet 0 s.mgmt.lifeSeen x.1
    let d := (x.2 % 2 ^ 32 + 2 ^ 32 - seen % 2 ^ 32) % 2 ^ 32
    mgmtSet (fun m => { m with lifeSeen := mapSet 0 m.lifeSeen x.1 x.2 }) (if d = 0 then s else s.lifeAdd x.1 d)) s

/-- The Lamplighter keeps the record: its start-up has loaded it (R589). -/
def recordsOn (s : State) : Bool := s.mgmt.bootSteps == 5 || s.flag Reg.NVM_STATUS_RECOVERY

/-- The counts are written to the next copy in rotation (R589). -/
def lifeKeep (s : State) : State := let s := lifeGather s; storeWrite lifeCopies (lifeBytes s.mgmt.life s.mgmt.hist) s

/-- LIFETIME_WRITE, once the record is loaded (DEDUCED, log 80). -/
def lifetimeWrite (s : State) : State := if recordsOn s then lifeKeep s else s

/-- The record in SRAM is that of the newest valid copy. -/
def lifeLoad (s : State) : State :=
  let b := lifeRecord s
  mgmtSet (fun m => { m with life := lifeCounts b, hist := lifeHist b }) s

/-- The start-up loads the record and counts what the last reset left to count (R589, R591). -/
def lifeStart (s : State) : State :=
  let s := lifeLoad (storeCheck lifeCopies s)
  let s := if s.bring.powerDue then s.lifeAdd 8 1 else s
  let s := if s.bring.tshutDue then s.lifeAdd 20 1 else s
  bringSet (fun b => { b with powerDue := false, tshutDue := false }) s

/-- The bin of a reading (R591): rounded to the nearest degree, ties upward. -/
def histBin (v : Int) : Nat := min 180 ((v + 4) / 8 + 40).toNat

/-- TEMP_HISTOGRAM_MINUTE, once the record is loaded. -/
def histogramMinute (s : State) : State :=
  if !recordsOn s then s
  else
  let s := lifeGather s
  let m := mapGet 0 s.mgmt.life 0
  let s := mgmtSet (fun g => { g with life := mapSet 0 g.life 0 (min (2 ^ 64 - 1) (m + 1)) }) s
  match tempOf s (s.f Reg.SNS_STATUS_HOTTEST) with
  | none => s
  | some v => s.lifeAdd (32 + 4 * histBin v) 1

/-- LIFETIME_CLEAR (object 0x9000.04): the record, with what is counted so far, is zeroed in SRAM and in its newest copy. -/
def lifetimeClear (key : Nat) (s : State) : State :=
  if key ≠ 0x434C5252 then s
  else storeWrite lifeCopies (lifeBytes [] []) (mgmtSet (fun m => { m with life := [], hist := [] }) (lifeGather s))

/-- The update state at a start of the firmware: TRIAL in a trial, else IDLE (R595). -/
def updStart (s : State) : State :=
  let u := ucrNow s
  mgmtSet (fun m => { m with updState := if u.trial ∧ runningSlot s = some u.trialSlot then 4 else 0, updError := 0 }) s

/-- A Lamplighter reset (R524, R542, R570). The counts not yet written to MRAM are lost: the record in SRAM returns to its newest
copy. The firmware starts again: at FIRMWARE_INIT while the device is not ready yet, else where it serves; without an image the ROM does.
The watchdog's count restarts in full, which no state shows. (DEDUCED, log 95.) -/
def lamplighterReset (s : State) : State :=
  let s := mbxAbort s
  let s := [0, 1, 2, 3].foldl (fun s n => if (s.pset n).state = 2 then s else s.putPset n PSet.reset) s
  let s := updStart (lifeLoad (lifeGather s))
  if !s.flag Reg.TOP_REMAP_SWAP then (s.setF Reg.TOP_STATUS_STAGE 0).setF Reg.NVM_STATUS_RECOVERY 0
  else if s.f Reg.TOP_STATUS_STAGE = 2 then mgmtSet (fun m => { m with bootSteps := 0, zmpOn := false }) s
  else s

end Sys2Proof.Machine
end

