-- ==== Sys2Proof/Machine/Hif.lean ====
section
/-! DEFINITION. Sys2Proof/Machine/Hif.lean: the host link, its configuration space, BAR2, CXL.mem, snoops, MSI-X and the mailbox's
registers (14_host.md). -/
namespace Sys2Proof.Machine

/-! ## The link (R506, R507, R521, R527, R682) -/

/-- The limits of HIF_CTRL as width and rate codes; undefined codes act as the lowest. -/
def maxWidth (s : State) : Nat := min 2 (s.f Reg.HIF_CTRL_MAX_WIDTH)
def maxRate (s : State) : Nat := min 3 (s.f Reg.HIF_CTRL_MAX_RATE)

/-- Records that waited for host memory may be written (R521). -/
def hostBack (s : State) : State :=
  if hostReach s then
    dmaResetEnd <| (List.range 16).foldl (fun s c =>
      if (s.chan c).held.isSome then let (v, s) := s.draw; releaseHeld c 0 (leBytes 8 v) s else s) s
  else s

/-- Every pending vector sends its message again once it can (R527). -/
def resendAll (s : State) : State := hifSet (fun h => { h with sent := 0 }) s

/-- HIF_LINK_UP: training ends at a width and a rate, never above the limits; at 64 GT/s a CXL link has 256-byte flits. -/
def hifLinkUp (width rate : Nat) (cxl flit256 : Bool) (s : State) : State :=
  if !s.bring.hifPerstN then s
  else
    let w := max width (maxWidth s)
    let r := max rate (maxRate s)
    let s := ((s.setF Reg.HIF_STATUS_LINK_UP 1).setF Reg.HIF_STATUS_WIDTH w).setF Reg.HIF_STATUS_RATE r
    let s := (s.setFlag Reg.HIF_STATUS_CXL_MODE cxl).setFlag Reg.HIF_STATUS_FLIT256
      (flit256 || (cxl && r == 0))
    let s := if w > maxWidth s ∨ r > maxRate s then raise (fev FK.HIF_LINK_DEGRADED 0x0B 0 0) s else s
    hostBack (resendAll s)

/-- The link is not trained: what depends on it, and what a hot reset clears, with it (R521). PRESUMED, log 76 (PCI Express): a link that
goes down returns the configuration space, the MSI-X table and the decoder to reset. -/
def linkGone (s : State) : State :=
  let st := s.reg Reg.HIF_STATUS_LINK_UP.key
  let s := s.setReg Reg.HIF_STATUS_LINK_UP.key (st &&& fieldMask 10 10)
  hifSet (fun h => { h with msix := [], msixEn := false, decoder := 0, cfg := [], comp := [] }) s

/-- HIF_LINK_DOWN (R490, R521); the transactions it retires are the command's operand, counted before this. -/
def hifLinkDown (s : State) : State :=
  if !s.flag Reg.HIF_STATUS_LINK_UP then s
  else raise (fev FK.HIF_LINK_DOWN 0x0B 0 0) ((linkGone s).incF Reg.HIF_CNT_LINK_DOWN 1)

/-- The link is lost by itself: masters 0x02 and 0x03 are reset, with what they have outstanding, at most 32 transactions each (R478,
R490, R521). -/
def linkLost (s : State) : State :=
  if s.flag Reg.HIF_STATUS_LINK_UP then
    let (n, s) := s.draw
    hifLinkDown (retire (n % 65) s)
  else s

/-- HIF_CTRL.RETRAIN: the link trains again; HIF_LINK_UP gives the result. -/
def hifRetrain (s : State) : State := s.setF Reg.HIF_STATUS_LINK_UP 0

/-- HIF_PERST_N changes: asserted, a trained link is lost and is held untrained, and the subsystem IDs are to be loaded again (R682). -/
def hifPerst (high : Bool) (s : State) : State :=
  let s := bringSet (fun b => { b with hifPerstN := high }) s
  if high then s
  else hifSet (fun h => { h with cfgReady := false }) (if s.flag Reg.HIF_STATUS_LINK_UP then linkLost s else linkGone s)

/-- REFCLK_HIF or the HIF PLL is lost: only the host link goes down (R672). -/
def hifClockLoss (s : State) : State := linkLost (s.setF Reg.TOP_PLL_STATUS_REF_HIF_OK 0)

/-! ## Configuration space (R509, R682) and BAR2 (R510) -/

/-- A value that the stores keep. -/
def storeNat (s : State) (key dflt : Nat) : Nat :=
  match (if isIdentity key then identityStore s else dictStore s).find? fun x => x.1 == key with
  | some x => ofLe x.2
  | none => dflt

/-- A word of configuration space before anything is written to it. PRESUMED, log 147 (PCI Express, CXL): header type 0 with three 64-bit
non-prefetchable BARs (R510), the PCI Express and MSI-X capabilities, and the extended capabilities of R509. What the spec leaves to the
standards is free; the bits of the features R508 excludes are zero, and their capabilities are not in the lists. -/
def cfgInit (s : State) (off : Nat) : Word :=
  if off = 0 then 0x40961FA3
  else if off = 4 then 0x00100000
  else if off = 8 then BitVec.ofNat 32 (0x120000 * 2 ^ 8 + storeNat s 0x000004 0 % 256)
  else if off = 0x10 ∨ off = 0x18 ∨ off = 0x20 then 4
  else if off = 0x2C then BitVec.ofNat 32 s.hif.subIds
  else if off = 0x34 then 0x40
  else if off = 0x40 then 0x0002B010
  else if off = 0x44 then Config.cfgSpace 0x44 &&& 0x0FFFFFFF
  else if off = 0x4C then Config.cfgSpace 0x4C
  else if off = 0x50 then
    (if s.flag Reg.HIF_STATUS_LINK_UP then
      BitVec.ofNat 32 ((6 - s.f Reg.HIF_STATUS_RATE) * 2 ^ 16 + 16 / 2 ^ s.f Reg.HIF_STATUS_WIDTH * 2 ^ 20) else 0)
  else if off = 0xB0 then 0x001F0011
  else if off = 0xB4 then 0x00011002
  else if off = 0xB8 then 0x00011802
  else if off = 0x100 then 0x15020001
  else if off = 0x10C then 0x00462030
  else if off = 0x114 then 0x00002000
  else if off = 0x150 then 0x16010003
  else if off = 0x154 then BitVec.ofNat 32 (storeNat s 0x000005 0)
  else if off = 0x158 then BitVec.ofNat 32 (storeNat s 0x000005 0 / 2 ^ 32)
  else if off = 0x160 then 0x1A010023
  else if off = 0x164 then 0x03C31E98
  else if off = 0x168 then 0x00170000
  else if off = 0x16C then 0x00000002
  else if off = 0x178 then BitVec.ofNat 32 (dramBytes s / 2 ^ 32)
  else if off = 0x17C then BitVec.ofNat 32 (dramBytes s % 2 ^ 32 + 1 + 2 * b2n (memReady s))
  else if off = 0x1A0 then 0x1D010023
  else if off = 0x1A4 then 0x02021E98
  else if off = 0x1A8 then 0x00070007
  else if off = 0x1AC then
    BitVec.ofNat 32 (if s.flag Reg.HIF_STATUS_CXL_MODE then 7 + 0x20 * b2n (s.flag Reg.HIF_STATUS_FLIT256) else 0)
  else if off = 0x1D0 then 0x00010023
  else if off = 0x1D4 then 0x01C01E98
  else if off = 0x1D8 then 0x00000008
  else if off = 0x1DC then 0x00000102
  else if off = 0x1E4 then 0x00010302
  else 0

/-- The bits of such a word that the host writes. PRESUMED, log 147: a BAR keeps the address bits above its size. -/
def cfgMask (off : Nat) : Word :=
  if off = 4 then 0x00000546
  else if off = 0x0C then 0xFF
  else if off = 0x10 then 0xF0000000
  else if off = 0x18 then 0xFFFC0000
  else if off = 0x20 then 0xFFF00000
  else if off = 0x14 ∨ off = 0x1C ∨ off = 0x24 then 0xFFFFFFFF
  else if off = 0x3C then 0xFF
  else if off = 0x48 ∨ off = 0x50 ∨ off = 0x68 ∨ off = 0x70 then 0x00007FFF
  else if off = 0xB0 then 0xC0000000
  else if off = 0x108 ∨ off = 0x10C then 0x07FFF030
  else if off = 0x114 then 0x0000F1C1
  else if off = 0x118 then 0x00000140
  else if off = 0x16C then 0x00004005
  else if off = 0x180 then 0xFFFFFFFF
  else if off = 0x184 then 0xF0000000
  else 0

/-- A word of configuration space. -/
def cfgWord (s : State) (off : Nat) : Word :=
  (cfgInit s off &&& ~~~cfgMask off) |||
    (match s.hif.cfg.find? fun x => x.1 == off with
     | some x => x.2
     | none => cfgInit s off &&& cfgMask off)

/-- A word of the CXL registers of BAR2 before anything is written to it. PRESUMED, log 147 (CXL): the component registers' capability
array names RAS, link and one HDM decoder, the device registers' the device status. -/
def compInit (o : Nat) : Word :=
  if o = 0x1000 then 0x03110001
  else if o = 0x1004 then 0x10020002
  else if o = 0x1008 then 0x20020004
  else if o = 0x100C then 0x30030005
  else if o = 0x1104 ∨ o = 0x1108 then 0x0001CFFF
  else if o = 0x1110 then 0x0000007F
  else if o = 0x1200 ∨ o = 0x1204 then Config.compSpace o
  else if o = 0x10000 then 0x01010000
  else if o = 0x10004 then 1
  else if o = 0x10010 then 0x00010001
  else if o = 0x10014 then 0x20
  else if o = 0x10018 then 8
  else 0

/-- The bits of such a word that the host writes. -/
def compMask (o : Nat) : Word :=
  if o = 0x1104 ∨ o = 0x1108 then 0x0001CFFF
  else if o = 0x1110 then 0x0000007F
  else if o = 0x1208 ∨ o = 0x120C then 0xFFFFFFFF
  else if o = 0x1304 then 3
  else if o = 0x1310 ∨ o = 0x1318 then 0xF0000000
  else if o = 0x1314 ∨ o = 0x131C then 0xFFFFFFFF
  else if o = 0x1320 then 0x000013FF
  else 0

/-- A word of the CXL registers of BAR2; the decoder's control shows what its commit came to. -/
def compWord (s : State) (o : Nat) : Word :=
  match s.hif.comp.find? fun x => x.1 == o with
  | some x => x.2
  | none => compInit o

/-- HDM decoder 0 (R513): base and size are multiples of 256 MiB by the bits they hold, and it commits with 1 way. -/
def decoderBase (s : State) : Nat := (compWord s 0x1310).toNat + (compWord s 0x1314).toNat * 2 ^ 32
def decoderOn (s : State) : Bool := (compWord s 0x1320).getLsbD 10

/-- What the host has enabled follows from its registers: CXL.cache, CXL.mem with decoder 0 committed, and MSI-X (R507, R513, R526). -/
def hostEnables (s : State) : State :=
  let on := (cfgWord s 0xB0).getLsbD 31 && !s.hif.msixEn
  let cxl := s.flag Reg.HIF_STATUS_CXL_MODE
  let c := cfgWord s 0x16C
  let s := hifSet (fun h => { h with msixEn := (cfgWord s 0xB0).getLsbD 31, decoder := if decoderOn s then decoderBase s else h.decoder }) s
  let s := (s.setFlag Reg.HIF_STATUS_CACHE_EN (cxl && c.getLsbD 0)).setFlag Reg.HIF_STATUS_MEM_EN (cxl && c.getLsbD 2 && decoderOn s)
  hostBack (if on then resendAll s else s)

/-- The host writes a word of configuration space. -/
def cfgWrite (off : Nat) (v : Word) (s : State) : State :=
  if cfgMask off = 0 then s else hifSet (fun h => { h with cfg := mapIns off (v &&& cfgMask off) h.cfg }) s

/-- The host writes a word of the CXL registers of BAR2. A decoder that is committed with 1 way is in force; with more it is not, and its
error bit shows (R513). -/
def compWrite (o : Nat) (v : Word) (s : State) : State :=
  if compMask o = 0 then s
  else
    let w := (compInit o &&& ~~~compMask o) ||| (v &&& compMask o)
    let w := if o = 0x1320 ∧ v.getLsbD 9 then (if getBits v 7 4 = 0 then w ||| 0x400 else w ||| 0x800) else w
    hifSet (fun h => { h with comp := mapIns o w h.comp }) s

/-- The host sets its enables, MSI-X and decoder 0 at once, by the words that hold them. -/
def hostControl (cache mem : Bool) (base : Nat) (msixEn : Bool) (s : State) : State :=
  let s := cfgWrite 0x16C (BitVec.ofNat 32 (b2n cache + 4 * b2n mem)) s
  let s := compWrite 0x1314 (BitVec.ofNat 32 (base / 2 ^ 32)) (compWrite 0x1310 (BitVec.ofNat 32 base) s)
  let s := compWrite 0x131C (BitVec.ofNat 32 (dramBytes s / 2 ^ 32)) (compWrite 0x1318 (BitVec.ofNat 32 (dramBytes s)) s)
  cfgWrite 0xB0 (BitVec.ofNat 32 (2 ^ 31 * b2n msixEn)) (compWrite 0x1320 0x200 s)

/-- The subsystem IDs are loaded from the identity region, once after a reset (R509, R682). -/
def cfgLoad (s : State) : State :=
  if s.hif.cfgReady then s else hifSet (fun h => { h with cfgReady := true, subIds := storeNat s 0x7A3001 0 }) s

/-- CONFIG_REQUEST. `loaded`: the subsystem IDs have been loaded; before, every request is answered with retry status, an error
response here. -/
def configRequest (loaded : Bool) (q : CfgReq) (s : State) : State :=
  let s := if loaded then cfgLoad s else s
  if !s.flag Reg.HIF_STATUS_LINK_UP ∨ !s.hif.cfgReady then s.respond false (zeros 4)
  else match q with
    | .read off => s.respond true (leBytes 4 (cfgWord s (off / 4 * 4)).toNat)
    | .write off v => (hostEnables (cfgWrite (off / 4 * 4) (BitVec.ofNat 32 v) s)).respond true []
    | .control cache mem base msixEn => (hostEnables (hostControl cache mem base msixEn s)).respond true []

/-- Word k of the MSI-X table: vectors start masked. PRESUMED, log 76 (PCI Express): address low, address high, data, control. -/
def msixWord (s : State) (k : Nat) : Word := mapGet (if k % 4 = 3 then 1 else 0) s.hif.msix k

/-- A vector's message waits in the pending bit array. -/
def msixWaits (s : State) (v : Nat) : Bool := (s.reg Reg.HIF_INT_PEND.key).getLsbD v && !s.hif.sent.testBit v

/-- BAR2_ACCESS of one aligned word. -/
def bar2Access (write : Bool) (off v : Nat) (s : State) : State :=
  if !s.flag Reg.HIF_STATUS_LINK_UP then s.respond false (zeros 4)
  else
    let o := off / 4 * 4
    let k := (o - 0x11000) / 4
    if write then
      let s := if o < 0x11000 then hostEnables (compWrite o (BitVec.ofNat 32 v) s)
        else if o < 0x11200 then
          hifSet (fun h => { h with msix := mapSet (if k % 4 = 3 then 1 else 0) h.msix k (BitVec.ofNat 32 v) }) s
        else s
      s.respond true []
    else
      let w : Word :=
        if o < 0x11000 then compWord s o
        else if o < 0x11200 then msixWord s k
        else if o = 0x11800 then BitVec.ofNat 32 ((List.range 32).foldl (fun a v => a + b2n (msixWaits s v) * 2 ^ v) 0)
        else 0
      s.respond true (leBytes 4 w.toNat)

/-! ## MSI-X (R525, R526) -/

/-- Vector v may send its message; the capability's own mask, bit 30, masks every vector (PRESUMED, log 147). -/
def msixDue (s : State) (v : Nat) : Bool :=
  let last := mapGet 0 s.hif.lastSent v
  msixWaits s v && s.hif.msixEn && !(cfgWord s 0xB0).getLsbD 30 && s.flag Reg.HIF_STATUS_LINK_UP && !(msixWord s (4 * v + 3)).getLsbD 0 &&
    (last == 0 || decide (last - 1 + s.f (Reg.HIF_VEC_CFG_GAP_US v) * 1000 ≤ s.tb0))

/-- MSIX_MESSAGE. -/
def msixMessage (v : Nat) (s : State) : State :=
  if !msixDue s v then s
  else
    let a := (msixWord s (4 * v)).toNat + 2 ^ 32 * (msixWord s (4 * v + 1)).toNat
    let s := s.emit (.hostWrite a (leBytes 4 (msixWord s (4 * v + 2)).toNat))
    hifSet (fun h => { h with sent := h.sent ||| 2 ^ v, lastSent := mapSet 0 h.lastSent v (s.tb0 + 1) }) s

/-- A write of HIF_INT_PEND: an acknowledged vector owes no message. -/
def intPendClear (w : Word) (s : State) : State :=
  let s := s.setReg Reg.HIF_INT_PEND.key (s.reg Reg.HIF_INT_PEND.key &&& ~~~w)
  hifSet (fun h => { h with sent := ((BitVec.ofNat 32 h.sent) &&& ~~~w).toNat }) s

/-! ## CXL.mem (R513 to R516) -/

/-- The LPDDR6 ranges that write protection covers (R514). -/
def protRanges (s : State) : List (Nat × Nat) :=
  let dump := (List.range 4).flatMap fun j =>
    let d := s.f (Reg.DUMP_CFG_DEST j)
    if s.flag (Reg.JOB_CFG_EN j) && (d == 0 || d == 2) then
      [(s.f (Reg.DUMP_BASE j) * 0x10000, s.f (Reg.DUMP_BUFS j) * s.f (Reg.DUMP_STRIDE j) * 0x10000)] else []
  let relay := if s.flag Reg.RELAY_CFG_EN then [(s.f Reg.RELAY_BASE * 0x10000, s.f Reg.RELAY_SIZE * 0x10000)] else []
  let cap := if s.f Reg.CAP_STATUS_STATE ≠ 0 then [(s.stg.cap.base * 0x10000, s.stg.cap.size * 0x10000)] else []
  dump ++ relay ++ cap

/-- A CXL.mem request that ends in poison or is discarded for an error. -/
def memPoison (s : State) : State := raise (fev FK.HIF_MEM_POISON 0x0B 0 0) (s.incF Reg.HIF_CNT_MEM_POISON 1)

/-- The LPDDR6 offset of a host physical address, while CXL.mem is enabled. -/
def cxlOffset (s : State) (h : Nat) : Option Nat :=
  if s.flag Reg.HIF_STATUS_LINK_UP && s.flag Reg.HIF_STATUS_CXL_MODE && s.flag Reg.HIF_STATUS_MEM_EN && decide (s.hif.decoder ≤ h) then
    some (h - s.hif.decoder) else none

/-- A line of LPDDR6 by master 0x03, burst by burst: whether both bursts are good, and the bytes. What a burst found bad returns with
poison is not stated: it is free. -/
def cxlLine (o err : Nat) (s : State) : ReadAns × State :=
  (List.range 2).foldl (fun (a : ReadAns × State) i =>
    let (r, s) := dramAccess 3 1 (o + 32 * i) 32 [] ((MemErrs.ofDigits err).from i) a.2
    if r.1 then ((a.1.1, a.1.2 ++ r.2), s)
    else
      let (v, s) := s.draw
      ((false, a.1.2 ++ leBytes 32 v), s)) ((true, []), perfEvent 0x07 0x10 1 s)

/-- CXL_MEM_READ of a 64-byte line; `err`: the errors that its bursts' checks find. On a channel that holds its traffic the request waits
(R461, R464). (DESIGN CHOICE, log 77.) -/
def cxlMemRead (h err : Nat) (s : State) : State :=
  match cxlOffset s h with
  | none => s
  | some o =>
    let o := o / 64 * 64
    if memHolds s o 64 then s
    else
      let s := perfEvent 0x0B 0x10 1 s
      let (r, s) := if memReady s && decide (o + 64 ≤ dramBytes s) then cxlLine o err s else memRead 3 1 (0x1000000000 + o) 64 0 [] s
      if r.1 then s.respond true r.2 else (memPoison s).respond false r.2

/-- CXL_MEM_WRITE of a 64-byte line under byte enables. -/
def cxlMemWrite (h en : Nat) (data : List Byte) (err : Nat) (s : State) : State :=
  match cxlOffset s h with
  | none => s
  | some o =>
    let o := o / 64 * 64
    let cells := enabledCells o en (fitBytes 64 data)
    let bars := protRanges s
    if memHolds s o 64 then s
    else if s.flag Reg.HIF_CTRL_WPROT_EN && cells.any (fun c => bars.any fun r => decide (r.1 ≤ c.1) && decide (c.1 < r.1 + r.2)) then
      (raiseOnce Reg.HIF_CNT_MEM_WPROT.key (fev FK.HIF_MEM_WPROT 0x0B 0 0) (s.satF Reg.HIF_CNT_MEM_WPROT 1)).respond true []
    else
      let (ok, s) := memWrite 3 (0x1000000000 + o) 64 (cells.map fun c => (0x1000000000 + c.1, c.2)) err s
      (if ok then s else memPoison s).respond true []

/-- SNOOP: RspIHitI, whatever the address (R518). PRESUMED, log 76 (CXL): its opcode is 0b00100. -/
def snoop (s : State) : State :=
  if s.flag Reg.HIF_STATUS_LINK_UP && s.flag Reg.HIF_STATUS_CXL_MODE then s.respond true [0x04] else s

/-! ## The mailbox's registers (R522, R523) -/

def mbxDoorbell (master : Nat) (s : State) : State :=
  if s.flag Reg.MBX_STATUS_BUSY then
    raise (fev FK.HIF_MBX_OVERRUN 0x0B 0 0) (s.incF Reg.HIF_CNT_MBX_OVERRUN 1)
  else hifSet (fun h => { h with mbxTaken := true, mbxMaster := master }) (s.setF Reg.MBX_STATUS_BUSY 1)

end Sys2Proof.Machine
end

