-- ==== Sys2Proof/Machine/LinkRx.lean ====
section
/-! DEFINITION. Sys2Proof/Machine/LinkRx.lean: wicks received on a data lane: framing and sequence (R104 to R109, R723), packets
(R110 to R126), credits (R128 to R134), training messages (R137 to R144) and test patterns (R154 to R156). -/
namespace Sys2Proof.Machine

/-- A receive lane frames wicks from FRAME_ACQ's search on: FFE_ADAPT to ACTIVE. (DEDUCED, log 38.) -/
def rxFrames (s : State) (l : Nat) : Bool :=
  rxEn s l && !laneTest s l && decide (3 ≤ rxState s l) && decide (rxState s l ≤ 6)

/-- Ones in the low n bits. -/
def popCount : Nat → Nat → Nat
  | 0, _ => 0
  | n + 1, v => v % 2 + popCount n (v / 2)

/-- One SYNC field at its expected position (R104, R105, R149). -/
def syncStep (l : Nat) (good : Bool) (s : State) : State :=
  let r := s.rxLane l
  let locked := s.flag (lf Reg.LANE_STATUS_LOCK l)
  let bad := (r.syncBad * 2 + b2n (!good)) % 2 ^ 64
  let run := if good then min 64 (r.goodSync + 1) else 0
  let s := putRx l { r with syncBad := bad, goodSync := run } s
  let s := if locked && !good then s.incF (lf Reg.CNT_SYNC_BAD l) 1 else s
  if locked && decide (16 ≤ popCount 64 bad) then
    laneFault FK.LNK_LOCK_LOSS l Reg.CNT_LOCK_LOSS (laneStart passLost l 2 (s.incF (lf Reg.CNT_LOCK_LOSS l) 1))
  else if !locked && decide (64 ≤ run) then s.setF (lf Reg.LANE_STATUS_LOCK l) 1
  else s

/-- A wick whose own check failed, or that R723 treats as one that did; `raw`: the SEQ of one that only R723 fails; `inj`: by an
injection, whose event is raised in any case (R620). FK_LNK_CRC, like FK_LNK_MALFORMED, is raised in any state that frames wicks, once
until ACTIVE is entered or the counter read. (DESIGN CHOICE, log 128.) -/
def wickFails (l : Nat) (raw : Option Nat) (inj : Bool) (s : State) : State :=
  let s := perfEvent (bankLnk (l / 8)) 0x11 1 (s.incF (lf Reg.CNT_CRC_ERR l) 1)
  let s := if inj then raise { lnkEv s FK.LNK_CRC l Reg.CNT_CRC_ERR with access := 8, injected := true } (s.setOnce (lf Reg.CNT_CRC_ERR l).key true)
    else laneRxOnce FK.LNK_CRC l Reg.CNT_CRC_ERR false s
  let s := updRx l (fun r => { r with goodRun := 0, csRecv := 0, lastRaw := raw, undefNext := raw.isNone }) s
  abandonRx passLost l s

/-- The wick-CRC checker of a receive lane consults an armed injection (R620, R621). (DEDUCED, log 165.) -/
def wickInject (l : Nat) (s : State) : Bool × State :=
  let (r, s) := injectCheck (lnkSrc l) (l % 8) 0 s
  (r.isSome, s)

/-- WICK_CRC_FAIL (R107). (DESIGN CHOICE, log 157.) -/
def wickCrcFail (l : Nat) (sync : Bool) (s : State) : State :=
  if !rxFrames s l then s
  else
    let s := syncStep l sync s
    if !rxFrames s l then s
    else
      -- an armed injection inverts the check bits of a wick that fails already: it fails all the same
      let (r, s) := wickInject l s
      wickFails l none r s

/-- The credit returned in the header of a CRC-good wick (R129). -/
def takeCredit (l credit : Nat) (s : State) : State :=
  if (s.rxLane l).epochSync && txCredited s l then
    updTx l (fun t => { t with rel := t.rel + (credit + 256 - t.rel % 256) % 256 }) s
  else s

/-- Sequence and header of a CRC-good wick (R108, R129, R136, R140, R152); `train`, `flagged`, `sync`: its type. -/
def rxHeader (l seq credit : Nat) (train flagged csync : Bool) (s : State) : State :=
  let s := perfEvent (bankLnk (l / 8)) 0x10 1 (s.incF (lf Reg.CNT_WICK_RX l) 1)
  let r := s.rxLane l
  let gap := match r.lastSeq with | none => 0 | some q => (seq + 1024 - q - 1) % 1024
  let s := if s.flag (lf Reg.LANE_STATUS_LOCK l) then s.incF (lf Reg.CNT_WICK_LOST l) gap else s
  let s := if gap = 0 then s else abandonRx passLost l s
  let s := updRx l (fun r =>
    { r with
      lastSeq := some (seq % 1024), lastRaw := some (seq % 1024), undefNext := false,
      goodRun := if gap = 0 then r.goodRun + 1 else 1, peerTraining := train && r.peerTraining,
      lastFlagged := flagged && r.lastFlagged, csRecv := if csync then r.csRecv else 0 }) s
  let s := if flagged then s else s.setF (lf Reg.LANE_STATUS_PEER_SNUFF l) 0
  txUpdate l (takeCredit l credit s)

/-- The steps that any good wick may complete. -/
def wickEnd (l : Nat) (s : State) : State := creditCheck l (creditReset l (frameCheck l s))

/-- A wick whose check passes arrives; `body` is what its type does (R99 to R109, R723). (DEDUCED, log 36.) -/
def goodWick (l : Nat) (sync : Bool) (seq credit : Nat) (train flagged csync : Bool) (body : State → State) (s : State) : State :=
  if !rxFrames s l then s
  else
    let s := syncStep l sync s
    if !rxFrames s l then s
    else
      let (inj, s) := wickInject l s
      let r := s.rxLane l
      let undef := r.undefNext || (match r.lastRaw with | none => false | some q => (q + 1) % 1024 != seq % 1024)
      if inj then wickFails l none true s
      else if undef then wickFails l (some (seq % 1024)) false s
      else wickEnd l (body (rxHeader l seq credit train flagged csync s))

/-! ## Packets -/

/-- A consuming wick takes a buffer position. -/
def takePosition (l : Nat) (s : State) : State := updRx l (fun r => { r with rxGot := r.rxGot + 1 }) s

/-- Every buffered wick of the lane leaves its buffer. -/
def freePositions (l : Nat) (s : State) : State := updRx l (fun r => { r with rxReleased := r.rxGot }) s

/-- A consuming wick that is not buffered. -/
def freeOne (l : Nat) (s : State) : State := updRx l (fun r => { r with rxReleased := r.rxReleased + 1 }) s

/-- A packet refused at its HEAD (R121, R126): passed over whole. -/
def refuseHead (l : Nat) (d : Desc) (s : State) : State :=
  passLost l d (updRx l (fun r => { r with skipping := true }) (freeOne l s))

/-- A HEAD's descriptor breaks R118 or R119 or carries a reserved FORMAT (R121). -/
def headMalformed (d : Desc) : Bool :=
  fmtWidth (dFormat d) == 0 ||
  (if dDump d || dWicks d != 0 then !dShapeOk d else dInputs d != 0 || dChans d != 0 || dTimes d != 0)

/-- A CRC-good HEAD; `held`: positions of the buffer that still hold earlier wicks (R126). (DESIGN CHOICE, log 6.) Outside ACTIVE it
opens no packet (DESIGN CHOICE, log 129). Every HEAD in ACTIVE, refused or of a dump too, is one of its domain for R59
(DESIGN CHOICE, log 130). -/
def headBody (l : Nat) (desc : Desc) (held : Nat) (s : State) : State :=
  if rxState s l ≠ 6 then updRx l (fun r => { r with skipping := true }) (freeOne l (takePosition l s))
  else
    let s := takePosition l (abandonRx passLost l s)
    let d := dClean desc
    let s := headOfDomain (dDomain d) (dCount d) s
    if headMalformed d then
      refuseHead l d (laneRxOnce FK.LNK_MALFORMED l Reg.CNT_PKT_MALFORMED false (s.incF (lf Reg.CNT_PKT_MALFORMED l) 1))
    else if !rxCredited s l && decide (128 < held + dWicks d + 1) then
      refuseHead l d (laneRxOnce FK.LNK_RX_OVERFLOW l Reg.CNT_PKT_OVF false (s.incF (lf Reg.CNT_PKT_OVF l) 1))
    else if dWicks d = 0 then
      let s := updRx l (fun r => { r with skipping := false }) (freeOne l s)
      deliverMarker l d (perfEvent (bankLnk (l / 8)) 0x12 1 (s.incF (lf Reg.CNT_PKT_RX l) 1))
    else
      updRx l (fun r =>
        { r with skipping := false,
                 pkt := some { desc := d, area := [], got := 0, dropped := false, fed := false, arrSec := s.time.sec, arrNs := s.time.ns } }) s

/-- The samples of a packet that enter the Candelabra feed as its wicks arrive (R305). -/
def feedOpen (s : State) (d : Desc) : Bool :=
  s.isX && s.flag Reg.STG_CTRL_EN && decide (dFormat d ≤ 1) && !dDump d

/-- Samples complete after `got` body wicks. -/
def samplesIn (d : Desc) (got : Nat) : Nat := min (dSamples d) (got * 960 / max 1 (fmtWidth (dFormat d)))

/-- Input, channel and time of sample k of a packet (R116). -/
def sampleAt (d : Desc) (k : Nat) : Nat × Nat × Nat :=
  (k % max 1 (dInputs d), k / max 1 (dInputs d) % max 1 (dChans d), k / (max 1 (dInputs d) * max 1 (dChans d)))

/-- The numbers of the samples that body wick `got` completes. -/
def wickSamples (d : Desc) (got : Nat) : List Nat :=
  let first := samplesIn d (got - 1)
  (List.range (samplesIn d got - first)).map (first + ·)

/-- Some of the samples that a wick completes enter the feed. -/
def wickFeeds (s : State) (d : Desc) (got : Nat) : Bool :=
  feedOpen s d && (wickSamples d got).any fun k => let x := sampleAt d k; (feedTarget s d x.1 x.2.1 x.2.2).isSome

/-- Feed the samples that the last wick completed; `overload`: sample numbers the Candelabra cannot take (R400). -/
def feedWick (d : Desc) (area : List Byte) (got : Nat) (overload : List Nat) (s : State) : State :=
  if !feedOpen s d then s
  else
    (wickSamples d got).foldl (fun s k =>
      let x := sampleAt d k
      feedSample d x.1 x.2.1 x.2.2 (dSample d area x.1 x.2.1 x.2.2) (overload.contains k) s) s

/-- A body wick with no packet open (R120, R122). -/
def bodyOrphan (l : Nat) (s : State) : State :=
  if (s.rxLane l).skipping then s
  else laneRxOnce FK.LNK_MALFORMED l Reg.CNT_PKT_MALFORMED false (s.incF (lf Reg.CNT_ORPHAN l) 1)

/-- A CRC-good BODY or BODY_LAST (R110, R115, R120, R122). Outside ACTIVE it is neither an orphan nor malformed. -/
def bodyBody (l : Nat) (last : Bool) (payload : List Byte) (overload : List Nat) (capOk : Bool) (s : State) : State :=
  let s := takePosition l s
  if rxState s l ≠ 6 then freeOne l s
  else
    match (s.rxLane l).pkt with
    | none => bodyOrphan l (freeOne l s)
    | some p =>
      let final := p.got + 1 == dWicks p.desc
      if last != final then abandonRx passLost l s
      else
        let p := { p with area := p.area ++ fitBytes 120 payload, got := p.got + 1, fed := p.fed || wickFeeds s p.desc (p.got + 1) }
        let s := updRx l (fun r => { r with pkt := some p }) s
        let s := feedWick p.desc p.area p.got overload s
        if last then
          let s := freePositions l (updRx l (fun r => { r with pkt := none }) s)
          deliverPacket l p.desc p.area p.arrSec p.arrNs capOk (perfEvent (bankLnk (l / 8)) 0x12 1 (s.incF (lf Reg.CNT_PKT_RX l) 1))
        else s

def headWick (l : Nat) (sync : Bool) (seq credit : Nat) (d : Desc) (held : Nat) (s : State) : State :=
  goodWick l sync seq credit false false false (headBody l d held) s

def bodyWick (l : Nat) (sync : Bool) (seq credit : Nat) (last : Bool) (payload : List Byte) (overload : List Nat) (capOk : Bool)
    (s : State) : State :=
  goodWick l sync seq credit false false false (bodyBody l last payload overload capOk) s

/-! ## Wicks without packets -/

def idleWick (l : Nat) (sync : Bool) (seq credit : Nat) (s : State) : State :=
  goodWick l sync seq credit false false false id s

/-- R109. -/
def reservedWick (l : Nat) (sync : Bool) (seq credit : Nat) (s : State) : State :=
  goodWick l sync seq credit false false false
    (fun s => laneRxOnce FK.LNK_MALFORMED l Reg.CNT_PKT_MALFORMED false (s.incF (lf Reg.CNT_PKT_MALFORMED l) 1)) s

/-- R153. -/
def ctrlWick (l : Nat) (sync : Bool) (seq credit : Nat) (payload : List Byte) (s : State) : State :=
  goodWick l sync seq credit false false false
    (fun s =>
      let s := s.incF (lf Reg.CNT_CTRL_RX l) 1
      if leAt payload 0 1 = 1 then laneRetrain passLost l s else s) s

/-- R151, R152. -/
def flaggedWick (l : Nat) (sync : Bool) (seq credit : Nat) (s : State) : State :=
  goodWick l sync seq credit false true false
    (fun s =>
      let s := abandonRx passLost l s
      let s := (s.incF (lf Reg.CNT_FLAGGED_IDLE l) 1).setF (lf Reg.LANE_STATUS_PEER_SNUFF l) 1
      if (s.rxLane l).lastFlagged then s
      else laneFault FK.LNK_PEER_SNUFF l Reg.CNT_FLAGGED_IDLE (updRx l (fun r => { r with lastFlagged := true }) s)) s

/-! ## Training messages (R137 to R139, R143, R144) -/

/-- One tap request: its code, its value, its limits: the value asked for and the result code. (DESIGN CHOICE, log 159.) -/
def tapStep (req v lo hi : Nat) : Nat × Nat :=
  if req = 1 then (if v ≥ hi then (v, 2) else (v + 1, 0))
  else if req = 2 then (if v ≤ lo then (v, 1) else (v - 1, 0))
  else (v, 0)

/-- Apply the partner's coefficient request once (R96, R139): the coefficients and the results, 2 bits each. A request that would break
a range or the sum is refused whole: a tap at its limit says so, the other taps that asked for a step say refused.
(DEDUCED, log 101.) -/
def applyRequest (p : List Byte) (c : Nat × Nat × Nat) : (Nat × Nat × Nat) × Nat :=
  let b5 := leAt p 5 1
  let b6 := leAt p 6 1
  if b6.testBit 7 then (presetTable.getD (b6 / 16 % 8) c, 0)
  else
    let m := tapStep (b5 % 4) c.1 0 15
    let z := tapStep (b5 / 4 % 4) c.2.1 20 63
    let q := tapStep (b5 / 16 % 4) c.2.2 0 31
    if m.2 = 0 ∧ z.2 = 0 ∧ q.2 = 0 ∧ m.1 + z.1 + q.1 ≤ 63 then ((m.1, z.1, q.1), 0)
    else
      let res (x : Nat × Nat) (v : Nat) : Nat := if x.2 = 0 ∧ x.1 ≠ v then 3 else x.2
      (c, res m c.1 + 4 * res z c.2.1 + 16 * res q c.2.2)

/-- A CRC-good TRAIN wick. -/
def trainBody (l : Nat) (p : List Byte) (s : State) : State :=
  let s := abandonRx passLost l s
  let peer := leAt p 3 1 % 16
  let s := ((((s.setF (lf Reg.LANE_STATUS_PEER_STATE l) peer).setF (lf Reg.LANE_STATUS_PEER_CHIP l) (leAt p 0 2)).setF
    (lf Reg.LANE_COEF_PEER_LG l) (leAt p 2 1 % 16)).setF (lf Reg.LANE_COEF_PEER_LANE l) (leAt p 2 1 / 16 % 8))
  let b3 := leAt p 3 1
  let modeOk := b3.testBit 5 == rxCredited s l && b3.testBit 4 == txCredited s l
  let leaving := rxState s l == 6 && pairCredited s l && decide (peer < 5)
  let s := if leaving then updRx l (fun r => { r with csRecv := 0, creditReset := false }) (setRxState l 5 s) else s
  let s := updRx l (fun r => { r with peerTraining := decide (peer < 5), modeOk := modeOk,
                                      trainSeen := r.trainSeen || (rxState s l != 6 && !leaving),
                                      trainLeft := r.trainLeft || (rxState s l != 6 && !leaving) }) s
  let req := leAt p 6 1 % 16
  let t := s.txLane l
  let s := updTx l (fun t => { t with peerAck := leAt p 7 1 % 16 }) s
  let s := if reverse s l && !s.flag (lf Reg.LANE_CFG_FFE_MAN l) && req != t.ackSeq then
      let a := applyRequest p (coefOf s l)
      updTx l (fun t => { t with ackSeq := req, ackResults := a.2 }) (setCoef l a.1 s)
    else s
  txUpdate l s

def trainWick (l : Nat) (sync : Bool) (seq credit : Nat) (payload : List Byte) (s : State) : State :=
  goodWick l sync seq credit true false false (trainBody l payload) s

/-! ## Credit synchronisation (R129, R131 to R134, R144) -/

/-- Reconcile the counts of a receive lane with the partner's total (R133, R134). -/
def creditRecon (l total : Nat) (s : State) : State :=
  let m := sext 32 (wrap 32 ((total : Int) - (s.rxLane l).rxGot))
  if m > 0 then
    let n := m.toNat
    let s := updRx l (fun r => { r with rxGot := r.rxGot + n, rxReleased := r.rxReleased + n }) s
    laneFault FK.LNK_CREDIT_RECON l Reg.CNT_CREDIT_RECON (s.incF (lf Reg.CNT_CREDIT_RECON l) n)
  else if m < 0 then
    laneRetrain passLost l (laneFault FK.LNK_CREDIT_ERR l Reg.CNT_CREDIT_RECON (s.setF (lf Reg.LANE_STATUS_LAST_FAIL l) 8))
  else s

/-- A CRC-good CREDIT_SYNC wick, of use once the epoch has begun: in CREDIT_SYNC after step 3 of R144, and in ACTIVE. The limit obeyed
is that of the exchange. (DEDUCED, log 131.) -/
def creditSyncBody (l : Nat) (p : List Byte) (s : State) : State :=
  let limit := leAt p 4 1
  let st := rxState s l
  if (st = 5 ∧ (s.rxLane l).creditReset) ∨ (st = 6 ∧ pairCredited s l) then
    let s := creditRecon l (leAt p 0 4) s
    if rxState s l ≠ st then s
    else if txCredited s l ∧ limit = 0 then modeFail l s
    else if st = 5 then
      updRx l (fun r => { r with csRecv := r.csRecv + 1, epochSync := true }) (s.setF (lf Reg.LANE_CREDIT_TX_LIMIT l) limit)
    else updRx l (fun r => { r with epochSync := true }) s
  else s

def creditSyncWick (l : Nat) (sync : Bool) (seq credit : Nat) (payload : List Byte) (s : State) : State :=
  goodWick l sync seq credit false false true (creditSyncBody l payload) s

/-! ## Test modes (R154 to R156) -/

/-- A wick arrives on a lane under the far-end loopback: its bits go back on the lane's transmitter. (DESIGN CHOICE, log 40.) -/
def farLoop (l header : Nat) (payload : List Byte) (s : State) : State :=
  if s.flag (Reg.LNK_GRP_CTRL_FAR_LOOP (l / 8)) && rxEn s l then s.emit (.returned l header payload) else s

/-- Bits arrive at the pins of a lane: its checker takes them, unless a near-end loop gives it the lane's own, and a far-end loop
returns them (R154 to R156). -/
def prbsBitsIn (l : Nat) (bits : List Bool) (s : State) : State :=
  let s := if nearLoop s l then s else prbsCheck l bits s
  if s.flag (Reg.LNK_GRP_CTRL_FAR_LOOP (l / 8)) && rxEn s l && !bits.isEmpty then s.emit (.pattern l bits) else s

end Sys2Proof.Machine
end

