-- ==== Sys2Proof/Machine/RegAccess.lean ====
section
/-! DEFINITION. Sys2Proof/Machine/RegAccess.lean: reads and writes of the register pages: the access codes of R5, the
views that blocks compute, the actions of command bits, gated pages, undefined offsets (R491), restricted registers (R480) and
the logging of configuration writes (R501 to R504). -/
namespace Sys2Proof.Machine

/-! ## Reading -/

/-- Registers whose words are computed from state that no register word holds; others show their word. (DEDUCED, log 112.) -/
def liveWord (s : State) (key : Nat) (w : Word) : Word :=
  let page := key / 0x10000
  let off := key % 0x10000
  if page = 0x01 ∧ 0x100 ≤ off ∧ off < 0x200 then
    let e := wrap 64 (sdEst s (off / 64 - 4))
    if off % 64 = 0x20 then BitVec.ofNat 32 e else if off % 64 = 0x24 then BitVec.ofNat 32 (e / 2 ^ 32) else w
  else if page = 0x0D ∧ 0x100 ≤ off then (paceShow (off / 64 - 4) s).reg key
  else if page = 0x10 then
    let l := s.f Reg.LAN_WIN_SEL_LANTERN
    let x := s.lantern l
    let seed := mapGet 0 s.lan.seedsStg l
    let gen := if x.halted then x.gen else 0
    if off = 0x204 then
      BitVec.ofNat 32 ((if x.halted then 2 else if x.running.isSome then 1 else 0) + x.queue.length * 4 + x.act * 2 ^ 9)
    else if off = 0x208 then BitVec.ofNat 32 seed
    else if off = 0x20C then BitVec.ofNat 32 (seed / 2 ^ 32)
    else if off = 0x210 then BitVec.ofNat 32 x.tasks
    else if off = 0x214 then BitVec.ofNat 32 x.hold
    else if off = 0x218 then BitVec.ofNat 32 gen
    else if off = 0x21C then BitVec.ofNat 32 (gen / 2 ^ 32)
    else if off = 0x220 ∨ off = 0x224 then
      let p := x.plane ((off - 0x220) / 4)
      match p.task with
      | none => 0
      | some t => BitVec.ofNat 32 (t.slot + (if t.c8 then t.quarter * 2 ^ 14 else 0) + b2n t.c8 * 2 ^ 16 + b2n p.held * 2 ^ 17)
    else if off = 0x304 then
      setBits w 0 0 (b2n ((List.range 256).all fun l => !debugMasked s l || (s.lantern l).halted))
    else w
  else if page = 0x12 ∧ 0x100 ≤ off ∧ off < 0x500 ∧ off % 64 = 0x20 then
    let k := off / 64 - 4
    BitVec.ofNat 32 (min 4 (s.can.blocks.filter fun b => b.stream == k).length + min 4 (strQueue s k) * 8)
  else if 0x20 ≤ page ∧ page < 0x30 ∧ 0x100 ≤ off ∧ off < 0x500 ∧ off % 128 = 0x14 then
    let l := (page - 0x20) * 8 + (off / 128 - 2)
    let r := s.rxLane l
    let t := s.txLane l
    setBits (setBits w 15 8 (t.txTotal - t.rel)) 31 24 (r.rxGot - r.rxReleased)
  else if 0x40 ≤ page ∧ page < 0x80 then
    let n := page - 0x40
    let l := s.lamp n
    if off = 0x0C then BitVec.ofNat 32 l.intPend
    else if off = 0x24 then setBits (setBits (setBits w 9 0 l.sin.length) 19 10 l.sout.length) 28 20 l.outbox.length
    else if off = 0x30 then (if dbgOpen s n then w else 0)
    else if off = 0x34 then BitVec.ofNat 32 (dbgValue n s).1
    else if off = 0x38 then BitVec.ofNat 32 ((dbgValue n s).1 / 2 ^ 32 % 2 ^ 16)
    else w
  else w

/-- The word a read of a defined register returns (R5, R6): the staged value of RWS fields, zero for WO fields. -/
def shownWord (s : State) (key : Nat) : Word :=
  match rowAt key with
  | none => 0
  | some r =>
    if pageGated s (key / 0x10000) then 0
    else
      let w := (s.reg key &&& accMask r (fun a => a != .wo && a != .rws)) ||| (s.stgd key &&& accMask r (· == .rws))
      liveWord s key w

/-- Registers whose reading of LO latches HI. (DEDUCED, log 16.) -/
def latchesHi (name : String) : Bool :=
  name == "SD_EST_LO" || name == "SD_SEEN_LO" || name == "PRBS_ERR_LO" || name == "JOB_TASKS_LO" || name == "DUMP_SEQ_LO" ||
  name == "CH_LAST_LO" || name == "CNT_BYTES_LO" || name == "PAIR_LAST_DIV_KEY_LO" || name == "CTR_LO"

/-- The LO words of set counters and of their snapshot copies (07_staging.md). -/
def setCounterKey (key : Nat) : Bool := decide (0xF0800 ≤ key) && decide (key < 0xF1000) && decide (key % 0x100 < 0x90)

/-- Registers whose reading re-arms a fault raised once. -/
def rearmedByRead (name : String) : Bool :=
  name == "BMX_CNT_UNDEF" || name == "PMR_CNT_SNAP_LOST" || name == "NVM_ERR_ADDR" || name == "HIF_CNT_MEM_WPROT" ||
  name == "LENS_IN_PKT_REJ" || name == "LENS_IN_SAT_FIR" || name == "LENS_IN_SAT_FFT" || name == "LENS_CNT_OUT_DROP" ||
  name == "CNT_CRC_ERR" || name == "CNT_PKT_MALFORMED" || name == "CNT_PKT_OVF" || name == "EGR_CNT_DROP" ||
  name == "STR_CNT_LATE" || name == "STR_CNT_OVF" || name == "STR_CNT_PKT_DROP" || name == "STR_CNT_PART_REJ"

/-- An access to an undefined offset of an existing page (R491). (DEDUCED, log 22.) -/
def undefAccess (key access master : Nat) (s : State) : State :=
  raiseOnce Reg.BMX_CNT_UNDEF.key
    { kind := FK.BMX_UNDEF_REG, src := 0x07, sub := 4, addr := 0x40000000 + key, access := access, master := master,
      injected := false } (s.satF Reg.BMX_CNT_UNDEF 1)

/-- A read with its side effects: RC fields clear, a LO word latches its HI word, a HI word shows what was latched. -/
def readReg (key access master : Nat) (s : State) : Word × State :=
  match rowAt key with
  | none => (0, undefAccess key access master s)
  | some r =>
    let w := shownWord s key
    if pageGated s (key / 0x10000) then (w, s)
    else if latchesHi r.name ∨ (setCounterKey key ∧ key % 8 = 0) then
      (w, { s with hiLatch := mapSet 0 s.hiLatch (key + 4) (shownWord s (key + 4)) })
    else if setCounterKey key then (mapGet 0 s.hiLatch key, s)
    else if r.name == "CTR_HI" then (setBits w 15 0 (mapGet 0 s.hiLatch key).toNat, s)
    else if (match rowAt (key - 4) with | none => false | some l => decide (4 ≤ key) && latchesHi l.name) then
      (mapGet 0 s.hiLatch key, s)
    else if r.name == "MEM_ERR_ADDR_HI" then (w, (memErrAddrRead s).2)
    else if r.name == "MEM_ERR_ADDR_LO" then (w, s)
    else
      let s := if 0x40 ≤ key / 0x10000 ∧ (key % 0x10000 = 0x34) then (dbgValue (key / 0x10000 - 0x40) s).2 else s
      let rc := accMask r (· == .rc)
      let s := if rc = 0 then s else s.setReg key (s.reg key &&& ~~~rc)
      (w, if rearmedByRead r.name then s.setOnce key false else s)

/-! ## Writing -/

/-- Who writes, and what a memory read that the write makes (a DMA doorbell's read of NEXT) meets: its error and what host
memory answers. -/
structure Writer where
  master : Nat
  err : Nat
  host : List Byte
deriving DecidableEq, Repr

/-- The fields' own rules (R5). -/
def plainWrite (key : Nat) (w : Word) (s : State) : State :=
  match rowAt key with
  | none => s
  | some r =>
    let m (a : Access) := accMask r (· == a)
    let old := s.reg key
    let new := (old &&& ~~~(m .rw) &&& ~~~(w &&& m .w1c)) ||| (w &&& m .rw) ||| (w &&& m .w1s)
    let st := m .rws
    let s := if new = old then s else s.setReg key new
    if st = 0 then s else s.setStg key ((s.stgd key &&& ~~~st) ||| (w &&& st))

/-- Do something when bit `i` of a written word is set; bits act in rising order (DEDUCED). (DEDUCED, log 17.) -/
def onBit (w : Word) (i : Nat) (f : State → State) (s : State) : State := if w.getLsbD i then f s else s

/-! ## Commits and holds (R496, R546) -/

/-- The groups also held while a changed group of block `b` is (R546). -/
def alsoHeld (b : Nat) : List Nat :=
  let lnk := (List.range 16).map (0x20 + ·)
  if b = 0x0F then [0x10] else if b = 0x10 then [0x0F, 0x11] else if b = 0x11 ∨ b = 0x12 then [0x0F, 0x10] ++ lnk
  else if b = 0x13 then lnk else if 0x20 ≤ b ∧ b ≤ 0x2F then [0x13, 0x11, 0x12] else []

/-- The groups that ARMED sets change. -/
def armedGroups (s : State) : List Nat :=
  ([0, 1, 2, 3] : List Nat).flatMap fun n => let p := s.pset n; if p.state = 2 then shadowGroups p.shadow else []

/-- Group `g` (as `groupOf` numbers it) is held. -/
def groupHeld (s : State) (g : Nat) : Bool :=
  (armedGroups s).any fun a => a == g || (alsoHeld (a / 16)).contains (g / 16)

/-- COMMIT_ERR of a block's page. -/
def commitErrField (b : Nat) : Option Field :=
  if b = 0x03 then some Reg.FLT_STATUS_COMMIT_ERR else if b = 0x04 then some Reg.PMR_STATUS_COMMIT_ERR
  else if b = 0x05 then some Reg.PAIR_STATUS_COMMIT_ERR else if b = 0x0C then some Reg.MEM_STATUS_COMMIT_ERR
  else if b = 0x0E then some Reg.LENS_STATUS_COMMIT_ERR else if b = 0x0F then some Reg.STG_STATUS_COMMIT_ERR
  else if b = 0x10 then some Reg.LAN_STATUS_COMMIT_ERR else if b = 0x11 then some Reg.MNT_STATUS_COMMIT_ERR
  else if b = 0x12 then some Reg.CAN_STATUS_COMMIT_ERR else if b = 0x13 then some Reg.EGR_STATUS_COMMIT_ERR
  else if 0x20 ≤ b ∧ b ≤ 0x2F then some (Reg.LNK_GRP_STATUS_COMMIT_ERR (b - 0x20)) else none

/-- The rejection of a commit that reaches a held group (R546). -/
def rejectHeld (g : Nat) (s : State) : State :=
  raise (fev FK.DICT_GROUP_HELD 0x00 0 0) (match commitErrField (g / 16) with | some F => s.setF F 1 | none => s)

/-- The check of one group's staged values, as its commit makes it; of a power-gated block only the rule that its personality breaks
(code 1) can refuse, since a commit of it has no effect (R166, R315, R349, R390). -/
def stagedFail (g : Nat) (s : State) : Option ApplyFail :=
  let r := groupRange g
  (groupFail s (s.commitRange r.1 r.2) none g).filter fun fl => !pageGated s (g / 16) || fl.code == 1

/-- A commit of a power-gated block: refused by that rule, else without effect. -/
def gatedCommit (g : Nat) (s : State) : State :=
  match stagedFail g s with
  | some fl => fl.state
  | none => groupRestage g s

/-- The commit of a register group. -/
def groupCommit (g : Nat) (s : State) : State :=
  let b := g / 16
  if groupHeld s g then rejectHeld g s
  else if pageGated s b then gatedCommit g s
  else if b = 0x01 then sdCommit (g % 16) s
  else if b = 0x03 then fltCommit s else if b = 0x04 then pmrCommit s else if b = 0x05 then pairCommit s
  else if b = 0x0C then memCommit s else if b = 0x0E then lensCommit s else if b = 0x0F then stgCommit s
  else if b = 0x10 then lanCommit s else if b = 0x11 then mntCommit s else if b = 0x12 then canCommit s
  else if b = 0x13 then egrCommit s
  else if 0x20 ≤ b ∧ b ≤ 0x2F then lnkCommit (b - 0x20) s
  else if 0x40 ≤ b ∧ b ≤ 0x7F then lmpCommit (b - 0x40) s
  else s

/-- A write of a block's commit register whose COMMIT bit is bit 0. -/
def commitBit (b : Nat) (w : Word) (s : State) : State := onBit w 0 (groupCommit (16 * b)) s

/-- PMR_CTRL.SNAP_NOW (R661, R663). -/
def snapNow (s : State) : State :=
  let r := snapTrigger 1 0 0 0 0 false s
  if r.2 then raise (fev FK.PMR_SNAP_OVERRUN 0x04 0 0) r.1 else r.1

/-- PMR_CTRL.FREEZE and UNFREEZE (R659). -/
def pmrFreeze (s : State) : State := s.setF Reg.PMR_STATUS_FROZEN 1
def pmrUnfreeze (s : State) : State := s.setF Reg.PMR_STATUS_FROZEN 0

def pmrCtrl (w : Word) (s : State) : State :=
  let s := onBit w 0 snapNow s
  let s := if w.getLsbD 1 then pmrFreeze s else onBit w 2 pmrUnfreeze s
  onBit w 3 pmrClearAll s

/-- LMP_COEF_CTRL.SEAL and UNSEAL (R241). -/
def lampSeal (n : Nat) (s : State) : State := s.setF (Reg.LMP_COEF_STATUS_SEALED n) 1
def lampUnseal (n : Nat) (s : State) : State := s.setF (Reg.LMP_COEF_STATUS_SEALED n) 0

/-- CAN_W_CTRL.UNSEAL (R413). -/
def canUnseal (s : State) : State := s.setF Reg.CAN_W_STATUS_SEALED 0

def lampPage (n off : Nat) (b : Writer) (w : Word) (s : State) : State :=
  if off = 0 then
    onBit w 3 (lampReset n) (onBit w 2 (lampStep n b.err) (onBit w 1 (lampHalt n) (onBit w 0 (lampRun n) s)))
  else if off = 0x08 then (if lampRunning s n then s else plainWrite (Reg.LMP_PC n).key w s)
  else if off = 0x0C then onBit w 1 (updLamp n fun l => { l with doorbell := false }) s
  else if off = 0x10 then lampDoorbell n (getBits w 15 0) s
  else if off = 0x18 then commitBit (0x40 + n) w s
  else if off = 0x1C then onBit w 2 (lampSwapNow n) (onBit w 1 (lampUnseal n) (onBit w 0 (lampSeal n) s))
  else if off = 0x34 then dbgWrite n w.toNat s
  else if (off = 0x30 ∨ off = 0x38) ∧ !dbgOpen s n then s
  else plainWrite (0x400000 + n * 0x10000 + off) w s

def linkPage (g off : Nat) (w : Word) (s : State) : State :=
  let l := 8 * g + (off / 128 - 2)
  if off = 0x04 then onBit w 1 (retrainAll passLost g) (commitBit (0x20 + g) w s)
  else if 0x100 ≤ off ∧ off < 0x500 ∧ off % 128 = 0x08 then
    onBit w 2 (laneClearCnt l) (onBit w 1 (sendRetrainReq l) (onBit w 0 (laneRetrain passLost l) s))
  else plainWrite (0x200000 + g * 0x10000 + off) w s

def schedPage (off : Nat) (w : Word) (s : State) : State :=
  let key := 0x20000 + off
  let n := (off - 0x1000) / 32
  if off = 0x08 then schedFill ((plainWrite key w s).setOnce Reg.SCHED_CNT_LOST.key false)
  else if off < 0x1000 ∨ 0x3000 ≤ off then plainWrite key w s
  else if off % 32 = 0 then
    if w.getLsbD 24 ∧ w.getLsbD 25 then s
    else if slotState s n ≠ 0 then onBit w 25 (slotCancel n) s
    else if w.getLsbD 24 then slotArm n w s
    else plainWrite key w s
  else if slotState s n ≠ 0 then s
  else plainWrite key w s

def dmaPage (off : Nat) (b : Writer) (w : Word) (s : State) : State :=
  let key := 0xD0000 + off
  let c := off / 64 - 4
  let o := off % 64
  if off = 0 then dmaEnable (w.getLsbD 0) s
  else if off < 0x100 then plainWrite key w s
  else if o = 0 then
    onBit w 3 (dmaClearCnt c) (onBit w 2 (dmaAbort c) (onBit w 1 (dmaDoorbell c b.err b.host) (onBit w 0 (dmaStart c) s)))
  else if o = 0x04 then
    plainWrite key (if chState s c = 0 then w else setBits w 5 2 (s.f (Reg.CH_CFG_CMP_LOG2 c))) s
  else if o = 0x08 ∨ o = 0x1C then (if chState s c = 0 then plainWrite key (setBits w 5 0 0) s else s)
  else if o = 0x0C ∨ o = 0x20 then (if chState s c = 0 then plainWrite key w s else s)
  else if o = 0x28 then cmpRdWrite c (getBits w 16 0) b.err b.host s
  else plainWrite key w s

/-- A write of the FLT page. SNUFF_NOW's event in the cycle of SNUFF_CLEAR leaves the device snuffed (R616). -/
def fltPage (off : Nat) (w : Word) (s : State) : State :=
  let key := 0x30000 + off
  if off = 0 then onBit w 2 firstClear (onBit w 0 snuffNow (onBit w 1 snuffClear s))
  else if off = 0x14 then commitBit 0x03 w s
  else if off = 0x1C then (plainWrite key w s).setOnce Reg.FLT_RING_WR.key false
  else if off = 0x84 then onBit w 1 injectEnd (onBit w 0 injectArm s)
  else if 0x2000 ≤ off ∧ off < 0x2800 then plainWrite key (maskClassWord key w) s
  else plainWrite key w s

/-- A write of TOP_LL_WDOG (R687): the period is fixed once the watchdog runs. -/
def wdogWrite (w : Word) (s : State) : State :=
  let s := if s.flag Reg.TOP_LL_WDOG_EN then s else s.setF Reg.TOP_LL_WDOG_PERIOD_MS (getBits w 15 0)
  onBit w 17 watchdogKick (onBit w 16 watchdogEnable s)

def hifPage (b : Writer) (off : Nat) (w : Word) (s : State) : State :=
  let key := 0xB0000 + off
  if off = 0 then onBit w 5 hifRetrain (plainWrite key w s)
  else if off = 0x10 then intPendClear w s
  else if off = 0x200 then onBit w 0 (mbxDoorbell b.master) s
  else if 0x1000 ≤ off ∧ off < 0x2000 then (if s.flag Reg.MBX_STATUS_BUSY then s else s.setReg key w)
  else plainWrite key w s

/-- CAN page (R410 to R417). -/
def canPage (off : Nat) (w : Word) (s : State) : State :=
  if off = 0x04 then commitBit 0x12 w s
  else if off = 0x10 then onBit w 3 canCopyLive (onBit w 2 canSwapNow (onBit w 1 canUnseal (onBit w 0 canSeal s)))
  else if off = 0x18 then dictSet (fun d => { d with weightPtr := 0 })
      (canSet (fun c => { c with ptrEnd := false }) (plainWrite (0x120000 + off) (setBits w 0 0 0) s))
  else if off = 0x1C then canData w s
  else plainWrite (0x120000 + off) w s

def lensPage (off : Nat) (w : Word) (s : State) : State :=
  if off = 0x04 then commitBit 0x0E w s
  else if off = 0x20 then onBit w 3 lensResetPtr (onBit w 2 lensSwapNow (onBit w 1 lensUnseal (onBit w 0 lensSeal s)))
  else if off = 0x28 then lensCoefData w.toNat s
  else plainWrite (0xE0000 + off) w s

def stgPage (off : Nat) (w : Word) (s : State) : State :=
  if off = 0x04 then onBit w 1 stgClearCnt (commitBit 0x0F w s)
  else if off = 0x500 then onBit w 2 capTrigger (onBit w 1 capStop (onBit w 0 capArm (plainWrite 0xF0500 w s)))
  else plainWrite (0xF0000 + off) w s

def lanPage (off : Nat) (w : Word) (s : State) : State :=
  if off = 0x04 then onBit w 1 reseedAll (commitBit 0x10 w s)
  else if off = 0x208 ∨ off = 0x20C then
    let l := s.f Reg.LAN_WIN_SEL_LANTERN
    let v := mapGet 0 s.lan.seedsStg l
    let v := if off = 0x208 then v / 2 ^ 32 * 2 ^ 32 + w.toNat else v % 2 ^ 32 + w.toNat * 2 ^ 32
    { s with lan := { s.lan with seedsStg := mapSet 0 s.lan.seedsStg l v } }
  else if 0x300 ≤ off ∧ off < 0x400 then lanDebugUpdate (plainWrite (0x100000 + off) w s)
  else plainWrite (0x100000 + off) w s

/-- A write of TIME_COMMIT (R54, R57). -/
def timeCommit (w : Word) (s : State) : State :=
  let s := onBit w 1 stepAtPps (onBit w 0 stepNowSched s)
  onBit w 7 (groupCommit 19) (onBit w 6 (groupCommit 18) (onBit w 5 (groupCommit 17) (onBit w 4 (groupCommit 16) s)))

/-- A write of TOP_REMAP (R16): SWAP stays set, and locks the boot area. -/
def remapWrite (w : Word) (s : State) : State :=
  onBit w 0 (fun s => (s.setF Reg.TOP_REMAP_SWAP 1).setF Reg.NVM_STATUS_BOOT_LOCK 1) s

/-- A write of a defined register. -/
def writeReg (b : Writer) (key : Nat) (w : Word) (s : State) : State :=
  let page := key / 0x10000
  let off := key % 0x10000
  if pageGated s page then
    (if off = 0x04 ∧ page = 0x0E then commitBit 0x0E w s
     else if off = 0x04 ∧ page = 0x10 then commitBit 0x10 w s
     else if off = 0x00 ∧ page = 0x11 then commitBit 0x11 w s
     else if off = 0x04 ∧ page = 0x12 then commitBit 0x12 w s
     else s)
  else if page = 0x00 then
    (if off = 0x08 then resetKey w.toNat s
     else if off = 0x18 then persSel (getBits w 1 0) s
     else if off = 0x1C then wdogWrite w s
     else if off = 0x100 then remapWrite w s
     else plainWrite key w s)
  else if page = 0x01 then
    (if off = 0x00 then timeCtrlWrite w s
     else if off = 0x10 then onBit w 0 tb0Capture s
     else if off = 0x30 then timeCommit w s
     else plainWrite key w s)
  else if page = 0x02 then schedPage off w s
  else if page = 0x03 then fltPage off w s
  else if page = 0x04 then
    (if off = 0x00 then pmrCtrl w s else if off = 0x04 then commitBit 0x04 w s else plainWrite key w s)
  else if page = 0x05 then
    (if off = 0x04 then commitBit 0x05 w s
     else if off = 0x08 then onBit w 1 pairClearCnt (if w.getLsbD 0 = s.flag Reg.PAIR_CTRL_HOLD then s else holdWrite (w.getLsbD 0) s)
     else plainWrite key w s)
  else if page = 0x08 then
    (if off = 0x08 then nvmWordWrite b.master w.toNat (b.master == 0x20) s else plainWrite key w s)
  else if page = 0x09 then
    (if off = 0x300 then onBit w 7 (eyeStart (getBits w 6 0)) (plainWrite key w s) else plainWrite key w s)
  else if page = 0x0B then hifPage b off w s
  else if page = 0x0C then
    (if off = 0x00 then onBit w 0 memInit (plainWrite key w s)
     else if off = 0x08 then commitBit 0x0C w s
     else if off = 0x18 then onBit w 1 fspInvalidate (onBit w 0 fspReq s)
     else if off = 0x10 ∨ off = 0x14 then fspRateWrite ((off - 0x10) / 4) (getBits w 2 0) s
     else plainWrite key w s)
  else if page = 0x0D then dmaPage off b w s
  else if page = 0x0E then lensPage off w s
  else if page = 0x0F then stgPage off w s
  else if page = 0x10 then lanPage off w s
  else if page = 0x11 then (if off = 0x00 then commitBit 0x11 w s else plainWrite key w s)
  else if page = 0x12 then canPage off w s
  else if page = 0x13 then (if off = 0x04 then commitBit 0x13 w s else plainWrite key w s)
  else if 0x20 ≤ page ∧ page < 0x30 then linkPage (page - 0x20) off w s
  else if 0x40 ≤ page ∧ page < 0x80 then lampPage (page - 0x40) off b w s
  else plainWrite key w s

/-! ## Logging (R501 to R504) -/

/-- Registers whose writes are not logged. -/
def logExempt (name : String) : Bool :=
  name == "SCHED_RING_RD" || name == "CMP_RD" || name == "DUMP_RD" || name == "RELAY_RD" || name == "CAN_W_PTR" || name == "LMP_PC" ||
  name == "LMP_DBG_SEL" || name == "LMP_DBG_DATA_LO" || name == "LMP_DBG_DATA_HI" || name == "LAN_WIN_SEL"

/-- The commit bits of a register: those of a group's commit register (R496), SLOT_CTRL.ARM (R60), and FLT_INJ_CTRL.ARM (R622). -/
def commitBits (key : Nat) : Word :=
  if key = 0x10030 then 0xF3
  else match rowAt key with
    | none => 0
    | some r => if (["LNK_COMMIT", "EGR_COMMIT", "LENS_COMMIT", "LMP_COMMIT", "STG_COMMIT", "LAN_COMMIT", "MNT_COMMIT", "CAN_COMMIT",
        "MEM_COMMIT", "FLT_COMMIT", "PAIR_COMMIT", "PMR_COMMIT", "FLT_INJ_CTRL"] : List String).contains r.name then 1
      else if r.name == "SLOT_CTRL" then 2 ^ 24 else 0

/-- A register with an RW or RWS field that R501 does not exempt. -/
def logsWrites (key : Nat) : Bool :=
  match rowAt key with
  | none => false
  | some r => accMask r (fun a => a == .rw || a == .rws) != 0 && !logExempt r.name

/-- The origin class of a master's writes (R503): 0 H, 2 F, 3 M. -/
def masterOrigin (m : Nat) : Nat := if m = 0x02 then 0 else if m = 0x20 then 3 else 2

/-- Pass one entry to the log's buffer; while it is full the write waits, for a number of cycles that the spec does not
state, until the buffer has been emptied (R504). (DEDUCED, log 23.) -/
def logWrite (origin key : Nat) (old new : Word) (s : State) : State :=
  let s := if s.dict.logBuf.length < 256 then s
    else let (v, s) := s.draw; (logDrain s).satF Reg.BMX_CNT_LOG_HOLD (v % 2 ^ 32)
  let e := leBytes 4 (key / 4) ++ leBytes 4 origin ++ leBytes 4 old.toNat ++ leBytes 4 new.toNat ++ time96 s
  dictSet (fun d => { d with logBuf := d.logBuf ++ [e] }) s

/-- The log entry of a master's write of `w` to a register that showed `old`. (DESIGN CHOICE, log 24.) -/
def logAfter (master key : Nat) (old w : Word) (s : State) : State :=
  if w &&& commitBits key ≠ 0 then logWrite (masterOrigin master) key 0 w s
  else if logsWrites key then logWrite (masterOrigin master) key old (shownWord s key) s
  else s

/-- A logged register write by a bus master. -/
def writeLogged (b : Writer) (key : Nat) (w : Word) (s : State) : State :=
  logAfter b.master key (shownWord s key) w (writeReg b key w s)

/-- Writes that fall under R480 at the register: of TOP_REMAP and TOP_LL_WDOG by others than the Lamplighter (R16, R687), and of
TOP_PERS_SEL but for its one write (R684). -/
def refusedWrite (key master : Nat) (s : State) : Bool :=
  ((key == 0x18 || key == 0x1C || key == 0x100) && master != 1) ||
    (key == 0x18 && (s.f Reg.TOP_STRAP_PERS != 3 || s.flag Reg.TOP_PERS_SEL_DONE))

/-- A bus write to an existing page; false: an error response. -/
def pageWrite (b : Writer) (key : Nat) (w : Word) (s : State) : Bool × State :=
  if !(rowAt key).isSome then (true, undefAccess key 2 b.master s)
  else if refusedWrite key b.master s then (false, bmxFault FK.BMX_ACCESS 4 (0x40000000 + key) 2 b.master s)
  else (true, writeLogged b key w s)

/-! ## Broadcast and group pages (R14, R15, R492 to R494) -/

/-- The member pages of a broadcast page, ascending. -/
def broadcastMembers (s : State) (page : Nat) : List Nat :=
  let lamps := (List.range 64).map (0x40 + ·)
  let groups := (List.range 16).map (0x20 + ·)
  let lampMask := s.f Reg.LMP_GROUP_MASK_LO + 2 ^ 32 * s.f Reg.LMP_GROUP_MASK_HI
  if page = 0x80 then lamps
  else if page = 0x81 then lamps.filter fun p => lampMask.testBit (p - 0x40)
  else if page = 0x82 then groups
  else if page = 0x83 then groups.filter fun p => (s.f Reg.LNK_GROUP_MASK).testBit (p - 0x20)
  else []

def isBroadcast (page : Nat) : Bool := decide (0x80 ≤ page) && decide (page ≤ 0x83)

/-- A broadcast write reaches its members in ascending number. -/
def broadcastWrite (b : Writer) (page off : Nat) (w : Word) (s : State) : Bool × State :=
  (true, (broadcastMembers s page).foldl (fun s p => (pageWrite b (p * 0x10000 + off) w s).2) s)

/-- A broadcast read: the lowest member's word, without side effect in any member (R15). The word is the register's own, also of a high
word whose direct read would show what the read of the low word latched (DESIGN CHOICE, log 133). -/
def broadcastRead (page off master : Nat) (s : State) : Word × State :=
  match broadcastMembers s page with
  | [] => (0, s)
  | p :: ps =>
    let w := shownWord s (p * 0x10000 + off)
    let s' := if (rowAt (p * 0x10000 + off)).isSome then s else undefAccess (p * 0x10000 + off) 1 master s
    (w, if ps.any fun q => shownWord s (q * 0x10000 + off) != w then s'.setF Reg.TOP_BCAST_STATUS_DISAGREE 1 else s')

end Sys2Proof.Machine
end

