-- ==== Sys2Proof/Machine/Bus.lean ====
section
/-! DEFINITION. Sys2Proof/Machine/Bus.lean: accesses of bus masters to the whole address map (R477 to R494), the lamps' fetch
unit (R272, R273) and the data movement of the DMA engine. -/
namespace Sys2Proof.Machine

/-- A read of the register pages: an aligned 32-bit word (R8), a broadcast page or a member page. -/
def pageBusRead (master access addr n : Nat) (s : State) : ReadAns × State :=
  let key := addr - 0x40000000
  let page := key / 0x10000
  if !(pageExists page || isBroadcast page) then
    ((false, zeros n), bmxFault FK.BMX_DECODE 4 addr access master s)
  else if n ≠ 4 ∨ addr % 4 ≠ 0 then ((false, zeros n), s)
  else
    let (w, s) := if isBroadcast page then broadcastRead page (key % 0x10000) master s else readReg key access master s
    ((true, leBytes 4 w.toNat), s)

/-- A write to the register pages. A write whose four bytes are not all enabled is of another size (R8); one with none enabled
writes nothing (R482). (DEDUCED, log 19.) -/
def pageBusWrite (b : Writer) (addr n : Nat) (cells : List (Nat × Byte)) (s : State) : Bool × State :=
  let key := addr - 0x40000000
  let page := key / 0x10000
  if !(pageExists page || isBroadcast page) then (false, bmxFault FK.BMX_DECODE 4 addr 2 b.master s)
  else if n ≠ 4 ∨ addr % 4 ≠ 0 then (false, s)
  else if cells.isEmpty then (true, s)
  else if cells.length ≠ 4 then (false, s)
  else
    let w := BitVec.ofNat 32 (ofLe (cells.map Prod.snd))
    if isBroadcast page then broadcastWrite b page (key % 0x10000) w s else pageWrite b key w s

/-- A bus read. -/
def busRead (master access addr n err : Nat) (host : List Byte) (s : State) : ReadAns × State :=
  if routeTo addr n = some 4 then
    if masterReach master 4 false then pageBusRead master access addr n (perfEvent 0x07 0x10 1 s)
    else ((false, zeros n), bmxFault FK.BMX_ACCESS 4 addr access master s)
  else memRead master access addr n err host s

/-- A bus write of enabled bytes. -/
def busWrite (b : Writer) (addr n : Nat) (cells : List (Nat × Byte)) (s : State) : Bool × State :=
  if routeTo addr n = some 4 then
    if masterReach b.master 4 true then pageBusWrite b addr n cells (perfEvent 0x07 0x10 1 s)
    else (false, bmxFault FK.BMX_ACCESS 4 addr 2 b.master s)
  else memWrite b.master addr n cells b.err s

/-- BUS_ACCESS: one request and its response (R481). A request to an LPDDR6 channel that holds its traffic waits at its port, and answers
when it is issued (R461, R464). -/
def busAccess (b : Writer) (write : Bool) (addr n en : Nat) (data : List Byte) (s : State) : State :=
  if busHolds s addr n && masterReach b.master 8 write then
    memArrive b.master (if write then 2 else if b.master = 0x00 then 3 else 1) (addr - 0x1000000000) n
      (if write then enabledCells (addr - 0x1000000000) en (fitBytes n data) else []) (perfEvent 0x07 0x10 1 s)
  else if write then
    let (ok, s) := busWrite b addr n (enabledCells addr en (fitBytes n data)) s
    s.respond ok []
  else
    let (r, s) := busRead b.master (if b.master = 0x00 then 3 else 1) addr n b.err b.host s
    s.respond r.1 r.2

/-- A register page that the master reaches is there, to be timed out. -/
def pageMayTimeOut (master addr : Nat) (write : Bool) : Bool :=
  let page := (addr - 0x40000000) / 0x10000
  routeTo addr 4 == some 4 && (pageExists page || isBroadcast page) && masterReach master 4 write

/-- The matrix completes an access to a page that has not responded in time (R488). -/
def pageTimedOut (master addr : Nat) (write : Bool) (s : State) : State :=
  raise { kind := FK.BMX_TIMEOUT, src := 0x07, sub := 4, addr := addr, access := if write then 2 else 1, master := master,
          injected := false } (s.incF Reg.BMX_CNT_TIMEOUT 1)

/-- PERIPHERAL_TIMEOUT (R488): the access ends with an error response and its late response is discarded. (DEDUCED, log 20.) -/
def periTimeout (master addr : Nat) (write : Bool) (s : State) : State :=
  if pageMayTimeOut master addr write then (pageTimedOut master addr write s).respond false (zeros 4) else s

/-- An engine's access to a page is not answered in time: its error digit is 15. -/
def pageSilent (master addr err : Nat) (write : Bool) : Bool := err % 16 == 15 && pageMayTimeOut master addr write

/-! ## The fetch unit (R238, R272) -/

def fetchRowBytes (j : FetchJob) : Nat := if j.p9 then 36 else 64

/-- The window offset of row `k` of a copy in the lamp's data memory. -/
def fetchLocal (j : FetchJob) (k : Nat) : Nat :=
  let r := (j.row + k) % 8192
  if j.p9 then 0xB0000 + 36 * r else 64 * r

/-- A row from the bus: from the register pages it is read word by word (R8). -/
def fetchRead (m addr len err : Nat) (s : State) : ReadAns × State :=
  if routeTo addr len = some 4 then
    (List.range (ceilDiv len 4)).foldl (fun (a : ReadAns × State) i =>
      if !a.1.1 then a
      else
        if pageSilent m (addr + 4 * i) (err / 16 ^ i) false then ((false, a.1.2), pageTimedOut m (addr + 4 * i) false a.2)
        else
          let (r, s) := busRead m 1 (addr + 4 * i) 4 0 [] a.2
          ((r.1, (a.1.2 ++ r.2).take len), s)) ((true, []), s)
  else busRead m 1 addr len err [] s

/-- The copy of one row, or of its first `len` bytes; false: an error response. `err`: what the checks on the lamp's side find, then, from
digit 8 on, those of the bus's side. -/
def fetchRow (n : Nat) (j : FetchJob) (k len err : Nat) (s : State) : Bool × State :=
  let o := fetchLocal j k
  let addr := j.bus + k * fetchRowBytes j
  let m := 0x08 + n / 8
  if j.toBus then
    let (r, s) := lampMemRead m 5 n o len (err % 4 ^ 8) s
    if r.1 then busWrite { master := m, err := err / 4 ^ 8, host := [] } addr len (enabledCells addr (2 ^ len - 1) r.2) s else (false, s)
  else
    let (r, s) := fetchRead m addr len (err / 4 ^ 8) s
    if r.1 then lampMemWrite m n o len (enabledCells o (2 ^ len - 1) r.2) s else (false, s)

/-- The first `bytes` bytes of the copy, row by row, up to an error response. (DEDUCED, log 56.) -/
def fetchMove (n : Nat) (j : FetchJob) (bytes err : Nat) (s : State) : Bool × State :=
  (List.range j.rows).foldl (fun (a : Bool × State) k =>
    let len := min (fetchRowBytes j) (bytes - k * fetchRowBytes j)
    if !a.1 || len == 0 then a else fetchRow n j k len (err / 4 ^ (16 * k) % 4 ^ 16) a.2) (true, s)

/-- FETCH_COMPLETE: the copy has been made, or has met an error response. -/
def fetchComplete (n err : Nat) (s : State) : State :=
  match (s.lamp n).fetchJob with
  | none => s
  | some j =>
    if busHolds s j.bus (j.rows * fetchRowBytes j) then s
    else
    let (ok, s) := fetchMove n j (j.rows * fetchRowBytes j) err s
    let s := updLamp n (fun l => { l with fetchJob := none, fetchDone := true }) s
    if ok then s
    else raise (fev FK.LMP_FETCH_ERR (lampSrc n) 2 (lampPc s n)) (updLamp n (fun l => l.setSp 0x5A 2) s)

/-- A copy that a lamp reset stopped (R246, R490): a number of its 64-byte beats on the bus that the spec does not state had been moved
whole, and those of its bursts that were outstanding, at most 32, are retired. (DEDUCED, log 146.) -/
def fetchCut (n : Nat) (j : FetchJob) (s : State) : State :=
  let total := j.rows * fetchRowBytes j
  let (sent, s) := s.draw
  let (out, s) := s.draw
  let bytes := min total ((j.bus / 64 + sent % (total / 64 + 2)) * 64 - j.bus)
  retire (out % (min 32 (alignedParts 256 j.bus total).length + 1)) (fetchMove n j bytes 0 s).2

/-! ## DMA data movement (R442, R444) -/

/-- A read burst of channel c on the bus: its piece rounded outward to 64-byte beats (R429), or a page word (R430). The bytes outside the
piece are discarded; `host`: what host memory answers for the beats. -/
def burstBeats (c err : Nat) (b : DmaBurst) (host : List Byte) (s : State) : ReadAns × State :=
  if inPages b.addr then
    if pageSilent (dmaMaster c) b.addr err false then ((false, zeros b.n), pageTimedOut (dmaMaster c) b.addr false s)
    else busRead (dmaMaster c) 1 b.addr b.n err host s
  else
    let a := b.addr / 64 * 64
    let (r, s) := busRead (dmaMaster c) 1 a (64 * beatsOf b.addr b.n) err host s
    ((r.1, (r.2.drop (b.addr - a)).take b.n), s)

/-- A read is held back: a write of its channel issued before it is outstanding and overlaps it (R484), or its LPDDR6 channel holds its
traffic. -/
def readHeldBack (c : Nat) (b : DmaBurst) (s : State) : Bool :=
  ((s.chan c).writes.any fun w => decide (w.pos < b.wrAt) && beatsMeet w.addr w.n b.addr b.n) || busHolds s b.addr b.n

/-- READ_RESPONSE: outstanding read `k` of channel c is answered. -/
def dmaReadResponse (c k err : Nat) (host : List Byte) (s : State) : State :=
  match (s.chan c).reads[k]? with
  | none => s
  | some b =>
    if readHeldBack c b s then s
    else
      let (r, s) := burstBeats c err b host s
      readDone c k r s

/-- WRITE_ACK: outstanding write `k` of channel c is carried out and acknowledged. -/
def dmaWriteAck (c k err : Nat) (s : State) : State :=
  match (s.chan c).writes[k]? with
  | none => s
  | some b =>
    if busHolds s b.addr b.n then s
    else if inPages b.addr && pageSilent (dmaMaster c) b.addr err true then writeDone c k false (pageTimedOut (dmaMaster c) b.addr true s)
    else
      let (ok, s) := busWrite { master := dmaMaster c, err := err, host := [] } b.addr b.n
        (enabledCells b.addr (2 ^ b.n - 1) b.data) s
      writeDone c k ok s

/-- Channel c at a reset of the block (R446): an ABORT, the bursts it has outstanding complete, writes first, and the descriptor in
progress ends with its record, as far as that can be now. (DEDUCED, log 72.) -/
def dmaResetChan (c : Nat) (s : State) : State :=
  let s := dmaAbort c s
  let s := (List.range (s.chan c).writes.length).foldl (fun s _ => dmaWriteAck c 0 0 s) s
  let s := (List.range (s.chan c).reads.length).foldl (fun s _ => dmaReadResponse c 0 0 [] s) s
  endDesc c 0 [] [] s

/-- DMA_BLOCK_RESET: the block is reset once every channel's bursts have completed and its record is written (R446). -/
def dmaBlockReset (s : State) : State :=
  let s := (List.range 16).foldl (fun s c => dmaResetChan c s) s
  dmaResetEnd { s with dma := { s.dma with resetDue := true } }

end Sys2Proof.Machine
end

