-- ==== Sys2Proof/Machine/Ecdsa.lean ====
section
/-! DEFINITION. Sys2Proof/Machine/Ecdsa.lean: the verification of an ECDSA signature over P-384, of FIPS 186-5 (R592). -/
namespace Sys2Proof.Machine

def p384 : Nat := 2 ^ 384 - 2 ^ 128 - 2 ^ 96 + 2 ^ 32 - 1

/-- The order of the base point. -/
def p384n : Nat := 0xFFFFFFFFFFFFFFFFFFFFFFFFFFFFFFFFFFFFFFFFFFFFFFFFC7634D81F4372DDF581A0DB248B0A77AECEC196ACCC52973

/-- The base point. -/
def p384g : Nat × Nat :=
  (0xAA87CA22BE8B05378EB1C71EF320AD746E1D3B628BA79B9859F741E082542A385502F25DBF55296C3A545E3872760AB7,
   0x3617DE4A96262C6F5D9E98BF9292DC29F8F41DBD289A147CE9DA3113B5F0B8C00A60B1CE1D7E819D7A431D7C90EA0E5F)

/-- b ^ e modulo m, for e below 2 ^ k. -/
def powMod (m b : Nat) : Nat → Nat → Nat
  | 0, _ => 1 % m
  | k + 1, e => let r := powMod m b k (e / 2); if e % 2 = 1 then r * r % m * b % m else r * r % m

/-- The inverse modulo a prime below 2 ^ 384. -/
def invMod (m a : Nat) : Nat := powMod m a 384 (m - 2)

/-- The sum of two points of the curve, none being the point at infinity. -/
def pointAdd (a b : Option (Nat × Nat)) : Option (Nat × Nat) :=
  match a, b with
  | none, q => q
  | q, none => q
  | some (x, y), some (u, v) =>
    if x = u ∧ (y + v) % p384 = 0 then none
    else
      let l := if x = u then (3 * x * x + (p384 - 3)) * invMod p384 (2 * y % p384) % p384
        else (v + p384 - y) * invMod p384 ((u + p384 - x) % p384) % p384
      let z := (l * l + 2 * p384 - x - u) % p384
      some (z, (l * (x + p384 - z) + p384 - y) % p384)

/-- e times a point, for e below 2 ^ k. -/
def pointMul (q : Option (Nat × Nat)) : Nat → Nat → Option (Nat × Nat)
  | 0, _ => none
  | k + 1, e => let r := pointMul q k (e / 2); if e % 2 = 1 then pointAdd (pointAdd r r) q else pointAdd r r

/-- The signature (r, s) of a message with the digest `e`, under the public key `q`. -/
def ecdsaOk (q : Nat × Nat) (e r s : Nat) : Bool :=
  if r = 0 ∨ p384n ≤ r ∨ s = 0 ∨ p384n ≤ s then false
  else
    let w := invMod p384n s
    match pointAdd (pointMul (some p384g) 384 (e * w % p384n)) (pointMul (some q) 384 (r * w % p384n)) with
    | none => false
    | some (x, _) => x % p384n == r

end Sys2Proof.Machine
end

