-- ==== Sys2Proof/Machine/Sha.lean ====
section
/-! DEFINITION. Sys2Proof/Machine/Sha.lean: SHA-256 and SHA-384 (FIPS 180-4) and HMAC-SHA-256 (FIPS 198-1), which R553, R571 and R592
name. The algorithms are those of the standards (PRESUMED, log 88: the spec cites them and does not print them). -/
namespace Sys2Proof.Machine

def sha256K0 : List Nat := [
  0x428A2F98, 0x71374491, 0xB5C0FBCF, 0xE9B5DBA5, 0x3956C25B, 0x59F111F1, 0x923F82A4, 0xAB1C5ED5,
  0xD807AA98, 0x12835B01, 0x243185BE, 0x550C7DC3, 0x72BE5D74, 0x80DEB1FE, 0x9BDC06A7, 0xC19BF174,
  0xE49B69C1, 0xEFBE4786, 0xFC19DC6, 0x240CA1CC, 0x2DE92C6F, 0x4A7484AA, 0x5CB0A9DC, 0x76F988DA,
  0x983E5152, 0xA831C66D, 0xB00327C8, 0xBF597FC7, 0xC6E00BF3, 0xD5A79147, 0x6CA6351, 0x14292967]
def sha256K1 : List Nat := [
  0x27B70A85, 0x2E1B2138, 0x4D2C6DFC, 0x53380D13, 0x650A7354, 0x766A0ABB, 0x81C2C92E, 0x92722C85,
  0xA2BFE8A1, 0xA81A664B, 0xC24B8B70, 0xC76C51A3, 0xD192E819, 0xD6990624, 0xF40E3585, 0x106AA070,
  0x19A4C116, 0x1E376C08, 0x2748774C, 0x34B0BCB5, 0x391C0CB3, 0x4ED8AA4A, 0x5B9CCA4F, 0x682E6FF3,
  0x748F82EE, 0x78A5636F, 0x84C87814, 0x8CC70208, 0x90BEFFFA, 0xA4506CEB, 0xBEF9A3F7, 0xC67178F2]

/-- The round constants of SHA-256. -/
def sha256K : List Nat := sha256K0 ++ sha256K1

def sha512K0 : List Nat := [
  0x428A2F98D728AE22, 0x7137449123EF65CD, 0xB5C0FBCFEC4D3B2F, 0xE9B5DBA58189DBBC,
  0x3956C25BF348B538, 0x59F111F1B605D019, 0x923F82A4AF194F9B, 0xAB1C5ED5DA6D8118,
  0xD807AA98A3030242, 0x12835B0145706FBE, 0x243185BE4EE4B28C, 0x550C7DC3D5FFB4E2,
  0x72BE5D74F27B896F, 0x80DEB1FE3B1696B1, 0x9BDC06A725C71235, 0xC19BF174CF692694,
  0xE49B69C19EF14AD2, 0xEFBE4786384F25E3, 0xFC19DC68B8CD5B5, 0x240CA1CC77AC9C65,
  0x2DE92C6F592B0275, 0x4A7484AA6EA6E483, 0x5CB0A9DCBD41FBD4, 0x76F988DA831153B5,
  0x983E5152EE66DFAB, 0xA831C66D2DB43210, 0xB00327C898FB213F, 0xBF597FC7BEEF0EE4,
  0xC6E00BF33DA88FC2, 0xD5A79147930AA725, 0x6CA6351E003826F, 0x142929670A0E6E70]
def sha512K1 : List Nat := [
  0x27B70A8546D22FFC, 0x2E1B21385C26C926, 0x4D2C6DFC5AC42AED, 0x53380D139D95B3DF,
  0x650A73548BAF63DE, 0x766A0ABB3C77B2A8, 0x81C2C92E47EDAEE6, 0x92722C851482353B,
  0xA2BFE8A14CF10364, 0xA81A664BBC423001, 0xC24B8B70D0F89791, 0xC76C51A30654BE30,
  0xD192E819D6EF5218, 0xD69906245565A910, 0xF40E35855771202A, 0x106AA07032BBD1B8,
  0x19A4C116B8D2D0C8, 0x1E376C085141AB53, 0x2748774CDF8EEB99, 0x34B0BCB5E19B48A8,
  0x391C0CB3C5C95A63, 0x4ED8AA4AE3418ACB, 0x5B9CCA4F7763E373, 0x682E6FF3D6B2B8A3,
  0x748F82EE5DEFB2FC, 0x78A5636F43172F60, 0x84C87814A1F0AB72, 0x8CC702081A6439EC,
  0x90BEFFFA23631E28, 0xA4506CEBDE82BDE9, 0xBEF9A3F7B2C67915, 0xC67178F2E372532B]
def sha512K2 : List Nat := [
  0xCA273ECEEA26619C, 0xD186B8C721C0C207, 0xEADA7DD6CDE0EB1E, 0xF57D4F7FEE6ED178,
  0x6F067AA72176FBA, 0xA637DC5A2C898A6, 0x113F9804BEF90DAE, 0x1B710B35131C471B,
  0x28DB77F523047D84, 0x32CAAB7B40C72493, 0x3C9EBE0A15C9BEBC, 0x431D67C49C100D4C,
  0x4CC5D4BECB3E42B6, 0x597F299CFC657E2A, 0x5FCB6FAB3AD6FAEC, 0x6C44198C4A475817]

/-- The round constants of SHA-384. -/
def sha512K : List Nat := sha512K0 ++ sha512K1 ++ sha512K2

def sha256Init : List Nat := [
  0x6A09E667, 0xBB67AE85, 0x3C6EF372, 0xA54FF53A, 0x510E527F, 0x9B05688C, 0x1F83D9AB, 0x5BE0CD19]

def sha384Init : List Nat := [
  0xCBBB9D5DC1059ED8, 0x629A292A367CD507, 0x9159015A3070DD17, 0x152FECD8F70E5939,
  0x67332667FFC00B31, 0x8EB44A8768581511, 0xDB0C2E0D64F98FA7, 0x47B5481DBEFA4FA4]

/-- What distinguishes the two: word width, round constants, and the rotations of Σ0, Σ1, σ0 and σ1 (the last of σ a shift). -/
structure ShaAlg where
  w : Nat
  k : List Nat
  big0 : Nat × Nat × Nat
  big1 : Nat × Nat × Nat
  small0 : Nat × Nat × Nat
  small1 : Nat × Nat × Nat
deriving DecidableEq, Repr

def sha256Alg : ShaAlg :=
  { w := 32, k := sha256K, big0 := (2, 13, 22), big1 := (6, 11, 25), small0 := (7, 18, 3), small1 := (17, 19, 10) }

def sha512Alg : ShaAlg :=
  { w := 64, k := sha512K, big0 := (28, 34, 39), big1 := (14, 18, 41), small0 := (1, 8, 7), small1 := (19, 61, 6) }

def rotr (w x n : Nat) : Nat := x / 2 ^ n + x % 2 ^ n * 2 ^ (w - n)

def shaBig (a : ShaAlg) (r : Nat × Nat × Nat) (x : Nat) : Nat := rotr a.w x r.1 ^^^ rotr a.w x r.2.1 ^^^ rotr a.w x r.2.2
def shaSmall (a : ShaAlg) (r : Nat × Nat × Nat) (x : Nat) : Nat := rotr a.w x r.1 ^^^ rotr a.w x r.2.1 ^^^ (x / 2 ^ r.2.2)

/-- The working variables after one round; `last` holds the sixteen schedule words from this round's on. -/
def shaRound (a : ShaAlg) (v : List Nat) (last : List Nat) (k : Nat) : List Nat :=
  match v with
  | [x0, x1, x2, x3, x4, x5, x6, x7] =>
    let ch := (x4 &&& x5) ^^^ ((2 ^ a.w - 1 - x4) &&& x6)
    let maj := (x0 &&& x1) ^^^ (x0 &&& x2) ^^^ (x1 &&& x2)
    let t1 := x7 + shaBig a a.big1 x4 + ch + k + last.headD 0
    let t2 := shaBig a a.big0 x0 + maj
    [(t1 + t2) % 2 ^ a.w, x0, x1, x2, (x3 + t1) % 2 ^ a.w, x4, x5, x6]
  | _ => v

/-- The sixteen schedule words one round further on. -/
def shaNext (a : ShaAlg) (m : List Nat) : List Nat :=
  m.drop 1 ++ [(shaSmall a a.small1 (m.getD 14 0) + m.getD 9 0 + shaSmall a a.small0 (m.getD 1 0) + m.headD 0) % 2 ^ a.w]

def shaRounds (a : ShaAlg) : List Nat → List Nat → List Nat → List Nat
  | [], _, v => v
  | k :: ks, m, v => shaRounds a ks (shaNext a m) (shaRound a v m k)

def shaBlock (a : ShaAlg) (h : List Nat) (block : List Byte) : List Nat :=
  let m := (List.range 16).map fun i => beAt block (i * (a.w / 8)) (a.w / 8)
  (h.zip (shaRounds a a.k m h)).map fun x => (x.1 + x.2) % 2 ^ a.w

/-- The message with its padding: a one bit, zeros and the length. -/
def shaPad (a : ShaAlg) (l : List Byte) : List Byte :=
  let b := 2 * a.w
  let n := l.length
  l ++ [0x80] ++ List.replicate ((2 * b - 1 - a.w / 4 - n % b) % b) 0 ++ beBytes (a.w / 4) (8 * n)

def shaBlocks (a : ShaAlg) : Nat → List Byte → List Nat → List Nat
  | 0, _, h => h
  | n + 1, l, h => shaBlocks a n (l.drop (2 * a.w)) (shaBlock a h (l.take (2 * a.w)))

/-- PRESUMED, log 88. -/
def sha256 (l : List Byte) : List Byte :=
  let p := shaPad sha256Alg l
  (shaBlocks sha256Alg (p.length / 64) p sha256Init).flatMap fun x => beBytes 4 x

def sha384 (l : List Byte) : List Byte :=
  let p := shaPad sha512Alg l
  ((shaBlocks sha512Alg (p.length / 128) p sha384Init).flatMap fun x => beBytes 8 x).take 48

/-- HMAC-SHA-256 under a 32-byte key. -/
def hmac256 (key : List Byte) (l : List Byte) : List Byte :=
  let k := fitBytes 64 key
  sha256 (k.map (· ^^^ 0x5C) ++ sha256 (k.map (· ^^^ 0x36) ++ l))

end Sys2Proof.Machine
end

