-- ==== Sys2Proof/Machine/Update.lean ====
section
/-! DEFINITION. Sys2Proof/Machine/Update.lean: firmware images, their verification by the boot ROM and the update commands
(R571, R572, R579 to R581, R592 to R595). -/
namespace Sys2Proof.Machine

/-! ## Slots and commit records -/

/-- The last SEQ of the slots' commits: the highest of the valid records and of what was cleared (R579). -/
def slotSeqLast (s : State) : Nat :=
  [0, 1].foldl (fun q n => if copyValid s (slotCopy n) && seqAbove q (copySeq s (slotCopy n)) then copySeq s (slotCopy n) else q) s.nvm.slotSeq

/-- The commit record of a slot is valid (R580). -/
def slotCommitted (s : State) (n : Nat) : Bool := copyValid s (slotCopy n)

/-! ## Images (R592) -/

def imageHeader (s : State) (n : Nat) : List Byte := nvmPeek s (slotBase n) 256
def imageVersion (s : State) (n : Nat) : Nat := leAt (imageHeader s n) 8 4
def imageRollback (s : State) (n : Nat) : Nat := leAt (imageHeader s n) 12 4
def imageBody (s : State) (n : Nat) : Nat := leAt (imageHeader s n) 16 4
def imageLoad (s : State) (n : Nat) : Nat := leAt (imageHeader s n) 20 4
def imageKey (s : State) (n : Nat) : Nat := leAt (imageHeader s n) 28 1
def imageRevoke (s : State) (n : Nat) : Nat := leAt (imageHeader s n) 29 1

def bodyLenOk (n : Nat) : Bool := n % 16 == 0 && decide (16 ≤ n) && decide (n ≤ 4194032)

/-- The header is well formed. DEDUCED: bytes 30 and 31, which it does not describe, are not checked. (DEDUCED, log 109.) -/
def headerOk (s : State) (n : Nat) : Bool :=
  let h := imageHeader s n
  let load := imageLoad s n
  leAt h 0 4 == 0x5A4C4649 && leAt h 4 4 == 1 && load % 16 == 0 && decide (load ≤ imageBody s n) && decide (load ≤ 524288) &&
    decide (leAt h 24 4 < load) && decide (imageKey s n ≤ 3) && decide (imageRevoke s n < 16) && !(imageRevoke s n).testBit (imageKey s n)

/-- The signature of an image verifies under key `k` of the ROM (R571, R592). -/
def signatureOk (k : Nat) (h : List Byte) : Bool :=
  ecdsaOk (Config.romKey k) (ofBe (sha384 (h.take 80))) (leAt h 80 48) (leAt h 128 48)

/-- What is wrong with the image in a slot, as update_error codes it: 0 nothing, 1 header, 2 length, 3 hash, 4 signature, 5
revoked key, 6 rollback. (DEDUCED, log 87.) -/
def imageErr (s : State) (n : Nat) : Nat :=
  let h := imageHeader s n
  if !bodyLenOk (imageBody s n) then 2
  else if !headerOk s n then 1
  else if sha384 (nvmPeek s (slotBase n + 256) (imageBody s n)) ≠ (h.drop 32).take 48 then 3
  else if !signatureOk (imageKey s n) h then 4
  else if (revokedNow s).testBit (imageKey s n) then 5
  else if imageRollback s n < rollbackNow s then 6
  else 0

/-- A slot passes (R571, step 3). -/
def slotPasses (s : State) (n : Nat) : Bool := slotCommitted s n && imageErr s n == 0

/-! ## The boot ROM (R571, R572) -/

/-- Steps 1 and 2: the control record as committed, and the slot tried first. -/
def bootOrder (u : Ucr) : Ucr × Nat :=
  if u.trial ∧ u.attempts < 3 then ({ u with attempts := u.attempts + 1 }, u.trialSlot)
  else if u.trial then ({ u with trial := false, reverted := true }, u.preferred)
  else (u, u.preferred)

/-- Step 4 of R571, and R572: slot n starts; `first` is the slot tried first. The mask takes REVOKE when the counter is raised
(DEDUCED, log 87). -/
def bootSlot (n first : Nat) (s : State) : State :=
  let u := ucrNow s
  let s := if (u.trial ∧ u.trialSlot = n) ∨ imageRollback s n ≤ rollbackNow s then s
    else storeWrite rollbackCopies (leBytes 4 (imageRollback s n) ++ leBytes 4 (revokedNow s ||| imageRevoke s n % 16)) s
  let load := nvmPeek s (slotBase n + 256) (imageLoad s n)
  let s := mgmtSet (fun m => { m with sram := mapSetList 0 m.sram 0 load, recovered := n != first }) s
  let s := (s.setF Reg.TOP_REMAP_SWAP 1).setF Reg.NVM_STATUS_BOOT_LOCK 1
  (s.setF Reg.NVM_STATUS_RUN_SLOT n).setF Reg.TOP_STATUS_STAGE 2

/-- What the ROM finds of the copies it reads, with uncorrectable errors in the words `ue`. -/
def bootFind (ue : List Nat) (s : State) : State := storeCheck rollbackCopies (storeCheck ucrCopies (nvmFound ue s))

/-- A slot that does not pass, beside one that does: an invalid copy where its record is (R580). -/
def slotStale (n : Nat) (s : State) : State :=
  if copyFound s (slotCopy n) && !slotCommitted s n then s.incF Reg.NVM_CNT_STALE 1 else s

/-- No slot passes: recovery mode, whose Lamplighter keeps the lifetime record too (R573, R589). -/
def bootRecovery (s : State) : State := lifeStart ((s.setF Reg.NVM_STATUS_RECOVERY 1).setF Reg.TOP_STATUS_STAGE 1)

/-- BOOT_ROM_START. `ue`: words in which its reads find an uncorrectable error. -/
def bootRom (ue : List Nat) (s : State) : State :=
  if s.flag Reg.TOP_REMAP_SWAP ∨ s.f Reg.TOP_STATUS_STAGE ≠ 0 then s
  else
    let s := bootFind ue s
    let (u, first) := bootOrder (ucrNow s)
    let s := if u = ucrNow s then s else setUcr u s
    if slotPasses s first then bootSlot first first s
    else if slotPasses s (1 - first) then bootSlot (1 - first) first (slotStale first s)
    else bootRecovery s

/-! ## The update commands (R593, R594) -/

/-- The inactive slot: the one the ROM did not start; slot B in recovery mode (DEDUCED, log 87). -/
def inactiveSlot (s : State) : Nat := 1 - s.f Reg.NVM_STATUS_RUN_SLOT

def setUpd (st err : Nat) (s : State) : State := mgmtSet (fun m => { m with updState := st, updError := err }) s

/-- The place of the next entry of the update history: the first that holds none, else the oldest by its seconds (DEDUCED, log 80). -/
def histPlace (h : List (List Byte)) : Nat :=
  ((List.range 32).foldl (fun (b : Nat × Nat) i =>
    let e := h.getD i []
    let t := if leAt e 12 1 = 0 then 0 else leAt e 0 8 + 1
    if t < b.1 then (t, i) else b) (2 ^ 64 + 1, 0)).2

/-- An entry of UPDATE_HIST (R591): 1 confirmed, 2 reverted, 3 refused at COMMIT, 4 recovered. -/
def histAdd (version outcome slot : Nat) (s : State) : State :=
  let e := leBytes 8 s.time.sec ++ leBytes 4 version ++ leBytes 1 outcome ++ leBytes 1 slot ++ leBytes 2 0
  mgmtSet (fun m => { m with hist := ((List.range 32).map fun i => fitBytes 16 (m.hist.getD i [])).set (histPlace m.hist) e }) s

/-- The inactive slot's commit record is cleared; the SEQ of the last commit is kept. -/
def clearCommit (s : State) : State :=
  nvmPut (slotBase (inactiveSlot s) + 0x3FFFF0) (zeros 16) (setNvm (fun n => { n with slotSeq := slotSeqLast s }) s)

/-- The commands of R594; true: accepted. -/
def updBegin (s : State) : Bool × State :=
  if s.mgmt.updState = 3 ∨ s.mgmt.updState = 4 then (false, s)
  else (true, setUpd 1 0 (dictSet (fun d => { d with updPtr := 0 }) (clearCommit s)))

/-- COMMIT. `bad`: the commit record could not be written (R576). -/
def updCommit (bad : Bool) (s : State) : Bool × State :=
  if s.mgmt.updState ≠ 1 then (false, s)
  else
    let n := inactiveSlot s
    let len := 256 + imageBody s n
    let e := if bodyLenOk (imageBody s n) && s.dict.updPtr != len then 2 else imageErr s n
    let refuse (e : Nat) (s : State) : State :=
      raise (fev FK.UPD_REFUSED 0x08 0 0) (histAdd (imageVersion s n) 3 n (setUpd 5 e s))
    if e ≠ 0 then (true, refuse e s)
    else if bad then
      (true, refuse 7 (raise (fevA FK.NVM_WRITE_FAIL 0x08 0 (0x20000000 + slotBase n + 0x3FFFF0) 2) (s.setF Reg.NVM_STATUS_WRITE_ERR 1)))
    else
      let seq := (slotSeqLast s + 1) % 2 ^ 32
      (true, setUpd 2 0 (nvmPut (slotBase n + 0x3FFFF0) (commitRecord seq (nvmPeek s (slotBase n) len)) (setNvm (fun m => { m with slotSeq := seq }) s)))

def updActivate (s : State) : Bool × State :=
  if s.mgmt.updState ≠ 2 then (false, s)
  else
    let s := setUcr { ucrNow s with trial := true, trialSlot := inactiveSlot s, attempts := 0 } s
    (true, setUpd 3 0 (lifeKeep s))

def updConfirm (s : State) : Bool × State :=
  if s.mgmt.updState ≠ 4 then (false, s)
  else
    let n := s.f Reg.NVM_STATUS_RUN_SLOT
    (true, histAdd (imageVersion s n) 1 n (setUpd 0 0 (setUcr { ucrNow s with preferred := n, trial := false } s)))

def updRevert (s : State) : Bool × State :=
  if s.mgmt.updState ≠ 3 ∧ s.mgmt.updState ≠ 4 then (false, s)
  else
    let n := (ucrNow s).trialSlot
    (true, histAdd (imageVersion s n) 2 n (setUpd 0 0 (setUcr { ucrNow s with trial := false } s)))

def updAbort (s : State) : Bool × State :=
  if s.mgmt.updState = 1 ∨ s.mgmt.updState = 2 ∨ s.mgmt.updState = 5 then (true, setUpd 0 0 (clearCommit s)) else (false, s)

/-- update_image: bytes at `off`, which must be the next; a slot holds 0x3FFFF0 bytes before its commit record. The codes are those
of R552. -/
def updImage (off : Nat) (bs : List Byte) (s : State) : Nat × State :=
  if s.mgmt.updState ≠ 1 ∨ off ≠ s.dict.updPtr then (7, s)
  else if 0x3FFFF0 < off + bs.length then (4, s)
  else (0, dictSet (fun d => { d with updPtr := off + bs.length }) (nvmPut (slotBase (inactiveSlot s) + off) bs s))

end Sys2Proof.Machine
end

