-- ==== Sys2Proof/Machine/Dict.lean ====
section
/-! DEFINITION. Sys2Proof/Machine/Dict.lean: requests on the object dictionary (R530 to R548, R560 to R566): reads, direct writes,
staged writes, APPLY, block transfers and log reads. A request is complete before the next begins (R535). -/
namespace Sys2Proof.Machine

/-! ## Status codes (R552) -/

namespace St
def ok : Nat := 0
def noObject : Nat := 1
def access : Nat := 2
def type : Nat := 3
def range : Nat := 4
def span : Nat := 5
def rejected : Nat := 6
def order : Nat := 7
def psetFull : Nat := 8
def psetSealed : Nat := 9
def psetInvalid : Nat := 0xA
def held : Nat := 0xB
def busyGroup : Nat := 0xC
def slotBusy : Nat := 0xD
def badOpcode : Nat := 0xE
def badHeader : Nat := 0xF
def badLength : Nat := 0x10
def gone : Nat := 0x11
end St

/-- A response: its status and payload. -/
abbrev Answer := Nat × List Byte

/-! ## Objects and values (R530 to R534) -/

/-- The flags an origin class has (R9): 0 H, 1 N, 2 F, 3 M. -/
def objFlags (r : ObjRow) (origin : Nat) : Nat := if origin = 0 then r.h else if origin = 1 then r.n else if origin = 2 then r.f else r.m

/-- Bytes of a value; none where the object gives no fixed length. -/
def typeBytes (r : ObjRow) : Option Nat :=
  match r.ty with
  | .bool | .u8 | .s8 | .enum => some 1
  | .u16 | .s16 => some 2
  | .u32 | .s32 | .f32 | .bits => some 4
  | .u64 | .s64 | .f64 | .count64 => some 8
  | .time96 => some 12
  | .text => none
  | .blob => if r.len = 0 then none else some r.len

def isSigned (t : OType) : Bool := t == .s8 || t == .s16 || t == .s32 || t == .s64

/-- The code of a type (R532). -/
def typeCode : OType → Nat
  | .bool => 0x01 | .u8 => 0x02 | .u16 => 0x03 | .u32 => 0x04 | .u64 => 0x05 | .s8 => 0x06 | .s16 => 0x07 | .s32 => 0x08
  | .s64 => 0x09 | .f32 => 0x0A | .f64 => 0x0B | .time96 => 0x0C | .count64 => 0x0D | .text => 0x0E | .blob => 0x0F
  | .enum => 0x10 | .bits => 0x11

/-- One element a request names; no row: element 0x00. -/
structure Elem where
  ix : Nat
  el : Nat
  row : Option ObjRow
deriving DecidableEq, Repr

/-- The elements of a request, none where one does not exist (R530, R531, R533). -/
def elemsOf (ix el count : Nat) : Option (List Elem) :=
  if el = 0xFF then
    (arrayRow ix).map fun r => (List.range r.elN).map fun j => { ix := ix, el := r.el + j, row := some r }
  else
    let one (e : Nat) : Option Elem :=
      if e = 0 then (if (objRows ix).isEmpty then none else some { ix := ix, el := 0, row := none })
      else (objRow ix e).map fun r => { ix := ix, el := e, row := some r }
    (List.range count).mapM fun k => one (el + k)

/-! ## Reading -/

/-- The Lamplighter's read of a register, a broadcast page's by R15. -/
def dictWord (key : Nat) (s : State) : Word × State :=
  if isBroadcast (key / 0x10000) then broadcastRead (key / 0x10000) (key % 0x10000) 1 s else readReg key 1 1 s

def readSlices (l : List Slice) (i j : Nat) (s : State) : (Nat × Nat) × State :=
  l.foldl (fun (a : (Nat × Nat) × State) sl =>
    let (w, s) := dictWord (sliceKey sl i j) a.2
    ((a.1.1 + getBits w sl.hi sl.lo * 2 ^ a.1.2, a.1.2 + sliceWidth sl), s)) ((0, 0), s)

def dictWords (key : Nat) (n : Nat) (s : State) : List Byte × State :=
  (List.range n).foldl (fun (a : List Byte × State) k =>
    let (w, s) := dictWord (key + 4 * k) a.2
    (a.1 ++ leBytes 4 w.toNat, s)) ([], s)

/-- A window register of lantern L. -/
def lanternWord (s : State) (L off : Nat) : Nat := (shownWord (s.setF Reg.LAN_WIN_SEL_LANTERN L) (0x100000 + off)).toNat

def sessionOf (s : State) (n : Nat) : Session := mapGet Session.reset s.dict.sessions n
def putSession (n : Nat) (x : Session) (s : State) : State :=
  dictSet (fun d => { d with sessions := mapSet Session.reset d.sessions n x }) s

/-- The version of the image that runs; zero in recovery mode (DEDUCED, log 87). -/
def firmwareVersion (s : State) : Nat := match runningSlot s with | some n => imageVersion s n | none => 0

def psetBytes (p : PSet) : Nat := (p.entries.map fun e => e.2.length).foldl (· + ·) 0

def psetContents (p : PSet) : List Byte :=
  p.entries.flatMap fun e =>
    leBytes 2 (e.1 / 256) ++ leBytes 1 (e.1 % 256) ++ leBytes 1 (match objRow (e.1 / 256) (e.1 % 256) with | some r => typeCode r.ty | none => 0) ++
      leBytes 2 e.2.length ++ e.2

/-- Entries of a ring of `n`-word entries from index `a` to index `b`, of `size` entries. -/
def ringBytes (s : State) (key n size a b : Nat) : List Byte :=
  (List.range ((b + 2 * size - a) % (2 * size))).flatMap fun k => regBytes s (key + 4 * n * ((a + k) % size)) n

/-- The TB0 read-out words as a TIME96. -/
def tb0Words (s : State) : List Byte :=
  leBytes 4 (s.reg Reg.TB0_SEC_LO_SEC_LO.key).toNat ++ leBytes 4 (s.reg Reg.TB0_SEC_HI_SEC_HI.key).toNat ++
    leBytes 4 (s.reg Reg.TB0_NS_NS.key).toNat

/-- A ZMP message count (object 0x1040, R568). -/
def zmpCounter (s : State) (j : Nat) : Nat := leAt (mapGet [] s.objs (0x104001 + j)) 0 4
def zmpCount (j : Nat) (s : State) : State :=
  let v := (zmpCounter s j + 1) % 2 ^ 32
  setObj (0x104001 + j) (if v = 0 then [] else leBytes 4 v) s

/-- The key under which FK_DICT_AUTH is raised once until zmp_auth_fail is read. -/
def authOnce : Nat := 0x104003

/-- Objects that no plain register bits hold. Objects without a read answer nothing. -/
def readSpec (k : OSpec) (i j : Nat) (s : State) : List Byte × State :=
  let p := s.pset i
  match k with
  | .capTriggerTime => (leBytes 4 (s.f Reg.CAP_TRIG_TIME_SEC) ++ leBytes 4 (s.time.sec / 2 ^ 32) ++ leBytes 4 (s.f Reg.CAP_TRIG_TIME_NS), s)
  | .classTable => ((List.range 512).flatMap fun w =>
      let x := shownWord s (0x32000 + 4 * w)
      (List.range 8).map fun n => BitVec.ofNat 8 (getBits x (4 * n + 3) (4 * n)), s)
  | .completionRecords => (ringBytes s 0x28000 8 1024 (s.f Reg.SCHED_RING_RD_RD) (s.f Reg.SCHED_RING_WR_WR), s)
  | .eye =>
    let (h, s) := s.draw
    let (w, s) := (eyeStart i s).draw
    let s := eyeComplete h w s
    (leBytes 4 (shownWord s Reg.SNS_EYE_DONE.key).toNat, s)
  | .faultRing => (ringBytes s 0x38000 4 1024 (s.f Reg.FLT_RING_RD) (s.f Reg.FLT_RING_WR), s)
  | .firmwareVersion => (leBytes 4 (firmwareVersion s), s)
  | .firstError => (regBytes s 0x30040 8 ++ leBytes 4 (s.f Reg.FLT_FIRST_VALID) |>.take 32, s)
  | .lanternHold => (leBytes 4 (lanternWord s i 0x214), s)
  | .lanternPlanes => (leBytes 4 (lanternWord s i 0x220) ++ leBytes 4 (lanternWord s i 0x224), s)
  | .lanternSeed => (leBytes 4 (lanternWord s i 0x208) ++ leBytes 4 (lanternWord s i 0x20C), s)
  | .lanternStatus => (leBytes 4 (lanternWord s i 0x204), s)
  | .lanternTasks => (leBytes 4 (lanternWord s i 0x210), s)
  | .lastMessage => (leBytes 16 s.flt.lastMsg, s)
  | .lifetimeRecord => (lifeRecord s, s)
  | .lifetimeSequence => (leBytes 4 (storeSeq s lifeCopies), s)
  | .linkSourceChip => (leBytes 2 (shownWord s 0x20000C).toNat, s)
  | .logNext => (leBytes 8 s.dict.logNext, s)
  | .logOldest => (leBytes 8 s.dict.logOldest, s)
  | .logOldestKept => (leBytes 8 (tailOldest s (tailNext s)), s)
  | .nvmCounters => (leBytes 4 (s.reg (if j = 3 then 0x80020 else 0x80010 + 4 * j)).toNat, s)
  | .powerOnMinutes => (leBytes 8 (mapGet 0 s.mgmt.life 0), s)
  | .psetContents => (psetContents p, s)
  | .psetError => (leBytes 8 p.error, s)
  | .psetSlot => (leBytes 1 p.slot, s)
  | .psetState => (leBytes 4 (p.state + p.entries.length * 8 + psetBytes p * 2 ^ 14), s)
  | .revokedKeys => (leBytes 1 (revokedNow s), s)
  | .rollbackCounter => (leBytes 4 (rollbackNow s), s)
  | .sessionPeer => (leBytes 8 (match (sessionOf s i).peer with | some q => q.1 * 2 ^ 16 + q.2 | none => 0), s)
  | .sessionSequence => (leBytes 4 (sessionOf s i).high, s)
  | .slotControl => (leBytes 1 (slotState s i), s)
  | .slotVersion => (leBytes 4 (if slotCommitted s j then imageVersion s j else 0), s)
  | .tb0Now => let s := tb0Capture s; (tb0Words s, s)
  | .tempLimit => (leBytes 1 (getBits (s.reg 0x90008) (8 * j + 7) (8 * j)), s)
  | .trialAttempts => (leBytes 1 (ucrNow s).attempts, s)
  | .updateError => (leBytes 1 s.mgmt.updError, s)
  | .updateHistory => (fitBytes 512 (s.mgmt.hist.flatMap (fitBytes 16)), s)
  | .updateState => (leBytes 1 s.mgmt.updState, s)
  | .voltLimit => (leBytes 2 (getBits (s.reg (0x90104 + 0x10 * i)) (16 * j + 15) (16 * j)), s)
  | .zmpCount => (leBytes 4 (zmpCounter s j), if j = 2 then s.setOnce authOnce false else s)
  | .coefShadow | .deviceReset | .dumpImage | .lampCmem | .lampDmem | .lampImem | .lifetimeClear | .positionCounters
  | .psetCommand | .restoreDefaults | .tb0Step | .updateCommand | .updateImage | .weightShadow => ([], s)

/-- The value of an element, with its read effects (R540). (DEDUCED, log 81.) -/
def readElem (e : Elem) (s : State) : List Byte × State :=
  match e.row with
  | none => (leBytes 1 (topElement e.ix), s)
  | some r =>
    let i := e.ix - r.ix
    let j := e.el - r.el
    match r.home with
    | .bits l =>
      let (v, s) := readSlices l i j s
      let n := (typeBytes r).getD 4
      (leBytes n (if isSigned r.ty then wrap (8 * n) (sext v.2 v.1) else v.1), s)
    | .words k s1 s0 n => dictWords (k + i / 8 * s1 + i % 8 * s0) n s
    | .held d => let v := mapGet [] s.objs (objKey e.ix e.el); (if v.isEmpty then d else v, s)
    | .cmd .. => ([], s)
    | .spec k => readSpec k i j s

def readElems (l : List Elem) (s : State) : List Byte × State :=
  l.foldl (fun (a : List Byte × State) e => let (v, s) := readElem e a.2; (a.1 ++ v, s)) ([], s)

/-- Objects that only block transfers and subscriptions' checks name: BLOBs without a fixed length. -/
def blockOnly (e : Elem) : Bool := match e.row with | none => false | some r => r.ty == .blob && r.len == 0

/-- The value of such an element exceeds every payload limit (R552): the lamps' memories. -/
def overLong (e : Elem) : Bool :=
  match e.row with
  | none => false
  | some r => r.home == .spec .lampImem || r.home == .spec .lampDmem || r.home == .spec .lampCmem

/-- Bytes of an element's value, where its type fixes them. -/
def Elem.bytes (e : Elem) : Nat := match e.row with | none => 1 | some r => (typeBytes r).getD 0

/-- READ (R540). -/
def dictRead (origin ix el count lim : Nat) (s : State) : Answer × State :=
  match elemsOf ix el count with
  | none => ((St.noObject, []), s)
  | some l =>
    if l.any fun e => match e.row with | none => false | some r => !(objFlags r origin).testBit 0 then ((St.access, []), s)
    else if l.any overLong ∨ lim < sumOf (l.map Elem.bytes) then ((St.badLength, []), s)
    else if l.any blockOnly then ((St.type, []), s)
    else
      let (v, s') := readElems l s
      if lim < v.length then ((St.badLength, []), s) else ((St.ok, v), s')

/-! ## Checking a write (R536) -/

/-- The lowest and the highest value of an object whose register field the spec limits to less than its width. -/
def fieldRange (r : ObjRow) : Option (Nat × Nat) :=
  if r.ix = 0x2000 ∧ r.el = 0x08 then some (1, 65535)
  else if r.ix = 0x2000 ∧ r.el = 0x09 then some (0, 127)
  else if r.ix = 0x2020 ∧ r.el = 0x01 then some (1, 65535)
  else if r.ix = 0x7000 ∧ (r.el = 0x05 ∨ r.el = 0x08) then some (1, 65535)
  else if r.ix = 0x9120 ∧ r.el = 0x03 then some (10, 65535)
  else none

/-- The width of a value: of its fields; of fault_notify_sessions, the eight sessions; else of its type. -/
def valueWidth (r : ObjRow) (v : List Byte) : Nat :=
  match r.home with
  | .bits l => (l.map sliceWidth).foldl (· + ·) 0
  | _ => if r.ty = .bits then 8 else 8 * v.length

/-- A value lies within its object's range (R532, R536). -/
def valueOk (r : ObjRow) (i j : Nat) (v : List Byte) : Bool :=
  let n := ofLe v
  let width := valueWidth r v
  let ranged : Bool := match fieldRange r with | some (lo, hi) => decide (lo ≤ n) && decide (n ≤ hi) | none => true
  let fits := ranged && if isSigned r.ty then !outS width (sext (8 * v.length) n) else decide (n < 2 ^ width)
  match r.ty with
  | .bool => decide (n ≤ 1)
  | .enum => (r.vals.isEmpty || r.vals.contains n) && fits
  | .time96 => decide (leAt v 8 4 < 1000000000)
  | .blob =>
    match r.home with
    | .spec .classTable => i + j == 0 && v.length == 4096
    | _ => true
  | _ => fits

/-- A write to one element. -/
structure ElemWrite where
  ix : Nat
  el : Nat
  row : ObjRow
  value : List Byte
deriving DecidableEq, Repr

def ElemWrite.i (e : ElemWrite) : Nat := e.ix - e.row.ix
def ElemWrite.j (e : ElemWrite) : Nat := e.el - e.row.el

/-- The values a payload carries, in order; none where its bytes are not exactly those the types require. -/
def splitValues : List (Elem × ObjRow) → List Byte → Option (List ElemWrite)
  | [], [] => some []
  | [], _ :: _ => none
  | (e, r) :: t, l =>
    match typeBytes r with
    | none => none
    | some n =>
      if l.length < n then none
      else (splitValues t (l.drop n)).map fun ws => { ix := e.ix, el := e.el, row := r, value := l.take n } :: ws

/-- The checks of a WRITE or WRITE_STAGED; `flag`: 1 W, 2 S. Element 0x00 has no writer. -/
def checkWrite (origin flag ix el count : Nat) (payload : List Byte) : Nat × List ElemWrite :=
  match elemsOf ix el count with
  | none => (St.noObject, [])
  | some l =>
    match l.mapM fun e => e.row.map fun r => (e, r) with
    | none => (St.access, [])
    | some rs =>
      if rs.any fun x => !(objFlags x.2 origin).testBit flag then (St.access, [])
      else
        let one := if el = 0xFF then rs.take 1 else rs
        match splitValues one payload with
        | none => (St.type, [])
        | some ws =>
          let ws := if el = 0xFF then
              (match ws with | w :: _ => rs.map fun x => { w with el := x.1.el } | [] => [])
            else ws
          if ws.all fun w => valueOk w.row w.i w.j w.value then (St.ok, ws) else (St.range, [])

/-! ## The change log's values (R564, R566) -/

def logValue (t : OType) (v : List Byte) : Nat :=
  match t with
  | .time96 => leAt v 0 4 * 2 ^ 32 + leAt v 8 4
  | .text | .blob => v.length % 2 ^ 32 * 2 ^ 32 + crcBytes 32 0x1EDC6F41 v
  | t => if isSigned t then wrap 64 (sext (8 * v.length) (ofLe v)) else ofLe v

/-- Objects whose writes are not logged (R564). -/
def logsObject (r : ObjRow) : Bool :=
  match r.home with
  | .bits l => l.any fun sl => logsWrites sl.key || (sl.key / 0x10000 == 2 && sl.key % 0x10000 ≥ 0x1000)
  | .words k _ _ _ => logsWrites k
  | .held _ => true
  | .cmd k _ _ _ => commitBits k != 0 || logsWrites k
  | .spec k => !(k == .coefShadow || k == .weightShadow || k == .lampImem || k == .lampDmem || k == .lampCmem ||
      k == .deviceReset)

/-- lamp_doorbell (R564) is a WO field, which `logsObject` leaves out; session_key shows neither value. -/
def isSessionKey (r : ObjRow) : Bool := r.ix == 0x1020 && r.el == 2

/-- The log entry of one element written; `kind`: 0 direct, 4 + n staged in PSETn. -/
def logObject (kind origin session : Nat) (w : ElemWrite) (old : List Byte) (s : State) : State :=
  if !logsObject w.row then s
  else if isSessionKey w.row then logPut (logCtrl kind origin session (objKey w.ix w.el)) 0 0 s
  else logPut (logCtrl kind origin session (objKey w.ix w.el)) (logValue w.row.ty old) (logValue w.row.ty w.value) s

/-- The state with every staged value equal to the active one, but for the words of the slots, which a write only stages. -/
def activeView (s : State) : State :=
  let s := (s.restage 0 0x20000).restage 0x30000 seedShadow
  { s with lan := { s.lan with seedsStg := s.lan.seeds } }

/-- The value of an element before a change, without its read effects; nothing for objects that are not read. It is the active one
(R565); a slot's word is what the slot was given. -/
def peekElem (w : ElemWrite) (s : State) : List Byte :=
  let r := w.row
  if (r.h ||| r.n ||| r.f ||| r.m).testBit 0 && r.home != .spec .eye then (readElem { ix := w.ix, el := w.el, row := some r } (activeView s)).1
  else zeros w.value.length

/-! ## Carrying out a direct write (R537, R538) -/

/-- The register words an element's value reaches. -/
def elemWords (w : ElemWrite) : List (Nat × Word × Word) := (objShadow w.row w.i w.j w.value).flatMap fanOut

/-- Elements that reach one field of many pages by their own definition (R248, 0x3000.01). -/
def spreads (w : ElemWrite) : Bool := w.ix == 0x4240 || w.row.home == .spec .linkSourceChip

/-- The groups whose RWS fields the words reach, the scheduler's slots apart (R538). -/
def writeGroups (sh : List (Nat × Word × Word)) : List Nat := (shadowGroups sh).filter fun g => g / 16 != 2

/-- Put the RWS bits of one word into the staged values alone. -/
def stageWord (p : Nat × Word × Word) (s : State) : State :=
  if p.1 ≥ seedShadow then
    let L := (p.1 - seedShadow) / 8
    let old := mapGet 0 s.lan.seedsStg L
    let v := if (p.1 - seedShadow) % 8 = 0 then old / 2 ^ 32 * 2 ^ 32 + p.2.2.toNat else p.2.2.toNat * 2 ^ 32 + old % 2 ^ 32
    { s with lan := { s.lan with seedsStg := mapSet 0 s.lan.seedsStg L v } }
  else
    let m := shadowRws p
    if m = 0 then s else s.setStg p.1 ((s.stgd p.1 &&& ~~~m) ||| (p.2.2 &&& m))

/-- Return the staged values the words changed to those of `old`. -/
def unstage (sh : List (Nat × Word × Word)) (old s : State) : State :=
  let s := sh.foldl (fun s p => if p.1 ≥ seedShadow ∨ shadowRws p = 0 then s else s.setStg p.1 (old.stgd p.1)) s
  { s with lan := { s.lan with seedsStg := if sh.any fun p => decide (p.1 ≥ seedShadow) then old.lan.seedsStg else s.lan.seedsStg } }

/-- Commit the groups: none of them where one is held or would be rejected (R538, R546). -/
def commitGroups (gs : List Nat) (s : State) : Answer × State :=
  match gs.find? (groupHeld s) with
  | some g => ((St.held, []), rejectHeld g s)
  | none =>
    match gs.findSome? fun g => (stagedFail g s).map fun fl => (g, fl) with
    | some (g, fl) => ((St.rejected, leBytes 1 fl.block ++ leBytes 1 fl.code), groupCommit g s)
    | none => ((St.ok, []), gs.foldl (fun s g => groupCommit g s) s)

/-- Merge words of one register. -/
def mergeWord (p : Nat × Word × Word) : List (Nat × Word × Word) → List (Nat × Word × Word)
  | [] => [p]
  | q :: r => if q.1 = p.1 then (q.1, q.2.1 ||| p.2.1, (q.2.2 &&& ~~~p.2.1) ||| (p.2.2 &&& p.2.1)) :: r else q :: mergeWord p r

/-- The Lamplighter's write of the fields of one register that no commit governs; a scheduler slot's words are staged. -/
def plainWord (host : List Byte) (p : Nat × Word × Word) (s : State) : State :=
  match rowAt p.1 with
  | none => s
  | some r =>
    let direct := accMask r (fun a => a == .rw || a == .w1c || a == .w1s || a == .wo)
    if p.1 / 0x10000 ≠ 2 ∧ p.2.1 &&& direct = 0 then s
    else
      let base := (s.reg p.1 &&& accMask r (· == .rw)) ||| (s.stgd p.1 &&& accMask r (· == .rws))
      writeReg { master := 1, err := 0, host := host } p.1 ((base &&& ~~~p.2.1) ||| (p.2.2 &&& p.2.1)) s

/-- An EMPTY set's name in the log (R565): marker of a set cleared. -/
def psetClear (n : Nat) (s : State) : Answer × State :=
  let p := s.pset n
  if p.state = 2 then ((St.psetSealed, []), s)
  else ((St.ok, []), logPut (logCtrl 3 2 0 0x020000) 0 n (s.putPset n PSet.reset))

/-- An immediate APPLY (R543, R544, R546). (DEDUCED, log 84.) -/
def applyNow (n origin session : Nat) (s : State) : Answer × State :=
  let p := s.pset n
  let sh := setShadow p
  match (shadowGroups sh).find? (groupHeld s) with
  | some g => ((St.held, []), logRefusal n 0 0 false (g / 16) St.held origin session (rejectHeld g s))
  | none =>
    if p.state = 2 then ((St.psetSealed, []), logRefusal n 0 0 false 0 St.psetSealed origin session s)
    else
      match applyFail sh none s with
      | some fl =>
        let s := applyReject n fl 0 0 false origin session
        ((St.psetInvalid, leBytes 8 (s.pset n).error), s)
      | none => ((St.ok, []), applySet n sh none 0 0 false origin session s)

/-- pset_command CHECK: the check of R543 without applying. -/
def psetCheck (n origin session : Nat) (s : State) : Answer × State :=
  let p := s.pset n
  if p.state = 2 then ((St.psetSealed, []), s)
  else
    match applyFail (setShadow p) none s with
    | some fl =>
      let s := applyReject n fl 0 0 false origin session
      ((St.psetInvalid, leBytes 8 (s.pset n).error), s)
    | none => ((St.ok, []), s)

/-- Arm slot `slot`, whose words are written, for set n (R545). -/
def applyArm (n slot origin session : Nat) (ctrl : Word) (s : State) : Answer × State :=
  let p := s.pset n
  let sh := setShadow p
  let trig := (s.stgd (Reg.SLOT_TRIG_LO slot).key).toNat + 2 ^ 32 * (s.stgd (Reg.SLOT_TRIG_HI slot).key).toNat
  let refused (block status : Nat) (s : State) : State := logRefusal n slot trig true block status origin session s
  if slotState s slot ≠ 0 then ((St.slotBusy, []), refused 0x02 St.slotBusy s)
  else if p.state = 2 then ((St.psetSealed, []), refused 0 St.psetSealed s)
  else match (shadowGroups sh).find? (groupHeld s) with
  | some g => ((St.busyGroup, []), refused (g / 16) St.busyGroup s)
  | none =>
    let dom := getBits ctrl 10 8
    match applyFail sh (if dom = 0 then none else some (dom - 1, trig)) s with
    | some fl =>
      let s := applyReject n fl slot trig true origin session
      ((St.psetInvalid, leBytes 8 (s.pset n).error), s)
    | none =>
      let s := slotArm slot ctrl s
      if slotState s slot = 1 then ((St.ok, []), s.putPset n { p with state := 2, slot := slot, shadow := sh })
      else ((St.rejected, leBytes 1 0x02 ++ leBytes 1 0), refused 0x02 St.rejected s)

/-- A scheduled APPLY: the slot takes ACTION 0x03, TARGET 0x2000 + n, one occurrence, and the domain, policy and trigger given. -/
def applyScheduled (n slot dom policy trig ns origin session : Nat) (s : State) : Answer × State :=
  if slotState s slot ≠ 0 then ((St.slotBusy, []), logRefusal n slot trig true 0x02 St.slotBusy origin session s)
  else
    let put (F : Field) (v : Nat) (s : State) : State := s.setStg F.key (BitVec.ofNat 32 v)
    let old := s
    let s := put (Reg.SLOT_TRIG_LO slot) trig (put (Reg.SLOT_TRIG_HI slot) (trig / 2 ^ 32) (put (Reg.SLOT_TRIG_NS slot) ns s))
    let s := put (Reg.SLOT_PER_LO slot) 0 (put (Reg.SLOT_PER_HI slot) 0 (put (Reg.SLOT_ARG slot) 0 s))
    let s := put (Reg.SLOT_TARGET_TARGET slot) (0x2000 + n) s
    let (a, s') := applyArm n slot origin session (BitVec.ofNat 32 (3 + dom * 2 ^ 8 + policy * 2 ^ 11)) s
    ((a.1, if a.1 = St.rejected then [] else a.2), if a.1 = St.ok ∨ a.1 = St.rejected then s' else { s' with staged := old.staged })

/-- slot_control (R538, R545): 1 ARM, 2 CANCEL. (DEDUCED, log 83.) -/
def slotControl (slot v origin session : Nat) (s : State) : Answer × State :=
  if v = 2 then ((St.ok, []), slotCancel slot s)
  else if slotState s slot ≠ 0 then ((St.slotBusy, []), s)
  else
    let w := s.reg (Reg.SLOT_CTRL_ACTION slot).key
    let t := getBits (s.stgd (Reg.SLOT_TARGET_TARGET slot).key) 15 0
    if getBits w 7 0 = 3 ∧ 0x2000 ≤ t ∧ t ≤ 0x2003 then applyArm (t - 0x2000) slot origin session w s
    else
      let s := slotArm slot w s
      if slotState s slot = 1 then ((St.ok, []), s) else ((St.rejected, leBytes 1 0x02 ++ leBytes 1 0), s)

def ofAccept (r : Bool × State) : Answer × State := ((if r.1 then St.ok else St.order, []), r.2)

/-- Writes of objects with an effect of their own. `bad`: an MRAM write that the command makes fails. -/
def writeSpec (k : OSpec) (w : ElemWrite) (origin session : Nat) (bad : Bool) (s : State) : Answer × State :=
  let v := ofLe w.value
  match k with
  | .deviceReset => ((St.ok, []), resetKey v s)
  | .lifetimeClear => ((St.ok, []), lifetimeClear v s)
  | .psetCommand =>
    if v = 1 then psetClear w.i s else if v = 2 then applyNow w.i origin session s else psetCheck w.i origin session s
  | .restoreDefaults => ((St.ok, []), if v = 0x44464C54 then setNvm (fun n => { n with defaultsDue := true }) s else s)
  | .slotControl => slotControl w.i v origin session s
  | .tb0Step =>
    let put (F : Field) (v : Nat) (s : State) : State := s.setStg F.key (BitVec.ofNat 32 v)
    ((St.ok, []), stepNowSched (put Reg.TB0_SET_SEC_LO_SEC_LO (leAt w.value 0 4) (put Reg.TB0_SET_SEC_HI_SEC_HI (leAt w.value 4 4)
      (put Reg.TB0_SET_NS_NS (leAt w.value 8 4) s))))
  | .updateCommand =>
    if v = 1 then ofAccept (updBegin s) else if v = 2 then ofAccept (updCommit bad s) else if v = 3 then ofAccept (updActivate s)
    else if v = 4 then ofAccept (updConfirm s) else if v = 5 then ofAccept (updRevert s) else ofAccept (updAbort s)
  | _ => ((St.ok, []), s)

/-- The effect of one element's write but for RWS fields. -/
def writeElem (w : ElemWrite) (origin session : Nat) (host : List Byte) (bad : Bool) (s : State) : Answer × State :=
  match w.row.home with
  | .held d =>
    ((St.ok, []), heldPut (objKey w.ix w.el) d w.value s)
  | .cmd k s1 s0 codes =>
    let key := k + w.i / 8 * s1 + w.i % 8 * s0
    let c := BitVec.ofNat 32 (codes.getD (ofLe w.value - 1) 0)
    -- the other fields of the command's register are written with what they hold
    let kept (s : State) (key : Nat) : Word := s.reg key &&& (match rowAt key with | some r => accMask r (· == .rw) | none => 0)
    let keys := if key / 0x10000 = 0x80 then (List.range 64).map (fun n => key - 0x400000 + n * 0x10000) else [key]
    ((St.ok, []), keys.foldl (fun s key => writeReg { master := 1, err := 0, host := host } key (c ||| kept s key) s) s)
  | .bits _ | .words .. => ((St.ok, []), ((elemWords w).foldl (fun l p => mergeWord p l) []).foldl (fun s p => plainWord host p s) s)
  | .spec k =>
    let (a, s) := writeSpec k w origin session bad s
    (a, ((elemWords w).foldl (fun l p => mergeWord p l) []).foldl (fun s p => plainWord host p s) s)

/-- The elements in order, up to the first that is refused; each accepted one is journaled and logged. -/
def writeEach (origin session : Nat) (host : List Byte) (bad : Bool) : List (ElemWrite × List Byte) → State → Answer × State
  | [], s => ((St.ok, []), s)
  | (w, old) :: r, s =>
    let (a, s) := writeElem w origin session host bad s
    if a.1 ≠ St.ok then (a, s)
    else
      let s := if w.row.persist then journalPut (objKey w.ix w.el) w.value s else s
      writeEach origin session host bad r (logObject 0 origin session w old s)

/-- Checked elements are written: the RWS fields are staged and their group committed, then the rest (R537, R538). -/
def writeElems (ws : List ElemWrite) (origin session : Nat) (host : List Byte) (bad : Bool) (s : State) : Answer × State :=
  let s := logDrain s
  let sh := ws.flatMap elemWords
  let gs := writeGroups sh
  if 1 < gs.length ∧ !(ws.all spreads) then ((St.span, []), s)
  else
    let olds := ws.map fun w => (w, peekElem w s)
    let staged := if gs.isEmpty then s else (sh.filter fun p => p.1 / 0x10000 != 2).foldl (fun s p => stageWord p s) s
    let (a, s') := commitGroups gs staged
    if a.1 ≠ St.ok then (a, unstage (sh.filter fun p => p.1 / 0x10000 != 2) s s')
    else writeEach origin session host bad olds s'

/-- Only REJECTED carries a payload in the answer to a WRITE (R551). -/
def writeAnswer (r : Answer × State) : Answer × State := ((r.1.1, if r.1.1 = St.rejected then r.1.2 else []), r.2)

/-- WRITE. -/
def dictWrite (origin session ix el count : Nat) (payload host : List Byte) (bad : Bool) (s : State) : Answer × State :=
  let (st, ws) := checkWrite origin 1 ix el count payload
  if st ≠ St.ok then ((st, []), s) else writeAnswer (writeElems ws origin session host bad s)

/-! ## Parameter sets (R541) -/

/-- Put a value into a set: a second value for an element replaces the first. The lamps' entries stand in the order of their last
writes, since index 0x4240 stands for the same elements as 0x4200 to 0x423F (R248). -/
def stageEntry (k : Nat) (v : List Byte) (l : List (Nat × List Byte)) : List (Nat × List Byte) :=
  if 0x4200 ≤ k / 256 ∧ k / 256 ≤ 0x4240 then (l.filter fun e => e.1 != k) ++ [(k, v)]
  else if l.any fun e => e.1 == k then l.map fun e => if e.1 == k then (k, v) else e else l ++ [(k, v)]

/-- WRITE_STAGED to set n. (DEDUCED, log 82.) -/
def dictStage (origin session n ix el count : Nat) (payload : List Byte) (s : State) : Answer × State :=
  let (st, ws) := checkWrite origin 2 ix el count payload
  let p := s.pset n
  if st ≠ St.ok then ((st, []), s)
  else if p.state = 2 then ((St.psetSealed, []), s)
  else
    let q := { p with state := 1, entries := ws.foldl (fun l w => stageEntry (objKey w.ix w.el) w.value l) p.entries }
    if 1024 < q.entries.length ∨ 65536 < psetBytes q then ((St.psetFull, []), s)
    else
      let s := logDrain s
      ((St.ok, []), ws.foldl (fun s w => logObject (4 + n) origin session w (peekElem w s) s) (s.putPset n q))

/-- A scheduled APPLY with its DOMAIN and POLICY bytes checked (R551). -/
def applyFields (origin session n slot dom policy trig ns : Nat) (s : State) : Answer × State :=
  let s := logDrain s
  if 7 < dom ∨ 1 < policy then ((St.range, []), s) else applyScheduled n slot dom policy trig ns origin session s

/-- APPLY, from its payload (R551). -/
def dictApply (origin session n : Nat) (payload : List Byte) (s : State) : Answer × State :=
  let s := logDrain s
  if payload.length ≠ 16 then ((St.badLength, []), s)
  else if leAt payload 0 1 = 0 then
    (if (payload.drop 1).all (· == 0) then applyNow n origin session s else ((St.range, []), s))
  else if leAt payload 0 1 = 1 then
    applyFields origin session n (leAt payload 1 1) (leAt payload 2 1) (leAt payload 3 1) (leAt payload 4 8) (leAt payload 12 4) s
  else ((St.range, []), s)

/-! ## Block transfers (R560, R561, R593) -/

/-- The newest complete LPDDR6 dump of job j: its offset and length. -/
def newestDump (s : State) (j : Nat) : Option (Nat × Nat) := (s.mjob j).newest

/-- Bytes of a BLOB object; none for one that is written in order. -/
def blobLen (r : ObjRow) (i : Nat) (s : State) : Option Nat :=
  if r.len ≠ 0 then some r.len
  else match r.home with
    | .spec .lampDmem => some 294912
    | .spec .dumpImage => some (match newestDump s i with | some d => d.2 | none => 0)
    | .spec .coefShadow => some 4194304
    | .spec .weightShadow => some 16777216
    | .spec .updateImage => none
    | .spec k => some (readSpec k i 0 s).1.length
    | _ => some 0

/-- The unit of a BLOB object (R560). -/
def blobUnit (r : ObjRow) : Nat :=
  match r.home with
  | .spec .lampDmem => 9
  | .spec .lampImem | .spec .lampCmem | .spec .coefShadow | .spec .weightShadow | .spec .faultRing | .spec .lastMessage
  | .spec .completionRecords | .words .. => 4
  | _ => 1

/-- The window offset of a lamp memory object. -/
def lampBlobBase : OSpec → Nat
  | .lampImem => 0xA0000
  | .lampCmem => 0x80000
  | _ => 0xB0000

/-- Bytes [off, off + n) of a BLOB object; false: the access it makes has an error response. -/
def blobRead (r : ObjRow) (ix off n : Nat) (s : State) : ReadAns × State :=
  let i := ix - r.ix
  match r.home with
  | .spec .positionCounters => ((true, (List.range n).map fun k => stgByte s (0x4000000 + off + k)), s)
  | .spec .dumpImage =>
    match newestDump s i with
    | none => ((true, []), s)
    | some d => dramAccess 1 1 (d.1 + off) n [] MemErrs.none s
  | .spec .lampImem | .spec .lampDmem | .spec .lampCmem =>
    let b := (match r.home with | .spec k => lampBlobBase k | _ => 0) + off
    if i < 64 then lampMemRead 1 1 i b n 0 s
    else
      let (a, s') := lampMemRead 1 1 0 b n 0 s
      (a, if (List.range 64).any fun l => (lampMemRead 1 1 l b n 0 s).1.2 != a.2 then s'.setF Reg.TOP_BCAST_STATUS_DISAGREE 1 else s')
  | _ =>
    let (v, s) := readElem { ix := ix, el := r.el, row := some r } s
    ((true, (v.drop off).take n), s)

/-- BLOCK_READ. -/
def blockRead (origin ix el : Nat) (payload : List Byte) (lim : Nat) (s : State) : Answer × State :=
  match objRow ix el with
  | none => ((St.noObject, []), s)
  | some r =>
    if !(objFlags r origin).testBit 0 then ((St.access, []), s)
    else if r.ty ≠ .blob then ((St.type, []), s)
    else if payload.length ≠ 12 then ((St.badLength, []), s)
    else
      let off := leAt payload 0 8
      let n := leAt payload 8 4
      let u := blobUnit r
      if off % u ≠ 0 ∨ n % u ≠ 0 ∨ ((blobLen r (ix - r.ix) s).getD 0) < off + n then ((St.range, []), s)
      else if lim < 8 + n then ((St.badLength, []), s)
      else
        let (a, s) := blobRead r ix off n s
        if a.1 then ((St.ok, leBytes 8 off ++ a.2), s) else ((St.rejected, []), s)

/-- Words written in order to a data register. -/
def writeWords (key : Nat) : Nat → List Byte → State → State
  | 0, _, s => s
  | n + 1, l, s => writeWords key n (l.drop 4) (writeReg { master := 1, err := 0, host := [] } key (BitVec.ofNat 32 (leAt l 0 4)) s)

/-- Data for a lamp's memory; false: an error response. (DEDUCED, log 59.) -/
def lampBlobWrite (k : OSpec) (i off : Nat) (bs : List Byte) (s : State) : Bool × State :=
  let b := lampBlobBase k + off
  let lamps := if i < 64 then [i] else List.range 64
  lamps.foldl (fun (a : Bool × State) l =>
    let r := lampMemWrite 1 l b bs.length (enabledCells b (2 ^ bs.length - 1) bs) a.2
    (a.1 && r.1, r.2)) (true, s)

/-- BLOCK_WRITE. Objects with a value are written as by WRITE, the bytes outside the block kept. -/
def blockWrite (origin session ix el : Nat) (payload : List Byte) (s : State) : Answer × State :=
  match objRow ix el with
  | none => ((St.noObject, []), s)
  | some r =>
    if !(objFlags r origin).testBit 1 then ((St.access, []), s)
    else if r.ty ≠ .blob then ((St.type, []), s)
    else if payload.length < 8 then ((St.badLength, []), s)
    else
      let i := ix - r.ix
      let off := leAt payload 0 8
      let bs := payload.drop 8
      let u := blobUnit r
      let logged (s : State) : State := logObject 0 origin session { ix := ix, el := el, row := r, value := bs } [] (logDrain s)
      if off % u ≠ 0 ∨ bs.length % u ≠ 0 ∨ (match blobLen r i s with | some n => decide (n < off + bs.length) | none => false) = true then
        ((St.range, []), s)
      else match r.home with
        | .spec .coefShadow =>
          if off ≠ s.dict.coefPtr then ((St.order, []), s)
          else ((St.ok, []), dictSet (fun d => { d with coefPtr := off + bs.length }) (writeWords 0xE0028 (bs.length / 4) bs s))
        | .spec .weightShadow =>
          if off ≠ s.dict.weightPtr then ((St.order, []), s)
          else ((St.ok, []), dictSet (fun d => { d with weightPtr := off + bs.length }) (writeWords 0x12001C (bs.length / 4) bs s))
        | .spec .updateImage =>
          let (st, s) := updImage off bs s
          ((st, []), if st = St.ok then logged s else s)
        | .spec .lampImem | .spec .lampDmem | .spec .lampCmem =>
          let (ok, s) := lampBlobWrite (match r.home with | .spec k => k | _ => .lampImem) i off bs s
          ((if ok then St.ok else St.rejected, []), s)
        | _ =>
          let v := peekElem { ix := ix, el := el, row := r, value := zeros r.len } s
          let v := v.take off ++ bs ++ v.drop (off + bs.length)
          if valueOk r i 0 v then
            let (a, s) := writeElems [{ ix := ix, el := el, row := r, value := v }] origin session [] false s
            ((a.1, []), s)
          else ((St.range, []), s)

/-! ## Log reads (R562) -/

/-- LOG_READ, of at most `most` entries. -/
def logRead (payload : List Byte) (most lim : Nat) (s : State) : Answer × State :=
  if payload.length ≠ 10 then ((St.badLength, []), s)
  else
    let s := logDrain s
    let d := s.dict
    let ask := leAt payload 0 8
    let first := max ask d.logOldest
    let n := min (min (leAt payload 8 2) most) (min (d.logNext - first) ((lim - 16) / 32))
    let es := (List.range n).flatMap fun k => fitBytes 32 (mapGet [] d.log ((first + k) % 65536))
    ((if ask < d.logOldest then St.gone else St.ok, leBytes 8 first ++ leBytes 2 n ++ zeros 6 ++ es), s)

end Sys2Proof.Machine
end

