-- ==== Sys2Proof/Machine/Zmp.lean ====
section
/-! DEFINITION. Sys2Proof/Machine/Zmp.lean: the Zartus management protocol (R549 to R559, R562), the dictionary mailbox (R522,
R563) and the fault notifications (R610, R611). -/
namespace Sys2Proof.Machine

/-! ## Messages (R550) -/

/-- A message before its tag: header fields and payload. -/
structure ZmpMsg where
  version : Nat
  opcode : Nat
  flags : Nat
  session : Nat
  seq : Nat
  ix : Nat
  el : Nat
  count : Nat
  status : Nat
  /-- The reserved bytes, as one number. -/
  reserved : Nat
  group : Nat
  payload : List Byte
deriving DecidableEq, Repr

def zmpMagic : Nat := 0x5A54

/-- The message at the front of a byte string whose first 24 bytes are a header. -/
def parseMsg (l : List Byte) : ZmpMsg :=
  { version := leAt l 2 1, opcode := leAt l 3 1, flags := leAt l 4 1, session := leAt l 5 1, seq := leAt l 6 4, ix := leAt l 10 2,
    el := leAt l 12 1, count := leAt l 13 1, status := leAt l 14 1, reserved := leAt l 15 1 + leAt l 20 4, group := leAt l 18 2,
    payload := (l.drop 24).take (leAt l 16 2) }

/-- Header and payload as bytes. -/
def msgBytes (m : ZmpMsg) : List Byte :=
  leBytes 2 zmpMagic ++ leBytes 1 m.version ++ leBytes 1 m.opcode ++ leBytes 1 m.flags ++ leBytes 1 m.session ++ leBytes 4 m.seq ++
    leBytes 2 m.ix ++ leBytes 1 m.el ++ leBytes 1 m.count ++ leBytes 1 m.status ++ zeros 1 ++ leBytes 2 m.payload.length ++
    leBytes 2 m.group ++ zeros 4 ++ m.payload

/-- The response to a request (R555). -/
def answerMsg (m : ZmpMsg) (a : Answer) : ZmpMsg :=
  { m with version := 1, flags := m.flags ||| 1, status := a.1, reserved := 0, payload := a.2 }

/-- VERSION, STATUS, the reserved bytes and the reserved flags are as R550 requires. -/
def headerGood (m : ZmpMsg) : Bool := m.version == 1 && m.status == 0 && m.reserved == 0 && decide (m.flags < 0x20)

def flagNoReply (m : ZmpMsg) : Bool := m.flags.testBit 1
def flagMulticast (m : ZmpMsg) : Bool := m.flags.testBit 2
def flagPset (m : ZmpMsg) : Nat := m.flags / 8 % 4

/-! ## Subscriptions (R558) -/

/-- The values a subscription covers. -/
def coveredValues (ix el count : Nat) (s : State) : List Byte × State :=
  match elemsOf ix el count with
  | none => ([], s)
  | some l => readElems l s

/-- SUBSCRIBE of session n. -/
def dictSubscribe (n ix el count : Nat) (payload : List Byte) (s : State) : Answer × State :=
  match elemsOf ix el count with
  | none => ((St.noObject, []), s)
  | some l =>
    let mode := leAt payload 0 1
    let x := sessionOf s n
    let rest := x.subs.filter fun u => !(u.index == ix && u.element == el && u.count == count)
    if l.any fun e => match e.row with | none => false | some r => !(objFlags r 1).testBit 0 then ((St.access, []), s)
    else if l.any blockOnly then ((St.type, []), s)
    else if payload.length ≠ 4 then ((St.badLength, []), s)
    else if 2 < mode ∨ leAt payload 1 1 ≠ 0 then ((St.range, []), s)
    else if mode = 0 then ((St.ok, []), putSession n { x with subs := rest } s)
    else if 32 ≤ rest.length then ((St.psetFull, []), s)
    else
      let (v, s) := readElems l s
      let u : Subscription := { index := ix, element := el, count := count, mode := mode, interval := leAt payload 2 2, last := v,
                                lastNs := if mode = 2 then s.tb0 + 1 else 0 }
      ((St.ok, []), putSession n { x with subs := rest ++ [u] } s)

/-! ## Requests (R534, R535, R551, R552) -/

/-- COUNT is 0, or is not 1 with element 0xFF (R533). -/
def badCount (el count : Nat) : Bool := count == 0 || (el == 0xFF && count != 1)

/-- One request carried out. `lim`: bytes a response may carry; `most`: entries a LOG_READ returns; `host`: bytes of host memory that
a command register may read; `bad`: an MRAM write fails. -/
def carryOut (origin lim most : Nat) (host : List Byte) (bad : Bool) (m : ZmpMsg) (s : State) : Answer × State :=
  let session := if origin = 1 then m.session else 0
  if !headerGood m then ((St.badHeader, []), s)
  else if m.opcode = 0 ∨ m.opcode = 6 ∨ 9 < m.opcode ∨ (m.opcode = 5 ∧ origin ≠ 1) then ((St.badOpcode, []), s)
  else if s.flag Reg.NVM_STATUS_RECOVERY ∧ m.ix ≠ 0x0000 ∧ m.ix ≠ 0xA000 then ((St.noObject, []), s)
  else if m.opcode = 9 then logRead m.payload most lim s
  else if m.opcode = 4 then dictApply origin session (flagPset m) m.payload s
  else if m.opcode = 7 then blockRead origin m.ix m.el m.payload lim s
  else if m.opcode = 8 then blockWrite origin session m.ix m.el m.payload s
  else if badCount m.el m.count then ((St.range, []), s)
  else if m.opcode = 1 then
    (if m.payload.isEmpty then dictRead origin m.ix m.el m.count lim s else ((St.badLength, []), s))
  else if m.opcode = 2 then dictWrite origin session m.ix m.el m.count m.payload host bad s
  else if m.opcode = 3 then dictStage origin session (flagPset m) m.ix m.el m.count m.payload s
  else dictSubscribe session m.ix m.el m.count m.payload s

/-! ## Sessions (R553 to R555) -/

def sessionEnabled (s : State) (n : Nat) : Bool := decide (n < 8) && objNat s (0x102001 + 256 * n) 0 != 0

/-- A session's key; zeros where none has been written. -/
def sessionKey (s : State) (n : Nat) : List Byte := fitBytes 32 (mapGet [] s.objs (0x102002 + 256 * n))

def zmpTag (s : State) (n : Nat) (l : List Byte) : List Byte := (hmac256 (sessionKey s n) l).take 16

/-- A message of session n with its tag. -/
def tagged (s : State) (n : Nat) (m : ZmpMsg) : List Byte :=
  let l := msgBytes m
  l ++ zmpTag s n l

def zmpSend (ip udp : Nat) (l : List Byte) (s : State) : State := (zmpCount 1 s).emit (.zmp ip udp l)

/-- A request whose session is disabled or whose tag does not match. -/
def authFail (s : State) : State := raiseOnce authOnce (fev FK.DICT_AUTH 0x06 0 0) (zmpCount 2 s)

/-- The enabled groups' addresses (R556). -/
def groupAddress (s : State) (g : Nat) : Option Nat :=
  if g < 8 ∧ objNat s (0x101001 + 256 * g) 0 ≠ 0 then some (objNat s (0x101002 + 256 * g) 0) else none

/-- A multicast request that the device takes (R556). -/
def multicastTaken (s : State) (m : ZmpMsg) : Bool :=
  !flagMulticast m || ((groupAddress s m.group).isSome && [1, 2, 3, 4, 8].contains m.opcode)

/-- The identity record of R557. (DESIGN CHOICE, log 93.) -/
def identityRecord (s : State) : List Byte :=
  let serial := (readElem { ix := 0, el := 5, row := objRow 0 5 } s).1
  let part := (readElem { ix := 0, el := 2, row := objRow 0 2 } s).1
  fitBytes 16 serial ++ fitBytes 16 part ++ leBytes 4 (objNat s 0x100007 0) ++ leBytes 2 (objNat s 0x100005 50117) ++
    leBytes 2 (shownWord s 0x20000C).toNat ++ leBytes 4 (firmwareVersion s) ++ leBytes 1 s.pers ++ leBytes 1 (s.f Reg.TIME_STATUS_QUALITY) ++
    zeros 2

/-- A DISCOVER that the device answers, from an address and port (R557). -/
def dictDiscover (ip udp : Nat) (m : ZmpMsg) (s : State) : State :=
  if objNat s 0x100006 1 = 0 ∨ flagNoReply m then s
  else zmpSend ip udp (msgBytes (answerMsg m (St.ok, identityRecord s)) ++ zeros 16) s

/-- Places of SEQUENCE below H. -/
def seqBelow (h q : Nat) : Nat := (h + 2 ^ 32 - q) % 2 ^ 32

/-- A request of an enabled session with its tag (R554, R555). (DEDUCED, log 90.) -/
def sessionRequest (ip udp : Nat) (host : List Byte) (bad : Bool) (m : ZmpMsg) (s : State) : State :=
  let n := m.session
  let x := sessionOf s n
  let run (s : State) : State :=
    let y := sessionOf s n
    let s := putSession n { y with high := if seqAbove y.high m.seq then m.seq else y.high, peer := some (ip, udp) } s
    let (a, s) := carryOut 1 1400 43 host bad m s
    -- a request that resets the device leaves no session to answer it
    if held s then s
    else
      let r := if flagNoReply m then [] else tagged s n (answerMsg m a)
      let y := sessionOf s n
      let s := putSession n { y with done := (m.seq, r) :: y.done.filter fun d => decide (seqBelow y.high d.1 ≤ 15) } s
      if flagNoReply m then s else zmpSend ip udp r s
  if seqAbove x.high m.seq then run s
  else if 15 < seqBelow x.high m.seq then zmpCount 3 s
  else
    match x.done.find? fun d => d.1 == m.seq with
    | some d => if d.2.isEmpty then s else zmpSend ip udp d.2 s
    | none => run s

/-- A UDP datagram at zmp_port of management port `port`, from an address and port, to the device's own or the broadcast address
(`dst` = 0) or to an IPv4 group address. (DEDUCED, log 89; DESIGN CHOICE, log 91.) -/
def zmpDatagram (port ip udp dst : Nat) (l host : List Byte) (bad : Bool) (s : State) : State :=
  let s := if s.flag (Reg.MNET_PORT_CFG_EN port) then s.incF (Reg.MNET_CNT_RX port) 1 else s
  if !s.flag (Reg.MNET_PORT_CFG_EN port) ∨ !s.mgmt.zmpOn ∨
      !(dst == 0 || (List.range 8).any fun g => groupAddress s g == some dst) then s
  else
    let s := zmpCount 0 s
    if l.length < 40 ∨ l.length ≠ 40 + leAt l 16 2 ∨ 1400 < leAt l 16 2 ∨ leAt l 0 2 ≠ zmpMagic then zmpCount 4 s
    else
      let m := parseMsg l
      let tag := l.drop (l.length - 16)
      if m.flags.testBit 0 then s
      else if m.session = 0xFF then
        (if m.opcode = 0xA ∧ tag = zeros 16 ∧ headerGood m ∧ m.payload.isEmpty ∧ !flagMulticast m then dictDiscover ip udp m s else s)
      else if !sessionEnabled s m.session ∨ tag ≠ zmpTag s m.session (l.take (l.length - 16)) then authFail s
      else if !multicastTaken s m then s
      else sessionRequest ip udp host bad m s

/-! ## Notifications (R558, R559, R610, R611) -/

/-- One NOTIFY to a session's peer; none where the values exceed what a message carries (R549). (DESIGN CHOICE, log 143.) -/
def sendNotify (n ix el count : Nat) (v : List Byte) (s : State) : State :=
  let x := sessionOf s n
  match x.peer with
  | none => s
  | some p =>
    if 1400 < v.length then s
    else
    let m : ZmpMsg := { version := 1, opcode := 6, flags := 2, session := n, seq := x.notifySeq, ix := ix, el := el, count := count,
                        status := 0, reserved := 0, group := 0, payload := v }
    zmpSend p.1 p.2 (tagged s n m) (putSession n { x with notifySeq := (x.notifySeq + 1) % 2 ^ 32 } s)

/-- NOTIFY_SEND of subscription k of session n: a covered value differs, or the interval has ended. -/
def notifySend (n k : Nat) (s : State) : State :=
  let x := sessionOf s n
  match x.subs[k]? with
  | none => s
  | some u =>
    if x.peer = none ∨ !s.mgmt.zmpOn then s
    else
      let (v, s') := coveredValues u.index u.element u.count s
      let due := u.lastNs = 0 ∨ u.lastNs - 1 + u.interval * 1000000 ≤ s.tb0
      if due ∧ (u.mode = 2 ∨ v ≠ u.last) then
        let y := sessionOf s' n
        let s := putSession n { y with subs := y.subs.set k { u with last := v, lastNs := s.tb0 + 1 } } s'
        sendNotify n u.index u.element u.count v s
      else s

/-- SESSION_TIMEOUT. -/
def sessionTimeout (n : Nat) (s : State) : State := putSession n { sessionOf s n with peer := none, subs := [] } s

/-- The NOTIFY of one message to one session. -/
def faultNotifyOne (msg n : Nat) (s : State) : State :=
  if !(objNat s 0x80000B 0xFF).testBit n ∨ !sessionEnabled s n ∨ (sessionOf s n).peer = none then s
  else
    let recent := s.flt.notifyTimes.filter fun t => decide (s.tb0 < t.2 + 1000000000)
    if s.f Reg.FLT_CFG_NOTIFY_PER_S ≤ (recent.filter fun t => t.1 == n).length then s.incF Reg.FLT_CNT_NOTIFY_DROP 1
    else
      let s := { s with flt := { s.flt with notifyTimes := (n, s.tb0) :: recent } }
      sendNotify n 0x8000 0x14 1 (leBytes 16 msg) s

/-- FAULT_NOTIFY: the oldest message that calls for a NOTIFY. -/
def faultNotify (s : State) : State :=
  match s.flt.notifyQueue with
  | [] => s
  | msg :: r =>
    let s := { s with flt := { s.flt with notifyQueue := r } }
    if s.mgmt.zmpOn then (List.range 8).foldl (fun s n => faultNotifyOne msg n s) s else s

/-! ## The mailbox (R522, R534, R563, R573) -/

/-- The Lamplighter serves the mailbox: from R685's step 1 on, or in recovery mode. -/
def mailboxServed (s : State) : Bool := s.flag Reg.NVM_STATUS_RECOVERY || (decide (2 ≤ s.f Reg.TOP_STATUS_STAGE) && decide (1 ≤ s.mgmt.bootSteps))

def mbxRequest (s : State) : List Byte := regBytes s 0xB1000 1024

def putResponse (l : List Byte) (s : State) : State := putWords s 0xB2000 (ceilDiv l.length 4) l

/-- The exchange ends (R522 step 4): RESULT and RSP_LEN. -/
def mbxEnd (result len : Nat) (s : State) : State :=
  let s := ((s.setF Reg.MBX_STATUS_RSP_LEN len).setF Reg.MBX_STATUS_RESULT result).setF Reg.MBX_STATUS_DONE 1
  ((hifSet (fun h => { h with mbxTaken := false }) (s.setF Reg.MBX_STATUS_BUSY 0)).incF Reg.HIF_CNT_MBX_DONE 1).intPend 0

/-- The answer to a mailbox request; MULTICAST and NOREPLY must be 0. -/
def mailboxAnswer (host : List Byte) (bad : Bool) (m : ZmpMsg) (s : State) : Answer × State :=
  let origin := if s.hif.mbxMaster = 0x20 then 3 else 0
  if flagMulticast m ∨ flagNoReply m ∨ m.flags.testBit 0 then ((St.badHeader, []), s)
  else carryOut origin 4072 126 host bad m s

/-- MBX_RESPONSE. -/
def mbxResponse (host : List Byte) (bad : Bool) (s : State) : State :=
  if !s.hif.mbxTaken ∨ !mailboxServed s then s
  else
    let l := mbxRequest s
    if 4072 < leAt l 16 2 then mbxEnd 2 0 s
    else
      let m := parseMsg l
      let (a, s) := if leAt l 0 2 = zmpMagic then mailboxAnswer host bad m s else ((St.badHeader, []), s)
      let r := msgBytes (answerMsg m a)
      if held s then s else mbxEnd 0 r.length (putResponse r s)

end Sys2Proof.Machine
end

