-- ==== Sys2Proof/Machine/Boot.lean ====
section
/-! DEFINITION. Sys2Proof/Machine/Boot.lean: the firmware's start (R582, R595, R685, R686), the persistent stores' writes (R539, R567)
and the restoration of defaults (R568). -/
namespace Sys2Proof.Machine

/-! ## The stores' writes -/

/-- JOURNAL_WRITE: the changed persistent objects reach their stores. -/
def journalWrite (s : State) : State := mgmtSet (fun m => { m with journal := [] }) (keepObjects s.mgmt.journal s)

/-- LOG_PERSIST: the newest entries reach the change-log tail, block by block. Before its start-up the firmware has no log to keep
(DEDUCED, log 80). -/
def logPersist (s : State) : State :=
  if s.mgmt.bootSteps ≠ 5 then s
  else
    let s := logDrain s
    let d := s.dict
    let kept := tailNext s
    let first := max kept (d.logNext - 16384) / 31
    let q := tailSeq s kept
    if d.logNext ≤ kept then s
    else
      (List.range ((d.logNext - 1) / 31 + 1 - first)).foldl (fun s i =>
        tailWrite ((q + 1 + i) % 2 ^ 32) (first + i) d.logNext (fun n => mapGet [] d.log (n % 65536)) s) s

/-- Every persistent object of the dictionary store, and of the identity region outside 0x0000 to 0x0FFF, takes its default. -/
def restoreStores (s : State) : State :=
  let ids := identityStore s
  let keep := ids.filter fun e => decide (e.1 / 256 < 0x1000)
  dictRebase [] (if keep = ids then s else storeWrite identityCopies (objectBody keep) s)

/-- The defaults due are restored, with their marker (R565, R568): the session keys and the update objects are in stores of their own. -/
def restoreDue (s : State) : State :=
  if !s.nvm.defaultsDue then s
  else logPut (logCtrl 3 2 0 0x030000) 0 0 (setNvm (fun n => { n with defaultsDue := false }) (restoreStores s))

/-! ## FIRMWARE_INIT (R685) -/

/-- The change log as its tail holds it (R567). -/
def initLog (s : State) : State :=
  let next := tailNext s
  let old := tailOldest s next
  dictSet (fun d => { d with log := (List.range (next - old)).foldl (fun m i => mapSet [] m ((old + i) % 65536) (tailEntry s (old + i))) [],
                             logNext := next, logOldest := old }) s

/-- The objects that no register holds take their stored values. -/
def initObjects (s : State) : State :=
  (keptObjects s).foldl (fun s e =>
    match objRow (e.1 / 256) (e.1 % 256) with
    | some r => (match r.home with | .held d => setObj e.1 (if e.2 = d then [] else e.2) s | _ => s)
    | none => s) s

/-- What the start-up finds of the stores' copies, with uncorrectable errors in the words `ue`. A change that a Lamplighter reset left in
the journal is written first. -/
def initFind (ue : List Nat) (s : State) : State :=
  dictCheck (storeCheck identityCopies (storeCheck keyCopies (tailCheck (nvmFound ue (journalWrite s)))))

/-- Step 1: the change log and the dictionary store are loaded, and the boot marker logged. -/
def initStores (ue : List Nat) (s : State) : State :=
  let s := initObjects (restoreDue (initLog (initFind ue s)))
  let s := if objNat s 0x100001 1 = 0 then setObj 0x100007 (mapGet [] s.objs 0x100002) s else s
  logPut (logCtrl 3 2 0 0x010000) 0 (firmwareVersion s) s

/-- The lifetime record and the update state at start-up (R589, R591, R595). -/
def initRecords (s : State) : State :=
  let s := updStart (lifeStart s)
  let run := s.f Reg.NVM_STATUS_RUN_SLOT
  let u := ucrNow s
  let s :=
    if u.reverted then
      setUcr { u with reverted := false } (histAdd (imageVersion s u.trialSlot) 2 u.trialSlot (raise (fev FK.UPD_TRIAL_REVERT 0x08 0 0) s))
    else s
  if s.mgmt.recovered then mgmtSet (fun m => { m with recovered := false }) (histAdd (imageVersion s run) 4 run s) else s

/-- Step 2: the personality, when the straps leave it open (R684). -/
def initPersonality (s : State) : State := if s.f Reg.TOP_STRAP_PERS = 3 then persSel (objNat s 0x105001 1) s else s

/-- Step 3: the memory. -/
def initMemory (s : State) : State :=
  memInit (memCommit (s.setStg Reg.MEM_GEOM_CHANNELS.key (BitVec.ofNat 32 (objNat s 0x000008 0xA))))

/-- The nominal voltage in mV and the tolerance in per cent of the rail that monitor m senses (R693, R696). -/
def railOf (m : Nat) : Nat × Nat :=
  if m = 0 then (800, 5) else if m = 1 then (1800, 5) else if m ≤ 9 then (750, 3) else if m ≤ 13 then (850, 3) else if m = 14 then (1200, 5)
  else if m ≤ 16 then (750, 3) else if m ≤ 18 then (1000, 3) else if m = 19 then (800, 3) else (500, 3)

/-- The factory limits of monitor m, UNDER_MV and OVER_MV: the rail's, rounded outward (R697). -/
def factoryVlim (m : Nat) : Nat × Nat :=
  let (v, t) := railOf m
  (v * (100 - t) / 100, (v * (100 + t) + 99) / 100)

/-- The values that registers take where nothing is stored: the factory's, and the default of TOP_GLITCH, which a device reset keeps
(R685, R689). -/
def factoryWords : List (Nat × Word × Word) :=
  ((List.range 24).map fun m =>
    (0x90104 + 0x10 * m, BitVec.allOnes 32, BitVec.ofNat 32 ((factoryVlim m).1 + (factoryVlim m).2 * 2 ^ 16))) ++
    [(0x24, BitVec.allOnes 32, 0x1B6DB)]

/-- The register words of the factory values, and of the persistent objects that differ from their defaults. -/
def bootWords (s : State) : List (Nat × Word × Word) :=
  ((keptObjects s).flatMap entryShadow).foldl (fun l p => mergeWord p l) factoryWords

/-- One group of step 4: committed, or left at its reset values. -/
def initGroup (g : Nat) (s : State) : State :=
  match stagedFail g s with
  | some _ => groupRestage g (raise (fev FK.DICT_APPLY_REJECT 0x00 0 0) (groupCommit g s))
  | none => groupCommit g s

/-- Step 4: the fields that no commit governs, then every group in ascending block ID. (DEDUCED, log 96.) -/
def initGroups (s : State) : State :=
  let sh := bootWords s
  let s := sh.foldl (fun s p => if p.1 ≥ seedShadow then s else plainWord [] p s) s
  let s := sh.foldl (fun s p => stageWord p s) s
  (writeGroups sh).foldl (fun s g => initGroup g s) s

/-- FIRMWARE_INIT: steps 1 to 5. -/
def firmwareInit (ue : List Nat) (s : State) : State :=
  if s.f Reg.TOP_STATUS_STAGE ≠ 2 ∨ s.mgmt.bootSteps ≠ 0 then s
  else
    let s := initGroups (initMemory (initPersonality (initRecords (initStores ue s))))
    mgmtSet (fun m => { m with bootSteps := 5, zmpOn := true }) (watchdogEnable s)

/-- The memory is trained, and the mantle cleared where the personality has one (R685). -/
def bootReady (s : State) : Bool := s.flag Reg.MEM_STATUS_READY && (!(s.isX || s.isFX) || s.flag Reg.MNT_STATUS_INIT_DONE)

/-- The firmware's last step is done while STAGE is still FW_INIT (R685). -/
def stageWaits (s : State) : Bool := s.f Reg.TOP_STATUS_STAGE == 2 && s.mgmt.bootSteps == 5

/-- Memory training has failed (R685). -/
def trainFailed (s : State) : Bool := s.f Reg.MEM_TRAIN_STATUS_FAIL_CH != 0

/-- STAGE becomes READY or FAILED (R685). -/
def stageSettle (s : State) : State :=
  if stageWaits s && bootReady s then s.setF Reg.TOP_STATUS_STAGE 3
  else if stageWaits s && trainFailed s then s.setF Reg.TOP_STATUS_STAGE 4
  else s

end Sys2Proof.Machine
end

