-- ==== Sys2Proof/Machine/Action.lean ====
section
/-! DEFINITION. Sys2Proof/Machine/Action.lean: occurrences that execute at their targets (R62, R69 to R71, R76, R80, R81). Actions that the
data carry with them execute as the data pass (Ingest, Lens, Candelabra, lamps); the commands here execute one occurrence whose count or
time its target reaches. -/
namespace Sys2Proof.Machine

/-- A pending occurrence has come to its count or time at its target (R70, R236, R242); a boundary of an IDLE job has none to wait for
(R329). (DESIGN CHOICE, log 31; DEDUCED, log 103.) -/
def actDue (s : State) (slot : Nat) : Bool :=
  let act := slotAct s slot
  let t := slotTarget s slot
  if act = 0x0B ∨ (act = 2 ∧ t ≠ 0x1000 ∧ t ≠ 0x1100) then (List.range 64).any fun n => lampAt s slot n
  else targetAt s slot || (act == 1 && jobState s (t % 4) == 0)

/-- Execute a delivered, due occurrence of action `act` by `f`, in the order of R72. (DESIGN CHOICE, log 3.) -/
def actNow (act slot : Nat) (f : State → State) (s : State) : State :=
  if slotState s slot = 2 ∧ slotAct s slot = act ∧ actDue s slot ∧ firstOf (actDue s) s slot then f s else s

/-- Execute an action at one lamp; a table swap takes place at the read of the header (R242). -/
def lampActAt (n slot : Nat) (s : State) : State := if lampAt s slot n then lampActBy lampSwapAtRead n slot false s else s

/-- Execute a BEACON slot (R76, R80, R81). -/
def beaconSlot (slot : Nat) (starved : Bool) (s : State) : State :=
  let k := slotTarget s slot % 4
  let s := if s.flag (Reg.BEACON_CFG_EN k) && !s.snuffed then
      { s with time := { s.time with beaconActive := s.time.beaconActive ||| 2 ^ k } }
    else s
  endDone slot starved s

def dumpBoundary (slot : Nat) (s : State) : State := actNow 0x01 slot (boundaryExec slot false) s
def lensTableSwap (slot : Nat) (s : State) : State :=
  actNow 0x02 slot (fun s => if slotTarget s slot = 0x1100 then lensSwapSlot slot false s else s) s
def weightTableSwap (slot : Nat) (s : State) : State :=
  actNow 0x02 slot (fun s => if slotTarget s slot = 0x1000 then weightSwapSlot slot s else s) s
def lampTableSwap (slot n : Nat) (s : State) : State :=
  actNow 0x02 slot (lampActAt n slot) s
def applySetNow (slot : Nat) (s : State) : State := actNow 0x03 slot (applySlot slot false) s
def delayStepNow (slot : Nat) (s : State) : State := actNow 0x04 slot (delayStep slot false) s
def beaconNow (slot : Nat) (s : State) : State := actNow 0x05 slot (beaconSlot slot false) s
def captureFreeze (slot : Nat) (s : State) : State := actNow 0x06 slot (capSlot slot false) s
def counterSnapshot (slot : Nat) (s : State) : State := actNow 0x07 slot (snapSlot slot false) s
def beamEnable (slot : Nat) (s : State) : State := actNow 0x08 slot (beamSlot slot false) s
def beamDisable (slot : Nat) (s : State) : State := actNow 0x09 slot (beamSlot slot false) s
def trimNow (slot : Nat) (s : State) : State := actNow 0x0A slot (trimSlot slot false) s
def lampEventNow (slot n : Nat) (s : State) : State :=
  actNow 0x0B slot (lampActAt n slot) s

/-- SLOT_DELIVER; a weight TABLE_SWAP executes at its delivery (R414, R721), and so does a boundary of an IDLE job (R329). -/
def deliverNow (slot : Nat) (s : State) : State :=
  let was := slotState s slot
  let s := slotDeliver slot s
  if was = 1 ∧ slotAct s slot = 2 ∧ slotTarget s slot = 0x1000 then weightSwapSlot slot s
  else if was = 1 ∧ slotAct s slot = 1 ∧ slotState s slot = 2 ∧ jobState s (slotTarget s slot % 4) = 0 then boundaryExec slot false s
  else s

/-- Execute an occurrence at boundary T without data (R71). -/
def starveAct (slot : Nat) (s : State) : State :=
  match slotAct s slot with
  | 0x01 => boundaryExec slot true s
  | 0x02 => if slotTarget s slot = 0x1100 then lensSwapSlot slot true s else if slotTarget s slot = 0x1000 then weightSwapSlot slot s
            else lampActStarved slot s
  | 0x03 => applySlot slot true s
  | 0x04 => delayStep slot true s
  | 0x06 => capSlot slot true s
  | 0x07 => snapSlot slot true s
  | 0x08 => beamSlot slot true s
  | 0x09 => beamSlot slot true s
  | 0x0A => trimSlot slot true s
  | 0x0B => lampActStarved slot s
  | _ => s

/-- ACTION_STARVE. (DEDUCED, log 150.) -/
def actionStarve (slot : Nat) (s : State) : State :=
  if starves s slot then
    let t := slotWhen s slot
    starveAct slot (raise (fev FK.SCHED_STARVED 0x02 slot t) s)
  else s

end Sys2Proof.Machine
end

