-- ==== Sys2Proof/Machine/Jtag.lean ====
section
/-! DEFINITION. Sys2Proof/Machine/Jtag.lean: the test access port (R679, R710) and the SMBus alert (R708). The controller's states and
transitions are those of IEEE 1149.1, which R710 names: PRESUMED, log 104. Register lengths and instruction codes are not stated. -/
namespace Sys2Proof.Machine

/-- The controller's next state on a rising edge of TCK. Codes: 15 Test-Logic-Reset, 12 Run-Test/Idle, 7 Select-DR, 6 Capture-DR,
2 Shift-DR, 1 Exit1-DR, 3 Pause-DR, 0 Exit2-DR, 5 Update-DR, and 4, 14, 10, 9, 11, 8, 13 the same of IR. (PRESUMED, log 104.) -/
def tapNext (st : Nat) (tms : Bool) : Nat :=
  let r : Nat × Nat :=
    if st = 15 then (12, 15) else if st = 12 then (12, 7) else if st = 7 then (6, 4) else if st = 6 then (2, 1)
    else if st = 2 then (2, 1) else if st = 1 then (3, 5) else if st = 3 then (3, 0) else if st = 0 then (2, 5)
    else if st = 5 then (12, 7) else if st = 4 then (14, 15) else if st = 14 then (10, 9) else if st = 10 then (10, 9)
    else if st = 9 then (11, 13) else if st = 11 then (11, 8) else if st = 8 then (10, 13) else (12, 7)
  if tms then r.2 else r.1

/-- BYPASS, the instruction of all ones, is selected. -/
def tapBypass (b : BringState) : Bool := !b.tapIr.isEmpty && b.tapIr.all id

/-- A rising edge: the controller acts by its state and moves on. (DESIGN CHOICE, log 105.) -/
def tapRise (tms tdi : Bool) (b : BringState) : BringState :=
  let st := b.tapState
  let b := if st = 6 ∨ st = 14 then { b with tapIn := [] } else if st = 2 ∨ st = 10 then { b with tapIn := tdi :: b.tapIn } else b
  let n := tapNext st tms
  let b := { b with tapState := n }
  if n = 15 then { b with tapIn := [], tapIr := [], tapDr := [] } else b

/-- A falling edge: updates take effect. -/
def tapFall (b : BringState) : BringState :=
  if b.tapState = 13 then { b with tapIr := b.tapIn } else if b.tapState = 5 then { b with tapDr := b.tapIn } else b

/-- The bit TDO shows on a falling edge in a shift state: 1 then 0 first from the instruction register, the bypass bit, else a bit whose
value is not stated. -/
def tapOut (s : State) : Bool × State :=
  let b := s.bring
  let n := b.tapIn.length
  if b.tapState = 10 ∧ n = 0 then (true, s)
  else if b.tapState = 10 ∧ n = 1 then (false, s)
  else if b.tapState = 2 ∧ tapBypass b then (b.tapIn.headD false, s)
  else
    let (r, s) := s.draw
    (r % 2 == 1, s)

/-- TCK: one edge. In a device held in reset TDO is high-impedance, as every other 1.8 V output is that R678 does not name before it. -/
def tck (rising tms tdi : Bool) (s : State) : State :=
  if !s.bring.trstN then s
  else if rising then bringSet (tapRise tms tdi) s
  else
    let s := bringSet tapFall s
    if s.bring.tapState = 2 ∨ s.bring.tapState = 10 then
      let (v, s) := tapOut s
      if held s then s else s.emit (.tdo v)
    else s

/-- TRST_N: low resets the test access port and master 0x20, with `retired` of its transactions (R490, R679). -/
def trstPin (high : Bool) (retired : Nat) (s : State) : State :=
  if high then bringSet (fun b => { b with trstN := true }) s
  else retire retired (bringSet (fun b => { b with trstN := false, tapState := 15, tapIn := [], tapIr := [], tapDr := [] }) s)

/-- SMB_ALERT_N. -/
def smbAlert (asserted : Bool) (s : State) : State := bringSet (fun b => { b with smbAlert := asserted }) s

end Sys2Proof.Machine
end

