-- ==== Sys2Proof/Machine/Ptp.lean ====
section
/-! DEFINITION. Sys2Proof/Machine/Ptp.lean: the PTP time receiver and the transparent clock (R84 to R86), and the management ports
beside PTP and ZMP (R568). Message layouts and the algorithm are those of IEEE 1588-2019, which R84 names: PRESUMED, log 30. -/
namespace Sys2Proof.Machine

def timeSet (f : TimeState → TimeState) (s : State) : State := { s with time := f s.time }

/-! ## Messages -/

def ptpType (l : List Byte) : Nat := leAt l 0 1 % 16
def ptpTwoStep (l : List Byte) : Bool := (leAt l 6 1).testBit 1
/-- correctionField, in units of 2^-16 ns. -/
def ptpCorrection (l : List Byte) : Int := sext 64 (beAt l 8 8)
def ptpSource (l : List Byte) : List Byte := (l.drop 20).take 10
def ptpSeq (l : List Byte) : Nat := beAt l 30 2
/-- The timestamp in the body, in nanoseconds. -/
def ptpStamp (l : List Byte) : Int := beAt l 34 6 * 1000000000 + beAt l 40 4

/-- Version 2, the domain and the mapping the receiver uses, and bytes enough for the message. (PRESUMED, log 30.) -/
def ptpTaken (via : Nat) (l : List Byte) (s : State) : Bool :=
  leAt l 1 1 % 16 == 2 && leAt l 4 1 == s.f Reg.PTP_CFG_DOMAIN_NUM && (s.f Reg.PTP_CFG_TRANSPORT).testBit (via / 2) &&
    decide ((if ptpType l = 11 then 64 else if ptpType l = 9 then 54 else 44) ≤ l.length)

/-! ## The best time-transmitter clock algorithm -/

/-- Lexicographic order of byte strings. -/
def bytesLt : List Byte → List Byte → Bool
  | [], [] => false
  | [], _ :: _ => true
  | _ :: _, [] => false
  | a :: x, b :: y => decide (a.toNat < b.toNat) || (a == b && bytesLt x y)

/-- An Announce message's data set: priority1, clockQuality, priority2, grandmasterIdentity (14 bytes), stepsRemoved (2). -/
def ptpDataSet (l : List Byte) : List Byte := (l.drop 47).take 16

abbrev PtpForeign := Nat × Nat × List Byte × List Byte

/-- The first transmitter is better than the second. -/
def ptpBetter (a b : PtpForeign) : Bool :=
  let gm (x : PtpForeign) : List Byte := (x.2.2.1.drop 6).take 8
  if gm a = gm b then bytesLt (x a) (x b) else bytesLt (a.2.2.1.take 14) (b.2.2.1.take 14)
where
  x (y : PtpForeign) : List Byte := y.2.2.1.drop 14 ++ y.2.2.2 ++ leBytes 1 y.1

def ptpBest : List PtpForeign → Option PtpForeign
  | [] => none
  | a :: r => match ptpBest r with | none => some a | some b => some (if ptpBetter b a then b else a)

/-- Select the best of the transmitters heard twice; a change of selection drops the exchange in progress. -/
def ptpSelect (s : State) : State :=
  let pick := (ptpBest (s.time.ptpForeign.filter fun x => x.2.1 == 2)).map fun x => (x.1, x.2.2.2)
  if pick = s.time.ptpMaster then s
  else (timeSet (fun t => { t with ptpMaster := pick, ptpT1 := none, ptpT2 := none, ptpT3 := none, ptpPathDelay := 0 }) s).setFlag
    Reg.TIME_STATUS_MASTER_SEEN pick.isSome

def ptpAnnounce (via : Nat) (l : List Byte) (s : State) : State :=
  if beAt l 61 2 ≥ 255 then s
  else
    let src := ptpSource l
    let was := s.time.ptpForeign.find? fun x => x.1 == via && x.2.2.2 == src
    let n := match was with | some x => min 2 (x.2.1 + 1) | none => 1
    ptpSelect (timeSet (fun t =>
      { t with ptpForeign := t.ptpForeign.filter (fun x => !(x.1 == via && x.2.2.2 == src)) ++ [(via, n, ptpDataSet l, src)] }) s)

/-! ## The time receiver -/

/-- A measured offset of the time receiver: it steps TB0 beyond 1 s (R54), supplies the seconds to source 0b11, and updates the servo of
source 0b01. -/
def ptpOffset (off : Int) (s : State) : State :=
  let src := s.f Reg.TIME_CTRL_SRC
  if src ≠ 1 ∧ src ≠ 3 then s
  else
    let s := if src = 3 then timeSet (fun t => { t with ptpSeconds := true }) s else servoUpdate (off * 1000) s
    if off.natAbs > 1000000000 then stepLate s.tb0 (s.setTb0 ((s.tb0 : Int) - off).toNat) else s

/-- Both times of a Sync are known. -/
def ptpSyncDone (s : State) : State :=
  match s.time.ptpT1, s.time.ptpT2 with
  | some t1, some t2 => ptpOffset (t2 - t1 - s.time.ptpPathDelay) s
  | _, _ => s

/-- The device's clock identity and the port number of a port. -/
def ptpIdentity (port : Nat) (s : State) : List Byte :=
  let mac := beBytes 6 (objNat s (0x000006 + port) 0)
  mac.take 3 ++ [0xFF, 0xFE] ++ mac.drop 3 ++ beBytes 2 (port + 1)

/-- PTP_MESSAGE on management port `via % 2` with the mapping `via / 2`, timestamped with TB0 as it arrives.
(DESIGN CHOICE, log 154.) -/
def ptpMessage (via : Nat) (l : List Byte) (s : State) : State :=
  if !s.flag (Reg.MNET_PORT_CFG_EN (via % 2)) then s
  else
    let s := s.incF (Reg.MNET_CNT_RX (via % 2)) 1
    if !ptpTaken via l s then s
    else if ptpType l = 11 then ptpAnnounce via l s
    else if s.time.ptpMaster ≠ some (via, ptpSource l) then s
    else if ptpType l = 0 then
      let t2 : Int := s.tb0 - ptpCorrection l / 65536
      ptpSyncDone (timeSet (fun t => { t with ptpT2 := some t2, ptpSyncSeq := ptpSeq l,
                                              ptpT1 := if ptpTwoStep l then none else some (ptpStamp l) }) s)
    else if ptpType l = 8 then
      if s.time.ptpT2.isSome ∧ s.time.ptpT1 = none ∧ s.time.ptpSyncSeq = ptpSeq l then
        ptpSyncDone (timeSet (fun t => { t with ptpT1 := some (ptpStamp l + ptpCorrection l / 65536) }) s)
      else s
    else if ptpType l = 9 then
      match s.time.ptpT1, s.time.ptpT2, s.time.ptpT3 with
      | some t1, some t2, some t3 =>
        if ptpSeq l = s.time.ptpDelaySeq ∧ (l.drop 44).take 10 = ptpIdentity (via % 2) s then
          let t4 := ptpStamp l - ptpCorrection l / 65536
          timeSet (fun t => { t with ptpT3 := none, ptpPathDelay := ((t2 - t1) + (t4 - t3)) / 2 }) s
        else s
      | _, _, _ => s
    else s

/-- DELAY_REQ_SEND to the selected time transmitter. -/
def delayReqSend (s : State) : State :=
  match s.time.ptpMaster with
  | none => s
  | some (via, _) =>
    let q := (s.time.ptpDelaySeq + 1) % 65536
    let l := leBytes 1 0x01 ++ leBytes 1 0x12 ++ beBytes 2 44 ++ leBytes 1 (s.f Reg.PTP_CFG_DOMAIN_NUM) ++ zeros 15 ++
      ptpIdentity (via % 2) s ++ beBytes 2 q ++ leBytes 1 1 ++ leBytes 1 0x7F ++ zeros 10
    (timeSet (fun t => { t with ptpT3 := some (s.tb0 : Int), ptpDelaySeq := q }) s).emit (.ptp via l)

/-- ANNOUNCE_TIMEOUT: the selected transmitter is dropped. -/
def announceTimeout (s : State) : State :=
  match s.time.ptpMaster with
  | none => s
  | some (via, src) =>
    (timeSet (fun t => { t with ptpForeign := t.ptpForeign.filter (fun x => !(x.1 == via && x.2.2.2 == src)), ptpMaster := none, ptpT1 := none,
                                ptpT2 := none, ptpT3 := none, ptpPathDelay := 0 }) s).setF Reg.TIME_STATUS_MASTER_SEEN 0

/-! ## The transparent clock (R86) -/

/-- A message with a time added to its correctionField. (DESIGN CHOICE, log 155.) -/
def addCorrection (n : Nat) (l : List Byte) : List Byte :=
  l.take 8 ++ beBytes 8 (wrap 64 (ptpCorrection l + n)) ++ l.drop 16

/-- The sum of the 16-bit words of a byte string, the last padded with zero. -/
def words16 : List Byte → Nat
  | a :: b :: r => 256 * a.toNat + b.toNat + words16 r
  | [a] => 256 * a.toNat
  | [] => 0

/-- A one's complement sum, folded to 16 bits. -/
def fold16 (n : Nat) : Nat := let m := n % 65536 + n / 65536; m % 65536 + m / 65536

/-- Where the UDP header of an IPv4 packet starts. -/
def udpAt (l : List Byte) : Nat := 4 * (leAt l 0 1 % 16)

/-- The UDP checksum of an IPv4 packet, over its addresses, protocol, length and the datagram without its checksum. -/
def udpSum (l : List Byte) : Nat :=
  let h := udpAt l
  let n := beAt l (h + 4) 2
  let d := (l.drop h).take n
  let c := 65535 - fold16 (words16 ((l.drop 12).take 8) + 17 + n + words16 (d.take 6 ++ d.drop 8))
  if c = 0 then 65535 else c

/-- An IPv4 packet with its UDP checksum recomputed. -/
def udpResum (l : List Byte) : List Byte := l.take (udpAt l + 6) ++ beBytes 2 (udpSum l) ++ l.drop (udpAt l + 8)

/-- Where the PTP header of a forwarded message starts: at the start in the Layer 2 mapping, behind the IPv4 and UDP headers in the
other. -/
def ptpAt (via : Nat) (l : List Byte) : Nat := if via / 2 = 1 then udpAt l + 8 else 0

/-- A forwarded message with a time added to its correctionField, and its UDP checksum recomputed (R86). -/
def ptpAddTime (via n : Nat) (l : List Byte) : List Byte :=
  let o := ptpAt via l
  let l := l.take o ++ addCorrection n (l.drop o)
  if via / 2 = 1 then udpResum l else l

/-- The other management port forwards. -/
def portForwards (port : Nat) (s : State) : Bool :=
  s.flag (Reg.MNET_PORT_CFG_EN (1 - port)) && s.flag (Reg.MNET_PORT_STATUS_LINK (1 - port))

/-- PTP_FORWARD from port `via % 2` to the other, after a residence time in units of 2^-16 ns. (DESIGN CHOICE, log 156.) -/
def ptpForward (via residence : Nat) (l : List Byte) (s : State) : State :=
  let port := via % 2
  if !s.flag (Reg.MNET_PORT_CFG_EN port) then s
  else if !portForwards port s then (s.incF (Reg.MNET_CNT_RX port) 1).incF (Reg.MNET_CNT_DROP port) 1
  else
    let s := s.incF (Reg.MNET_CNT_RX port) 1
    let out := 1 - port + 2 * (via / 2)
    let m := l.drop (ptpAt via l)
    let key := leBytes 1 (via / 2) ++ (m.drop 4).take 1 ++ (m.drop 20).take 12
    if !s.flag Reg.PTP_CFG_TC_EN then s.emit (.ptp out l)
    else if ptpType m = 0 ∧ ptpTwoStep m then
      (timeSet (fun t => { t with ptpResidence := t.ptpResidence.filter (fun x => !(x.1 == port && x.2.1 == key)) ++ [(port, key, residence)] }) s).emit
        (.ptp out (ptpAddTime via 0 l))
    else if ptpType m = 8 then
      match s.time.ptpResidence.find? fun x => x.1 == port && x.2.1 == key with
      | some x => (timeSet (fun t => { t with ptpResidence := t.ptpResidence.filter (fun x => !(x.1 == port && x.2.1 == key)) }) s).emit
          (.ptp out (ptpAddTime via x.2.2 l))
      | none => s.emit (.ptp out l)
    else if ptpType m < 4 then s.emit (.ptp out (ptpAddTime via residence l))
    else s.emit (.ptp out l)

/-! ## The management ports (R568) -/

/-- MANAGEMENT_PORT_LINK: a port that is disabled does not come up. -/
def managementPortLink (port : Nat) (up : Bool) (s : State) : State :=
  if !up then s.setF (Reg.MNET_PORT_STATUS_LINK port) 0
  else if s.flag (Reg.MNET_PORT_CFG_EN port) then
    (s.setF (Reg.MNET_PORT_STATUS_LINK port) 1).setF (Reg.MNET_PORT_STATUS_SPEED port) (s.f (Reg.MNET_PORT_CFG_SPEED port))
  else s

/-- MANAGEMENT_FRAME. `local_`: the switch gives the frame to the Lamplighter; `onward`: to the other port; neither: it drops it.
(DEDUCED, log 92.) -/
def managementFrame (port : Nat) (local_ onward : Bool) (l : List Byte) (s : State) : State :=
  if !s.flag (Reg.MNET_PORT_CFG_EN port) then s
  else
    let go := onward && portForwards port s
    let s := s.incF (Reg.MNET_CNT_RX port) 1
    if !(local_ || go) then s.incF (Reg.MNET_CNT_DROP port) 1
    else if go then s.emit (.frame (1 - port) l)
    else s

/-- DHCP_MESSAGE: type 5 (ACK) assigns or renews an address, type 6 (NAK) takes it back. -/
def dhcpMessage (port type addr : Nat) (s : State) : State :=
  if !s.flag (Reg.MNET_PORT_CFG_EN port) then s
  else
    let s := s.incF (Reg.MNET_CNT_RX port) 1
    if objNat s 0x100001 1 ≠ 1 then s
    else if type = 5 then setObj 0x100007 (if addr = 0 then [] else leBytes 4 addr) s
    else if type = 6 then setObj 0x100007 [] s
    else s

/-- LINK_LOCAL_FALLBACK: an address of 169.254.1.0 to 169.254.254.255, which one is not stated. -/
def linkLocalFallback (s : State) : State :=
  if objNat s 0x100001 1 ≠ 1 ∨ objNat s 0x100007 0 ≠ 0 then s
  else
    let (r, s) := s.draw
    setObj 0x100007 (leBytes 4 (0xA9FE0100 + r % (254 * 256))) s

end Sys2Proof.Machine
end

