-- ==== Sys2Proof/WellFormed.lean ====
section
/-! DEFINITION. Sys2Proof/WellFormed.lean: the operands that a command may carry: the ranges of its fields, and masters that R479 and
R480 let send it. -/
namespace Sys2Proof
open Sys2Proof.Machine

/-- Masters that may write the register pages (R480): host, boot, DMA channels and the debug port. -/
def regMaster (m : Nat) : Bool := m == 1 || m == 2 || (decide (0x10 ≤ m) && decide (m ≤ 0x20))

/-- Masters of the bus matrix (R479). (DESIGN CHOICE, log 25.) -/
def anyMaster (m : Nat) : Bool := decide (m ≤ 3) || (decide (8 ≤ m) && decide (m ≤ 0x22))

/-- Offsets of configuration space are below 4 KiB, words have 32 bits, and the decoder's base is a multiple of 256 MiB below 2^52 (R513). -/
def CfgReq.wf : CfgReq → Bool
  | .read off => decide (off < 4096)
  | .write off v => decide (off < 4096) && decide (v < 2 ^ 32)
  | .control _ _ base _ => decide (base < 2 ^ 52) && decide (base % 2 ^ 28 = 0)

/-- A command's operands lie in their ranges. (DESIGN CHOICE, log 4.) -/
def wellFormed : Instr → Bool
  | .registerWrite m off _ _ _ => anyMaster m && decide (off < 2 ^ 28)
  | .broadcastWrite m off _ => anyMaster m && decide (0x800000 ≤ off) && decide (off < 0x840000)
  | .broadcastRead m off => anyMaster m && decide (0x800000 ≤ off) && decide (off < 0x840000)
  | .busAccess m _ addr len _ _ _ _ => anyMaster m && decide (addr < 2 ^ 64) && decide (1 ≤ len) && decide (len ≤ 256)
  | .peripheralTimeout m addr _ => anyMaster m && decide (addr < 2 ^ 48)
  | .bmxCntUndefRead m => anyMaster m
  | .topRemapSwap m => anyMaster m
  | .timeCtrlSrcWrite m _ => anyMaster m
  | .ptpMessage via bytes => decide (via < 4) && decide (bytes.length ≤ 1500)
  | .ptpForward via residence bytes => decide (via < 4) && decide (residence < 2 ^ 48) && decide (34 ≤ bytes.length) && decide (bytes.length ≤ 1500)
  | .ppsInEdge _ => true
  | .holdoverTimeout => true
  | .ppsLostTimeout => true
  | .stepNow m => anyMaster m
  | .stepAtPps m => anyMaster m
  | .sdCommit m d => anyMaster m && decide (d < 4)
  | .tb0Capture m => anyMaster m
  | .ppsOutRise => true
  | .ppsOutFall => true
  | .beaconFall k => decide (k < 4)
  | .slotArm m n _ => anyMaster m && decide (n < 256)
  | .slotCancel m n => anyMaster m && decide (n < 256)
  | .slotDeliver n => decide (n < 256)
  | .actionStarve n => decide (n < 256)
  | .schedBlockReset => true
  | .dumpBoundary n => decide (n < 256)
  | .lensTableSwap n => decide (n < 256)
  | .lampTableSwap n k => decide (n < 256) && decide (k < 64)
  | .weightTableSwap n => decide (n < 256)
  | .applySet n => decide (n < 256)
  | .delayStep n => decide (n < 256)
  | .beacon n => decide (n < 256)
  | .captureFreeze n => decide (n < 256)
  | .counterSnapshot n => decide (n < 256)
  | .beamEnable n => decide (n < 256)
  | .beamDisable n => decide (n < 256)
  | .trim n => decide (n < 256)
  | .lampEvent n k => decide (n < 256) && decide (k < 64)
  | .headWick l _ seq credit _ _ => decide (l < 128) && decide (seq < 1024) && decide (credit < 256)
  | .bodyWick l _ seq credit payload _ => decide (l < 128) && decide (seq < 1024) && decide (credit < 256) && decide (payload.length = 120)
  | .bodyLastWick l _ seq credit payload _ _ => decide (l < 128) && decide (seq < 1024) && decide (credit < 256) && decide (payload.length = 120)
  | .idleWick l _ seq credit => decide (l < 128) && decide (seq < 1024) && decide (credit < 256)
  | .ctrlWick l _ seq credit payload => decide (l < 128) && decide (seq < 1024) && decide (credit < 256) && decide (payload.length = 120)
  | .trainWick l _ seq credit payload => decide (l < 128) && decide (seq < 1024) && decide (credit < 256) && decide (payload.length = 120)
  | .creditSyncWick l _ seq credit payload => decide (l < 128) && decide (seq < 1024) && decide (credit < 256) && decide (payload.length = 120)
  | .flaggedIdleWick l _ seq credit => decide (l < 128) && decide (seq < 1024) && decide (credit < 256)
  | .wickCrcFail l _ header payload => decide (l < 128) && decide (header < 2 ^ 32) && decide (payload.length = 120)
  | .wickTransmit l => decide (l < 128)
  | .clockAcquired g => decide (g < 16)
  | .equaliserAdapted l => decide (l < 128)
  | .trainStageTimeout l _ => decide (l < 128)
  | .ffeFallback l => decide (l < 128)
  | .backoffExpiry l => decide (l < 128)
  | .clockActivityStart g => decide (g < 16)
  | .groupClockLoss g _ => decide (g < 16)
  | .creditReset l => decide (l < 128)
  | .retrain m l => anyMaster m && decide (l < 128)
  | .sendRetrainReq m l => anyMaster m && decide (l < 128)
  | .laneClearCnt m l => anyMaster m && decide (l < 128)
  | .lnkCommit m g => anyMaster m && decide (g < 16)
  | .retrainAll m g => anyMaster m && decide (g < 16)
  | .egrCommit m => anyMaster m
  | .egressPacket e _ => decide (e < 256)
  | .countMarker e => decide (e < 256)
  | .deskewDone l => decide (l < 128)
  | .reservedTypeWick l _ seq credit type payload => decide (l < 128) && decide (seq < 1024) && decide (credit < 256) && decide (8 ≤ type) && decide (type < 16) && decide (payload.length = 120)
  | .prbsLock l _ => decide (l < 128)
  | .lensCommit m => anyMaster m
  | .lensCoefData m _ => anyMaster m
  | .lensSeal m => anyMaster m
  | .lensUnseal m => anyMaster m
  | .lensSwapNow m => anyMaster m
  | .lensResetPtr m => anyMaster m
  | .lensOutputCount first => decide (first < 2 ^ 64)
  | .lampRun m n => anyMaster m && decide (n < 64)
  | .lampHalt m n => anyMaster m && decide (n < 64)
  | .lampStep m n _ => anyMaster m && decide (n < 64)
  | .lampReset m n => anyMaster m && decide (n < 64)
  | .lmpDoorbell m n v => anyMaster m && decide (n < 64) && decide (v < 2 ^ 16)
  | .lmpCommit m n => anyMaster m && decide (n < 64)
  | .lampSeal m n => anyMaster m && decide (n < 64)
  | .lampUnseal m n => anyMaster m && decide (n < 64)
  | .lampSwapNow m n => anyMaster m && decide (n < 64)
  | .dbgDataWrite m n _ => anyMaster m && decide (n < 64)
  | .interruptEntry n => decide (n < 64)
  | .lampTimerExpiry n => decide (n < 64)
  | .fetchComplete n _ => decide (n < 64)
  | .outboxRead n => decide (n < 64)
  | .soutRecordEnter n _ => decide (n < 64)
  | .illegalInstruction n w => decide (n < 64) && decide (w < 2 ^ 32)
  | .nop n => decide (n < 64)
  | .halt n => decide (n < 64)
  | .b n cnd tgt => decide (n < 64) && decide (cnd < 16) && decide (tgt < 8192)
  | .call n tgt => decide (n < 64) && decide (tgt < 8192)
  | .jr n cnd a => decide (n < 64) && decide (cnd < 16) && decide (a < 16)
  | .reti n => decide (n < 64)
  | .loop n k e c => decide (n < 64) && decide (k < 4) && decide (e < 8192) && decide (c < 2048)
  | .loopReg n k e a => decide (n < 64) && decide (k < 4) && decide (e < 8192) && decide (a < 16)
  | .add n d a b => decide (n < 64) && decide (d < 16) && decide (a < 16) && decide (b < 16)
  | .sub n d a b => decide (n < 64) && decide (d < 16) && decide (a < 16) && decide (b < 16)
  | .and n d a b => decide (n < 64) && decide (d < 16) && decide (a < 16) && decide (b < 16)
  | .or n d a b => decide (n < 64) && decide (d < 16) && decide (a < 16) && decide (b < 16)
  | .xor n d a b => decide (n < 64) && decide (d < 16) && decide (a < 16) && decide (b < 16)
  | .lsl n d a k => decide (n < 64) && decide (d < 16) && decide (a < 16) && decide (k < 64)
  | .asr n d a k => decide (n < 64) && decide (d < 16) && decide (a < 16) && decide (k < 64)
  | .lsr n d a k => decide (n < 64) && decide (d < 16) && decide (a < 16) && decide (k < 64)
  | .addImm n d a imm => decide (n < 64) && decide (d < 16) && decide (a < 16) && decide (imm < 2 ^ 18)
  | .movImm n d imm => decide (n < 64) && decide (d < 16) && decide (imm < 2 ^ 18)
  | .movh n d imm => decide (n < 64) && decide (d < 16) && decide (imm < 2 ^ 18)
  | .cmp n a b => decide (n < 64) && decide (a < 16) && decide (b < 16)
  | .cmpImm n a imm => decide (n < 64) && decide (a < 16) && decide (imm < 2 ^ 18)
  | .getl n d a k => decide (n < 64) && decide (d < 16) && decide (a < 16) && decide (k < 16)
  | .setl n d a k => decide (n < 64) && decide (d < 16) && decide (a < 16) && decide (k < 16)
  | .rsum n d ac sh x => decide (n < 64) && decide (d < 16) && decide (ac < 4) && decide (sh < 64) && decide (x < 4)
  | .geta n d ac k x => decide (n < 64) && decide (d < 16) && decide (ac < 4) && decide (k < 16) && decide (x < 4)
  | .obx n a => decide (n < 64) && decide (a < 16)
  | .addAImm n p imm => decide (n < 64) && decide (p < 8) && decide (imm < 2 ^ 18)
  | .movAS n p q => decide (n < 64) && decide (p < 8) && decide (q < 16)
  | .movSA n p q => decide (n < 64) && decide (p < 8) && decide (q < 16)
  | .movMS n p q => decide (n < 64) && decide (p < 8) && decide (q < 16)
  | .movAImm n p imm => decide (n < 64) && decide (p < 8) && decide (imm < 2 ^ 18)
  | .movlM n p imm => decide (n < 64) && decide (p < 8) && decide (imm < 4096)
  | .movhM n p imm => decide (n < 64) && decide (p < 8) && decide (imm < 4096)
  | .mts n d sp => decide (n < 64) && decide (d < 16) && decide (sp < 128)
  | .mfs n d sp => decide (n < 64) && decide (d < 16) && decide (sp < 128)
  | .ld n d aa mm pm off _ => decide (n < 64) && decide (d < 16) && decide (aa < 8) && decide (mm < 8) && decide (pm < 4) && decide (off < 2 ^ 14)
  | .st n d aa mm pm off => decide (n < 64) && decide (d < 16) && decide (aa < 8) && decide (mm < 8) && decide (pm < 4) && decide (off < 2 ^ 14)
  | .ldc n d aa mm pm off _ => decide (n < 64) && decide (d < 16) && decide (aa < 8) && decide (mm < 8) && decide (pm < 4) && decide (off < 2 ^ 14)
  | .ldcb n d aa mm pm off _ => decide (n < 64) && decide (d < 16) && decide (aa < 8) && decide (mm < 8) && decide (pm < 4) && decide (off < 2 ^ 14)
  | .ldS n d aa mm pm off _ => decide (n < 64) && decide (d < 16) && decide (aa < 8) && decide (mm < 8) && decide (pm < 4) && decide (off < 2 ^ 14)
  | .stS n d aa mm pm off => decide (n < 64) && decide (d < 16) && decide (aa < 8) && decide (mm < 8) && decide (pm < 4) && decide (off < 2 ^ 14)
  | .ldw n d aa mm pm off _ => decide (n < 64) && decide (d < 16) && decide (aa < 8) && decide (mm < 8) && decide (pm < 4) && decide (off < 2 ^ 14)
  | .stw n d aa mm pm off => decide (n < 64) && decide (d < 16) && decide (aa < 8) && decide (mm < 8) && decide (pm < 4) && decide (off < 2 ^ 14)
  | .sin n d => decide (n < 64) && decide (d < 16)
  | .sout n a => decide (n < 64) && decide (a < 16)
  | .pass n => decide (n < 64)
  | .xmul n sh cj aa mm pm _ => decide (n < 64) && decide (sh < 64) && decide (cj < 2) && decide (aa < 8) && decide (mm < 8) && decide (pm < 4)
  | .tap n ac d aa mm pm off _ => decide (n < 64) && decide (ac < 4) && decide (d < 16) && decide (aa < 8) && decide (mm < 8) && decide (pm < 4) && decide (off < 4096)
  | .srch n d aa mm pm off => decide (n < 64) && decide (d < 16) && decide (aa < 8) && decide (mm < 8) && decide (pm < 4) && decide (off < 2 ^ 14)
  | .srchi n => decide (n < 64)
  | .fetch n a b aa rows dir pk => decide (n < 64) && decide (a < 16) && decide (b < 16) && decide (aa < 8) && decide (rows < 64) && decide (dir < 2) && decide (pk < 2)
  | .vadd n d a b => decide (n < 64) && decide (d < 16) && decide (a < 16) && decide (b < 16)
  | .vsub n d a b => decide (n < 64) && decide (d < 16) && decide (a < 16) && decide (b < 16)
  | .vmin n d a b => decide (n < 64) && decide (d < 16) && decide (a < 16) && decide (b < 16)
  | .vmax n d a b => decide (n < 64) && decide (d < 16) && decide (a < 16) && decide (b < 16)
  | .vand n d a b => decide (n < 64) && decide (d < 16) && decide (a < 16) && decide (b < 16)
  | .vor n d a b => decide (n < 64) && decide (d < 16) && decide (a < 16) && decide (b < 16)
  | .vxor n d a b => decide (n < 64) && decide (d < 16) && decide (a < 16) && decide (b < 16)
  | .vasr n d a sh x => decide (n < 64) && decide (d < 16) && decide (a < 16) && decide (sh < 64) && decide (x < 2)
  | .vlsl n d a sh => decide (n < 64) && decide (d < 16) && decide (a < 16) && decide (sh < 64)
  | .bcast n d a => decide (n < 64) && decide (d < 16) && decide (a < 16)
  | .mul n d a b sh cj => decide (n < 64) && decide (d < 16) && decide (a < 16) && decide (b < 16) && decide (sh < 64) && decide (cj < 2)
  | .mpy n ac a b cj => decide (n < 64) && decide (ac < 4) && decide (a < 16) && decide (b < 16) && decide (cj < 2)
  | .mac n ac a b cj => decide (n < 64) && decide (ac < 4) && decide (a < 16) && decide (b < 16) && decide (cj < 2)
  | .msu n ac a b cj => decide (n < 64) && decide (ac < 4) && decide (a < 16) && decide (b < 16) && decide (cj < 2)
  | .pwr n ac a => decide (n < 64) && decide (ac < 4) && decide (a < 16)
  | .rnd n d ac sh => decide (n < 64) && decide (d < 16) && decide (ac < 4) && decide (sh < 64)
  | .stgCommit m => anyMaster m
  | .stgClearCnt m => anyMaster m
  | .windowTimeout j k => decide (j < 4) && decide (k < 2 ^ 64)
  | .verdictWaitExpiry j k => decide (j < 4) && decide (k < 2 ^ 64)
  | .windowHandOut j c => decide (j < 4) && decide (c < 512)
  | .capArm m => anyMaster m
  | .capStop m => anyMaster m
  | .freezeNow m => anyMaster m
  | .captureTrigIn _ => true
  | .lanCommit m => anyMaster m
  | .lanReseed m => anyMaster m
  | .taskDispatch j => decide (j < 4)
  | .taskStart l => decide (l < 256)
  | .taskComplete l => decide (l < 256)
  | .lanDebugWrite m off _ => anyMaster m && (decide (off = 0x300) || (decide (0x310 ≤ off) && decide (off ≤ 0x32C))) && decide (off % 4 = 0)
  | .promotion j _ _ => decide (j < 4)
  | .notice j => decide (j < 4)
  | .periodEndMarker j k => decide (j < 4) && decide (k < 256)
  | .slotDrain n _ => decide (n < 8448)
  | .dumpCopyComplete j => decide (j < 4)
  | .slotClear n => decide (n < 8448)
  | .tagSet n => decide (n < 8448)
  | .mantleInitClear => true
  | .mntCommit m => anyMaster m
  | .canCommit m => anyMaster m
  | .blockSkewTimeout k b => decide (k < 16) && decide (b < 2 ^ 64)
  | .canWData m _ => anyMaster m
  | .copyLive m => anyMaster m
  | .copyComplete => true
  | .canSeal m => anyMaster m
  | .canUnseal m => anyMaster m
  | .canSwapNow m => anyMaster m
  | .dmaStart m c => anyMaster m && decide (c < 16)
  | .dmaDoorbell m c _ _ => anyMaster m && decide (c < 16)
  | .dmaAbort m c => anyMaster m && decide (c < 16)
  | .dmaClearCnt m c => anyMaster m && decide (c < 16)
  | .dmaEnWrite m _ => anyMaster m
  | .dmaBlockReset => true
  | .descriptorFetch c _ _ => decide (c < 16)
  | .readBurst c _ => decide (c < 16)
  | .writeBurst c => decide (c < 16)
  | .readResponse c _ _ _ => decide (c < 16)
  | .writeAck c _ _ => decide (c < 16)
  | .descriptorEnd c _ _ _ => decide (c < 16)
  | .cmpRdWrite m c v _ _ => anyMaster m && decide (c < 16) && decide (v < 2 ^ 17)
  | .memInit m => anyMaster m
  | .memTrainingComplete fail => decide (fail < 256)
  | .periodicRetrain c => decide (c < 8)
  | .periodicRetrainComplete c => decide (c < 8)
  | .fspReq m => anyMaster m
  | .fspInvalidate m => anyMaster m
  | .fspRateWrite m k v => anyMaster m && decide (k < 2) && decide (v < 8)
  | .fspSwitchComplete fail => decide (fail < 256)
  | .tempPoll ts => decide (ts.length = 8)
  | .srEntry c => decide (c < 8)
  | .srExit c _ => decide (c < 8)
  | .memRequest q m _ off len _ =>
    decide (q = masterPort m) && (anyMaster m || decide (m = 0x23) || decide (m = 0xFF)) && decide (off < 2 ^ 40) && decide (1 ≤ len) && decide (len ≤ 256)
  | .memIssue c _ _ _ => decide (c < 8)
  | .burstReadCheck off _ _ _ m => decide (off < 2 ^ 40) && decide (off % 32 = 0) && (anyMaster m || decide (m = 0x23) || decide (m = 0xFF))
  | .patrolScrub _ _ _ => true
  | .memCommit m => anyMaster m
  | .memErrAddrRead m => anyMaster m
  | .hifLinkUp width rate _ _ => decide (width < 3) && decide (rate < 4)
  | .hifLinkDown retired => decide (retired ≤ 64)
  | .hifRetrain m => anyMaster m
  | .configRequest _ q => q.wf
  | .bar0Access _ off len _ _ _ => decide (off < 2 ^ 28) && decide (1 ≤ len) && decide (len ≤ 64)
  | .apertureAccess _ off len _ _ _ => decide (off < 2 ^ 20) && decide (1 ≤ len) && decide (len ≤ 64)
  | .cxlMemRead addr _ => decide (addr < 2 ^ 52)
  | .cxlMemWrite addr en data _ => decide (addr < 2 ^ 52) && decide (en < 2 ^ 64) && decide (data.length = 64)
  | .snoop addr => decide (addr < 2 ^ 52)
  | .mbxDoorbell m => anyMaster m
  | .mbxResponse _ _ => true
  | .msixMessage v => decide (v < 32)
  | .bar2Access _ off _ => decide (off < 0x40000) && decide (off % 4 = 0)
  | .hifPerstN _ => true
  | .zmpDatagram port ip udp dst bytes _ _ => decide (port < 2) && decide (ip < 2 ^ 32) && decide (udp < 2 ^ 16) && decide (dst < 2 ^ 32) && decide (bytes.length ≤ 1472)
  | .read origin session ix el count => decide (origin < 4) && decide (session < 8) && decide (ix < 2 ^ 16) && decide (el < 256) && decide (count < 256)
  | .write origin session ix el count value _ _ => decide (origin < 4) && decide (session < 8) && decide (ix < 2 ^ 16) && decide (el < 256) && decide (count < 256) && decide (value.length ≤ 4072)
  | .writeStaged p origin session ix el count value => decide (p < 4) && decide (origin < 4) && decide (session < 8) && decide (ix < 2 ^ 16) && decide (el < 256) && decide (count < 256) && decide (value.length ≤ 4072)
  | .applyNow origin session p => decide (origin < 4) && decide (session < 8) && decide (p < 4)
  | .applyScheduled origin session p n dom policy trig ns => decide (origin < 4) && decide (session < 8) && decide (p < 4) && decide (n < 256) && decide (dom < 256) && decide (policy < 256) && decide (trig < 2 ^ 64) && decide (ns < 2 ^ 32)
  | .subscribe session ix el count mode interval => decide (session < 8) && decide (ix < 2 ^ 16) && decide (el < 256) && decide (count < 256) && decide (mode < 256) && decide (interval < 2 ^ 16)
  | .blockRead origin ix el off len => decide (origin < 4) && decide (ix < 2 ^ 16) && decide (el < 256) && decide (off < 2 ^ 64) && decide (len < 2 ^ 32)
  | .blockWrite origin session ix el off data => decide (origin < 4) && decide (session < 8) && decide (ix < 2 ^ 16) && decide (el < 256) && decide (off < 2 ^ 64) && decide (data.length ≤ 4064)
  | .logRead origin first len => decide (origin < 4) && decide (first < 2 ^ 64) && decide (len < 2 ^ 16)
  | .discover ip udp seq => decide (ip < 2 ^ 32) && decide (udp < 2 ^ 16) && decide (seq < 2 ^ 32)
  | .notifySend n k => decide (n < 8) && decide (k < 32)
  | .sessionTimeout n => decide (n < 8)
  | .psetClear origin session p => decide (origin < 4) && decide (session < 8) && decide (p < 4)
  | .psetApplyNow origin session p => decide (origin < 4) && decide (session < 8) && decide (p < 4)
  | .psetCheck origin session p => decide (origin < 4) && decide (session < 8) && decide (p < 4)
  | .restoreDefaults origin session v => decide (origin < 4) && decide (session < 8) && decide (v < 2 ^ 32)
  | .journalWrite => true
  | .logPersist => true
  | .bootRomStart slots update boot => wordsIn 0 0x800000 slots && wordsIn 0xE10000 0xE20000 update && wordsIn 0xE00000 0xE10000 boot
  | .firmwareInit dict stores => wordsIn 0x800000 0xA00000 dict && wordsIn 0xA00000 0xE40000 stores
  | .lamplighterReset retired => decide (retired ≤ 64)
  | .nvmWordWrite m _ _ => anyMaster m
  | .nvmWriteComplete _ => true
  | .nvmErrAddrRead m => anyMaster m
  | .thermalSample vals => decide (vals.length = 32) && vals.all (fun v => decide (v < 4096))
  | .voltageSample vals => decide (vals.length = 24) && vals.all (fun v => decide (v < 65536))
  | .eyeStart m l => anyMaster m && decide (l < 128)
  | .eyeComplete height width => decide (height < 2 ^ 16) && decide (width < 256)
  | .lifetimeWrite => true
  | .tempHistogramMinute => true
  | .lifetimeClear v => decide (v < 2 ^ 32)
  | .updateBegin origin session => decide (origin < 3) && decide (session < 8)
  | .updateCommit origin session _ => decide (origin < 3) && decide (session < 8)
  | .updateActivate origin session => decide (origin < 3) && decide (session < 8)
  | .updateConfirm origin session => decide (origin < 3) && decide (session < 8)
  | .updateRevert origin session => decide (origin < 3) && decide (session < 8)
  | .updateAbort origin session => decide (origin < 3) && decide (session < 8)
  | .faultEvent kind src sub addr access m => isFaultKind kind && decide (src < 256) && decide (sub < 256) && decide (addr < 2 ^ 48) && decide (access ≤ 8) && decide (m < 256)
  | .faultNotify => true
  | .snuffInAssert => true
  | .snuffInDeassert => true
  | .snuffNow m => anyMaster m
  | .snuffClear m => anyMaster m
  | .quietPeriodEnd => true
  | .recoveryWindowEnd => true
  | .firstClear m => anyMaster m
  | .fltCommit m => anyMaster m
  | .injectArm m => anyMaster m
  | .injectCancel m => anyMaster m
  | .c4ResetHold => true
  | .c4ResetRelease => true
  | .pairSenseChange _ => true
  | .claimAssert => true
  | .claimConfirm => true
  | .dualClaim => true
  | .claimRelease => true
  | .pairHoldWrite m _ => anyMaster m
  | .pairCommit m => anyMaster m
  | .pairClearCnt m => anyMaster m
  | .heartbeat payload => decide (payload.length = 16)
  | .heartbeatSend => true
  | .dumpDigest payload => decide (payload.length = 24)
  | .beamDigest payload => decide (payload.length = 16)
  | .digestSend => true
  | .pilotFrameError _ => true
  | .pilotDown => true
  | .digestWaitTimeout _ unit key => decide (unit < 16) && decide (key < 2 ^ 64)
  | .trimWaitTimeout => true
  | .snapNow m => anyMaster m
  | .pmrFreeze m => anyMaster m
  | .pmrUnfreeze m => anyMaster m
  | .clearAll m => anyMaster m
  | .pmrCommit m => anyMaster m
  | .snapshotCollectComplete => true
  | .snapLostRead m => anyMaster m
  | .porstAssert => true
  | .resetRelease cause pers _ => decide (cause < 7) && decide (pers < 4)
  | .brownOut => true
  | .wrstN => true
  | .resetKey m _ => anyMaster m
  | .refclkLoss => true
  | .pllUnlock k => decide (k < 4)
  | .topPersSel m v => anyMaster m && decide (v < 4)
  | .watchdogEnable m => anyMaster m
  | .watchdogKick m => anyMaster m
  | .watchdogExpiry => true
  | .trstN _ retired => decide (retired ≤ 32)
  | .pllLock k => decide (k < 4)
  | .smbAlert _ => true
  | .tck _ _ _ => true
  | .managementPortLink port _ => decide (port < 2)
  | .managementFrame port _ _ bytes => decide (port < 2) && decide (bytes.length ≤ 1522)
  | .dhcpMessage port type addr => decide (port < 2) && decide (type < 256) && decide (addr < 2 ^ 32)
  | .linkLocalFallback => true
  | .delayReqSend => true
  | .announceTimeout => true

end Sys2Proof
end

