-- ==== Sys2Proof/Machine/Settle.lean ====
section
/-! DEFINITION. Sys2Proof/Machine/Settle.lean: what every command ends with: the descriptors its commits discarded (R123), the block resets of C3 events (R607), the fetches a lamp
reset cuts short (R246), the packets that a snuff abandons (R151), the parameter sets whose slot is gone (R548) and the boot stage (R685); and the two
forms a command's meaning takes. -/
namespace Sys2Proof.Machine

def clearCuts (s : State) : State := { s with lmp := { s.lmp with cut := [] } }

/-- The fetch copies that lamp resets cut short. -/
def settleCuts (s : State) : State := s.lmp.cut.foldl (fun s x => fetchCut x.1 x.2 s) (clearCuts s)

def setBlockResets (l : List Nat) (s : State) : State := { s with flt := { s.flt with blockResets := l } }

/-- The block reset of one block (R607). -/
def blockReset (b : Nat) (s : State) : State :=
  if b = 0x00 then
    let (n, s) := s.draw
    retire (n % 65) (lamplighterReset s)
  else if b = 0x02 then schedReset s
  else if b = 0x0B then hifRetrain s
  else if b = 0x0D then dmaBlockReset s
  else if 0x20 ≤ b ∧ b ≤ 0x2F then settleLost 1024 (retrainAll passLost (b - 0x20) s)
  else if 0x40 ≤ b ∧ b ≤ 0x7F then settleCuts (lampReset (b - 0x40) s)
  else s

/-- The packets that a snuff abandons (R151) and the block resets, each block once: a C3 event that a block's own reset raises adds no second reset of it (DEDUCED, log 97). -/
def settleResets : Nat → List Nat → State → State
  | 0, _, s => setBlockResets [] (snuffLanes s)
  | k + 1, done, s =>
    match (snuffLanes s).flt.blockResets.find? fun b => !done.contains b with
    | none => setBlockResets [] (snuffLanes s)
    | some b => settleResets k (b :: done) (blockReset b (snuffLanes s))

def clearLost (s : State) : State := { s with links := { s.links with lost := [] } }

/-- The end of every command. -/
def settle (s : State) : State :=
  stageSettle (clearLost (clearCuts (psetSettle (settleResets 128 [] (settleCuts (settleLost 1024 s))))))

/-- A command that began in s and did what led to t ends: the queue is as it was. -/
def finish (s t : State) : State := { settle t with pending := s.pending }

/-- The meaning of a command that acts only while the device is out of reset. `ok`: its operands are well
formed. -/
def dev (ok : Bool) (f : State → State) (s : State) : Host.Outcome State Fault Refusal :=
  if ok then .next (if held s then s else finish s (f s)) else .fault .illFormed

/-- The meaning of a command that also acts on a device held in reset: resets, pins, clocks, thermal samples. -/
def pin (ok : Bool) (f : State → State) (s : State) : Host.Outcome State Fault Refusal :=
  if ok then .next (finish s (f s)) else .fault .illFormed

end Sys2Proof.Machine
end

