-- ==== Sys2Proof/Machine/Tick.lean ====
section
/-! DEFINITION. Sys2Proof/Machine/Tick.lean: one tick of the idle device. It stands for 4 ns (DESIGN CHOICE, log 1): TB0 advances (R49), the
performance counters that measure every cycle count (R653, R655, R658), and a halted lantern's hold time runs. -/
namespace Sys2Proof.Machine

/-- RX_FILL of a lane (R133). -/
def rxFill (s : State) (l : Nat) : Nat := getBits (liveWord s (lf (fun u i => Reg.LANE_CREDIT_RX_FILL u i) l).key 0) 31 24

/-- Transactions outstanding in the matrix: the DMA engine's bursts, requests that wait at the LPDDR6 ports of its masters, and the lamps'
copies. -/
def busOutstanding (s : State) : Nat :=
  sumOf (s.dma.chans.map fun x => x.2.reads.length + x.2.writes.length) +
    (s.mem.queue.filter fun q => decide (1 < q.port) && q.port != 7).length + (s.lmp.lamps.filter fun x => x.2.fetchJob.isSome).length

/-- The occupancy a kind O event measures (R658). The device's other state says what a bank's block holds now; (DEDUCED, log 102.) -/
def occupancy (s : State) (bank code : Nat) : Nat :=
  let lans := s.lan.lanterns.map Prod.snd
  if 0x24 ≤ bank then (if code = 0x13 then (s.lamp (bank - 0x24)).sin.length else (s.lamp (bank - 0x24)).sout.length)
  else if 0x14 ≤ bank then ((List.range 8).map fun j => rxFill s (8 * (bank - 0x14) + j)).foldl max 0
  else if bank = 0x10 then
    (if code = 0x13 then (lans.filter fun x => x.running.isSome && !x.done).length else sumOf (lans.map fun x => x.queue.length))
  else if bank = 0x11 then (s.mnt.slots.filter fun x => !x.2.queue.isEmpty).length
  else if bank = 0x0F then sumOf (s.stg.sets.map fun x => (x.2.wins.filter fun w => w.state == 1).length)
  else if bank = 0x12 then s.can.blocks.length
  else if bank = 0x0E then
    let as := (lensIns s).filterMap fun i => lead s i (s.lens.nextOut.getD 0)
    (match as with | [] => 0 | a :: r => (r.foldl max a - r.foldl min a).toNat)
  else if bank = 0x0C then s.mem.queue.length
  else if bank = 0x0D then ((List.range 16).filter fun c => chState s c == 1).length
  else if bank = 0x07 then busOutstanding s
  else 0

/-- The increment in one cycle of a kind E event that state alone decides. -/
def cycleEvent (s : State) (bank code : Nat) : Nat :=
  let lans := s.lan.lanterns.map Prod.snd
  if code = 1 then 1
  else if 0x14 ≤ bank ∧ bank < 0x24 ∧ code = 0x14 then ((List.range 8).filter fun j => creditWaits s (8 * (bank - 0x14) + j)).length
  else if 0x24 ≤ bank ∧ code = 0x11 then b2n (lampRunning s (bank - 0x24))
  else if bank = 0x10 ∧ code = 0x11 then (lans.filter fun x => x.running.isSome && !x.done).length
  else if bank = 0x10 ∧ code = 0x12 then (lans.filter fun x => lanternHeld x).length
  else if bank = 0x11 ∧ code = 0x14 then ((List.range 4).filter fun j => jobDead s j).length
  else 0

/-- What counter k of a bank adds in `n` cycles. -/
def cycleInc (n bank : Nat) (s : State) (k : Nat) : Nat :=
  let code := s.f (Reg.CTR_CFG_EVENT bank k)
  if s.f (Reg.CTR_CFG_MODE bank k) = 1 then n * cycleEvent s bank code
  else if s.f (Reg.CTR_CFG_MODE bank k) = 2 ∧ s.f (Reg.CTR_CFG_THRESH bank k) < occupancy s bank code then n
  else 0

/-- The banks with a configuration word set. -/
def liveBanks (s : State) : List Nat :=
  (s.regs.filter fun p => decide (0x41000 ≤ p.1) && decide (p.1 < 0x42900)).foldl (fun l p => insNat ((p.1 - 0x41000) / 64) l) []

def perfTick (s : State) : State :=
  if s.flag Reg.PMR_STATUS_FROZEN then s
  else
    ((liveBanks s).filter fun b => !bankGated s b).foldl (fun s b => perfRun (cycleInc (bankCycles b s) b) b (bankSize b) 0 0 s) s

/-- The lamps' clocks over `k` cycles of CLK_CORE: CYCLE counts, and each TIMER that is not zero counts down (R207). -/
def lampClocks (k : Nat) (s : State) : State :=
  let s := setLmp (fun l => { l with coreCycles := (l.coreCycles + k) % 2 ^ 36 }) s
  s.lmp.lamps.foldl (fun s x => updLamp x.1 (Lamp.timer k) s) s

/-- The idle device's tick; held in reset, nothing moves. -/
def tick (s : State) : State :=
  if held s then s
  else finish s (logDrain (spreadTick (lampClocks (coreCycles 5 s) (lanHoldTick (coreCycles 5 s) (perfTick (memClock 4 (tickTb0 s)))))))

end Sys2Proof.Machine
end

