-- ==== Sys2Proof/Machine/Commands.lean ====
section
/-! DEFINITION. Sys2Proof/Machine/Commands.lean: the shapes that the commands' meanings share: a command bit of a register, a
received wick, a request to the dictionary, and the host's accesses through BAR0 and BAR4 (R511, R512). -/
namespace Sys2Proof.Machine

/-! ## Registers -/

/-- One request granted by the matrix, counted for BMX's performance counters (R658). -/
def requested (s : State) : State := perfEvent 0x07 0x10 1 s

/-- The register at `key` takes master m's write of `w` and does `f`; the other fields of the word are written with what they hold.
(DESIGN CHOICE, log 18.) -/
def taken (m key : Nat) (w : Word) (f : State → State) (s : State) : State :=
  (logAfter m key (shownWord s key) w (f s)).respond true []

/-- Master m writes `w` to a register that does `f`. `gated`: a gated page discards the write. A master that R479 gives no register writes
is turned away by the matrix (R480). -/
def writeCmd (gated : Bool) (m key : Nat) (w : Word) (f : State → State) (s : State) : State :=
  if !masterReach m 4 true then (bmxFault FK.BMX_ACCESS 4 (0x40000000 + key) 2 m s).respond false []
  else
  let s := requested s
  if refusedWrite key m s then (bmxFault FK.BMX_ACCESS 4 (0x40000000 + key) 2 m s).respond false []
  else taken m key w (fun s => if gated && pageGated s (key / 0x10000) then s else f s) s

/-- A write of a command bit or of a word that acts (R8, R480, R501). -/
def regCmd (m key : Nat) (w : Word) (f : State → State) (s : State) : State := writeCmd true m key w f s

/-- A write of a commit bit, which a gated page takes too (R166, R496). -/
def commitCmd (m key : Nat) (w : Word) (f : State → State) (s : State) : State := writeCmd false m key w f s

/-- Master m reads a register word. -/
def regRead (m key : Nat) (s : State) : State :=
  busAccess { master := m, err := 0, host := [] } false (0x40000000 + key) 4 15 [] s

/-- The key of LANE_CMD of a receive lane. -/
def laneCmdKey (l : Nat) : Nat := 0x200108 + l / 8 * 0x10000 + l % 8 * 128

/-! ## Links -/

/-- A CRC-good wick arrives: its bits also pass a far-end loopback (R156). With a bad SYNC the received SYNC bits are free. -/
def rxWick (l type : Nat) (sync : Bool) (seq credit : Nat) (payload : List Byte) (f : State → State) (s : State) : State :=
  if sync then farLoop l (wickHeader type seq credit) (fitBytes 120 payload) (f s)
  else
    let (v, s) := s.draw
    farLoop l (v % 1024 * 2 ^ 22 + wickHeader type seq credit % 2 ^ 22) (fitBytes 120 payload) (f s)

/-! ## Lamps -/

/-- OUTBOX_READ, by the host: the read's answer carries the entry. -/
def outboxAnswer (n : Nat) (s : State) : State :=
  let (bs, s) := outboxRead 0x02 n s
  s.respond true bs

/-! ## The host's accesses -/

/-- BAR0_ACCESS (R511): one aligned word of the register pages, by master 0x02. Another access is refused; the matrix counts a refused
write and raises its fault. (DEDUCED, log 78.) -/
def barAccess (b : Writer) (write : Bool) (off len : Nat) (w : Word) (s : State) : State :=
  if !s.flag Reg.HIF_STATUS_LINK_UP then s.respond false (zeros len)
  else if len ≠ 4 ∨ off % 4 ≠ 0 then
    (if write then bmxFault FK.BMX_ACCESS 4 (0x40000000 + off) 2 2 s else s).respond false (zeros len)
  else busAccess b write (0x40000000 + off) 4 15 (leBytes 4 w.toNat) s

/-- The fast-layer address of an offset of BAR4. -/
def apertureAddr (s : State) (off : Nat) : Nat :=
  s.f Reg.HIF_APERTURE_LO * 2 ^ 20 + s.f Reg.HIF_APERTURE_HI * 2 ^ 32 + off

/-- APERTURE_ACCESS (R512): never to the low window or to the register pages. -/
def apertureAccess (write : Bool) (off len en : Nat) (data : List Byte) (err : Nat) (s : State) : State :=
  let a := apertureAddr s off
  if !s.flag Reg.HIF_STATUS_LINK_UP ∨ off % len ≠ 0 ∨ off / 64 ≠ (off + len - 1) / 64 then s.respond false (zeros len)
  else if routeTo a len = some 4 ∨ routeTo a len = some 0 then
    (bmxFault FK.BMX_ACCESS ((routeTo a len).getD 0) a (if write then 2 else 1) 2 s).respond false (zeros len)
  else busAccess { master := 2, err := err, host := [] } write a len en data s

/-! ## Requests to the dictionary -/

/-- Bytes that a response may carry (R534, R550). -/
def payloadLimit (origin : Nat) : Nat := if origin = 1 then 1400 else 4072

/-- The Lamplighter takes requests of an origin class: 0 H and 3 M by the mailbox, 1 N by ZMP, 2 F once it runs.
(DEDUCED, log 79.) -/
def takesOrigin (s : State) (origin : Nat) : Bool :=
  if origin = 1 then s.mgmt.zmpOn
  else if origin = 2 then !s.flag Reg.NVM_STATUS_RECOVERY && decide (1 ≤ s.mgmt.bootSteps)
  else mailboxServed s

/-- A request for index `ix`: its answer is the STATUS byte and the payload. In recovery mode only two indices answer (R573). A request
that the Lamplighter does not take yet waits. -/
def served (origin ix : Nat) (f : State → Answer × State) (s : State) : State :=
  if !takesOrigin s origin then s
  else if s.flag Reg.NVM_STATUS_RECOVERY ∧ ix ≠ 0x0000 ∧ ix ≠ 0xA000 then s.respond false (leBytes 1 St.noObject)
  else
    let (a, s) := f s
    s.respond (a.1 == St.ok) (leBytes 1 a.1 ++ a.2)

/-- A request for elements: COUNT 0, or another COUNT than 1 with element 0xFF, answers RANGE (R533). -/
def servedElems (origin ix el count : Nat) (f : State → Answer × State) (s : State) : State :=
  served origin ix (fun s => if badCount el count then ((St.range, []), s) else f s) s

/-- DISCOVER from an address and port (R557). -/
def discoverNow (ip udp seq : Nat) (s : State) : State :=
  if !s.mgmt.zmpOn then s
  else
    dictDiscover ip udp { version := 1, opcode := 0xA, flags := 0, session := 0xFF, seq := seq, ix := 0, el := 0, count := 0, status := 0,
                          reserved := 0, group := 0, payload := [] } s

end Sys2Proof.Machine
end

