-- ==== Sys2Proof/Machine/CmdBringup.lean ====
section
/-! DEFINITION. Sys2Proof/Machine/CmdBringup.lean: the meanings of the commands of resets, clocks, straps, watchdog and pins. -/
namespace Sys2Proof.Machine

/-- PORST_ASSERT. -/
def execPorstAssert (s : State) : Host.Outcome State Fault Refusal :=
  pin (true) (fun s => Machine.porstAssert s) s

/-- RESET_RELEASE. -/
def execResetRelease (cause pers : Nat) (prio : Bool) (s : State) : Host.Outcome State Fault Refusal :=
  pin (decide (cause < 7) && decide (pers < 4)) (fun s => Machine.resetRelease cause pers prio s) s

/-- BROWN_OUT. -/
def execBrownOut (s : State) : Host.Outcome State Fault Refusal :=
  pin (true) (fun s => Machine.brownOut s) s

/-- WRST_N. -/
def execWrstN (s : State) : Host.Outcome State Fault Refusal :=
  pin (true) (fun s => wrstLow s) s

/-- RESET_KEY. -/
def execResetKey (m : Nat) (w : Word) (s : State) : Host.Outcome State Fault Refusal :=
  dev (anyMaster m) (fun s => regCmd m 0x8 w (Machine.resetKey w.toNat) s) s

/-- REFCLK_LOSS. -/
def execRefclkLoss (s : State) : Host.Outcome State Fault Refusal :=
  pin (true) (fun s => Machine.refclkLoss s) s

/-- PLL_UNLOCK; `k` = 3: the host interface's reference or PLL. -/
def execPllUnlock (k : Nat) (s : State) : Host.Outcome State Fault Refusal :=
  pin (decide (k < 4)) (fun s => if k = 3 then hifClockLoss s else Machine.pllUnlock k s) s

/-- TOP_PERS_SEL. -/
def execTopPersSel (m v : Nat) (s : State) : Host.Outcome State Fault Refusal :=
  dev (anyMaster m && decide (v < 4)) (fun s => regCmd m 0x18 (BitVec.ofNat 32 v) (persSel v) s) s

/-- WATCHDOG_ENABLE. -/
def execWatchdogEnable (m : Nat) (s : State) : Host.Outcome State Fault Refusal :=
  dev (anyMaster m) (fun s => regCmd m 0x1C 0x10000 Machine.watchdogEnable s) s

/-- WATCHDOG_KICK. -/
def execWatchdogKick (m : Nat) (s : State) : Host.Outcome State Fault Refusal :=
  dev (anyMaster m) (fun s => regCmd m 0x1C 0x20000 Machine.watchdogKick s) s

/-- WATCHDOG_EXPIRY. -/
def execWatchdogExpiry (s : State) : Host.Outcome State Fault Refusal :=
  dev (true) (fun s => Machine.watchdogExpiry s) s

/-- TRST_N. -/
def execTrstN (high : Bool) (retired : Nat) (s : State) : Host.Outcome State Fault Refusal :=
  pin (decide (retired ≤ 32)) (fun s => trstPin high retired s) s

/-- PLL_LOCK. -/
def execPllLock (k : Nat) (s : State) : Host.Outcome State Fault Refusal :=
  pin (decide (k < 4)) (fun s => Machine.pllLock k s) s

/-- SMB_ALERT. -/
def execSmbAlert (asserted : Bool) (s : State) : Host.Outcome State Fault Refusal :=
  pin (true) (fun s => Machine.smbAlert asserted s) s

/-- TCK. -/
def execTck (rising tms tdi : Bool) (s : State) : Host.Outcome State Fault Refusal :=
  pin (true) (fun s => Machine.tck rising tms tdi s) s

end Sys2Proof.Machine
end

