-- ==== Sys2Proof/Machine/CmdCandelabra.lean ====
section
/-! DEFINITION. Sys2Proof/Machine/CmdCandelabra.lean: the meanings of the commands of the Candelabra. -/
namespace Sys2Proof.Machine

/-- CAN_COMMIT. -/
def execCanCommit (m : Nat) (s : State) : Host.Outcome State Fault Refusal :=
  dev (anyMaster m) (fun s => commitCmd m 0x120004 1 (groupCommit 0x120) s) s

/-- BLOCK_SKEW_TIMEOUT. -/
def execBlockSkewTimeout (k b : Nat) (s : State) : Host.Outcome State Fault Refusal :=
  dev (decide (k < 16) && decide (b < 2 ^ 64)) (fun s => closeBlock k b true s) s

/-- CAN_W_DATA. -/
def execCanWData (m : Nat) (w : Word) (s : State) : Host.Outcome State Fault Refusal :=
  dev (anyMaster m) (fun s => regCmd m 0x12001C w (canData w) s) s

/-- COPY_LIVE. -/
def execCopyLive (m : Nat) (s : State) : Host.Outcome State Fault Refusal :=
  dev (anyMaster m) (fun s => regCmd m 0x120010 8 canCopyLive s) s

/-- COPY_COMPLETE. -/
def execCopyComplete (s : State) : Host.Outcome State Fault Refusal :=
  dev (true) (fun s => canCopyDone s) s

/-- CAN_SEAL. -/
def execCanSeal (m : Nat) (s : State) : Host.Outcome State Fault Refusal :=
  dev (anyMaster m) (fun s => regCmd m 0x120010 1 Machine.canSeal s) s

/-- CAN_UNSEAL. -/
def execCanUnseal (m : Nat) (s : State) : Host.Outcome State Fault Refusal :=
  dev (anyMaster m) (fun s => regCmd m 0x120010 2 Machine.canUnseal s) s

/-- CAN_SWAP_NOW. -/
def execCanSwapNow (m : Nat) (s : State) : Host.Outcome State Fault Refusal :=
  dev (anyMaster m) (fun s => regCmd m 0x120010 4 Machine.canSwapNow s) s

end Sys2Proof.Machine
end

