-- ==== Sys2Proof/Machine/CmdCounter.lean ====
section
/-! DEFINITION. Sys2Proof/Machine/CmdCounter.lean: the meanings of the commands of counters and snapshots. -/
namespace Sys2Proof.Machine

/-- SNAP_NOW. -/
def execSnapNow (m : Nat) (s : State) : Host.Outcome State Fault Refusal :=
  dev (anyMaster m) (fun s => regCmd m 0x40000 1 Machine.snapNow s) s

/-- PMR_FREEZE. -/
def execPmrFreeze (m : Nat) (s : State) : Host.Outcome State Fault Refusal :=
  dev (anyMaster m) (fun s => regCmd m 0x40000 2 Machine.pmrFreeze s) s

/-- PMR_UNFREEZE. -/
def execPmrUnfreeze (m : Nat) (s : State) : Host.Outcome State Fault Refusal :=
  dev (anyMaster m) (fun s => regCmd m 0x40000 4 Machine.pmrUnfreeze s) s

/-- CLEAR_ALL. -/
def execClearAll (m : Nat) (s : State) : Host.Outcome State Fault Refusal :=
  dev (anyMaster m) (fun s => regCmd m 0x40000 8 pmrClearAll s) s

/-- PMR_COMMIT. -/
def execPmrCommit (m : Nat) (s : State) : Host.Outcome State Fault Refusal :=
  dev (anyMaster m) (fun s => commitCmd m 0x40004 1 (groupCommit 0x40) s) s

/-- SNAPSHOT_COLLECT_COMPLETE. -/
def execSnapshotCollectComplete (s : State) : Host.Outcome State Fault Refusal :=
  dev (true) (fun s => snapComplete s) s

/-- SNAP_LOST_READ. -/
def execSnapLostRead (m : Nat) (s : State) : Host.Outcome State Fault Refusal :=
  dev (anyMaster m) (fun s => regRead m Reg.PMR_CNT_SNAP_LOST.key s) s

end Sys2Proof.Machine
end

