-- ==== Sys2Proof/Machine/CmdDictionary.lean ====
section
/-! DEFINITION. Sys2Proof/Machine/CmdDictionary.lean: the meanings of the commands of the dictionary and ZMP. -/
namespace Sys2Proof.Machine

/-- ZMP_DATAGRAM. -/
def execZmpDatagram (port ip udp dst : Nat) (bytes host : List Byte) (bad : Bool) (s : State) : Host.Outcome State Fault Refusal :=
  dev (decide (port < 2) && decide (ip < 2 ^ 32) && decide (udp < 2 ^ 16) && decide (dst < 2 ^ 32) && decide (bytes.length ≤ 1472))
    (fun s => Machine.zmpDatagram port ip udp dst bytes host bad s) s

/-- READ. -/
def execRead (origin session ix el count : Nat) (s : State) : Host.Outcome State Fault Refusal :=
  dev (decide (origin < 4) && decide (session < 8) && decide (ix < 2 ^ 16) && decide (el < 256) && decide (count < 256))
    (fun s => servedElems origin ix el count (dictRead origin ix el count (payloadLimit origin)) s) s

/-- WRITE. -/
def execWrite (origin session ix el count : Nat) (value host : List Byte) (bad : Bool) (s : State) : Host.Outcome State Fault Refusal :=
  dev (decide (origin < 4) && decide (session < 8) && decide (ix < 2 ^ 16) && decide (el < 256) && decide (count < 256) && decide (value.length ≤ 4072))
    (fun s => servedElems origin ix el count (dictWrite origin session ix el count value host bad) s) s

/-- WRITE_STAGED. -/
def execWriteStaged (p origin session ix el count : Nat) (value : List Byte) (s : State) : Host.Outcome State Fault Refusal :=
  dev (decide (p < 4) && decide (origin < 4) && decide (session < 8) && decide (ix < 2 ^ 16) && decide (el < 256) && decide (count < 256) && decide (value.length ≤ 4072))
    (fun s => servedElems origin ix el count (dictStage origin session p ix el count value) s) s

/-- APPLY_NOW. -/
def execApplyNow (origin session p : Nat) (s : State) : Host.Outcome State Fault Refusal :=
  dev (decide (origin < 4) && decide (session < 8) && decide (p < 4))
    (fun s => served origin 0x1200 (fun s => Machine.applyNow p origin session (logDrain s)) s) s

/-- APPLY_SCHEDULED. -/
def execApplyScheduled (origin session p n dom policy trig ns : Nat) (s : State) : Host.Outcome State Fault Refusal :=
  dev (decide (origin < 4) && decide (session < 8) && decide (p < 4) && decide (n < 256) && decide (dom < 256) && decide (policy < 256) && decide (trig < 2 ^ 64) && decide (ns < 2 ^ 32))
    (fun s => served origin 0x1200 (applyFields origin session p n dom policy trig ns) s) s

/-- SUBSCRIBE. -/
def execSubscribe (session ix el count mode interval : Nat) (s : State) : Host.Outcome State Fault Refusal :=
  dev (decide (session < 8) && decide (ix < 2 ^ 16) && decide (el < 256) && decide (count < 256) && decide (mode < 256) && decide (interval < 2 ^ 16))
    (fun s => servedElems 1 ix el count (dictSubscribe session ix el count (leBytes 1 mode ++ leBytes 1 0 ++ leBytes 2 interval)) s) s

/-- BLOCK_READ. -/
def execBlockRead (origin ix el off len : Nat) (s : State) : Host.Outcome State Fault Refusal :=
  dev (decide (origin < 4) && decide (ix < 2 ^ 16) && decide (el < 256) && decide (off < 2 ^ 64) && decide (len < 2 ^ 32))
    (fun s => served origin ix (Machine.blockRead origin ix el (leBytes 8 off ++ leBytes 4 len) (payloadLimit origin)) s) s

/-- BLOCK_WRITE. -/
def execBlockWrite (origin session ix el off : Nat) (data : List Byte) (s : State) : Host.Outcome State Fault Refusal :=
  dev (decide (origin < 4) && decide (session < 8) && decide (ix < 2 ^ 16) && decide (el < 256) && decide (off < 2 ^ 64) && decide (data.length ≤ 4064))
    (fun s => served origin ix (Machine.blockWrite origin session ix el (leBytes 8 off ++ data)) s) s

/-- LOG_READ. -/
def execLogRead (origin first len : Nat) (s : State) : Host.Outcome State Fault Refusal :=
  dev (decide (origin < 4) && decide (first < 2 ^ 64) && decide (len < 2 ^ 16))
    (fun s => served origin 0x1100 (Machine.logRead (leBytes 8 first ++ leBytes 2 len) (if origin = 1 then 43 else 126) (payloadLimit origin)) s) s

/-- DISCOVER. -/
def execDiscover (ip udp seq : Nat) (s : State) : Host.Outcome State Fault Refusal :=
  dev (decide (ip < 2 ^ 32) && decide (udp < 2 ^ 16) && decide (seq < 2 ^ 32)) (fun s => discoverNow ip udp seq s) s

/-- NOTIFY_SEND. -/
def execNotifySend (n k : Nat) (s : State) : Host.Outcome State Fault Refusal :=
  dev (decide (n < 8) && decide (k < 32)) (fun s => Machine.notifySend n k s) s

/-- SESSION_TIMEOUT. -/
def execSessionTimeout (n : Nat) (s : State) : Host.Outcome State Fault Refusal :=
  dev (decide (n < 8)) (fun s => Machine.sessionTimeout n s) s

/-- PSET_CLEAR. -/
def execPsetClear (origin session p : Nat) (s : State) : Host.Outcome State Fault Refusal :=
  dev (decide (origin < 4) && decide (session < 8) && decide (p < 4))
    (fun s => served origin 0x1200 (dictWrite origin session (0x1200 + p) 1 1 [1] [] false) s) s

/-- PSET_APPLY_NOW. -/
def execPsetApplyNow (origin session p : Nat) (s : State) : Host.Outcome State Fault Refusal :=
  dev (decide (origin < 4) && decide (session < 8) && decide (p < 4))
    (fun s => served origin 0x1200 (dictWrite origin session (0x1200 + p) 1 1 [2] [] false) s) s

/-- PSET_CHECK. -/
def execPsetCheck (origin session p : Nat) (s : State) : Host.Outcome State Fault Refusal :=
  dev (decide (origin < 4) && decide (session < 8) && decide (p < 4))
    (fun s => served origin 0x1200 (dictWrite origin session (0x1200 + p) 1 1 [3] [] false) s) s

/-- RESTORE_DEFAULTS. -/
def execRestoreDefaults (origin session v : Nat) (s : State) : Host.Outcome State Fault Refusal :=
  dev (decide (origin < 4) && decide (session < 8) && decide (v < 2 ^ 32))
    (fun s => served origin 0x1000 (dictWrite origin session 0x1000 8 1 (leBytes 4 v) [] false) s) s

/-- JOURNAL_WRITE. -/
def execJournalWrite (s : State) : Host.Outcome State Fault Refusal :=
  dev (true) (fun s => Machine.journalWrite s) s

/-- LOG_PERSIST. -/
def execLogPersist (s : State) : Host.Outcome State Fault Refusal :=
  dev (true) (fun s => Machine.logPersist s) s

end Sys2Proof.Machine
end

