-- ==== Sys2Proof/Machine/CmdDma.lean ====
section
/-! DEFINITION. Sys2Proof/Machine/CmdDma.lean: the meanings of the commands of the DMA engine. -/
namespace Sys2Proof.Machine

/-- DMA_START. -/
def execDmaStart (m c : Nat) (s : State) : Host.Outcome State Fault Refusal :=
  dev (anyMaster m && decide (c < 16)) (fun s => regCmd m (0xD0100 + c * 64 + 0) 1 (Machine.dmaStart c) s) s

/-- DMA_DOORBELL. -/
def execDmaDoorbell (m c err : Nat) (host : List Byte) (s : State) : Host.Outcome State Fault Refusal :=
  dev (anyMaster m && decide (c < 16))
    (fun s => regCmd m (0xD0100 + c * 64 + 0) 2 (Machine.dmaDoorbell c err host) s) s

/-- DMA_ABORT. -/
def execDmaAbort (m c : Nat) (s : State) : Host.Outcome State Fault Refusal :=
  dev (anyMaster m && decide (c < 16)) (fun s => regCmd m (0xD0100 + c * 64 + 0) 4 (Machine.dmaAbort c) s) s

/-- DMA_CLEAR_CNT. -/
def execDmaClearCnt (m c : Nat) (s : State) : Host.Outcome State Fault Refusal :=
  dev (anyMaster m && decide (c < 16)) (fun s => regCmd m (0xD0100 + c * 64 + 0) 8 (Machine.dmaClearCnt c) s) s

/-- DMA_EN_WRITE. -/
def execDmaEnWrite (m : Nat) (en : Bool) (s : State) : Host.Outcome State Fault Refusal :=
  dev (anyMaster m) (fun s => regCmd m 0xD0000 (BitVec.ofNat 32 (b2n en)) (dmaEnable en) s) s

/-- DMA_BLOCK_RESET. -/
def execDmaBlockReset (s : State) : Host.Outcome State Fault Refusal :=
  dev (true) (fun s => Machine.dmaBlockReset s) s

/-- DESCRIPTOR_FETCH. -/
def execDescriptorFetch (c err : Nat) (host : List Byte) (s : State) : Host.Outcome State Fault Refusal :=
  dev (decide (c < 16)) (fun s => descFetch c err host s) s

/-- READ_BURST. -/
def execReadBurst (c : Nat) (dst : Bool) (s : State) : Host.Outcome State Fault Refusal :=
  dev (decide (c < 16)) (fun s => Machine.readBurst c dst s) s

/-- WRITE_BURST. -/
def execWriteBurst (c : Nat) (s : State) : Host.Outcome State Fault Refusal :=
  dev (decide (c < 16)) (fun s => Machine.writeBurst c s) s

/-- READ_RESPONSE. -/
def execReadResponse (c k err : Nat) (host : List Byte) (s : State) : Host.Outcome State Fault Refusal :=
  dev (decide (c < 16)) (fun s => dmaReadResponse c k err host s) s

/-- WRITE_ACK. -/
def execWriteAck (c k err : Nat) (s : State) : Host.Outcome State Fault Refusal :=
  dev (decide (c < 16)) (fun s => dmaWriteAck c k err s) s

/-- DESCRIPTOR_END. -/
def execDescriptorEnd (c err : Nat) (host again : List Byte) (s : State) : Host.Outcome State Fault Refusal :=
  dev (decide (c < 16)) (fun s => descEnd c err host again s) s

/-- CMP_RD_WRITE. -/
def execCmpRdWrite (m c v err : Nat) (host : List Byte) (s : State) : Host.Outcome State Fault Refusal :=
  dev (anyMaster m && decide (c < 16) && decide (v < 2 ^ 17))
    (fun s => regCmd m (0xD0100 + c * 64 + 0x28) (BitVec.ofNat 32 v) (Machine.cmpRdWrite c v err host) s) s

end Sys2Proof.Machine
end

