-- ==== Sys2Proof/Machine/CmdFault.lean ====
section
/-! DEFINITION. Sys2Proof/Machine/CmdFault.lean: the meanings of the commands of faults, snuff and injection. -/
namespace Sys2Proof.Machine

/-- FAULT_EVENT. -/
def execFaultEvent (kind src sub addr access m : Nat) (s : State) : Host.Outcome State Fault Refusal :=
  dev (isFaultKind kind && decide (src < 256) && decide (sub < 256) && decide (addr < 2 ^ 48) && decide (access ≤ 8) && decide (m < 256))
    (fun s => raise { kind := kind, src := src, sub := sub, addr := addr, access := access, master := m, injected := false } s) s

/-- FAULT_NOTIFY. -/
def execFaultNotify (s : State) : Host.Outcome State Fault Refusal :=
  dev (true) (fun s => Machine.faultNotify s) s

/-- SNUFF_IN_ASSERT. -/
def execSnuffInAssert (s : State) : Host.Outcome State Fault Refusal :=
  pin (true) (fun s => Machine.snuffInAssert s) s

/-- SNUFF_IN_DEASSERT. -/
def execSnuffInDeassert (s : State) : Host.Outcome State Fault Refusal :=
  pin (true) (fun s => s.setF Reg.FLT_STATUS_IN_PIN 0) s

/-- SNUFF_NOW. -/
def execSnuffNow (m : Nat) (s : State) : Host.Outcome State Fault Refusal :=
  dev (anyMaster m) (fun s => regCmd m 0x30000 1 Machine.snuffNow s) s

/-- SNUFF_CLEAR. -/
def execSnuffClear (m : Nat) (s : State) : Host.Outcome State Fault Refusal :=
  dev (anyMaster m) (fun s => regCmd m 0x30000 2 Machine.snuffClear s) s

/-- QUIET_PERIOD_END. -/
def execQuietPeriodEnd (s : State) : Host.Outcome State Fault Refusal :=
  dev (true) (fun s => quietEnd s) s

/-- RECOVERY_WINDOW_END. -/
def execRecoveryWindowEnd (s : State) : Host.Outcome State Fault Refusal :=
  dev (true) (fun s => s.setF Reg.FLT_STATUS_RECOVERIES 0) s

/-- FIRST_CLEAR. -/
def execFirstClear (m : Nat) (s : State) : Host.Outcome State Fault Refusal :=
  dev (anyMaster m) (fun s => regCmd m 0x30000 4 Machine.firstClear s) s

/-- FLT_COMMIT. -/
def execFltCommit (m : Nat) (s : State) : Host.Outcome State Fault Refusal :=
  dev (anyMaster m) (fun s => commitCmd m 0x30014 1 (groupCommit 0x30) s) s

/-- INJECT_ARM. -/
def execInjectArm (m : Nat) (s : State) : Host.Outcome State Fault Refusal :=
  dev (anyMaster m) (fun s => commitCmd m 0x30084 1 Machine.injectArm s) s

/-- INJECT_CANCEL. -/
def execInjectCancel (m : Nat) (s : State) : Host.Outcome State Fault Refusal :=
  dev (anyMaster m) (fun s => regCmd m 0x30084 2 injectEnd s) s

/-- C4_RESET_HOLD. -/
def execC4ResetHold (s : State) : Host.Outcome State Fault Refusal :=
  pin (true) (fun s => c4Hold s) s

/-- C4_RESET_RELEASE. -/
def execC4ResetRelease (s : State) : Host.Outcome State Fault Refusal :=
  pin (true) (fun s => c4Release s) s

end Sys2Proof.Machine
end

