-- ==== Sys2Proof/Machine/CmdHost.lean ====
section
/-! DEFINITION. Sys2Proof/Machine/CmdHost.lean: the meanings of the commands of the host interface. -/
namespace Sys2Proof.Machine

/-- HIF_LINK_UP. -/
def execHifLinkUp (width rate : Nat) (cxl flit256 : Bool) (s : State) : Host.Outcome State Fault Refusal :=
  dev (decide (width < 3) && decide (rate < 4)) (fun s => Machine.hifLinkUp width rate cxl flit256 s) s

/-- HIF_LINK_DOWN. -/
def execHifLinkDown (retired : Nat) (s : State) : Host.Outcome State Fault Refusal :=
  dev (decide (retired ≤ 64)) (fun s => Machine.hifLinkDown (if s.flag Reg.HIF_STATUS_LINK_UP then retire retired s else s)) s

/-- HIF_RETRAIN. -/
def execHifRetrain (m : Nat) (s : State) : Host.Outcome State Fault Refusal :=
  dev (anyMaster m) (fun s => regCmd m 0xB0000 0x20 Machine.hifRetrain s) s

/-- CONFIG_REQUEST. -/
def execConfigRequest (loaded : Bool) (q : CfgReq) (s : State) : Host.Outcome State Fault Refusal :=
  dev (q.wf) (fun s => Machine.configRequest loaded q s) s

/-- BAR0_ACCESS. -/
def execBar0Access (write : Bool) (off len : Nat) (w : Word) (err : Nat) (host : List Byte) (s : State) : Host.Outcome State Fault Refusal :=
  dev (decide (off < 2 ^ 28) && decide (1 ≤ len) && decide (len ≤ 64))
    (fun s => barAccess { master := 2, err := err, host := host } write off len w s) s

/-- APERTURE_ACCESS. -/
def execApertureAccess (write : Bool) (off len en : Nat) (data : List Byte) (err : Nat) (s : State) : Host.Outcome State Fault Refusal :=
  dev (decide (off < 2 ^ 20) && decide (1 ≤ len) && decide (len ≤ 64))
    (fun s => Machine.apertureAccess write off len en data err s) s

/-- CXL_MEM_READ. -/
def execCxlMemRead (addr err : Nat) (s : State) : Host.Outcome State Fault Refusal :=
  dev (decide (addr < 2 ^ 52)) (fun s => Machine.cxlMemRead addr err s) s

/-- CXL_MEM_WRITE. -/
def execCxlMemWrite (addr en : Nat) (data : List Byte) (err : Nat) (s : State) : Host.Outcome State Fault Refusal :=
  dev (decide (addr < 2 ^ 52) && decide (en < 2 ^ 64) && decide (data.length = 64))
    (fun s => Machine.cxlMemWrite addr en data err s) s

/-- SNOOP. -/
def execSnoop (addr : Nat) (s : State) : Host.Outcome State Fault Refusal :=
  dev (decide (addr < 2 ^ 52)) (fun s => Machine.snoop s) s

/-- MBX_DOORBELL. -/
def execMbxDoorbell (m : Nat) (s : State) : Host.Outcome State Fault Refusal :=
  dev (anyMaster m) (fun s => regCmd m 0xB0200 1 (Machine.mbxDoorbell m) s) s

/-- MBX_RESPONSE. -/
def execMbxResponse (host : List Byte) (bad : Bool) (s : State) : Host.Outcome State Fault Refusal :=
  dev (true) (fun s => Machine.mbxResponse host bad s) s

/-- MSIX_MESSAGE. -/
def execMsixMessage (v : Nat) (s : State) : Host.Outcome State Fault Refusal :=
  dev (decide (v < 32)) (fun s => Machine.msixMessage v s) s

/-- BAR2_ACCESS. -/
def execBar2Access (write : Bool) (off : Nat) (w : Word) (s : State) : Host.Outcome State Fault Refusal :=
  dev (decide (off < 0x40000) && decide (off % 4 = 0)) (fun s => Machine.bar2Access write off w.toNat s) s

/-- HIF_PERST_N. -/
def execHifPerstN (high : Bool) (s : State) : Host.Outcome State Fault Refusal :=
  pin (true) (fun s => hifPerst high s) s

end Sys2Proof.Machine
end

