-- ==== Sys2Proof/Machine/CmdLampControl.lean ====
section
/-! DEFINITION. Sys2Proof/Machine/CmdLampControl.lean: the meanings of the commands of the lamps: control. -/
namespace Sys2Proof.Machine

/-- LAMP_RUN. -/
def execLampRun (m n : Nat) (s : State) : Host.Outcome State Fault Refusal :=
  dev (anyMaster m && decide (n < 64)) (fun s => regCmd m (0x400000 + n * 0x10000 + 0) 1 (Machine.lampRun n) s) s

/-- LAMP_HALT. -/
def execLampHalt (m n : Nat) (s : State) : Host.Outcome State Fault Refusal :=
  dev (anyMaster m && decide (n < 64)) (fun s => regCmd m (0x400000 + n * 0x10000 + 0) 2 (Machine.lampHalt n) s) s

/-- LAMP_STEP. -/
def execLampStep (m n err : Nat) (s : State) : Host.Outcome State Fault Refusal :=
  dev (anyMaster m && decide (n < 64)) (fun s => regCmd m (0x400000 + n * 0x10000 + 0) 4 (Machine.lampStep n err) s) s

/-- LAMP_RESET. -/
def execLampReset (m n : Nat) (s : State) : Host.Outcome State Fault Refusal :=
  dev (anyMaster m && decide (n < 64)) (fun s => regCmd m (0x400000 + n * 0x10000 + 0) 8 (Machine.lampReset n) s) s

/-- LMP_DOORBELL. -/
def execLmpDoorbell (m n v : Nat) (s : State) : Host.Outcome State Fault Refusal :=
  dev (anyMaster m && decide (n < 64) && decide (v < 2 ^ 16))
    (fun s => regCmd m (0x400000 + n * 0x10000 + 0x10) (BitVec.ofNat 32 v) (lampDoorbell n v) s) s

/-- LMP_COMMIT. -/
def execLmpCommit (m n : Nat) (s : State) : Host.Outcome State Fault Refusal :=
  dev (anyMaster m && decide (n < 64)) (fun s => commitCmd m (0x400000 + n * 0x10000 + 0x18) 1 (groupCommit (16 * (0x40 + n))) s) s

/-- LAMP_SEAL. -/
def execLampSeal (m n : Nat) (s : State) : Host.Outcome State Fault Refusal :=
  dev (anyMaster m && decide (n < 64)) (fun s => regCmd m (0x400000 + n * 0x10000 + 0x1C) 1 (Machine.lampSeal n) s) s

/-- LAMP_UNSEAL. -/
def execLampUnseal (m n : Nat) (s : State) : Host.Outcome State Fault Refusal :=
  dev (anyMaster m && decide (n < 64)) (fun s => regCmd m (0x400000 + n * 0x10000 + 0x1C) 2 (Machine.lampUnseal n) s) s

/-- LAMP_SWAP_NOW. -/
def execLampSwapNow (m n : Nat) (s : State) : Host.Outcome State Fault Refusal :=
  dev (anyMaster m && decide (n < 64)) (fun s => regCmd m (0x400000 + n * 0x10000 + 0x1C) 4 (Machine.lampSwapNow n) s) s

/-- DBG_DATA_WRITE. -/
def execDbgDataWrite (m n : Nat) (w : Word) (s : State) : Host.Outcome State Fault Refusal :=
  dev (anyMaster m && decide (n < 64)) (fun s => regCmd m (0x400000 + n * 0x10000 + 0x34) w (dbgWrite n w.toNat) s) s

/-- INTERRUPT_ENTRY. -/
def execInterruptEntry (n : Nat) (s : State) : Host.Outcome State Fault Refusal :=
  dev (decide (n < 64)) (fun s => lampInterrupt n s) s

/-- LAMP_TIMER_EXPIRY. -/
def execLampTimerExpiry (n : Nat) (s : State) : Host.Outcome State Fault Refusal :=
  dev (decide (n < 64)) (fun s => Machine.lampTimerExpiry n s) s

/-- FETCH_COMPLETE. -/
def execFetchComplete (n err : Nat) (s : State) : Host.Outcome State Fault Refusal :=
  dev (decide (n < 64)) (fun s => Machine.fetchComplete n err s) s

/-- OUTBOX_READ. -/
def execOutboxRead (n : Nat) (s : State) : Host.Outcome State Fault Refusal :=
  dev (decide (n < 64)) (fun s => outboxAnswer n s) s

/-- SOUT_RECORD_ENTER. -/
def execSoutRecordEnter (n : Nat) (overload : Bool) (s : State) : Host.Outcome State Fault Refusal :=
  dev (decide (n < 64)) (fun s => Machine.soutRecordEnter n overload s) s

/-- ILLEGAL_INSTRUCTION. -/
def execIllegalInstruction (n w : Nat) (s : State) : Host.Outcome State Fault Refusal :=
  dev (decide (n < 64) && decide (w < 2 ^ 32)) (fun s => lampIllegalWord n w s) s

end Sys2Proof.Machine
end

