-- ==== Sys2Proof/Machine/CmdLampControlFlow.lean ====
section
/-! DEFINITION. Sys2Proof/Machine/CmdLampControlFlow.lean: the meanings of the commands of lamp instructions: control flow. -/
namespace Sys2Proof.Machine

/-- NOP. -/
def execNop (n : Nat) (s : State) : Host.Outcome State Fault Refusal :=
  dev (decide (n < 64)) (fun s => lampIssue n (.nop) 0 s) s

/-- HALT. -/
def execHalt (n : Nat) (s : State) : Host.Outcome State Fault Refusal :=
  dev (decide (n < 64)) (fun s => lampIssue n (.halt) 0 s) s

/-- B. -/
def execB (n cnd tgt : Nat) (s : State) : Host.Outcome State Fault Refusal :=
  dev (decide (n < 64) && decide (cnd < 16) && decide (tgt < 8192)) (fun s => lampIssue n (.b cnd tgt) 0 s) s

/-- CALL. -/
def execCall (n tgt : Nat) (s : State) : Host.Outcome State Fault Refusal :=
  dev (decide (n < 64) && decide (tgt < 8192)) (fun s => lampIssue n (.call tgt) 0 s) s

/-- JR. -/
def execJr (n cnd a : Nat) (s : State) : Host.Outcome State Fault Refusal :=
  dev (decide (n < 64) && decide (cnd < 16) && decide (a < 16)) (fun s => lampIssue n (.jr cnd a) 0 s) s

/-- RETI. -/
def execReti (n : Nat) (s : State) : Host.Outcome State Fault Refusal :=
  dev (decide (n < 64)) (fun s => lampIssue n (.reti) 0 s) s

/-- LOOP. -/
def execLoop (n k e c : Nat) (s : State) : Host.Outcome State Fault Refusal :=
  dev (decide (n < 64) && decide (k < 4) && decide (e < 8192) && decide (c < 2048)) (fun s => lampIssue n (.loop k e c) 0 s) s

/-- LOOP_REG. -/
def execLoopReg (n k e a : Nat) (s : State) : Host.Outcome State Fault Refusal :=
  dev (decide (n < 64) && decide (k < 4) && decide (e < 8192) && decide (a < 16)) (fun s => lampIssue n (.loopReg k e a) 0 s) s

end Sys2Proof.Machine
end

