-- ==== Sys2Proof/Machine/CmdLampMemory.lean ====
section
/-! DEFINITION. Sys2Proof/Machine/CmdLampMemory.lean: the meanings of the commands of lamp instructions: memory, streams, search and fetch. -/
namespace Sys2Proof.Machine

/-- LD. -/
def execLd (n d aa mm pm off err : Nat) (s : State) : Host.Outcome State Fault Refusal :=
  dev (decide (n < 64) && decide (d < 16) && decide (aa < 8) && decide (mm < 8) && decide (pm < 4) && decide (off < 2 ^ 14))
    (fun s => lampIssue n (.ld d { aa := aa, mm := mm, pm := pm, off := off }) err s) s

/-- ST. -/
def execSt (n d aa mm pm off : Nat) (s : State) : Host.Outcome State Fault Refusal :=
  dev (decide (n < 64) && decide (d < 16) && decide (aa < 8) && decide (mm < 8) && decide (pm < 4) && decide (off < 2 ^ 14))
    (fun s => lampIssue n (.st d { aa := aa, mm := mm, pm := pm, off := off }) 0 s) s

/-- LDC. -/
def execLdc (n d aa mm pm off err : Nat) (s : State) : Host.Outcome State Fault Refusal :=
  dev (decide (n < 64) && decide (d < 16) && decide (aa < 8) && decide (mm < 8) && decide (pm < 4) && decide (off < 2 ^ 14))
    (fun s => lampIssue n (.ldc d { aa := aa, mm := mm, pm := pm, off := off }) err s) s

/-- LDCB. -/
def execLdcb (n d aa mm pm off err : Nat) (s : State) : Host.Outcome State Fault Refusal :=
  dev (decide (n < 64) && decide (d < 16) && decide (aa < 8) && decide (mm < 8) && decide (pm < 4) && decide (off < 2 ^ 14))
    (fun s => lampIssue n (.ldcb d { aa := aa, mm := mm, pm := pm, off := off }) err s) s

/-- LD_S. -/
def execLdS (n d aa mm pm off err : Nat) (s : State) : Host.Outcome State Fault Refusal :=
  dev (decide (n < 64) && decide (d < 16) && decide (aa < 8) && decide (mm < 8) && decide (pm < 4) && decide (off < 2 ^ 14))
    (fun s => lampIssue n (.ldS d { aa := aa, mm := mm, pm := pm, off := off }) err s) s

/-- ST_S. -/
def execStS (n d aa mm pm off : Nat) (s : State) : Host.Outcome State Fault Refusal :=
  dev (decide (n < 64) && decide (d < 16) && decide (aa < 8) && decide (mm < 8) && decide (pm < 4) && decide (off < 2 ^ 14))
    (fun s => lampIssue n (.stS d { aa := aa, mm := mm, pm := pm, off := off }) 0 s) s

/-- LDW. -/
def execLdw (n d aa mm pm off err : Nat) (s : State) : Host.Outcome State Fault Refusal :=
  dev (decide (n < 64) && decide (d < 16) && decide (aa < 8) && decide (mm < 8) && decide (pm < 4) && decide (off < 2 ^ 14))
    (fun s => lampIssue n (.ldw d { aa := aa, mm := mm, pm := pm, off := off }) err s) s

/-- STW. -/
def execStw (n d aa mm pm off : Nat) (s : State) : Host.Outcome State Fault Refusal :=
  dev (decide (n < 64) && decide (d < 16) && decide (aa < 8) && decide (mm < 8) && decide (pm < 4) && decide (off < 2 ^ 14))
    (fun s => lampIssue n (.stw d { aa := aa, mm := mm, pm := pm, off := off }) 0 s) s

/-- SIN. -/
def execSin (n d : Nat) (s : State) : Host.Outcome State Fault Refusal :=
  dev (decide (n < 64) && decide (d < 16)) (fun s => lampIssue n (.sin d) 0 s) s

/-- SOUT. -/
def execSout (n a : Nat) (s : State) : Host.Outcome State Fault Refusal :=
  dev (decide (n < 64) && decide (a < 16)) (fun s => lampIssue n (.sout a) 0 s) s

/-- PASS. -/
def execPass (n : Nat) (s : State) : Host.Outcome State Fault Refusal :=
  dev (decide (n < 64)) (fun s => lampIssue n (.pass) 0 s) s

/-- XMUL. -/
def execXmul (n sh cj aa mm pm err : Nat) (s : State) : Host.Outcome State Fault Refusal :=
  dev (decide (n < 64) && decide (sh < 64) && decide (cj < 2) && decide (aa < 8) && decide (mm < 8) && decide (pm < 4))
    (fun s => lampIssue n (.xmul sh cj { aa := aa, mm := mm, pm := pm, off := 0 }) err s) s

/-- TAP. -/
def execTap (n ac d aa mm pm off err : Nat) (s : State) : Host.Outcome State Fault Refusal :=
  dev (decide (n < 64) && decide (ac < 4) && decide (d < 16) && decide (aa < 8) && decide (mm < 8) && decide (pm < 4) && decide (off < 4096))
    (fun s => lampIssue n (.tap ac d { aa := aa, mm := mm, pm := pm, off := off }) err s) s

/-- SRCH. -/
def execSrch (n d aa mm pm off : Nat) (s : State) : Host.Outcome State Fault Refusal :=
  dev (decide (n < 64) && decide (d < 16) && decide (aa < 8) && decide (mm < 8) && decide (pm < 4) && decide (off < 2 ^ 14))
    (fun s => lampIssue n (.srch d { aa := aa, mm := mm, pm := pm, off := off }) 0 s) s

/-- SRCHI. -/
def execSrchi (n : Nat) (s : State) : Host.Outcome State Fault Refusal :=
  dev (decide (n < 64)) (fun s => lampIssue n (.srchi) 0 s) s

/-- FETCH. -/
def execFetch (n a b aa rows dir pk : Nat) (s : State) : Host.Outcome State Fault Refusal :=
  dev (decide (n < 64) && decide (a < 16) && decide (b < 16) && decide (aa < 8) && decide (rows < 64) && decide (dir < 2) && decide (pk < 2))
    (fun s => lampIssue n (.fetch a b aa rows dir pk) 0 s) s

end Sys2Proof.Machine
end

