-- ==== Sys2Proof/Machine/CmdLampScalar.lean ====
section
/-! DEFINITION. Sys2Proof/Machine/CmdLampScalar.lean: the meanings of the commands of lamp instructions: scalars, addresses and moves. -/
namespace Sys2Proof.Machine

/-- ADD. -/
def execAdd (n d a b : Nat) (s : State) : Host.Outcome State Fault Refusal :=
  dev (decide (n < 64) && decide (d < 16) && decide (a < 16) && decide (b < 16)) (fun s => lampIssue n (.add d a b) 0 s) s

/-- SUB. -/
def execSub (n d a b : Nat) (s : State) : Host.Outcome State Fault Refusal :=
  dev (decide (n < 64) && decide (d < 16) && decide (a < 16) && decide (b < 16)) (fun s => lampIssue n (.sub d a b) 0 s) s

/-- AND. -/
def execAnd (n d a b : Nat) (s : State) : Host.Outcome State Fault Refusal :=
  dev (decide (n < 64) && decide (d < 16) && decide (a < 16) && decide (b < 16)) (fun s => lampIssue n (.and d a b) 0 s) s

/-- OR. -/
def execOr (n d a b : Nat) (s : State) : Host.Outcome State Fault Refusal :=
  dev (decide (n < 64) && decide (d < 16) && decide (a < 16) && decide (b < 16)) (fun s => lampIssue n (.or d a b) 0 s) s

/-- XOR. -/
def execXor (n d a b : Nat) (s : State) : Host.Outcome State Fault Refusal :=
  dev (decide (n < 64) && decide (d < 16) && decide (a < 16) && decide (b < 16)) (fun s => lampIssue n (.xor d a b) 0 s) s

/-- LSL. -/
def execLsl (n d a k : Nat) (s : State) : Host.Outcome State Fault Refusal :=
  dev (decide (n < 64) && decide (d < 16) && decide (a < 16) && decide (k < 64)) (fun s => lampIssue n (.lsl d a k) 0 s) s

/-- ASR. -/
def execAsr (n d a k : Nat) (s : State) : Host.Outcome State Fault Refusal :=
  dev (decide (n < 64) && decide (d < 16) && decide (a < 16) && decide (k < 64)) (fun s => lampIssue n (.asr d a k) 0 s) s

/-- LSR. -/
def execLsr (n d a k : Nat) (s : State) : Host.Outcome State Fault Refusal :=
  dev (decide (n < 64) && decide (d < 16) && decide (a < 16) && decide (k < 64)) (fun s => lampIssue n (.lsr d a k) 0 s) s

/-- ADD_IMM. -/
def execAddImm (n d a imm : Nat) (s : State) : Host.Outcome State Fault Refusal :=
  dev (decide (n < 64) && decide (d < 16) && decide (a < 16) && decide (imm < 2 ^ 18)) (fun s => lampIssue n (.addImm d a imm) 0 s) s

/-- MOV_IMM. -/
def execMovImm (n d imm : Nat) (s : State) : Host.Outcome State Fault Refusal :=
  dev (decide (n < 64) && decide (d < 16) && decide (imm < 2 ^ 18)) (fun s => lampIssue n (.movImm d imm) 0 s) s

/-- MOVH. -/
def execMovh (n d imm : Nat) (s : State) : Host.Outcome State Fault Refusal :=
  dev (decide (n < 64) && decide (d < 16) && decide (imm < 2 ^ 18)) (fun s => lampIssue n (.movh d imm) 0 s) s

/-- CMP. -/
def execCmp (n a b : Nat) (s : State) : Host.Outcome State Fault Refusal :=
  dev (decide (n < 64) && decide (a < 16) && decide (b < 16)) (fun s => lampIssue n (.cmp a b) 0 s) s

/-- CMP_IMM. -/
def execCmpImm (n a imm : Nat) (s : State) : Host.Outcome State Fault Refusal :=
  dev (decide (n < 64) && decide (a < 16) && decide (imm < 2 ^ 18)) (fun s => lampIssue n (.cmpImm a imm) 0 s) s

/-- GETL. -/
def execGetl (n d a k : Nat) (s : State) : Host.Outcome State Fault Refusal :=
  dev (decide (n < 64) && decide (d < 16) && decide (a < 16) && decide (k < 16)) (fun s => lampIssue n (.getl d a k) 0 s) s

/-- SETL. -/
def execSetl (n d a k : Nat) (s : State) : Host.Outcome State Fault Refusal :=
  dev (decide (n < 64) && decide (d < 16) && decide (a < 16) && decide (k < 16)) (fun s => lampIssue n (.setl d a k) 0 s) s

/-- RSUM. -/
def execRsum (n d ac sh x : Nat) (s : State) : Host.Outcome State Fault Refusal :=
  dev (decide (n < 64) && decide (d < 16) && decide (ac < 4) && decide (sh < 64) && decide (x < 4))
    (fun s => lampIssue n (.rsum d ac sh x) 0 s) s

/-- GETA. -/
def execGeta (n d ac k x : Nat) (s : State) : Host.Outcome State Fault Refusal :=
  dev (decide (n < 64) && decide (d < 16) && decide (ac < 4) && decide (k < 16) && decide (x < 4))
    (fun s => lampIssue n (.geta d ac k x) 0 s) s

/-- OBX. -/
def execObx (n a : Nat) (s : State) : Host.Outcome State Fault Refusal :=
  dev (decide (n < 64) && decide (a < 16)) (fun s => lampIssue n (.obx a) 0 s) s

/-- ADD_A_IMM. -/
def execAddAImm (n p imm : Nat) (s : State) : Host.Outcome State Fault Refusal :=
  dev (decide (n < 64) && decide (p < 8) && decide (imm < 2 ^ 18)) (fun s => lampIssue n (.addAImm p imm) 0 s) s

/-- MOV_A_S. -/
def execMovAS (n p q : Nat) (s : State) : Host.Outcome State Fault Refusal :=
  dev (decide (n < 64) && decide (p < 8) && decide (q < 16)) (fun s => lampIssue n (.movAS p q) 0 s) s

/-- MOV_S_A. -/
def execMovSA (n p q : Nat) (s : State) : Host.Outcome State Fault Refusal :=
  dev (decide (n < 64) && decide (p < 8) && decide (q < 16)) (fun s => lampIssue n (.movSA p q) 0 s) s

/-- MOV_M_S. -/
def execMovMS (n p q : Nat) (s : State) : Host.Outcome State Fault Refusal :=
  dev (decide (n < 64) && decide (p < 8) && decide (q < 16)) (fun s => lampIssue n (.movMS p q) 0 s) s

/-- MOV_A_IMM. -/
def execMovAImm (n p imm : Nat) (s : State) : Host.Outcome State Fault Refusal :=
  dev (decide (n < 64) && decide (p < 8) && decide (imm < 2 ^ 18)) (fun s => lampIssue n (.movAImm p imm) 0 s) s

/-- MOVL_M. -/
def execMovlM (n p imm : Nat) (s : State) : Host.Outcome State Fault Refusal :=
  dev (decide (n < 64) && decide (p < 8) && decide (imm < 4096)) (fun s => lampIssue n (.movlM p imm) 0 s) s

/-- MOVH_M. -/
def execMovhM (n p imm : Nat) (s : State) : Host.Outcome State Fault Refusal :=
  dev (decide (n < 64) && decide (p < 8) && decide (imm < 4096)) (fun s => lampIssue n (.movhM p imm) 0 s) s

/-- MTS. -/
def execMts (n d sp : Nat) (s : State) : Host.Outcome State Fault Refusal :=
  dev (decide (n < 64) && decide (d < 16) && decide (sp < 128)) (fun s => lampIssue n (.mts d sp) 0 s) s

/-- MFS. -/
def execMfs (n d sp : Nat) (s : State) : Host.Outcome State Fault Refusal :=
  dev (decide (n < 64) && decide (d < 16) && decide (sp < 128)) (fun s => lampIssue n (.mfs d sp) 0 s) s

end Sys2Proof.Machine
end

