-- ==== Sys2Proof/Machine/CmdLampVector.lean ====
section
/-! DEFINITION. Sys2Proof/Machine/CmdLampVector.lean: the meanings of the commands of lamp instructions: vectors and accumulators. -/
namespace Sys2Proof.Machine

/-- VECTOR_ADD. -/
def execVadd (n d a b : Nat) (s : State) : Host.Outcome State Fault Refusal :=
  dev (decide (n < 64) && decide (d < 16) && decide (a < 16) && decide (b < 16)) (fun s => lampIssue n (.vadd d a b) 0 s) s

/-- VECTOR_SUB. -/
def execVsub (n d a b : Nat) (s : State) : Host.Outcome State Fault Refusal :=
  dev (decide (n < 64) && decide (d < 16) && decide (a < 16) && decide (b < 16)) (fun s => lampIssue n (.vsub d a b) 0 s) s

/-- MIN. -/
def execVmin (n d a b : Nat) (s : State) : Host.Outcome State Fault Refusal :=
  dev (decide (n < 64) && decide (d < 16) && decide (a < 16) && decide (b < 16)) (fun s => lampIssue n (.vmin d a b) 0 s) s

/-- MAX. -/
def execVmax (n d a b : Nat) (s : State) : Host.Outcome State Fault Refusal :=
  dev (decide (n < 64) && decide (d < 16) && decide (a < 16) && decide (b < 16)) (fun s => lampIssue n (.vmax d a b) 0 s) s

/-- VECTOR_AND. -/
def execVand (n d a b : Nat) (s : State) : Host.Outcome State Fault Refusal :=
  dev (decide (n < 64) && decide (d < 16) && decide (a < 16) && decide (b < 16)) (fun s => lampIssue n (.vand d a b) 0 s) s

/-- VECTOR_OR. -/
def execVor (n d a b : Nat) (s : State) : Host.Outcome State Fault Refusal :=
  dev (decide (n < 64) && decide (d < 16) && decide (a < 16) && decide (b < 16)) (fun s => lampIssue n (.vor d a b) 0 s) s

/-- VECTOR_XOR. -/
def execVxor (n d a b : Nat) (s : State) : Host.Outcome State Fault Refusal :=
  dev (decide (n < 64) && decide (d < 16) && decide (a < 16) && decide (b < 16)) (fun s => lampIssue n (.vxor d a b) 0 s) s

/-- VECTOR_ASR. -/
def execVasr (n d a sh x : Nat) (s : State) : Host.Outcome State Fault Refusal :=
  dev (decide (n < 64) && decide (d < 16) && decide (a < 16) && decide (sh < 64) && decide (x < 2))
    (fun s => lampIssue n (.vasr d a sh x) 0 s) s

/-- VECTOR_LSL. -/
def execVlsl (n d a sh : Nat) (s : State) : Host.Outcome State Fault Refusal :=
  dev (decide (n < 64) && decide (d < 16) && decide (a < 16) && decide (sh < 64)) (fun s => lampIssue n (.vlsl d a sh) 0 s) s

/-- BCAST. -/
def execBcast (n d a : Nat) (s : State) : Host.Outcome State Fault Refusal :=
  dev (decide (n < 64) && decide (d < 16) && decide (a < 16)) (fun s => lampIssue n (.bcast d a) 0 s) s

/-- MUL. -/
def execMul (n d a b sh cj : Nat) (s : State) : Host.Outcome State Fault Refusal :=
  dev (decide (n < 64) && decide (d < 16) && decide (a < 16) && decide (b < 16) && decide (sh < 64) && decide (cj < 2))
    (fun s => lampIssue n (.mul d a b sh cj) 0 s) s

/-- MPY. -/
def execMpy (n ac a b cj : Nat) (s : State) : Host.Outcome State Fault Refusal :=
  dev (decide (n < 64) && decide (ac < 4) && decide (a < 16) && decide (b < 16) && decide (cj < 2))
    (fun s => lampIssue n (.mpy ac a b cj) 0 s) s

/-- MAC. -/
def execMac (n ac a b cj : Nat) (s : State) : Host.Outcome State Fault Refusal :=
  dev (decide (n < 64) && decide (ac < 4) && decide (a < 16) && decide (b < 16) && decide (cj < 2))
    (fun s => lampIssue n (.mac ac a b cj) 0 s) s

/-- MSU. -/
def execMsu (n ac a b cj : Nat) (s : State) : Host.Outcome State Fault Refusal :=
  dev (decide (n < 64) && decide (ac < 4) && decide (a < 16) && decide (b < 16) && decide (cj < 2))
    (fun s => lampIssue n (.msu ac a b cj) 0 s) s

/-- PWR. -/
def execPwr (n ac a : Nat) (s : State) : Host.Outcome State Fault Refusal :=
  dev (decide (n < 64) && decide (ac < 4) && decide (a < 16)) (fun s => lampIssue n (.pwr ac a) 0 s) s

/-- RND. -/
def execRnd (n d ac sh : Nat) (s : State) : Host.Outcome State Fault Refusal :=
  dev (decide (n < 64) && decide (d < 16) && decide (ac < 4) && decide (sh < 64)) (fun s => lampIssue n (.rnd d ac sh) 0 s) s

end Sys2Proof.Machine
end

