-- ==== Sys2Proof/Machine/CmdLantern.lean ====
section
/-! DEFINITION. Sys2Proof/Machine/CmdLantern.lean: the meanings of the commands of the lantern array. -/
namespace Sys2Proof.Machine

/-- LAN_COMMIT. -/
def execLanCommit (m : Nat) (s : State) : Host.Outcome State Fault Refusal :=
  dev (anyMaster m) (fun s => commitCmd m 0x100004 1 (groupCommit 0x100) s) s

/-- LAN_RESEED. -/
def execLanReseed (m : Nat) (s : State) : Host.Outcome State Fault Refusal :=
  dev (anyMaster m) (fun s => regCmd m 0x100004 2 reseedAll s) s

/-- TASK_DISPATCH. -/
def execTaskDispatch (j : Nat) (s : State) : Host.Outcome State Fault Refusal :=
  dev (decide (j < 4)) (fun s => Machine.taskDispatch j s) s

/-- TASK_START. -/
def execTaskStart (l : Nat) (s : State) : Host.Outcome State Fault Refusal :=
  dev (decide (l < 256)) (fun s => Machine.taskStart l s) s

/-- TASK_COMPLETE. -/
def execTaskComplete (l : Nat) (s : State) : Host.Outcome State Fault Refusal :=
  dev (decide (l < 256)) (fun s => Machine.taskComplete l s) s

/-- LAN_DEBUG_WRITE. -/
def execLanDebugWrite (m off : Nat) (w : Word) (s : State) : Host.Outcome State Fault Refusal :=
  dev (anyMaster m && (decide (off = 0x300) || (decide (0x310 ≤ off) && decide (off ≤ 0x32C))) && decide (off % 4 = 0))
    (fun s => regCmd m (0x100000 + off) w (fun s => lanDebugUpdate (plainWrite (0x100000 + off) w s)) s) s

/-- PROMOTION. -/
def execPromotion (j parity : Nat) (errs : List (Nat × Nat)) (s : State) : Host.Outcome State Fault Refusal :=
  dev (decide (j < 4)) (fun s => Machine.promotion j parity errs s) s

/-- NOTICE. -/
def execNotice (j : Nat) (s : State) : Host.Outcome State Fault Refusal :=
  dev (decide (j < 4)) (fun s => noticeStep j s) s

end Sys2Proof.Machine
end

