-- ==== Sys2Proof/Machine/CmdLens.lean ====
section
/-! DEFINITION. Sys2Proof/Machine/CmdLens.lean: the meanings of the commands of the Lens. -/
namespace Sys2Proof.Machine

/-- LENS_COMMIT. -/
def execLensCommit (m : Nat) (s : State) : Host.Outcome State Fault Refusal :=
  dev (anyMaster m) (fun s => commitCmd m 0xE0004 1 (groupCommit 0xE0) s) s

/-- LENS_COEF_DATA. -/
def execLensCoefData (m : Nat) (w : Word) (s : State) : Host.Outcome State Fault Refusal :=
  dev (anyMaster m) (fun s => regCmd m 0xE0028 w (Machine.lensCoefData w.toNat) s) s

/-- LENS_SEAL. -/
def execLensSeal (m : Nat) (s : State) : Host.Outcome State Fault Refusal :=
  dev (anyMaster m) (fun s => regCmd m 0xE0020 1 Machine.lensSeal s) s

/-- LENS_UNSEAL. -/
def execLensUnseal (m : Nat) (s : State) : Host.Outcome State Fault Refusal :=
  dev (anyMaster m) (fun s => regCmd m 0xE0020 2 Machine.lensUnseal s) s

/-- LENS_SWAP_NOW. -/
def execLensSwapNow (m : Nat) (s : State) : Host.Outcome State Fault Refusal :=
  dev (anyMaster m) (fun s => regCmd m 0xE0020 4 Machine.lensSwapNow s) s

/-- LENS_RESET_PTR. -/
def execLensResetPtr (m : Nat) (s : State) : Host.Outcome State Fault Refusal :=
  dev (anyMaster m) (fun s => regCmd m 0xE0020 8 Machine.lensResetPtr s) s

/-- LENS_OUTPUT_COUNT. -/
def execLensOutputCount (first : Nat) (s : State) : Host.Outcome State Fault Refusal :=
  dev (decide (first < 2 ^ 64)) (fun s => Machine.lensOutputCount first s) s

end Sys2Proof.Machine
end

