-- ==== Sys2Proof/Machine/CmdLink.lean ====
section
/-! DEFINITION. Sys2Proof/Machine/CmdLink.lean: the meanings of the commands of wicks, lanes and packets. -/
namespace Sys2Proof.Machine

/-- HEAD_WICK. -/
def execHeadWick (l : Nat) (sync : Bool) (seq credit : Nat) (desc : Desc) (used : Nat) (s : State) : Host.Outcome State Fault Refusal :=
  dev (decide (l < 128) && decide (seq < 1024) && decide (credit < 256))
    (fun s => rxWick l 1 sync seq credit (leBytes 32 desc.toNat) (Machine.headWick l sync seq credit desc used) s) s

/-- BODY_WICK. -/
def execBodyWick (l : Nat) (sync : Bool) (seq credit : Nat) (payload : List Byte) (overload : List Nat) (s : State) : Host.Outcome State Fault Refusal :=
  dev (decide (l < 128) && decide (seq < 1024) && decide (credit < 256) && decide (payload.length = 120))
    (fun s => rxWick l 2 sync seq credit (payload) (Machine.bodyWick l sync seq credit false payload overload true) s) s

/-- BODY_LAST_WICK. -/
def execBodyLastWick (l : Nat) (sync : Bool) (seq credit : Nat) (payload : List Byte) (overload : List Nat) (capOk : Bool) (s : State) : Host.Outcome State Fault Refusal :=
  dev (decide (l < 128) && decide (seq < 1024) && decide (credit < 256) && decide (payload.length = 120))
    (fun s => rxWick l 3 sync seq credit (payload) (Machine.bodyWick l sync seq credit true payload overload capOk) s) s

/-- IDLE_WICK. -/
def execIdleWick (l : Nat) (sync : Bool) (seq credit : Nat) (s : State) : Host.Outcome State Fault Refusal :=
  dev (decide (l < 128) && decide (seq < 1024) && decide (credit < 256))
    (fun s => rxWick l 0 sync seq credit ([]) (Machine.idleWick l sync seq credit) s) s

/-- CTRL_WICK. -/
def execCtrlWick (l : Nat) (sync : Bool) (seq credit : Nat) (payload : List Byte) (s : State) : Host.Outcome State Fault Refusal :=
  dev (decide (l < 128) && decide (seq < 1024) && decide (credit < 256) && decide (payload.length = 120))
    (fun s => rxWick l 4 sync seq credit (payload) (Machine.ctrlWick l sync seq credit payload) s) s

/-- TRAIN_WICK. -/
def execTrainWick (l : Nat) (sync : Bool) (seq credit : Nat) (payload : List Byte) (s : State) : Host.Outcome State Fault Refusal :=
  dev (decide (l < 128) && decide (seq < 1024) && decide (credit < 256) && decide (payload.length = 120))
    (fun s => rxWick l 5 sync seq credit (payload) (Machine.trainWick l sync seq credit payload) s) s

/-- CREDIT_SYNC_WICK. -/
def execCreditSyncWick (l : Nat) (sync : Bool) (seq credit : Nat) (payload : List Byte) (s : State) : Host.Outcome State Fault Refusal :=
  dev (decide (l < 128) && decide (seq < 1024) && decide (credit < 256) && decide (payload.length = 120))
    (fun s => rxWick l 6 sync seq credit (payload) (Machine.creditSyncWick l sync seq credit payload) s) s

/-- FLAGGED_IDLE_WICK. -/
def execFlaggedIdleWick (l : Nat) (sync : Bool) (seq credit : Nat) (s : State) : Host.Outcome State Fault Refusal :=
  dev (decide (l < 128) && decide (seq < 1024) && decide (credit < 256))
    (fun s => rxWick l 7 sync seq credit ([]) (flaggedWick l sync seq credit) s) s

/-- WICK_CRC_FAIL. -/
def execWickCrcFail (l : Nat) (sync : Bool) (header : Nat) (payload : List Byte) (s : State) : Host.Outcome State Fault Refusal :=
  dev (decide (l < 128) && decide (header < 2 ^ 32) && decide (payload.length = 120))
    (fun s => farLoop l header payload (Machine.wickCrcFail l sync s)) s

/-- WICK_TRANSMIT. -/
def execWickTransmit (l : Nat) (s : State) : Host.Outcome State Fault Refusal :=
  dev (decide (l < 128)) (fun s => Machine.wickTransmit l s) s

/-- CLOCK_ACQUIRED. -/
def execClockAcquired (g : Nat) (s : State) : Host.Outcome State Fault Refusal :=
  dev (decide (g < 16)) (fun s => Machine.clockAcquired g s) s

/-- EQUALISER_ADAPTED. -/
def execEqualiserAdapted (l : Nat) (s : State) : Host.Outcome State Fault Refusal :=
  dev (decide (l < 128)) (fun s => ffeDone l s) s

/-- TRAIN_STAGE_TIMEOUT. -/
def execTrainStageTimeout (l : Nat) (activity : Bool) (s : State) : Host.Outcome State Fault Refusal :=
  dev (decide (l < 128)) (fun s => stageTimeout l activity s) s

/-- FFE_FALLBACK. -/
def execFfeFallback (l : Nat) (s : State) : Host.Outcome State Fault Refusal :=
  dev (decide (l < 128)) (fun s => Machine.ffeFallback l s) s

/-- BACKOFF_EXPIRY. -/
def execBackoffExpiry (l : Nat) (s : State) : Host.Outcome State Fault Refusal :=
  dev (decide (l < 128)) (fun s => Machine.backoffExpiry l s) s

/-- CLOCK_ACTIVITY_START. -/
def execClockActivityStart (g : Nat) (s : State) : Host.Outcome State Fault Refusal :=
  dev (decide (g < 16)) (fun s => clockStart g s) s

/-- GROUP_CLOCK_LOSS. -/
def execGroupClockLoss (g : Nat) (activity : Bool) (s : State) : Host.Outcome State Fault Refusal :=
  dev (decide (g < 16)) (fun s => clockLoss passLost g activity s) s

/-- CREDIT_RESET. -/
def execCreditReset (l : Nat) (s : State) : Host.Outcome State Fault Refusal :=
  dev (decide (l < 128)) (fun s => Machine.creditReset l s) s

/-- RETRAIN. -/
def execRetrain (m l : Nat) (s : State) : Host.Outcome State Fault Refusal :=
  dev (anyMaster m && decide (l < 128)) (fun s => regCmd m (laneCmdKey l) 1 (laneRetrain passLost l) s) s

/-- SEND_RETRAIN_REQ. -/
def execSendRetrainReq (m l : Nat) (s : State) : Host.Outcome State Fault Refusal :=
  dev (anyMaster m && decide (l < 128)) (fun s => regCmd m (laneCmdKey l) 2 (Machine.sendRetrainReq l) s) s

/-- LANE_CLEAR_CNT. -/
def execLaneClearCnt (m l : Nat) (s : State) : Host.Outcome State Fault Refusal :=
  dev (anyMaster m && decide (l < 128)) (fun s => regCmd m (laneCmdKey l) 4 (Machine.laneClearCnt l) s) s

/-- LNK_COMMIT. -/
def execLnkCommit (m g : Nat) (s : State) : Host.Outcome State Fault Refusal :=
  dev (anyMaster m && decide (g < 16)) (fun s => commitCmd m (0x200004 + g * 0x10000) 1 (groupCommit (16 * (0x20 + g))) s) s

/-- RETRAIN_ALL. -/
def execRetrainAll (m g : Nat) (s : State) : Host.Outcome State Fault Refusal :=
  dev (anyMaster m && decide (g < 16)) (fun s => regCmd m (0x200004 + g * 0x10000) 2 (Machine.retrainAll passLost g) s) s

/-- EGR_COMMIT. -/
def execEgrCommit (m : Nat) (s : State) : Host.Outcome State Fault Refusal :=
  dev (anyMaster m) (fun s => commitCmd m 0x130004 1 (groupCommit 0x130) s) s

/-- EGRESS_PACKET. -/
def execEgressPacket (e : Nat) (blocked : Bool) (s : State) : Host.Outcome State Fault Refusal :=
  dev (decide (e < 256)) (fun s => Machine.egressPacket e blocked s) s

/-- COUNT_MARKER. -/
def execCountMarker (e : Nat) (s : State) : Host.Outcome State Fault Refusal :=
  dev (decide (e < 256)) (fun s => Machine.countMarker e s) s

/-- DESKEW_DONE. -/
def execDeskewDone (l : Nat) (s : State) : Host.Outcome State Fault Refusal :=
  dev (decide (l < 128)) (fun s => Machine.deskewDone l s) s

/-- RESERVED_TYPE_WICK. -/
def execReservedTypeWick (l : Nat) (sync : Bool) (seq credit type : Nat) (payload : List Byte) (s : State) : Host.Outcome State Fault Refusal :=
  dev (decide (l < 128) && decide (seq < 1024) && decide (credit < 256) && decide (8 ≤ type) && decide (type < 16) && decide (payload.length = 120))
    (fun s => rxWick l type sync seq credit (payload) (reservedWick l sync seq credit) s) s

/-- PRBS_LOCK. -/
def execPrbsLock (l : Nat) (bits : List Bool) (s : State) : Host.Outcome State Fault Refusal :=
  dev (decide (l < 128)) (fun s => prbsBitsIn l bits s) s

end Sys2Proof.Machine
end

