-- ==== Sys2Proof/Machine/CmdManagement.lean ====
section
/-! DEFINITION. Sys2Proof/Machine/CmdManagement.lean: the meanings of the commands of boot, MRAM, sensors, lifetime records and updates. -/
namespace Sys2Proof.Machine

/-- BOOT_ROM_START. -/
def execBootRomStart (slots update boot : List Nat) (s : State) : Host.Outcome State Fault Refusal :=
  dev (wordsIn 0 0x800000 slots && wordsIn 0xE10000 0xE20000 update && wordsIn 0xE00000 0xE10000 boot)
    (fun s => bootRom (slots ++ update ++ boot) s) s

/-- FIRMWARE_INIT. -/
def execFirmwareInit (dict stores : List Nat) (s : State) : Host.Outcome State Fault Refusal :=
  dev (wordsIn 0x800000 0xA00000 dict && wordsIn 0xA00000 0xE40000 stores) (fun s => Machine.firmwareInit (dict ++ stores) s) s

/-- LAMPLIGHTER_RESET. -/
def execLamplighterReset (retired : Nat) (s : State) : Host.Outcome State Fault Refusal :=
  dev (decide (retired ≤ 64)) (fun s => retire retired (Machine.lamplighterReset s)) s

/-- NVM_WORD_WRITE. -/
def execNvmWordWrite (m : Nat) (w : Word) (maker : Bool) (s : State) : Host.Outcome State Fault Refusal :=
  dev (anyMaster m) (fun s => regCmd m 0x80008 w (Machine.nvmWordWrite m w.toNat maker) s) s

/-- NVM_WRITE_COMPLETE. -/
def execNvmWriteComplete (bad : Nat) (s : State) : Host.Outcome State Fault Refusal :=
  dev true (fun s => Machine.nvmWriteComplete bad s) s

/-- NVM_ERR_ADDR_READ. -/
def execNvmErrAddrRead (m : Nat) (s : State) : Host.Outcome State Fault Refusal :=
  dev (anyMaster m) (fun s => regRead m 0x8001C s) s

/-- THERMAL_SAMPLE. -/
def execThermalSample (vals : List Nat) (s : State) : Host.Outcome State Fault Refusal :=
  pin (decide (vals.length = 32) && vals.all (fun v => decide (v < 4096))) (fun s => Machine.thermalSample vals s) s

/-- VOLTAGE_SAMPLE. -/
def execVoltageSample (vals : List Nat) (s : State) : Host.Outcome State Fault Refusal :=
  dev (decide (vals.length = 24) && vals.all (fun v => decide (v < 65536))) (fun s => Machine.voltageSample vals s) s

/-- EYE_START. -/
def execEyeStart (m l : Nat) (s : State) : Host.Outcome State Fault Refusal :=
  dev (anyMaster m && decide (l < 128)) (fun s => regCmd m 0x90300 (BitVec.ofNat 32 (128 + l)) (Machine.eyeStart l) s) s

/-- EYE_COMPLETE. -/
def execEyeComplete (height width : Nat) (s : State) : Host.Outcome State Fault Refusal :=
  dev (decide (height < 2 ^ 16) && decide (width < 256)) (fun s => Machine.eyeComplete height width s) s

/-- LIFETIME_WRITE. -/
def execLifetimeWrite (s : State) : Host.Outcome State Fault Refusal :=
  dev (true) (fun s => Machine.lifetimeWrite s) s

/-- TEMP_HISTOGRAM_MINUTE. -/
def execTempHistogramMinute (s : State) : Host.Outcome State Fault Refusal :=
  dev (true) (fun s => histogramMinute s) s

/-- LIFETIME_CLEAR. -/
def execLifetimeClear (v : Nat) (s : State) : Host.Outcome State Fault Refusal :=
  dev (decide (v < 2 ^ 32)) (fun s => served 3 0x9000 (dictWrite 3 0 0x9000 4 1 (leBytes 4 v) [] false) s) s

/-- UPDATE_BEGIN. -/
def execUpdateBegin (origin session : Nat) (s : State) : Host.Outcome State Fault Refusal :=
  dev (decide (origin < 3) && decide (session < 8)) (fun s => served origin 0xA000 (dictWrite origin session 0xA000 2 1 [1] [] false) s) s

/-- UPDATE_COMMIT. -/
def execUpdateCommit (origin session : Nat) (bad : Bool) (s : State) : Host.Outcome State Fault Refusal :=
  dev (decide (origin < 3) && decide (session < 8)) (fun s => served origin 0xA000 (dictWrite origin session 0xA000 2 1 [2] [] bad) s) s

/-- UPDATE_ACTIVATE. -/
def execUpdateActivate (origin session : Nat) (s : State) : Host.Outcome State Fault Refusal :=
  dev (decide (origin < 3) && decide (session < 8)) (fun s => served origin 0xA000 (dictWrite origin session 0xA000 2 1 [3] [] false) s) s

/-- UPDATE_CONFIRM. -/
def execUpdateConfirm (origin session : Nat) (s : State) : Host.Outcome State Fault Refusal :=
  dev (decide (origin < 3) && decide (session < 8)) (fun s => served origin 0xA000 (dictWrite origin session 0xA000 2 1 [4] [] false) s) s

/-- UPDATE_REVERT. -/
def execUpdateRevert (origin session : Nat) (s : State) : Host.Outcome State Fault Refusal :=
  dev (decide (origin < 3) && decide (session < 8)) (fun s => served origin 0xA000 (dictWrite origin session 0xA000 2 1 [5] [] false) s) s

/-- UPDATE_ABORT. -/
def execUpdateAbort (origin session : Nat) (s : State) : Host.Outcome State Fault Refusal :=
  dev (decide (origin < 3) && decide (session < 8)) (fun s => served origin 0xA000 (dictWrite origin session 0xA000 2 1 [6] [] false) s) s

end Sys2Proof.Machine
end

