-- ==== Sys2Proof/Machine/CmdMantle.lean ====
section
/-! DEFINITION. Sys2Proof/Machine/CmdMantle.lean: the meanings of the commands of the mantle. -/
namespace Sys2Proof.Machine

/-- PERIOD_END_MARKER. -/
def execPeriodEndMarker (j k : Nat) (s : State) : Host.Outcome State Fault Refusal :=
  dev (decide (j < 4) && decide (k < 256)) (fun s => Machine.periodEndMarker j k s) s

/-- SLOT_DRAIN. -/
def execSlotDrain (n : Nat) (errs : List (Nat × Nat)) (s : State) : Host.Outcome State Fault Refusal :=
  dev (decide (n < 8448)) (fun s => Machine.slotDrain n errs s) s

/-- DUMP_COPY_COMPLETE. -/
def execDumpCopyComplete (j : Nat) (s : State) : Host.Outcome State Fault Refusal :=
  dev (decide (j < 4)) (fun s => Machine.dumpCopyComplete j s) s

/-- SLOT_CLEAR. -/
def execSlotClear (n : Nat) (s : State) : Host.Outcome State Fault Refusal :=
  dev (decide (n < 8448)) (fun s => Machine.slotClear n s) s

/-- TAG_SET. -/
def execTagSet (n : Nat) (s : State) : Host.Outcome State Fault Refusal :=
  dev (decide (n < 8448)) (fun s => slotTagSet n s) s

/-- MANTLE_INIT_CLEAR. -/
def execMantleInitClear (s : State) : Host.Outcome State Fault Refusal :=
  dev (true) (fun s => Machine.mantleInitClear s) s

/-- MNT_COMMIT. -/
def execMntCommit (m : Nat) (s : State) : Host.Outcome State Fault Refusal :=
  dev (anyMaster m) (fun s => commitCmd m 0x110000 1 (groupCommit 0x110) s) s

end Sys2Proof.Machine
end

