-- ==== Sys2Proof/Machine/CmdMemory.lean ====
section
/-! DEFINITION. Sys2Proof/Machine/CmdMemory.lean: the meanings of the commands of LPDDR6. -/
namespace Sys2Proof.Machine

/-- MEM_INIT. -/
def execMemInit (m : Nat) (s : State) : Host.Outcome State Fault Refusal :=
  dev (anyMaster m) (fun s => regCmd m 0xC0000 1 Machine.memInit s) s

/-- MEM_TRAINING_COMPLETE. -/
def execMemTrainingComplete (fail : Nat) (s : State) : Host.Outcome State Fault Refusal :=
  dev (decide (fail < 256)) (fun s => Machine.memTrainingComplete fail s) s

/-- PERIODIC_RETRAIN. -/
def execPeriodicRetrain (c : Nat) (s : State) : Host.Outcome State Fault Refusal :=
  dev (decide (c < 8)) (fun s => Machine.periodicRetrain c s) s

/-- PERIODIC_RETRAIN_COMPLETE. -/
def execPeriodicRetrainComplete (c : Nat) (s : State) : Host.Outcome State Fault Refusal :=
  dev (decide (c < 8)) (fun s => periodicComplete c s) s

/-- FSP_REQ. -/
def execFspReq (m : Nat) (s : State) : Host.Outcome State Fault Refusal :=
  dev (anyMaster m) (fun s => regCmd m 0xC0018 1 Machine.fspReq s) s

/-- FSP_INVALIDATE. -/
def execFspInvalidate (m : Nat) (s : State) : Host.Outcome State Fault Refusal :=
  dev (anyMaster m) (fun s => regCmd m 0xC0018 2 Machine.fspInvalidate s) s

/-- FSP_RATE_WRITE. -/
def execFspRateWrite (m k v : Nat) (s : State) : Host.Outcome State Fault Refusal :=
  dev (anyMaster m && decide (k < 2) && decide (v < 8))
    (fun s => regCmd m (0xC0010 + 4 * k) (BitVec.ofNat 32 v) (Machine.fspRateWrite k v) s) s

/-- FSP_SWITCH_COMPLETE. -/
def execFspSwitchComplete (fail : Nat) (s : State) : Host.Outcome State Fault Refusal :=
  dev (decide (fail < 256)) (fun s => Machine.fspSwitchComplete fail s) s

/-- TEMP_POLL. -/
def execTempPoll (ts : List Int) (s : State) : Host.Outcome State Fault Refusal :=
  dev (decide (ts.length = 8)) (fun s => Machine.tempPoll ts s) s

/-- SR_ENTRY. -/
def execSrEntry (c : Nat) (s : State) : Host.Outcome State Fault Refusal :=
  dev (decide (c < 8)) (fun s => Machine.srEntry c s) s

/-- SR_EXIT. -/
def execSrExit (c : Nat) (entering : Bool) (s : State) : Host.Outcome State Fault Refusal :=
  dev (decide (c < 8)) (fun s => Machine.srExit c entering s) s

/-- MEM_REQUEST. -/
def execMemRequest (q m : Nat) (write : Bool) (off len : Nat) (data : List Byte) (s : State) : Host.Outcome State Fault Refusal :=
  dev (decide (q = masterPort m) && (anyMaster m || decide (m = 0x23) || decide (m = 0xFF)) && decide (off < 2 ^ 40) && decide (1 ≤ len) &&
      decide (len ≤ 256))
    (fun s => Machine.memRequest m write off len data s) s

/-- MEM_ISSUE. -/
def execMemIssue (c e0 e1 slip : Nat) (s : State) : Host.Outcome State Fault Refusal :=
  dev (decide (c < 8)) (fun s => Machine.memIssue c e0 e1 slip s) s

/-- BURST_READ_CHECK. -/
def execBurstReadCheck (off e0 e1 slip m : Nat) (s : State) : Host.Outcome State Fault Refusal :=
  dev (decide (off < 2 ^ 40) && decide (off % 32 = 0) && (anyMaster m || decide (m = 0x23) || decide (m = 0xFF)))
    (fun s => burstRead off e0 e1 slip m s) s

/-- PATROL_SCRUB. -/
def execPatrolScrub (e0 e1 slip : Nat) (s : State) : Host.Outcome State Fault Refusal :=
  dev true (fun s => Machine.patrolScrub e0 e1 slip s) s

/-- MEM_COMMIT. -/
def execMemCommit (m : Nat) (s : State) : Host.Outcome State Fault Refusal :=
  dev (anyMaster m) (fun s => commitCmd m 0xC0008 1 (groupCommit 0xC0) s) s

/-- MEM_ERR_ADDR_READ. -/
def execMemErrAddrRead (m : Nat) (s : State) : Host.Outcome State Fault Refusal :=
  dev (anyMaster m) (fun s => regRead m 0xC0058 s) s

end Sys2Proof.Machine
end

