-- ==== Sys2Proof/Machine/CmdPair.lean ====
section
/-! DEFINITION. Sys2Proof/Machine/CmdPair.lean: the meanings of the commands of pairs. -/
namespace Sys2Proof.Machine

/-- PAIR_SENSE_CHANGE. -/
def execPairSenseChange (level : Bool) (s : State) : Host.Outcome State Fault Refusal :=
  pin (true) (fun s => senseChange level s) s

/-- CLAIM_ASSERT. -/
def execClaimAssert (s : State) : Host.Outcome State Fault Refusal :=
  dev (true) (fun s => Machine.claimAssert s) s

/-- CLAIM_CONFIRM. -/
def execClaimConfirm (s : State) : Host.Outcome State Fault Refusal :=
  dev (true) (fun s => Machine.claimConfirm s) s

/-- DUAL_CLAIM. -/
def execDualClaim (s : State) : Host.Outcome State Fault Refusal :=
  dev (true) (fun s => Machine.dualClaim s) s

/-- CLAIM_RELEASE. -/
def execClaimRelease (s : State) : Host.Outcome State Fault Refusal :=
  dev (true) (fun s => Machine.claimRelease s) s

/-- PAIR_HOLD_WRITE. -/
def execPairHoldWrite (m : Nat) (hold : Bool) (s : State) : Host.Outcome State Fault Refusal :=
  dev (anyMaster m) (fun s => regCmd m 0x50008 (BitVec.ofNat 32 (b2n hold)) (holdWrite hold) s) s

/-- PAIR_COMMIT. -/
def execPairCommit (m : Nat) (s : State) : Host.Outcome State Fault Refusal :=
  dev (anyMaster m) (fun s => commitCmd m 0x50004 1 (groupCommit 0x50) s) s

/-- PAIR_CLEAR_CNT. -/
def execPairClearCnt (m : Nat) (s : State) : Host.Outcome State Fault Refusal :=
  dev (anyMaster m) (fun s => regCmd m 0x50008 2 Machine.pairClearCnt s) s

/-- HEARTBEAT. -/
def execHeartbeat (payload : List Byte) (s : State) : Host.Outcome State Fault Refusal :=
  dev (decide (payload.length = 16)) (fun s => Machine.heartbeat payload s) s

/-- HEARTBEAT_SEND. -/
def execHeartbeatSend (s : State) : Host.Outcome State Fault Refusal :=
  dev (true) (fun s => Machine.heartbeatSend s) s

/-- DUMP_DIGEST. -/
def execDumpDigest (payload : List Byte) (s : State) : Host.Outcome State Fault Refusal :=
  dev (decide (payload.length = 24)) (fun s => partnerDigest (dumpDigestOf payload) s) s

/-- BEAM_DIGEST. -/
def execBeamDigest (payload : List Byte) (s : State) : Host.Outcome State Fault Refusal :=
  dev (decide (payload.length = 16)) (fun s => partnerDigest (beamDigestOf payload) s) s

/-- DIGEST_SEND. -/
def execDigestSend (s : State) : Host.Outcome State Fault Refusal :=
  dev (true) (fun s => Machine.digestSend s) s

/-- PILOT_FRAME_ERROR. -/
def execPilotFrameError (crcBad : Bool) (s : State) : Host.Outcome State Fault Refusal :=
  dev (true) (fun s => Machine.pilotFrameError crcBad s) s

/-- PILOT_DOWN. -/
def execPilotDown (s : State) : Host.Outcome State Fault Refusal :=
  dev (true) (fun s => Machine.pilotDown s) s

/-- DIGEST_WAIT_TIMEOUT. -/
def execDigestWaitTimeout (cause unit key : Nat) (s : State) : Host.Outcome State Fault Refusal :=
  dev (decide (unit < 16) && decide (key < 2 ^ 64)) (fun s => digestTimeout cause unit key s) s

/-- TRIM_WAIT_TIMEOUT. -/
def execTrimWaitTimeout (s : State) : Host.Outcome State Fault Refusal :=
  dev (true) (fun s => trimTimeout s) s

end Sys2Proof.Machine
end

