-- ==== Sys2Proof/Machine/CmdPort.lean ====
section
/-! DEFINITION. Sys2Proof/Machine/CmdPort.lean: the meanings of the commands of the management ports. -/
namespace Sys2Proof.Machine

/-- MANAGEMENT_PORT_LINK. -/
def execManagementPortLink (port : Nat) (up : Bool) (s : State) : Host.Outcome State Fault Refusal :=
  dev (decide (port < 2)) (fun s => Machine.managementPortLink port up s) s

/-- MANAGEMENT_FRAME. -/
def execManagementFrame (port : Nat) (inward onward : Bool) (bytes : List Byte) (s : State) : Host.Outcome State Fault Refusal :=
  dev (decide (port < 2) && decide (bytes.length ≤ 1522)) (fun s => Machine.managementFrame port inward onward bytes s) s

/-- DHCP_MESSAGE. -/
def execDhcpMessage (port type addr : Nat) (s : State) : Host.Outcome State Fault Refusal :=
  dev (decide (port < 2) && decide (type < 256) && decide (addr < 2 ^ 32)) (fun s => Machine.dhcpMessage port type addr s) s

/-- LINK_LOCAL_FALLBACK. -/
def execLinkLocalFallback (s : State) : Host.Outcome State Fault Refusal :=
  dev (true) (fun s => Machine.linkLocalFallback s) s

/-- DELAY_REQ_SEND. -/
def execDelayReqSend (s : State) : Host.Outcome State Fault Refusal :=
  dev (true) (fun s => Machine.delayReqSend s) s

/-- ANNOUNCE_TIMEOUT. -/
def execAnnounceTimeout (s : State) : Host.Outcome State Fault Refusal :=
  dev (true) (fun s => Machine.announceTimeout s) s

end Sys2Proof.Machine
end

