-- ==== Sys2Proof/Machine/CmdRegister.lean ====
section
/-! DEFINITION. Sys2Proof/Machine/CmdRegister.lean: the meanings of the commands of accesses of the register pages and the bus. -/
namespace Sys2Proof.Machine

/-- REGISTER_WRITE. -/
def execRegisterWrite (m off : Nat) (w : Word) (host : List Byte) (err : Nat) (s : State) : Host.Outcome State Fault Refusal :=
  dev (anyMaster m && decide (off < 2 ^ 28))
    (fun s => busAccess { master := m, err := err, host := host } true (0x40000000 + off) 4 15 (leBytes 4 w.toNat) s) s

/-- BROADCAST_WRITE. -/
def execBroadcastWrite (m off : Nat) (w : Word) (s : State) : Host.Outcome State Fault Refusal :=
  dev (anyMaster m && decide (0x800000 ≤ off) && decide (off < 0x840000))
    (fun s => busAccess { master := m, err := 0, host := [] } true (0x40000000 + off) 4 15 (leBytes 4 w.toNat) s) s

/-- BROADCAST_READ. -/
def execBroadcastRead (m off : Nat) (s : State) : Host.Outcome State Fault Refusal :=
  dev (anyMaster m && decide (0x800000 ≤ off) && decide (off < 0x840000))
    (fun s => busAccess { master := m, err := 0, host := [] } false (0x40000000 + off) 4 15 [] s) s

/-- BUS_ACCESS. -/
def execBusAccess (m : Nat) (write : Bool) (addr len en : Nat) (data : List Byte) (err : Nat) (host : List Byte) (s : State) : Host.Outcome State Fault Refusal :=
  dev (anyMaster m && decide (addr < 2 ^ 64) && decide (1 ≤ len) && decide (len ≤ 256))
    (fun s => busAccess { master := m, err := err, host := host } write addr len en data s) s

/-- PERIPHERAL_TIMEOUT. -/
def execPeripheralTimeout (m addr : Nat) (write : Bool) (s : State) : Host.Outcome State Fault Refusal :=
  dev (anyMaster m && decide (addr < 2 ^ 48)) (fun s => periTimeout m addr write s) s

/-- BMX_CNT_UNDEF_READ. -/
def execBmxCntUndefRead (m : Nat) (s : State) : Host.Outcome State Fault Refusal :=
  dev (anyMaster m) (fun s => regRead m Reg.BMX_CNT_UNDEF.key s) s

/-- TOP_REMAP_SWAP. -/
def execTopRemapSwap (m : Nat) (s : State) : Host.Outcome State Fault Refusal :=
  dev (anyMaster m) (fun s => regCmd m 0x100 1 (remapWrite 1) s) s

end Sys2Proof.Machine
end

