-- ==== Sys2Proof/Machine/CmdSched.lean ====
section
/-! DEFINITION. Sys2Proof/Machine/CmdSched.lean: the meanings of the commands of the action scheduler. -/
namespace Sys2Proof.Machine

/-- SLOT_ARM. -/
def execSlotArm (m n : Nat) (w : Word) (s : State) : Host.Outcome State Fault Refusal :=
  dev (anyMaster m && decide (n < 256))
    (fun s => regCmd m (0x21000 + 32 * n) w (fun s => if w.getLsbD 25 then s else Machine.slotArm n w s) s) s

/-- SLOT_CANCEL. -/
def execSlotCancel (m n : Nat) (s : State) : Host.Outcome State Fault Refusal :=
  dev (anyMaster m && decide (n < 256)) (fun s => regCmd m (0x21000 + 32 * n) 0x2000000 (Machine.slotCancel n) s) s

/-- SLOT_DELIVER. -/
def execSlotDeliver (n : Nat) (s : State) : Host.Outcome State Fault Refusal :=
  dev (decide (n < 256)) (fun s => deliverNow n s) s

/-- ACTION_STARVE. -/
def execActionStarve (n : Nat) (s : State) : Host.Outcome State Fault Refusal :=
  dev (decide (n < 256)) (fun s => Machine.actionStarve n s) s

/-- SCHED_BLOCK_RESET. -/
def execSchedBlockReset (s : State) : Host.Outcome State Fault Refusal :=
  dev (true) (fun s => schedReset s) s

/-- DUMP_BOUNDARY. -/
def execDumpBoundary (n : Nat) (s : State) : Host.Outcome State Fault Refusal :=
  dev (decide (n < 256)) (fun s => Machine.dumpBoundary n s) s

/-- LENS_TABLE_SWAP. -/
def execLensTableSwap (n : Nat) (s : State) : Host.Outcome State Fault Refusal :=
  dev (decide (n < 256)) (fun s => Machine.lensTableSwap n s) s

/-- LAMP_TABLE_SWAP. -/
def execLampTableSwap (n k : Nat) (s : State) : Host.Outcome State Fault Refusal :=
  dev (decide (n < 256) && decide (k < 64)) (fun s => Machine.lampTableSwap n k s) s

/-- WEIGHT_TABLE_SWAP. -/
def execWeightTableSwap (n : Nat) (s : State) : Host.Outcome State Fault Refusal :=
  dev (decide (n < 256)) (fun s => Machine.weightTableSwap n s) s

/-- APPLY_SET. -/
def execApplySet (n : Nat) (s : State) : Host.Outcome State Fault Refusal :=
  dev (decide (n < 256)) (fun s => applySetNow n s) s

/-- DELAY_STEP. -/
def execDelayStep (n : Nat) (s : State) : Host.Outcome State Fault Refusal :=
  dev (decide (n < 256)) (fun s => delayStepNow n s) s

/-- BEACON. -/
def execBeacon (n : Nat) (s : State) : Host.Outcome State Fault Refusal :=
  dev (decide (n < 256)) (fun s => beaconNow n s) s

/-- CAPTURE_FREEZE. -/
def execCaptureFreeze (n : Nat) (s : State) : Host.Outcome State Fault Refusal :=
  dev (decide (n < 256)) (fun s => Machine.captureFreeze n s) s

/-- COUNTER_SNAPSHOT. -/
def execCounterSnapshot (n : Nat) (s : State) : Host.Outcome State Fault Refusal :=
  dev (decide (n < 256)) (fun s => Machine.counterSnapshot n s) s

/-- BEAM_ENABLE. -/
def execBeamEnable (n : Nat) (s : State) : Host.Outcome State Fault Refusal :=
  dev (decide (n < 256)) (fun s => Machine.beamEnable n s) s

/-- BEAM_DISABLE. -/
def execBeamDisable (n : Nat) (s : State) : Host.Outcome State Fault Refusal :=
  dev (decide (n < 256)) (fun s => Machine.beamDisable n s) s

/-- TRIM. -/
def execTrim (n : Nat) (s : State) : Host.Outcome State Fault Refusal :=
  dev (decide (n < 256)) (fun s => trimNow n s) s

/-- LAMP_EVENT. -/
def execLampEvent (n k : Nat) (s : State) : Host.Outcome State Fault Refusal :=
  dev (decide (n < 256) && decide (k < 64)) (fun s => lampEventNow n k s) s

end Sys2Proof.Machine
end

