-- ==== Sys2Proof/Machine/CmdStaging.lean ====
section
/-! DEFINITION. Sys2Proof/Machine/CmdStaging.lean: the meanings of the commands of the staging store, verdicts and capture. -/
namespace Sys2Proof.Machine

/-- STG_COMMIT. -/
def execStgCommit (m : Nat) (s : State) : Host.Outcome State Fault Refusal :=
  dev (anyMaster m) (fun s => commitCmd m 0xF0004 1 (groupCommit 0xF0) s) s

/-- STG_CLEAR_CNT. -/
def execStgClearCnt (m : Nat) (s : State) : Host.Outcome State Fault Refusal :=
  dev (anyMaster m) (fun s => regCmd m 0xF0004 2 Machine.stgClearCnt s) s

/-- WINDOW_TIMEOUT. -/
def execWindowTimeout (j k : Nat) (s : State) : Host.Outcome State Fault Refusal :=
  dev (decide (j < 4) && decide (k < 2 ^ 64)) (fun s => Machine.windowTimeout j k s) s

/-- VERDICT_WAIT_EXPIRY. -/
def execVerdictWaitExpiry (j k : Nat) (s : State) : Host.Outcome State Fault Refusal :=
  dev (decide (j < 4) && decide (k < 2 ^ 64)) (fun s => Machine.verdictWaitExpiry j k s) s

/-- WINDOW_HAND_OUT. -/
def execWindowHandOut (j c : Nat) (s : State) : Host.Outcome State Fault Refusal :=
  dev (decide (j < 4) && decide (c < 512)) (fun s => Machine.windowHandOut j c s) s

/-- CAP_ARM. -/
def execCapArm (m : Nat) (s : State) : Host.Outcome State Fault Refusal :=
  dev (anyMaster m) (fun s => regCmd m 0xF0500 1 Machine.capArm s) s

/-- CAP_STOP. -/
def execCapStop (m : Nat) (s : State) : Host.Outcome State Fault Refusal :=
  dev (anyMaster m) (fun s => regCmd m 0xF0500 2 Machine.capStop s) s

/-- FREEZE_NOW. -/
def execFreezeNow (m : Nat) (s : State) : Host.Outcome State Fault Refusal :=
  dev (anyMaster m) (fun s => regCmd m 0xF0500 4 capTrigger s) s

/-- CAPTURE_TRIG_IN. -/
def execCaptureTrigIn (rising : Bool) (s : State) : Host.Outcome State Fault Refusal :=
  dev (true) (fun s => capTrigIn rising s) s

end Sys2Proof.Machine
end

