-- ==== Sys2Proof/Machine/CmdTime.lean ====
section
/-! DEFINITION. Sys2Proof/Machine/CmdTime.lean: the meanings of the commands of the time unit. -/
namespace Sys2Proof.Machine

/-- TIME_CTRL_SRC_WRITE. -/
def execTimeCtrlSrcWrite (m : Nat) (w : Word) (s : State) : Host.Outcome State Fault Refusal :=
  dev (anyMaster m) (fun s => regCmd m 0x10000 w (timeCtrlWrite w) s) s

/-- PTP_MESSAGE. -/
def execPtpMessage (via : Nat) (bytes : List Byte) (s : State) : Host.Outcome State Fault Refusal :=
  dev (decide (via < 4) && decide (bytes.length ≤ 1500)) (fun s => Machine.ptpMessage via bytes s) s

/-- PTP_FORWARD. -/
def execPtpForward (via residence : Nat) (bytes : List Byte) (s : State) : Host.Outcome State Fault Refusal :=
  dev (decide (via < 4) && decide (residence < 2 ^ 48) && decide (34 ≤ bytes.length) && decide (bytes.length ≤ 1500))
    (fun s => Machine.ptpForward via residence bytes s) s

/-- PPS_IN_EDGE. -/
def execPpsInEdge (rising : Bool) (s : State) : Host.Outcome State Fault Refusal :=
  dev (true) (fun s => ppsInEdgeSched rising s) s

/-- HOLDOVER_TIMEOUT. -/
def execHoldoverTimeout (s : State) : Host.Outcome State Fault Refusal :=
  dev (true) (fun s => Machine.holdoverTimeout s) s

/-- PPS_LOST_TIMEOUT. -/
def execPpsLostTimeout (s : State) : Host.Outcome State Fault Refusal :=
  dev (true) (fun s => Machine.ppsLostTimeout s) s

/-- STEP_NOW. -/
def execStepNow (m : Nat) (s : State) : Host.Outcome State Fault Refusal :=
  dev (anyMaster m) (fun s => commitCmd m 0x10030 1 stepNowSched s) s

/-- STEP_AT_PPS. -/
def execStepAtPps (m : Nat) (s : State) : Host.Outcome State Fault Refusal :=
  dev (anyMaster m) (fun s => commitCmd m 0x10030 2 Machine.stepAtPps s) s

/-- SD_COMMIT. -/
def execSdCommit (m d : Nat) (s : State) : Host.Outcome State Fault Refusal :=
  dev (anyMaster m && decide (d < 4)) (fun s => commitCmd m 0x10030 (BitVec.ofNat 32 (2 ^ (4 + d))) (groupCommit (16 + d)) s) s

/-- TB0_CAPTURE. -/
def execTb0Capture (m : Nat) (s : State) : Host.Outcome State Fault Refusal :=
  dev (anyMaster m) (fun s => regCmd m 0x10010 1 Machine.tb0Capture s) s

/-- PPS_OUT_RISE. -/
def execPpsOutRise (s : State) : Host.Outcome State Fault Refusal :=
  dev (true) (fun s => Machine.ppsOutRise s) s

/-- PPS_OUT_FALL. -/
def execPpsOutFall (s : State) : Host.Outcome State Fault Refusal :=
  dev (true) (fun s => Machine.ppsOutFall s) s

/-- BEACON_FALL. -/
def execBeaconFall (k : Nat) (s : State) : Host.Outcome State Fault Refusal :=
  dev (decide (k < 4)) (fun s => Machine.beaconFall k s) s

end Sys2Proof.Machine
end

