-- ==== Sys2Proof/Machine/Dispatch.lean ====
section
/-! DEFINITION. Sys2Proof/Machine/Dispatch.lean: one arm per command. -/
namespace Sys2Proof.Machine

def exec (i : Instr) (s : State) : Host.Outcome State Fault Refusal :=
  match i with
  | .registerWrite m off w host err => Sys2Proof.Machine.execRegisterWrite m off w host err s
  | .broadcastWrite m off w => Sys2Proof.Machine.execBroadcastWrite m off w s
  | .broadcastRead m off => Sys2Proof.Machine.execBroadcastRead m off s
  | .busAccess m write addr len en data err host => Sys2Proof.Machine.execBusAccess m write addr len en data err host s
  | .peripheralTimeout m addr write => Sys2Proof.Machine.execPeripheralTimeout m addr write s
  | .bmxCntUndefRead m => Sys2Proof.Machine.execBmxCntUndefRead m s
  | .topRemapSwap m => Sys2Proof.Machine.execTopRemapSwap m s
  | .timeCtrlSrcWrite m w => Sys2Proof.Machine.execTimeCtrlSrcWrite m w s
  | .ptpMessage via bytes => Sys2Proof.Machine.execPtpMessage via bytes s
  | .ptpForward via residence bytes => Sys2Proof.Machine.execPtpForward via residence bytes s
  | .ppsInEdge rising => Sys2Proof.Machine.execPpsInEdge rising s
  | .holdoverTimeout => Sys2Proof.Machine.execHoldoverTimeout s
  | .ppsLostTimeout => Sys2Proof.Machine.execPpsLostTimeout s
  | .stepNow m => Sys2Proof.Machine.execStepNow m s
  | .stepAtPps m => Sys2Proof.Machine.execStepAtPps m s
  | .sdCommit m d => Sys2Proof.Machine.execSdCommit m d s
  | .tb0Capture m => Sys2Proof.Machine.execTb0Capture m s
  | .ppsOutRise => Sys2Proof.Machine.execPpsOutRise s
  | .ppsOutFall => Sys2Proof.Machine.execPpsOutFall s
  | .beaconFall k => Sys2Proof.Machine.execBeaconFall k s
  | .slotArm m n w => Sys2Proof.Machine.execSlotArm m n w s
  | .slotCancel m n => Sys2Proof.Machine.execSlotCancel m n s
  | .slotDeliver n => Sys2Proof.Machine.execSlotDeliver n s
  | .actionStarve n => Sys2Proof.Machine.execActionStarve n s
  | .schedBlockReset => Sys2Proof.Machine.execSchedBlockReset s
  | .dumpBoundary n => Sys2Proof.Machine.execDumpBoundary n s
  | .lensTableSwap n => Sys2Proof.Machine.execLensTableSwap n s
  | .lampTableSwap n k => Sys2Proof.Machine.execLampTableSwap n k s
  | .weightTableSwap n => Sys2Proof.Machine.execWeightTableSwap n s
  | .applySet n => Sys2Proof.Machine.execApplySet n s
  | .delayStep n => Sys2Proof.Machine.execDelayStep n s
  | .beacon n => Sys2Proof.Machine.execBeacon n s
  | .captureFreeze n => Sys2Proof.Machine.execCaptureFreeze n s
  | .counterSnapshot n => Sys2Proof.Machine.execCounterSnapshot n s
  | .beamEnable n => Sys2Proof.Machine.execBeamEnable n s
  | .beamDisable n => Sys2Proof.Machine.execBeamDisable n s
  | .trim n => Sys2Proof.Machine.execTrim n s
  | .lampEvent n k => Sys2Proof.Machine.execLampEvent n k s
  | .headWick l sync seq credit desc used => Sys2Proof.Machine.execHeadWick l sync seq credit desc used s
  | .bodyWick l sync seq credit payload overload => Sys2Proof.Machine.execBodyWick l sync seq credit payload overload s
  | .bodyLastWick l sync seq credit payload overload capOk => Sys2Proof.Machine.execBodyLastWick l sync seq credit payload overload capOk s
  | .idleWick l sync seq credit => Sys2Proof.Machine.execIdleWick l sync seq credit s
  | .ctrlWick l sync seq credit payload => Sys2Proof.Machine.execCtrlWick l sync seq credit payload s
  | .trainWick l sync seq credit payload => Sys2Proof.Machine.execTrainWick l sync seq credit payload s
  | .creditSyncWick l sync seq credit payload => Sys2Proof.Machine.execCreditSyncWick l sync seq credit payload s
  | .flaggedIdleWick l sync seq credit => Sys2Proof.Machine.execFlaggedIdleWick l sync seq credit s
  | .wickCrcFail l sync header payload => Sys2Proof.Machine.execWickCrcFail l sync header payload s
  | .wickTransmit l => Sys2Proof.Machine.execWickTransmit l s
  | .clockAcquired g => Sys2Proof.Machine.execClockAcquired g s
  | .equaliserAdapted l => Sys2Proof.Machine.execEqualiserAdapted l s
  | .trainStageTimeout l activity => Sys2Proof.Machine.execTrainStageTimeout l activity s
  | .ffeFallback l => Sys2Proof.Machine.execFfeFallback l s
  | .backoffExpiry l => Sys2Proof.Machine.execBackoffExpiry l s
  | .clockActivityStart g => Sys2Proof.Machine.execClockActivityStart g s
  | .groupClockLoss g activity => Sys2Proof.Machine.execGroupClockLoss g activity s
  | .creditReset l => Sys2Proof.Machine.execCreditReset l s
  | .retrain m l => Sys2Proof.Machine.execRetrain m l s
  | .sendRetrainReq m l => Sys2Proof.Machine.execSendRetrainReq m l s
  | .laneClearCnt m l => Sys2Proof.Machine.execLaneClearCnt m l s
  | .lnkCommit m g => Sys2Proof.Machine.execLnkCommit m g s
  | .retrainAll m g => Sys2Proof.Machine.execRetrainAll m g s
  | .egrCommit m => Sys2Proof.Machine.execEgrCommit m s
  | .egressPacket e blocked => Sys2Proof.Machine.execEgressPacket e blocked s
  | .countMarker e => Sys2Proof.Machine.execCountMarker e s
  | .deskewDone l => Sys2Proof.Machine.execDeskewDone l s
  | .reservedTypeWick l sync seq credit type payload => Sys2Proof.Machine.execReservedTypeWick l sync seq credit type payload s
  | .prbsLock l bits => Sys2Proof.Machine.execPrbsLock l bits s
  | .lensCommit m => Sys2Proof.Machine.execLensCommit m s
  | .lensCoefData m w => Sys2Proof.Machine.execLensCoefData m w s
  | .lensSeal m => Sys2Proof.Machine.execLensSeal m s
  | .lensUnseal m => Sys2Proof.Machine.execLensUnseal m s
  | .lensSwapNow m => Sys2Proof.Machine.execLensSwapNow m s
  | .lensResetPtr m => Sys2Proof.Machine.execLensResetPtr m s
  | .lensOutputCount first => Sys2Proof.Machine.execLensOutputCount first s
  | .lampRun m n => Sys2Proof.Machine.execLampRun m n s
  | .lampHalt m n => Sys2Proof.Machine.execLampHalt m n s
  | .lampStep m n err => Sys2Proof.Machine.execLampStep m n err s
  | .lampReset m n => Sys2Proof.Machine.execLampReset m n s
  | .lmpDoorbell m n v => Sys2Proof.Machine.execLmpDoorbell m n v s
  | .lmpCommit m n => Sys2Proof.Machine.execLmpCommit m n s
  | .lampSeal m n => Sys2Proof.Machine.execLampSeal m n s
  | .lampUnseal m n => Sys2Proof.Machine.execLampUnseal m n s
  | .lampSwapNow m n => Sys2Proof.Machine.execLampSwapNow m n s
  | .dbgDataWrite m n w => Sys2Proof.Machine.execDbgDataWrite m n w s
  | .interruptEntry n => Sys2Proof.Machine.execInterruptEntry n s
  | .lampTimerExpiry n => Sys2Proof.Machine.execLampTimerExpiry n s
  | .fetchComplete n err => Sys2Proof.Machine.execFetchComplete n err s
  | .outboxRead n => Sys2Proof.Machine.execOutboxRead n s
  | .soutRecordEnter n overload => Sys2Proof.Machine.execSoutRecordEnter n overload s
  | .illegalInstruction n w => Sys2Proof.Machine.execIllegalInstruction n w s
  | .nop n => Sys2Proof.Machine.execNop n s
  | .halt n => Sys2Proof.Machine.execHalt n s
  | .b n cnd tgt => Sys2Proof.Machine.execB n cnd tgt s
  | .call n tgt => Sys2Proof.Machine.execCall n tgt s
  | .jr n cnd a => Sys2Proof.Machine.execJr n cnd a s
  | .reti n => Sys2Proof.Machine.execReti n s
  | .loop n k e c => Sys2Proof.Machine.execLoop n k e c s
  | .loopReg n k e a => Sys2Proof.Machine.execLoopReg n k e a s
  | .add n d a b => Sys2Proof.Machine.execAdd n d a b s
  | .sub n d a b => Sys2Proof.Machine.execSub n d a b s
  | .and n d a b => Sys2Proof.Machine.execAnd n d a b s
  | .or n d a b => Sys2Proof.Machine.execOr n d a b s
  | .xor n d a b => Sys2Proof.Machine.execXor n d a b s
  | .lsl n d a k => Sys2Proof.Machine.execLsl n d a k s
  | .asr n d a k => Sys2Proof.Machine.execAsr n d a k s
  | .lsr n d a k => Sys2Proof.Machine.execLsr n d a k s
  | .addImm n d a imm => Sys2Proof.Machine.execAddImm n d a imm s
  | .movImm n d imm => Sys2Proof.Machine.execMovImm n d imm s
  | .movh n d imm => Sys2Proof.Machine.execMovh n d imm s
  | .cmp n a b => Sys2Proof.Machine.execCmp n a b s
  | .cmpImm n a imm => Sys2Proof.Machine.execCmpImm n a imm s
  | .getl n d a k => Sys2Proof.Machine.execGetl n d a k s
  | .setl n d a k => Sys2Proof.Machine.execSetl n d a k s
  | .rsum n d ac sh x => Sys2Proof.Machine.execRsum n d ac sh x s
  | .geta n d ac k x => Sys2Proof.Machine.execGeta n d ac k x s
  | .obx n a => Sys2Proof.Machine.execObx n a s
  | .addAImm n p imm => Sys2Proof.Machine.execAddAImm n p imm s
  | .movAS n p q => Sys2Proof.Machine.execMovAS n p q s
  | .movSA n p q => Sys2Proof.Machine.execMovSA n p q s
  | .movMS n p q => Sys2Proof.Machine.execMovMS n p q s
  | .movAImm n p imm => Sys2Proof.Machine.execMovAImm n p imm s
  | .movlM n p imm => Sys2Proof.Machine.execMovlM n p imm s
  | .movhM n p imm => Sys2Proof.Machine.execMovhM n p imm s
  | .mts n d sp => Sys2Proof.Machine.execMts n d sp s
  | .mfs n d sp => Sys2Proof.Machine.execMfs n d sp s
  | .ld n d aa mm pm off err => Sys2Proof.Machine.execLd n d aa mm pm off err s
  | .st n d aa mm pm off => Sys2Proof.Machine.execSt n d aa mm pm off s
  | .ldc n d aa mm pm off err => Sys2Proof.Machine.execLdc n d aa mm pm off err s
  | .ldcb n d aa mm pm off err => Sys2Proof.Machine.execLdcb n d aa mm pm off err s
  | .ldS n d aa mm pm off err => Sys2Proof.Machine.execLdS n d aa mm pm off err s
  | .stS n d aa mm pm off => Sys2Proof.Machine.execStS n d aa mm pm off s
  | .ldw n d aa mm pm off err => Sys2Proof.Machine.execLdw n d aa mm pm off err s
  | .stw n d aa mm pm off => Sys2Proof.Machine.execStw n d aa mm pm off s
  | .sin n d => Sys2Proof.Machine.execSin n d s
  | .sout n a => Sys2Proof.Machine.execSout n a s
  | .pass n => Sys2Proof.Machine.execPass n s
  | .xmul n sh cj aa mm pm err => Sys2Proof.Machine.execXmul n sh cj aa mm pm err s
  | .tap n ac d aa mm pm off err => Sys2Proof.Machine.execTap n ac d aa mm pm off err s
  | .srch n d aa mm pm off => Sys2Proof.Machine.execSrch n d aa mm pm off s
  | .srchi n => Sys2Proof.Machine.execSrchi n s
  | .fetch n a b aa rows dir pk => Sys2Proof.Machine.execFetch n a b aa rows dir pk s
  | .vadd n d a b => Sys2Proof.Machine.execVadd n d a b s
  | .vsub n d a b => Sys2Proof.Machine.execVsub n d a b s
  | .vmin n d a b => Sys2Proof.Machine.execVmin n d a b s
  | .vmax n d a b => Sys2Proof.Machine.execVmax n d a b s
  | .vand n d a b => Sys2Proof.Machine.execVand n d a b s
  | .vor n d a b => Sys2Proof.Machine.execVor n d a b s
  | .vxor n d a b => Sys2Proof.Machine.execVxor n d a b s
  | .vasr n d a sh x => Sys2Proof.Machine.execVasr n d a sh x s
  | .vlsl n d a sh => Sys2Proof.Machine.execVlsl n d a sh s
  | .bcast n d a => Sys2Proof.Machine.execBcast n d a s
  | .mul n d a b sh cj => Sys2Proof.Machine.execMul n d a b sh cj s
  | .mpy n ac a b cj => Sys2Proof.Machine.execMpy n ac a b cj s
  | .mac n ac a b cj => Sys2Proof.Machine.execMac n ac a b cj s
  | .msu n ac a b cj => Sys2Proof.Machine.execMsu n ac a b cj s
  | .pwr n ac a => Sys2Proof.Machine.execPwr n ac a s
  | .rnd n d ac sh => Sys2Proof.Machine.execRnd n d ac sh s
  | .stgCommit m => Sys2Proof.Machine.execStgCommit m s
  | .stgClearCnt m => Sys2Proof.Machine.execStgClearCnt m s
  | .windowTimeout j k => Sys2Proof.Machine.execWindowTimeout j k s
  | .verdictWaitExpiry j k => Sys2Proof.Machine.execVerdictWaitExpiry j k s
  | .windowHandOut j c => Sys2Proof.Machine.execWindowHandOut j c s
  | .capArm m => Sys2Proof.Machine.execCapArm m s
  | .capStop m => Sys2Proof.Machine.execCapStop m s
  | .freezeNow m => Sys2Proof.Machine.execFreezeNow m s
  | .captureTrigIn rising => Sys2Proof.Machine.execCaptureTrigIn rising s
  | .lanCommit m => Sys2Proof.Machine.execLanCommit m s
  | .lanReseed m => Sys2Proof.Machine.execLanReseed m s
  | .taskDispatch j => Sys2Proof.Machine.execTaskDispatch j s
  | .taskStart l => Sys2Proof.Machine.execTaskStart l s
  | .taskComplete l => Sys2Proof.Machine.execTaskComplete l s
  | .lanDebugWrite m off w => Sys2Proof.Machine.execLanDebugWrite m off w s
  | .promotion j parity errs => Sys2Proof.Machine.execPromotion j parity errs s
  | .notice j => Sys2Proof.Machine.execNotice j s
  | .periodEndMarker j k => Sys2Proof.Machine.execPeriodEndMarker j k s
  | .slotDrain n errs => Sys2Proof.Machine.execSlotDrain n errs s
  | .dumpCopyComplete j => Sys2Proof.Machine.execDumpCopyComplete j s
  | .slotClear n => Sys2Proof.Machine.execSlotClear n s
  | .tagSet n => Sys2Proof.Machine.execTagSet n s
  | .mantleInitClear => Sys2Proof.Machine.execMantleInitClear s
  | .mntCommit m => Sys2Proof.Machine.execMntCommit m s
  | .canCommit m => Sys2Proof.Machine.execCanCommit m s
  | .blockSkewTimeout k b => Sys2Proof.Machine.execBlockSkewTimeout k b s
  | .canWData m w => Sys2Proof.Machine.execCanWData m w s
  | .copyLive m => Sys2Proof.Machine.execCopyLive m s
  | .copyComplete => Sys2Proof.Machine.execCopyComplete s
  | .canSeal m => Sys2Proof.Machine.execCanSeal m s
  | .canUnseal m => Sys2Proof.Machine.execCanUnseal m s
  | .canSwapNow m => Sys2Proof.Machine.execCanSwapNow m s
  | .dmaStart m c => Sys2Proof.Machine.execDmaStart m c s
  | .dmaDoorbell m c err host => Sys2Proof.Machine.execDmaDoorbell m c err host s
  | .dmaAbort m c => Sys2Proof.Machine.execDmaAbort m c s
  | .dmaClearCnt m c => Sys2Proof.Machine.execDmaClearCnt m c s
  | .dmaEnWrite m en => Sys2Proof.Machine.execDmaEnWrite m en s
  | .dmaBlockReset => Sys2Proof.Machine.execDmaBlockReset s
  | .descriptorFetch c err host => Sys2Proof.Machine.execDescriptorFetch c err host s
  | .readBurst c dst => Sys2Proof.Machine.execReadBurst c dst s
  | .writeBurst c => Sys2Proof.Machine.execWriteBurst c s
  | .readResponse c k err host => Sys2Proof.Machine.execReadResponse c k err host s
  | .writeAck c k err => Sys2Proof.Machine.execWriteAck c k err s
  | .descriptorEnd c err host again => Sys2Proof.Machine.execDescriptorEnd c err host again s
  | .cmpRdWrite m c v err host => Sys2Proof.Machine.execCmpRdWrite m c v err host s
  | .memInit m => Sys2Proof.Machine.execMemInit m s
  | .memTrainingComplete fail => Sys2Proof.Machine.execMemTrainingComplete fail s
  | .periodicRetrain c => Sys2Proof.Machine.execPeriodicRetrain c s
  | .periodicRetrainComplete c => Sys2Proof.Machine.execPeriodicRetrainComplete c s
  | .fspReq m => Sys2Proof.Machine.execFspReq m s
  | .fspInvalidate m => Sys2Proof.Machine.execFspInvalidate m s
  | .fspRateWrite m k v => Sys2Proof.Machine.execFspRateWrite m k v s
  | .fspSwitchComplete fail => Sys2Proof.Machine.execFspSwitchComplete fail s
  | .tempPoll ts => Sys2Proof.Machine.execTempPoll ts s
  | .srEntry c => Sys2Proof.Machine.execSrEntry c s
  | .srExit c entering => Sys2Proof.Machine.execSrExit c entering s
  | .memRequest q m write off len data => Sys2Proof.Machine.execMemRequest q m write off len data s
  | .memIssue c e0 e1 slip => Sys2Proof.Machine.execMemIssue c e0 e1 slip s
  | .burstReadCheck off e0 e1 slip m => Sys2Proof.Machine.execBurstReadCheck off e0 e1 slip m s
  | .patrolScrub e0 e1 slip => Sys2Proof.Machine.execPatrolScrub e0 e1 slip s
  | .memCommit m => Sys2Proof.Machine.execMemCommit m s
  | .memErrAddrRead m => Sys2Proof.Machine.execMemErrAddrRead m s
  | .hifLinkUp width rate cxl flit256 => Sys2Proof.Machine.execHifLinkUp width rate cxl flit256 s
  | .hifLinkDown retired => Sys2Proof.Machine.execHifLinkDown retired s
  | .hifRetrain m => Sys2Proof.Machine.execHifRetrain m s
  | .configRequest loaded q => Sys2Proof.Machine.execConfigRequest loaded q s
  | .bar0Access write off len w err host => Sys2Proof.Machine.execBar0Access write off len w err host s
  | .apertureAccess write off len en data err => Sys2Proof.Machine.execApertureAccess write off len en data err s
  | .cxlMemRead addr err => Sys2Proof.Machine.execCxlMemRead addr err s
  | .cxlMemWrite addr en data err => Sys2Proof.Machine.execCxlMemWrite addr en data err s
  | .snoop addr => Sys2Proof.Machine.execSnoop addr s
  | .mbxDoorbell m => Sys2Proof.Machine.execMbxDoorbell m s
  | .mbxResponse host bad => Sys2Proof.Machine.execMbxResponse host bad s
  | .msixMessage v => Sys2Proof.Machine.execMsixMessage v s
  | .bar2Access write off w => Sys2Proof.Machine.execBar2Access write off w s
  | .hifPerstN high => Sys2Proof.Machine.execHifPerstN high s
  | .zmpDatagram port ip udp dst bytes host bad => Sys2Proof.Machine.execZmpDatagram port ip udp dst bytes host bad s
  | .read origin session ix el count => Sys2Proof.Machine.execRead origin session ix el count s
  | .write origin session ix el count value host bad => Sys2Proof.Machine.execWrite origin session ix el count value host bad s
  | .writeStaged p origin session ix el count value => Sys2Proof.Machine.execWriteStaged p origin session ix el count value s
  | .applyNow origin session p => Sys2Proof.Machine.execApplyNow origin session p s
  | .applyScheduled origin session p n dom policy trig ns => Sys2Proof.Machine.execApplyScheduled origin session p n dom policy trig ns s
  | .subscribe session ix el count mode interval => Sys2Proof.Machine.execSubscribe session ix el count mode interval s
  | .blockRead origin ix el off len => Sys2Proof.Machine.execBlockRead origin ix el off len s
  | .blockWrite origin session ix el off data => Sys2Proof.Machine.execBlockWrite origin session ix el off data s
  | .logRead origin first len => Sys2Proof.Machine.execLogRead origin first len s
  | .discover ip udp seq => Sys2Proof.Machine.execDiscover ip udp seq s
  | .notifySend n k => Sys2Proof.Machine.execNotifySend n k s
  | .sessionTimeout n => Sys2Proof.Machine.execSessionTimeout n s
  | .psetClear origin session p => Sys2Proof.Machine.execPsetClear origin session p s
  | .psetApplyNow origin session p => Sys2Proof.Machine.execPsetApplyNow origin session p s
  | .psetCheck origin session p => Sys2Proof.Machine.execPsetCheck origin session p s
  | .restoreDefaults origin session v => Sys2Proof.Machine.execRestoreDefaults origin session v s
  | .journalWrite => Sys2Proof.Machine.execJournalWrite s
  | .logPersist => Sys2Proof.Machine.execLogPersist s
  | .bootRomStart slots update boot => Sys2Proof.Machine.execBootRomStart slots update boot s
  | .firmwareInit dict stores => Sys2Proof.Machine.execFirmwareInit dict stores s
  | .lamplighterReset retired => Sys2Proof.Machine.execLamplighterReset retired s
  | .nvmWordWrite m w maker => Sys2Proof.Machine.execNvmWordWrite m w maker s
  | .nvmWriteComplete bad => Sys2Proof.Machine.execNvmWriteComplete bad s
  | .nvmErrAddrRead m => Sys2Proof.Machine.execNvmErrAddrRead m s
  | .thermalSample vals => Sys2Proof.Machine.execThermalSample vals s
  | .voltageSample vals => Sys2Proof.Machine.execVoltageSample vals s
  | .eyeStart m l => Sys2Proof.Machine.execEyeStart m l s
  | .eyeComplete height width => Sys2Proof.Machine.execEyeComplete height width s
  | .lifetimeWrite => Sys2Proof.Machine.execLifetimeWrite s
  | .tempHistogramMinute => Sys2Proof.Machine.execTempHistogramMinute s
  | .lifetimeClear v => Sys2Proof.Machine.execLifetimeClear v s
  | .updateBegin origin session => Sys2Proof.Machine.execUpdateBegin origin session s
  | .updateCommit origin session bad => Sys2Proof.Machine.execUpdateCommit origin session bad s
  | .updateActivate origin session => Sys2Proof.Machine.execUpdateActivate origin session s
  | .updateConfirm origin session => Sys2Proof.Machine.execUpdateConfirm origin session s
  | .updateRevert origin session => Sys2Proof.Machine.execUpdateRevert origin session s
  | .updateAbort origin session => Sys2Proof.Machine.execUpdateAbort origin session s
  | .faultEvent kind src sub addr access m => Sys2Proof.Machine.execFaultEvent kind src sub addr access m s
  | .faultNotify => Sys2Proof.Machine.execFaultNotify s
  | .snuffInAssert => Sys2Proof.Machine.execSnuffInAssert s
  | .snuffInDeassert => Sys2Proof.Machine.execSnuffInDeassert s
  | .snuffNow m => Sys2Proof.Machine.execSnuffNow m s
  | .snuffClear m => Sys2Proof.Machine.execSnuffClear m s
  | .quietPeriodEnd => Sys2Proof.Machine.execQuietPeriodEnd s
  | .recoveryWindowEnd => Sys2Proof.Machine.execRecoveryWindowEnd s
  | .firstClear m => Sys2Proof.Machine.execFirstClear m s
  | .fltCommit m => Sys2Proof.Machine.execFltCommit m s
  | .injectArm m => Sys2Proof.Machine.execInjectArm m s
  | .injectCancel m => Sys2Proof.Machine.execInjectCancel m s
  | .c4ResetHold => Sys2Proof.Machine.execC4ResetHold s
  | .c4ResetRelease => Sys2Proof.Machine.execC4ResetRelease s
  | .pairSenseChange level => Sys2Proof.Machine.execPairSenseChange level s
  | .claimAssert => Sys2Proof.Machine.execClaimAssert s
  | .claimConfirm => Sys2Proof.Machine.execClaimConfirm s
  | .dualClaim => Sys2Proof.Machine.execDualClaim s
  | .claimRelease => Sys2Proof.Machine.execClaimRelease s
  | .pairHoldWrite m hold => Sys2Proof.Machine.execPairHoldWrite m hold s
  | .pairCommit m => Sys2Proof.Machine.execPairCommit m s
  | .pairClearCnt m => Sys2Proof.Machine.execPairClearCnt m s
  | .heartbeat payload => Sys2Proof.Machine.execHeartbeat payload s
  | .heartbeatSend => Sys2Proof.Machine.execHeartbeatSend s
  | .dumpDigest payload => Sys2Proof.Machine.execDumpDigest payload s
  | .beamDigest payload => Sys2Proof.Machine.execBeamDigest payload s
  | .digestSend => Sys2Proof.Machine.execDigestSend s
  | .pilotFrameError crcBad => Sys2Proof.Machine.execPilotFrameError crcBad s
  | .pilotDown => Sys2Proof.Machine.execPilotDown s
  | .digestWaitTimeout cause unit key => Sys2Proof.Machine.execDigestWaitTimeout cause unit key s
  | .trimWaitTimeout => Sys2Proof.Machine.execTrimWaitTimeout s
  | .snapNow m => Sys2Proof.Machine.execSnapNow m s
  | .pmrFreeze m => Sys2Proof.Machine.execPmrFreeze m s
  | .pmrUnfreeze m => Sys2Proof.Machine.execPmrUnfreeze m s
  | .clearAll m => Sys2Proof.Machine.execClearAll m s
  | .pmrCommit m => Sys2Proof.Machine.execPmrCommit m s
  | .snapshotCollectComplete => Sys2Proof.Machine.execSnapshotCollectComplete s
  | .snapLostRead m => Sys2Proof.Machine.execSnapLostRead m s
  | .porstAssert => Sys2Proof.Machine.execPorstAssert s
  | .resetRelease cause pers prio => Sys2Proof.Machine.execResetRelease cause pers prio s
  | .brownOut => Sys2Proof.Machine.execBrownOut s
  | .wrstN => Sys2Proof.Machine.execWrstN s
  | .resetKey m w => Sys2Proof.Machine.execResetKey m w s
  | .refclkLoss => Sys2Proof.Machine.execRefclkLoss s
  | .pllUnlock k => Sys2Proof.Machine.execPllUnlock k s
  | .topPersSel m v => Sys2Proof.Machine.execTopPersSel m v s
  | .watchdogEnable m => Sys2Proof.Machine.execWatchdogEnable m s
  | .watchdogKick m => Sys2Proof.Machine.execWatchdogKick m s
  | .watchdogExpiry => Sys2Proof.Machine.execWatchdogExpiry s
  | .trstN high retired => Sys2Proof.Machine.execTrstN high retired s
  | .pllLock k => Sys2Proof.Machine.execPllLock k s
  | .smbAlert asserted => Sys2Proof.Machine.execSmbAlert asserted s
  | .tck rising tms tdi => Sys2Proof.Machine.execTck rising tms tdi s
  | .managementPortLink port up => Sys2Proof.Machine.execManagementPortLink port up s
  | .managementFrame port inward onward bytes => Sys2Proof.Machine.execManagementFrame port inward onward bytes s
  | .dhcpMessage port type addr => Sys2Proof.Machine.execDhcpMessage port type addr s
  | .linkLocalFallback => Sys2Proof.Machine.execLinkLocalFallback s
  | .delayReqSend => Sys2Proof.Machine.execDelayReqSend s
  | .announceTimeout => Sys2Proof.Machine.execAnnounceTimeout s

end Sys2Proof.Machine
end

