-- ==== Sys2Proof/Safety.lean ====
section
/-! DEFINITION. Sys2Proof/Safety.lean: what counts as a safe run, the invariant that every step keeps, and the words in which claims say
when a command acts. -/
namespace Sys2Proof.Machine

/-! ## Safe runs -/

/-- The command at the front of the queue, if any, is well formed: the next step does not stop. -/
def frontWf (s : State) : Bool := match s.pending with | [] => true | c :: _ => wellFormed c

/-- The next step answers a next state. -/
def completes (s : State) : Prop := ∃ t, step s = .next t

/-- A command that acts on a device held in reset: a level or an edge of a pin, a clock, a sample of the thermal sensors. -/
def pinCommand : Instr → Bool
  | .hifPerstN _ => true
  | .thermalSample _ => true
  | .snuffInAssert => true
  | .snuffInDeassert => true
  | .c4ResetHold => true
  | .c4ResetRelease => true
  | .pairSenseChange _ => true
  | .porstAssert => true
  | .resetRelease _ _ _ => true
  | .brownOut => true
  | .wrstN => true
  | .refclkLoss => true
  | .pllUnlock _ => true
  | .trstN _ _ => true
  | .pllLock _ => true
  | .smbAlert _ => true
  | .tck _ _ _ => true
  | _ => false

/-! ## The invariant -/

/-- STAGE is FW_INIT, after the firmware's last step, only while memory training or the mantle's clear runs (R685). -/
def stageQuiet (s : State) : Bool := !(stageWaits s && (bootReady s || trainFailed s))

/-- Nothing that the end of a command does is left to do: no descriptor that a commit discarded is still to reach the ingest stage, no
block reset waits, no lamp reset has a fetch to cut short, no lane of a snuffed device is in the middle of a packet that counts, every
ARMED set has its slot, and STAGE is what the boot has reached. -/
structure Settled (s : State) : Prop where
  resets : s.flt.blockResets = []
  cuts : s.lmp.cut = []
  psets : ∀ n, n < 4 → psetQuiet s n = true
  stage : stageQuiet s = true
  lost : s.links.lost = []
  lanes : lanesQuiet s = true

/-! ## When commands act -/

/-- The lamp is RUNNING and the instruction is legal where it stands, once the results due have landed (R215, R250). -/
def lampReady (n : Nat) (op : LampOp) (s : State) : Prop :=
  lampRunning s n = true ∧ lampOpIllegal ((issueTick n s).lamp n) (lampPc (issueTick n s) n) op = false

/-- What an instruction reads its operands from: the lamp with the results due landed, its issue counted (R215, R658). -/
def lampIssued (n : Nat) (s : State) : State := perfEvent (bankLmp n) 0x10 1 (issueTick n s)

/-- After an instruction at the program counter has had its effect: the next address, and a HALT that waits for a boundary (R217 to
R220, R245). `tgt`: where a taken branch goes. -/
def lampGoesOn (n : Nat) (op : LampOp) (tgt : Option Nat) (before t : State) : State :=
  haltCheck n (if lampRunning t n then lampAdvance n (lampPc before n) op tgt t else t)

/-- Results that an instruction of lamp n puts in flight (R215). -/
def lampFlies (n : Nat) (fs : List Flight) (s : State) : State := s.setLamp n { s.lamp n with flight := (s.lamp n).flight ++ fs }

/-- An injection is armed for the wick-CRC checker of receive lane l (R620, R621). -/
def wickArmed (l : Nat) (s : State) : Bool := s.flt.inj.any fun i => i.names (lnkSrc l) (l % 8) 0

/-- A CRC-good wick is neither ignored, struck by an injection nor failed by R723: the lane frames wicks before and after its SYNC field is judged, and its SEQ
follows the last wick's (R104, R149, R621, R723). -/
def wickTaken (l : Nat) (sync : Bool) (seq : Nat) (s : State) : Prop :=
  rxFrames s l = true ∧ rxFrames (syncStep l sync s) l = true ∧ wickArmed l (syncStep l sync s) = false ∧ ((syncStep l sync s).rxLane l).undefNext = false ∧
  ∀ q, ((syncStep l sync s).rxLane l).lastRaw = some q → (q + 1) % 1024 = seq % 1024

/-- A CRC-good wick that a lane frames and an armed injection strikes (R621). -/
def wickStruck (l : Nat) (sync : Bool) (s : State) : Prop :=
  rxFrames s l = true ∧ rxFrames (syncStep l sync s) l = true ∧ wickArmed l (syncStep l sync s) = true

/-- A WRITE of one command object: the log's buffer is emptied, the command acts, and the write is logged (R504, R564). -/
def objectCommand (origin session ix el : Nat) (value : List Byte) (f : State → State) (s : State) : State :=
  let x := logDrain s
  ((checkWrite origin 1 ix el 1 value).2.foldl (fun y w => logObject 0 origin session w (peekElem w x) y) (f x)).respond true [0]

/-- A claim is shown exactly in CLAIMING and ACTIVE, and never while the device is snuffed (R628, R632). -/
def roleAndClaimAgree (s : State) : Bool :=
  (s.flag Reg.PAIR_STATUS_CLAIM_OUT == (s.f Reg.PAIR_STATUS_STATE == 2 || s.f Reg.PAIR_STATUS_STATE == 3)) &&
    !(s.snuffed && s.flag Reg.PAIR_STATUS_CLAIM_OUT)

/-- The byte and word stores that addresses reach are in canonical form: addresses strictly rise and no entry is the zero that an
unlisted address reads as. -/
def Memory.wf (s : State) : Bool :=
  mapWf (fun _ => (0 : Byte)) s.mem.dram && mapWf (fun _ => (0 : Byte)) s.mgmt.sram && mapWf (fun _ => (0 : Byte)) s.nvm.bytes &&
    mapWf (fun _ => (0 : Byte)) s.stg.sram && mapWf (fun _ => 0) s.lmp.dmem && mapWf (fun _ => 0) s.lmp.cmem && mapWf (fun _ => 0) s.lmp.imem

/-- The stores of `Memory.wf` are the same in both states. -/
def Memory.same (s t : State) : Prop :=
  t.mem.dram = s.mem.dram ∧ t.mgmt.sram = s.mgmt.sram ∧ t.nvm.bytes = s.nvm.bytes ∧ t.stg.sram = s.stg.sram ∧ t.lmp.dmem = s.lmp.dmem ∧
    t.lmp.cmem = s.lmp.cmem ∧ t.lmp.imem = s.lmp.imem

/-- A register word that a performance counter's event may change: counters and their overflow bits (R653). -/
def isCounter (k : Nat) : Bool := decide (0x4C000 ≤ k) && decide (k < 0x4F200)

/-! ## Commands that are one register write -/

/-- The register write a command stands for, where its word has no field beside the command's own, or, in CAP_CTRL, such fields as they
stand: master, register address, word, and the error and host bytes that a read it makes meets. -/
def asWrite (s : State) : Instr → Option (Nat × Nat × Word × List Byte × Nat)
  | .resetKey m w => some (m, 0x8, w, [], 0)
  | .canCommit m => some (m, 0x120004, 1, [], 0)
  | .canWData m w => some (m, 0x12001C, w, [], 0)
  | .copyLive m => some (m, 0x120010, 8, [], 0)
  | .canSeal m => some (m, 0x120010, 1, [], 0)
  | .canUnseal m => some (m, 0x120010, 2, [], 0)
  | .canSwapNow m => some (m, 0x120010, 4, [], 0)
  | .snapNow m => some (m, 0x40000, 1, [], 0)
  | .pmrFreeze m => some (m, 0x40000, 2, [], 0)
  | .pmrUnfreeze m => some (m, 0x40000, 4, [], 0)
  | .clearAll m => some (m, 0x40000, 8, [], 0)
  | .pmrCommit m => some (m, 0x40004, 1, [], 0)
  | .dmaStart m c => some (m, 0xD0100 + c * 64, 1, [], 0)
  | .dmaDoorbell m c err host => some (m, 0xD0100 + c * 64, 2, host, err)
  | .dmaAbort m c => some (m, 0xD0100 + c * 64, 4, [], 0)
  | .dmaClearCnt m c => some (m, 0xD0100 + c * 64, 8, [], 0)
  | .dmaEnWrite m en => some (m, 0xD0000, BitVec.ofNat 32 (b2n en), [], 0)
  | .cmpRdWrite m c v err host => some (m, 0xD0128 + c * 64, BitVec.ofNat 32 v, host, err)
  | .snuffNow m => some (m, 0x30000, 1, [], 0)
  | .snuffClear m => some (m, 0x30000, 2, [], 0)
  | .firstClear m => some (m, 0x30000, 4, [], 0)
  | .fltCommit m => some (m, 0x30014, 1, [], 0)
  | .injectArm m => some (m, 0x30084, 1, [], 0)
  | .injectCancel m => some (m, 0x30084, 2, [], 0)
  | .mbxDoorbell m => some (m, 0xB0200, 1, [], 0)
  | .lampRun m n => some (m, 0x400000 + n * 0x10000, 1, [], 0)
  | .lampHalt m n => some (m, 0x400000 + n * 0x10000, 2, [], 0)
  | .lampStep m n err => some (m, 0x400000 + n * 0x10000, 4, [], err)
  | .lampReset m n => some (m, 0x400000 + n * 0x10000, 8, [], 0)
  | .lmpDoorbell m n v => some (m, 0x400010 + n * 0x10000, BitVec.ofNat 32 v, [], 0)
  | .lmpCommit m n => some (m, 0x400018 + n * 0x10000, 1, [], 0)
  | .lampSeal m n => some (m, 0x40001C + n * 0x10000, 1, [], 0)
  | .lampUnseal m n => some (m, 0x40001C + n * 0x10000, 2, [], 0)
  | .lampSwapNow m n => some (m, 0x40001C + n * 0x10000, 4, [], 0)
  | .dbgDataWrite m n w => some (m, 0x400034 + n * 0x10000, w, [], 0)
  | .lanCommit m => some (m, 0x100004, 1, [], 0)
  | .lanReseed m => some (m, 0x100004, 2, [], 0)
  | .lensCommit m => some (m, 0xE0004, 1, [], 0)
  | .lensCoefData m w => some (m, 0xE0028, w, [], 0)
  | .lensSeal m => some (m, 0xE0020, 1, [], 0)
  | .lensUnseal m => some (m, 0xE0020, 2, [], 0)
  | .lensSwapNow m => some (m, 0xE0020, 4, [], 0)
  | .lensResetPtr m => some (m, 0xE0020, 8, [], 0)
  | .retrain m l => some (m, 0x200108 + l / 8 * 0x10000 + l % 8 * 128, 1, [], 0)
  | .sendRetrainReq m l => some (m, 0x200108 + l / 8 * 0x10000 + l % 8 * 128, 2, [], 0)
  | .laneClearCnt m l => some (m, 0x200108 + l / 8 * 0x10000 + l % 8 * 128, 4, [], 0)
  | .lnkCommit m g => some (m, 0x200004 + g * 0x10000, 1, [], 0)
  | .retrainAll m g => some (m, 0x200004 + g * 0x10000, 2, [], 0)
  | .egrCommit m => some (m, 0x130004, 1, [], 0)
  | .mntCommit m => some (m, 0x110000, 1, [], 0)
  | .fspReq m => some (m, 0xC0018, 1, [], 0)
  | .fspInvalidate m => some (m, 0xC0018, 2, [], 0)
  | .fspRateWrite m k v => some (m, 0xC0010 + 4 * k, BitVec.ofNat 32 v, [], 0)
  | .memCommit m => some (m, 0xC0008, 1, [], 0)
  | .pairCommit m => some (m, 0x50004, 1, [], 0)
  | .topRemapSwap m => some (m, 0x100, 1, [], 0)
  | .stgCommit m => some (m, 0xF0004, 1, [], 0)
  | .stgClearCnt m => some (m, 0xF0004, 2, [], 0)
  | .capArm m => some (m, 0xF0500, (s.reg 0xF0500 &&& 0x18) ||| 1, [], 0)
  | .capStop m => some (m, 0xF0500, (s.reg 0xF0500 &&& 0x18) ||| 2, [], 0)
  | .freezeNow m => some (m, 0xF0500, (s.reg 0xF0500 &&& 0x18) ||| 4, [], 0)
  | .timeCtrlSrcWrite m w => some (m, 0x10000, w, [], 0)
  | .stepNow m => some (m, 0x10030, 1, [], 0)
  | .stepAtPps m => some (m, 0x10030, 2, [], 0)
  | .sdCommit m d => some (m, 0x10030, BitVec.ofNat 32 (2 ^ (4 + d)), [], 0)
  | .tb0Capture m => some (m, 0x10010, 1, [], 0)
  | _ => none

/-! ## Lamp instructions that use registers alone -/

/-- The lamp and the instruction of a command whose instruction reads and writes registers of its lamp alone. -/
def registerOp : Instr → Option (Nat × LampOp)
  | .nop n => some (n, .nop)
  | .b n cnd tgt => some (n, .b cnd tgt)
  | .call n tgt => some (n, .call tgt)
  | .loop n k e c => some (n, .loop k e c)
  | .loopReg n k e a => some (n, .loopReg k e a)
  | .add n d a b => some (n, .add d a b)
  | .sub n d a b => some (n, .sub d a b)
  | .and n d a b => some (n, .and d a b)
  | .or n d a b => some (n, .or d a b)
  | .xor n d a b => some (n, .xor d a b)
  | .lsl n d a k => some (n, .lsl d a k)
  | .asr n d a k => some (n, .asr d a k)
  | .lsr n d a k => some (n, .lsr d a k)
  | .addImm n d a imm => some (n, .addImm d a imm)
  | .movImm n d imm => some (n, .movImm d imm)
  | .movh n d imm => some (n, .movh d imm)
  | .cmp n a b => some (n, .cmp a b)
  | .cmpImm n a imm => some (n, .cmpImm a imm)
  | .getl n d a k => some (n, .getl d a k)
  | .setl n d a k => some (n, .setl d a k)
  | .rsum n d ac sh x => some (n, .rsum d ac sh x)
  | .geta n d ac k x => some (n, .geta d ac k x)
  | .addAImm n p imm => some (n, .addAImm p imm)
  | .movAS n p q => some (n, .movAS p q)
  | .movSA n p q => some (n, .movSA p q)
  | .movMS n p q => some (n, .movMS p q)
  | .movAImm n p imm => some (n, .movAImm p imm)
  | .movlM n p imm => some (n, .movlM p imm)
  | .movhM n p imm => some (n, .movhM p imm)
  | .mts n d sp => some (n, .mts d sp)
  | .vadd n d a b => some (n, .vadd d a b)
  | .vsub n d a b => some (n, .vsub d a b)
  | .vmin n d a b => some (n, .vmin d a b)
  | .vmax n d a b => some (n, .vmax d a b)
  | .vand n d a b => some (n, .vand d a b)
  | .vor n d a b => some (n, .vor d a b)
  | .vxor n d a b => some (n, .vxor d a b)
  | .vlsl n d a sh => some (n, .vlsl d a sh)
  | .bcast n d a => some (n, .bcast d a)
  | .mul n d a b sh cj => some (n, .mul d a b sh cj)
  | .mpy n ac a b cj => some (n, .mpy ac a b cj)
  | .mac n ac a b cj => some (n, .mac ac a b cj)
  | .msu n ac a b cj => some (n, .msu ac a b cj)
  | .pwr n ac a => some (n, .pwr ac a)
  | .rnd n d ac sh => some (n, .rnd d ac sh)
  | .srchi n => some (n, .srchi)
  | _ => none

end Sys2Proof.Machine
end

