-- ==== Sys2Proof/Certificates/Slice0/Obligations.lean ====
section
/-! DEFINITION. Sys2Proof/Certificates/Slice0/Obligations.lean: the statements about the model. -/
section Statements
open Sys2Proof Sys2Proof.Machine

/-! ## The machine -/

/-- A step takes the command at the front of the queue and is exec of it on the state with the queue's rest; on an empty queue the
device idles for a tick. -/
def Obligations.StepRunsFront : Prop :=
  (∀ (c : Instr) (rest : List Instr) (s : State), s.pending = c :: rest → step s = exec c (s.withPending rest)) ∧
  (∀ s : State, s.pending = [] → step s = .next (tick s))

/-- In every state, a command whose operands lie in their ranges answers a next state with the queue it found, and another
command answers the fault illFormed: no data ends a run. -/
def Obligations.WellFormedCompletes : Prop :=
  ∀ (c : Instr) (s : State),
    (wellFormed c = true → ∃ t, exec c s = .next t ∧ t.pending = s.pending) ∧
    (wellFormed c = false → exec c s = .fault .illFormed)

/-- Commands are taken first in, first out: a step that answers a next state has removed the command at the front, and nothing else has
entered or left the queue. -/
def Obligations.QueueInOrder : Prop :=
  ∀ s t : State, step s = .next t → t.pending = s.pending.tail

/-- A device held in reset does nothing but follow its pins and clocks: every other command leaves it as it is, and so does idling
(R678, R679). -/
def Obligations.HeldInReset : Prop :=
  ∀ s : State, held s = true →
    (∀ c : Instr, wellFormed c = true → pinCommand c = false → exec c s = .next s) ∧ (s.pending = [] → step s = .next s)

/-- The device right after reset is settled. -/
def Obligations.ResetSettled : Prop := Settled State.reset

/-- From every settled state, reachable or not, a step leaves a settled state: no block reset waits (R607), no lamp reset has a fetch to
cut short (R246), an ARMED parameter set has a slot that waits for its first occurrence (R548), and STAGE has become READY or FAILED
where it can (R685). -/
def Obligations.StepKeepsSettled : Prop :=
  ∀ s t : State, Settled s → step s = .next t → Settled t

/-! ## Links (03_steras_links.md) -/

/-- A CRC-good wick in sequence on a lane that frames wicks completes: its header is taken, then its type has its effect, then the lane
goes on to the training state it has reached (R99 to R122, R126, R129, R134, R136 to R144, R151 to R153, R156, R723). -/
def Obligations.WicksComplete : Prop :=
  ∀ (s : State) (l seq credit : Nat) (sync : Bool), held s = false → l < 128 → seq < 1024 → credit < 256 →
    wickTaken l sync seq (if sync then s else s.draw.2) →
    let head (x : State) (train flagged csync : Bool) := rxHeader l seq credit train flagged csync (syncStep l sync x)
    (∀ (desc : Desc) (used : Nat),
      exec (.headWick l sync seq credit desc used) s = .next (finish s (rxWick l 1 sync seq credit (leBytes 32 desc.toNat)
        (fun x => wickEnd l (headBody l desc used (head x false false false))) s))) ∧
    exec (.idleWick l sync seq credit) s = .next (finish s (rxWick l 0 sync seq credit []
      (fun x => wickEnd l (head x false false false)) s)) ∧
    exec (.flaggedIdleWick l sync seq credit) s = .next (finish s (rxWick l 7 sync seq credit [] (fun x => wickEnd l (
      let y := ((abandonRx passLost l (head x false true false)).incF (lf Reg.CNT_FLAGGED_IDLE l) 1).setF (lf Reg.LANE_STATUS_PEER_SNUFF l) 1
      if (y.rxLane l).lastFlagged then y
      else laneFault FK.LNK_PEER_SNUFF l Reg.CNT_FLAGGED_IDLE (updRx l (fun r => { r with lastFlagged := true }) y))) s)) ∧
    (∀ payload : List Byte, payload.length = 120 →
      (∀ overload : List Nat,
        exec (.bodyWick l sync seq credit payload overload) s = .next (finish s (rxWick l 2 sync seq credit payload
          (fun x => wickEnd l (bodyBody l false payload overload true (head x false false false))) s)) ∧
        (∀ capOk : Bool,
          exec (.bodyLastWick l sync seq credit payload overload capOk) s = .next (finish s (rxWick l 3 sync seq credit payload
            (fun x => wickEnd l (bodyBody l true payload overload capOk (head x false false false))) s)))) ∧
      exec (.ctrlWick l sync seq credit payload) s = .next (finish s (rxWick l 4 sync seq credit payload (fun x => wickEnd l (
        let y := (head x false false false).incF (lf Reg.CNT_CTRL_RX l) 1
        if leAt payload 0 1 = 1 then laneRetrain passLost l y else y)) s)) ∧
      exec (.trainWick l sync seq credit payload) s = .next (finish s (rxWick l 5 sync seq credit payload
        (fun x => wickEnd l (trainBody l payload (head x true false false))) s)) ∧
      exec (.creditSyncWick l sync seq credit payload) s = .next (finish s (rxWick l 6 sync seq credit payload
        (fun x => wickEnd l (creditSyncBody l payload (head x false false true))) s)) ∧
      (∀ type, 8 ≤ type → type < 16 →
        exec (.reservedTypeWick l sync seq credit type payload) s = .next (finish s (rxWick l type sync seq credit payload (fun x =>
          wickEnd l (laneRxOnce FK.LNK_MALFORMED l Reg.CNT_PKT_MALFORMED false
            ((head x false false false).incF (lf Reg.CNT_PKT_MALFORMED l) 1))) s))))

/-- A wick whose CRC fails, or whose check an armed injection inverts, is counted and ends the packet in progress (R107, R621); the states of a receive lane and of a group's clock follow
their events (R136, R142, R145 to R150); test patterns are checked (R155). -/
def Obligations.LanesComplete : Prop :=
  ∀ (s : State) (l : Nat), held s = false → l < 128 →
    (∀ (sync : Bool) (header : Nat) (payload : List Byte), header < 2 ^ 32 → payload.length = 120 → rxFrames s l = true →
      rxFrames (syncStep l sync s) l = true →
      exec (.wickCrcFail l sync header payload) s =
        .next (finish s (farLoop l header payload (let y := wickInject l (syncStep l sync s); wickFails l none y.1 y.2)))) ∧
    (∀ (sync : Bool) (seq credit : Nat) (desc : Desc) (used : Nat), seq < 1024 → credit < 256 → wickStruck l sync (if sync then s else s.draw.2) →
      let hit (x : State) := wickFails l none true (wickInject l (syncStep l sync x)).2
      exec (.idleWick l sync seq credit) s = .next (finish s (rxWick l 0 sync seq credit [] hit s)) ∧
      exec (.headWick l sync seq credit desc used) s = .next (finish s (rxWick l 1 sync seq credit (leBytes 32 desc.toNat) hit s))) ∧
    (rxState s l = 2 → exec (.deskewDone l) s = .next (finish s
      (txUpdate l ((setRxState l 3 s).setFlag (lf Reg.LANE_STATUS_FFE_FALLBACK l) (!reverse s l))))) ∧
    (rxState s l = 3 → exec (.equaliserAdapted l) s = .next (finish s
      (txUpdate l (updRx l (fun r => { r with goodRun := 0 }) (setRxState l 4 s))))) ∧
    (rxState s l = 3 → (s.rxLane l).trainSeen = false →
      exec (.ffeFallback l) s = .next (finish s (s.setF (lf Reg.LANE_STATUS_FFE_FALLBACK l) 1))) ∧
    (∀ activity : Bool,
      (rxState s l = 1 → exec (.trainStageTimeout l activity) s = .next (finish s
        (((laneFail l (!activity) (if activity then 2 else 1) s).setF (Reg.LNK_GRP_STATUS_CLK_STATE (l / 8))
          (if activity then 9 else 8)).setFlag (Reg.LNK_GRP_STATUS_CLK_ACTIVITY (l / 8)) activity))) ∧
      (rxState s l = 2 → exec (.trainStageTimeout l activity) s = .next (finish s (laneFail l (!activity) (if activity then 3 else 1) s))) ∧
      (rxState s l = 3 → exec (.trainStageTimeout l activity) s = .next (finish s (laneFail l false 4 s))) ∧
      (rxState s l = 4 → exec (.trainStageTimeout l activity) s = .next (finish s (laneFail l false 5 s))) ∧
      (rxState s l = 5 → exec (.trainStageTimeout l activity) s = .next (finish s (laneFail l false 6 s)))) ∧
    (rxState s l = 8 ∨ rxState s l = 9 → clkAcquired s (l / 8) = true →
      exec (.backoffExpiry l) s = .next (finish s (laneStart deferLost l 2 s))) ∧
    (rxState s l = 8 ∨ rxState s l = 9 → clkAcquired s (l / 8) = false →
      exec (.backoffExpiry l) s = .next (finish s (laneStart deferLost l 1 (s.setF (Reg.LNK_GRP_STATUS_CLK_STATE (l / 8)) 1)))) ∧
    (rxState s l = 5 → (s.rxLane l).rxGot = (s.rxLane l).rxReleased → (s.rxLane l).trainLeft = true → (s.rxLane l).creditReset = false →
      exec (.creditReset l) s = .next (finish s (
        putRx l { s.rxLane l with rxGot := 0, rxReleased := 0, creditReset := true, epochSync := false, csRecv := 0 }
          (updTx l (fun t => { t with csSent := 0 }) s)))) ∧
    (∀ bits : List Bool, rxState s l = 10 → 1 ≤ s.f (lf Reg.LANE_CFG_PRBS_CHK l) → s.f (lf Reg.LANE_CFG_PRBS_CHK l) ≤ 4 →
      s.f (lf Reg.LANE_CFG_LOOP l) = 0 → s.flag (Reg.LNK_GRP_CTRL_FAR_LOOP (l / 8)) = false →
      exec (.prbsLock l bits) s = .next (finish s (bits.foldl (prbsBit l (s.f (lf Reg.LANE_CFG_PRBS_CHK l))) s))) ∧
    (∀ bits : List Bool, s.f (lf Reg.LANE_CFG_LOOP l) ≠ 0 → s.flag (Reg.LNK_GRP_CTRL_FAR_LOOP (l / 8)) = true → rxEn s l = true →
      bits ≠ [] → exec (.prbsLock l bits) s = .next (finish s (s.emit (.pattern l bits)))) ∧
    (∀ g, g < 16 →
      exec (.clockAcquired g) s = .next (finish s (Machine.clockAcquired g s)) ∧
      (s.flag (Reg.LNK_GRP_STATUS_CLK_ACTIVITY g) = false →
        exec (.clockActivityStart g) s = .next (finish s
          ((lanesOf g).foldl (fun x i => backoffExpiry i x) (s.setF (Reg.LNK_GRP_STATUS_CLK_ACTIVITY g) 1)))) ∧
      (∀ activity : Bool, exec (.groupClockLoss g activity) s = .next (finish s (
        let y := (s.setF (Reg.LNK_GRP_STATUS_CLK_STATE g) 1).setFlag (Reg.LNK_GRP_STATUS_CLK_ACTIVITY g) activity
        let z := (lanesOf g).foldl (fun x i => if rxEn x i && !laneTest x i then laneStart passLost i 1 x else x) y
        raise (fev FK.LNK_CLK_LOSS (0x20 + g) 0 0) (z.lifeAdd (1472 + 4 * g) 1)))))

/-- The link registers' commands complete, and a transmit lane sends its next wick: TRAIN while it trains, CREDIT_SYNC, CTRL, a test
pattern, or what the packet flow gives (R124 to R132, R136, R140, R144, R151, R153 to R155, R158, R161). -/
def Obligations.LinksComplete : Prop :=
  ∀ (s : State) (m l g : Nat), held s = false → regMaster m = true → l < 128 → g < 16 →
    (rxEn (requested s) l = true → laneTest (requested s) l = false →
      exec (.retrain m l) s = .next (finish s (taken m (laneCmdKey l) 1 (fun x =>
        laneStart passLost l (if clkAcquired x (l / 8) then 2 else 1) x) (requested s)))) ∧
    exec (.sendRetrainReq m l) s = .next (finish s (taken m (laneCmdKey l) 2 (updTx l (fun t => { t with retrainReq := true }))
      (requested s))) ∧
    exec (.laneClearCnt m l) s = .next (finish s (taken m (laneCmdKey l) 4 (fun x =>
      x.resetRange (lf Reg.CNT_WICK_RX l).key ((lf Reg.CNT_WICK_RX l).key + 0x48)) (requested s))) ∧
    exec (.retrainAll m g) s = .next (finish s (taken m (0x200004 + g * 0x10000) 2 (fun x =>
      (lanesOf g).foldl (fun y i => if rxEn y i && !laneTest y i then laneStart passLost i 1 y else y)
        (if x.flag (Reg.LNK_GRP_CTRL_EN g) then x.setF (Reg.LNK_GRP_STATUS_CLK_STATE g) 1 else x)) (requested s))) ∧
    (let new := (requested s).commitRange (0x200000 + g * 0x10000) (0x210000 + g * 0x10000);
      groupHeld (requested s) (16 * (0x20 + g)) = false → (lnkErr new g).1 = 0 →
      lnkUserErr new g ((requested s).setF (Reg.LNK_GRP_STATUS_COMMIT_ERR g) 1) = none →
      exec (.lnkCommit m g) s = .next (finish s (taken m (0x200004 + g * 0x10000) 1 (fun x => lnkTrans g x new) (requested s)))) ∧
    (let new := (requested s).commitRange 0x130000 0x140000;
      groupHeld (requested s) 0x130 = false → egrErr new = none →
      exec (.egrCommit m) s = .next (finish s (taken m 0x130004 1 (fun x => egrTrans x none new) (requested s)))) ∧
    (txEn s l = true → s.flag (Reg.LNK_GRP_CTRL_FAR_LOOP (l / 8)) = false →
      (s.f (lf Reg.LANE_CFG_PRBS_GEN l) ≠ 0 →
        exec (.wickTransmit l) s = .next (finish s (prbsSend l (s.f (lf Reg.LANE_CFG_PRBS_GEN l)) s))) ∧
      (s.f (lf Reg.LANE_CFG_PRBS_GEN l) = 0 →
        let x := txUpdate l s
        let sync := (x.txLane l).syncDue = true ∧ rxState x l = 6 ∧ pairCredited x l = true ∧ (x.txLane l).training = false
        let request := (x.txLane l).retrainReq = true ∧ x.snuffed = false
        (¬sync → ¬request → (x.txLane l).training = true →
          exec (.wickTransmit l) s = .next (finish s (sendWick l 5 (trainPayload (newRequest l x) l) (newRequest l x)))) ∧
        (¬request → (x.txLane l).training = false → rxState x l = 5 → (x.rxLane l).creditReset = true →
          exec (.wickTransmit l) s = .next (finish s (creditCheck l (updTx l (fun t => { t with csSent := t.csSent + 1 })
            (sendWick l 6 (creditPayload x l) x))))) ∧
        (¬request → (x.txLane l).training = false → rxState x l = 5 → (x.rxLane l).creditReset = false →
          exec (.wickTransmit l) s = .next (finish s (sendIdle l x))) ∧
        (sync → exec (.wickTransmit l) s = .next (finish s (sendWick l 6 (creditPayload x l) x))) ∧
        (¬sync → request →
          exec (.wickTransmit l) s = .next (finish s (sendWick l 4 [1] (updTx l (fun t => { t with retrainReq := false }) x)))) ∧
        (¬sync → ¬request → (x.txLane l).training = false → rxState x l ≠ 5 →
          exec (.wickTransmit l) s = .next (finish s (packetFlow l x))))) ∧
    (∀ e b els, e < 256 → let r := egrRebase e s;
      egrBlock r e = some b → egrOn r e b = true → egrElems r e b = some els →
      (let x := perfEvent 0x13 0x10 1 (outputUnit (egrField r b (Reg.EGR_ENT0_DOMAIN e)) b r);
        (gateDrops x (egrUnit r e b) = true →
          exec (.egressPacket e true) s = .next (finish s (egrPrune (egrNext e b (x.incF Reg.PAIR_CNT_GATED 1))))) ∧
        (gateDrops x (egrUnit r e b) = false →
          exec (.egressPacket e true) s = .next (finish s (egrPrune (egrNext e b (egrMarker e b
            (raiseOnce (Reg.EGR_CNT_DROP e).key (fev FK.EGR_OVERFLOW 0x13 0 0) (perfEvent 0x13 0x11 1 (x.incF (Reg.EGR_CNT_DROP e) 1))))))))) ∧
      exec (.egressPacket e false) s = .next (finish s (Machine.egressPacket e false s))) ∧
    (∀ e b p, e < 256 → let r := egrRebase e s;
      egrBlock r e = some b → egrOn r e b = true → egrElems r e b = none → r.lmp.lensPassed = some p →
      egrBlockEnd r e b ≤ p + 1 → exec (.countMarker e) s = .next (finish s (egrPrune (egrNext e b (egrMarker e b r)))))

/-! ## The Lens (04_lens.md) -/

/-- The commands of the Lens complete: its coefficient port, its banks, its commit and its output counts (R175, R193 to R200). Where the
personality gates it they change nothing, and a commit is refused or puts the staged values back (R166). -/
def Obligations.LensCompletes : Prop :=
  ∀ (s : State) (m : Nat), held s = false → regMaster m = true →
    (let new := (requested s).commitRange 0xE0000 0xF0000;
      pageGated s 0x0E = false → groupHeld (requested s) 0xE0 = false → lensErr (requested s) new = 0 →
      exec (.lensCommit m) s = .next (finish s (taken m 0xE0004 1 (fun x => lensTrans x none new) (requested s)))) ∧
    (pageGated s 0x0E = true →
      (groupHeld (requested s) 0xE0 = false →
        (stagedFail 0xE0 (requested s) = none →
          exec (.lensCommit m) s = .next (finish s (taken m 0xE0004 1 (groupRestage 0xE0) (requested s)))) ∧
        (∀ fl, stagedFail 0xE0 (requested s) = some fl →
          exec (.lensCommit m) s = .next (finish s (taken m 0xE0004 1 (fun _ => fl.state) (requested s))))) ∧
      (∀ w : Word, exec (.lensCoefData m w) s = .next (finish s (taken m 0xE0028 w id (requested s)))) ∧
      exec (.lensSeal m) s = .next (finish s (taken m 0xE0020 1 id (requested s))) ∧
      exec (.lensUnseal m) s = .next (finish s (taken m 0xE0020 2 id (requested s))) ∧
      exec (.lensSwapNow m) s = .next (finish s (taken m 0xE0020 4 id (requested s))) ∧
      exec (.lensResetPtr m) s = .next (finish s (taken m 0xE0020 8 id (requested s)))) ∧
    (pageGated s 0x0E = false →
      (∀ w : Word, (requested s).flag Reg.LENS_COEF_STATUS_SEALED = false → s.lens.ptr < 1048576 →
        exec (.lensCoefData m w) s = .next (finish s (taken m 0xE0028 w (fun x =>
          ({ x with lens := { x.lens with coef := mapSet 0 x.lens.coef ((1 - lensLive x) * 1048576 + x.lens.ptr) (w.toNat % 2 ^ 18),
                                          ptr := x.lens.ptr + 1 } }).incF Reg.LENS_COEF_STATUS_WR_COUNT 1) (requested s)))) ∧
      ((requested s).f Reg.LENS_COEF_STATUS_WR_COUNT = lensTaps (requested s) * lensF (requested s) →
        exec (.lensSeal m) s = .next (finish s (taken m 0xE0020 1 (fun x =>
          setSealShape (1 - lensLive x) (some (lensShape x)) (x.setF Reg.LENS_COEF_STATUS_SEALED 1)) (requested s)))) ∧
      exec (.lensUnseal m) s = .next (finish s (taken m 0xE0020 2 (fun x =>
        setSealShape (1 - lensLive x) none (x.setF Reg.LENS_COEF_STATUS_SEALED 0)) (requested s))) ∧
      ((requested s).flag Reg.LENS_CTRL_EN = false → (requested s).flag Reg.LENS_COEF_STATUS_SEALED = true →
        exec (.lensSwapNow m) s = .next (finish s (taken m 0xE0020 4 (fun x =>
          let y := lensExchange 0 x
          { y with lens := { y.lens with banks := [(0, lensLive y)], stale := [(0, false)] } }) (requested s)))) ∧
      exec (.lensResetPtr m) s = .next (finish s (taken m 0xE0020 8 (fun x =>
        ({ x with lens := { x.lens with ptr := 0 }, dict := { x.dict with coefPtr := 0 } }).setF Reg.LENS_COEF_STATUS_WR_COUNT 0)
        (requested s)))) ∧
    (∀ first, first < 2 ^ 64 → lensMay (delaysDue (s.lens.nextOut.getD first) s) (s.lens.nextOut.getD first) = true →
      exec (.lensOutputCount first) s = .next (finish s (
        let n := s.lens.nextOut.getD first
        let x := (delaysDue n s).setF Reg.LENS_STATUS_RUNNING 1
        let y := (lensIns x).foldl (fun y i => reach (tgtDelay i) (lensDom (delaysDue n s)) n (lensRead i n y)) x
        let z := perfEvent 0x0E 0x10 1 { y with lens := { y.lens with nextOut := some (n + 1) } }
        if (n + 1) % max 1 (lensF z) = 0 then lensSpectra (n / max 1 (lensF z)) z else z)))

/-! ## Boot, MRAM, sensors, records and updates (16_management.md, 20_bringup.md) -/

/-- The boot ROM starts the slot it tries first when that slot passes, then the other, then recovery mode; the firmware's start
completes in FW_INIT; a Lamplighter reset completes (R570, R571, R573, R685). -/
def Obligations.BootCompletes : Prop :=
  ∀ s : State, held s = false →
    (s.flag Reg.TOP_REMAP_SWAP = false → s.f Reg.TOP_STATUS_STAGE = 0 →
      ∀ slots update boot : List Nat, wordsIn 0 0x800000 slots = true → wordsIn 0xE10000 0xE20000 update = true →
        wordsIn 0xE00000 0xE10000 boot = true →
        let x := bootFind (slots ++ update ++ boot) s
        let u := ucrNow x
        let y := if (bootOrder u).1 = u then x else storeWrite ucrCopies (ucrBytes (bootOrder u).1) x
        let first := (bootOrder u).2
        (slotPasses y first = true →
          exec (.bootRomStart slots update boot) s = .next (finish s (bootSlot first first y))) ∧
        (slotPasses y first = false → slotPasses y (1 - first) = true →
          exec (.bootRomStart slots update boot) s = .next (finish s (bootSlot (1 - first) first (slotStale first y)))) ∧
        (slotPasses y first = false → slotPasses y (1 - first) = false →
          exec (.bootRomStart slots update boot) s =
            .next (finish s (lifeStart ((y.setF Reg.NVM_STATUS_RECOVERY 1).setF Reg.TOP_STATUS_STAGE 1))))) ∧
    (s.f Reg.TOP_STATUS_STAGE = 2 → s.mgmt.bootSteps = 0 → ∀ dict stores : List Nat, wordsIn 0x800000 0xA00000 dict = true →
      wordsIn 0xA00000 0xE40000 stores = true → exec (.firmwareInit dict stores) s = .next (finish s (mgmtSet (fun m => { m with bootSteps := 5, zmpOn := true })
        (watchdogEnable (initGroups (initMemory (initPersonality (initRecords (initStores (dict ++ stores) s))))))))) ∧
    (∀ retired, retired ≤ 64 →
      exec (.lamplighterReset retired) s = .next (finish s (retire retired (Machine.lamplighterReset s))))

/-- MRAM words are written, or refused, or fail; the sensors are sampled; the eye is measured; the lifetime record is kept (R576, R577,
R583 to R591). -/
def Obligations.ManagementCompletes : Prop :=
  ∀ (s : State) (m : Nat), held s = false → regMaster m = true →
    (∀ (w : Word) (maker : Bool),
      nvmRefused m (s.f Reg.NVM_WADDR * 8) maker ((requested s).setF Reg.NVM_WDATA_HI w.toNat) = false →
      exec (.nvmWordWrite m w maker) s = .next (finish s (taken m 0x80008 w (fun x =>
        let y := x.setF Reg.NVM_WDATA_HI w.toNat
        mgmtSet (fun g => { g with nvmWrite := some (y.f Reg.NVM_WADDR * 8, y.f Reg.NVM_WDATA_LO + 2 ^ 32 * w.toNat) })
          (y.setF Reg.NVM_STATUS_BUSY 1)) (requested s)))) ∧
    (∀ a w bad, s.mgmt.nvmWrite = some (a, w) → bad < 2 →
      exec (.nvmWriteComplete bad) s = .next (finish s (
        (nvmStore a (leBytes 8 w)
          (mgmtSet (fun g => { g with nvmWrite := none }) (s.setF Reg.NVM_STATUS_BUSY 0))).incF Reg.NVM_CNT_WRITES 1))) ∧
    exec (.nvmErrAddrRead m) s = .next (finish s (
      let r := readReg 0x8001C 1 m (requested s)
      r.2.respond true (leBytes 4 r.1.toNat))) ∧
    (∀ vals : List Nat, vals.length = 32 → (∀ v ∈ vals, v < 4096) →
      exec (.thermalSample vals) s = .next (finish s (Machine.thermalSample vals s))) ∧
    (∀ vals : List Nat, vals.length = 24 → (∀ v ∈ vals, v < 65536) →
      exec (.voltageSample vals) s = .next (finish s (
        let x := vals.zipIdx.foldl (fun s v => voltOne v.2 v.1 s) s
        x.setFlag Reg.SNS_STATUS_VEXC (x.mgmt.voltExc != 0)))) ∧
    (∀ l, l < 128 → exec (.eyeStart m l) s = .next (finish s (taken m 0x90300 (BitVec.ofNat 32 (128 + l)) (fun x =>
      let y := (x.setF Reg.SNS_EYE_SEL_LANE l).setF Reg.SNS_EYE_DONE 0
      mgmtSet (fun g => { g with eye := some (l, rxState y l != 6) }) y) (requested s)))) ∧
    (∀ l height width, s.mgmt.eye = some (l, false) → rxState s l = 6 → height < 2 ^ 16 → width < 256 →
      exec (.eyeComplete height width) s = .next (finish s (
        ((((mgmtSet (fun g => { g with eye := none }) s).setF Reg.SNS_EYE_HEIGHT_MV height).setF Reg.SNS_EYE_WIDTH width).setF
          Reg.SNS_EYE_DONE 1).setFlag Reg.SNS_EYE_INVALID false))) ∧
    (recordsOn s = true →
      exec .lifetimeWrite s = .next (finish s (
        let x := lifeGather s
        storeWrite lifeCopies (lifeBytes x.mgmt.life x.mgmt.hist) x)) ∧
      exec .tempHistogramMinute s = .next (finish s (
        let x := lifeGather s
        let y := mgmtSet (fun g => { g with life := mapSet 0 g.life 0 (min (2 ^ 64 - 1) (mapGet 0 x.mgmt.life 0 + 1)) }) x
        match tempOf y (y.f Reg.SNS_STATUS_HOTTEST) with
        | none => y
        | some v => y.lifeAdd (32 + 4 * histBin v) 1)))

/-- The update commands complete in the states that accept them, for a manager that the Lamplighter serves (R593, R594, R595). -/
def Obligations.UpdateCompletes : Prop :=
  ∀ (s : State) (origin session : Nat), held s = false → origin < 3 → session < 8 → takesOrigin s origin = true →
    (s.mgmt.updState = 0 ∨ s.mgmt.updState = 1 ∨ s.mgmt.updState = 2 ∨ s.mgmt.updState = 5 →
      exec (.updateBegin origin session) s = .next (finish s (objectCommand origin session 0xA000 2 [1] (fun x =>
        setUpd 1 0 (dictSet (fun d => { d with updPtr := 0 }) (nvmPut (slotBase (inactiveSlot x) + 0x3FFFF0) (zeros 16)
          (setNvm (fun n => { n with slotSeq := slotSeqLast x }) x)))) s))) ∧
    (s.mgmt.updState = 1 → imageErr s (inactiveSlot s) = 0 → s.dict.updPtr = 256 + imageBody s (inactiveSlot s) →
      exec (.updateCommit origin session false) s = .next (finish s (objectCommand origin session 0xA000 2 [2] (fun x =>
        let n := inactiveSlot x
        let q := (slotSeqLast x + 1) % 2 ^ 32
        setUpd 2 0 (nvmPut (slotBase n + 0x3FFFF0) (commitRecord q (nvmPeek x (slotBase n) (256 + imageBody x n)))
          (setNvm (fun m => { m with slotSeq := q }) x))) s))) ∧
    (s.mgmt.updState = 2 →
      exec (.updateActivate origin session) s = .next (finish s (objectCommand origin session 0xA000 2 [3] (fun x =>
        setUpd 3 0 (lifeKeep (storeWrite ucrCopies
          (ucrBytes { ucrNow x with trial := true, trialSlot := inactiveSlot x, attempts := 0 }) x))) s))) ∧
    (s.mgmt.updState = 4 →
      exec (.updateConfirm origin session) s = .next (finish s (objectCommand origin session 0xA000 2 [4] (fun x =>
        let n := x.f Reg.NVM_STATUS_RUN_SLOT
        histAdd (imageVersion x n) 1 n (setUpd 0 0 (storeWrite ucrCopies (ucrBytes { ucrNow x with preferred := n, trial := false }) x))) s))) ∧
    (s.mgmt.updState = 3 ∨ s.mgmt.updState = 4 →
      exec (.updateRevert origin session) s = .next (finish s (objectCommand origin session 0xA000 2 [5] (fun x =>
        let n := (ucrNow x).trialSlot
        histAdd (imageVersion x n) 2 n (setUpd 0 0 (storeWrite ucrCopies (ucrBytes { ucrNow x with trial := false }) x))) s))) ∧
    (s.mgmt.updState = 1 ∨ s.mgmt.updState = 2 ∨ s.mgmt.updState = 5 →
      exec (.updateAbort origin session) s = .next (finish s (objectCommand origin session 0xA000 2 [6] (fun x =>
        setUpd 0 0 (nvmPut (slotBase (inactiveSlot x) + 0x3FFFF0) (zeros 16) (setNvm (fun n => { n with slotSeq := slotSeqLast x }) x))) s)))

/-! ## Registers and the bus (01_instrument.md, 13_fabric.md) -/

/-- Register accesses complete: a write of a defined register does what the register does, is logged and answers OK (R5, R8, R501); a
write of an undefined offset of an existing page is counted and discarded (R491); a write of a register that the master may not write
answers an error and raises FK_BMX_ACCESS (R480); broadcast accesses reach the member pages (R14, R492); a word read answers the
register's word; an access of another region goes to that region (R479, R481), and to a channel of
LPDDR6 that holds its traffic it waits (R461, R464); a timeout ends with an error response (R488). A write
that is not of one aligned word answers an error (R8), and so does one of a master that R479 gives no register writes (R480). -/
def Obligations.RegistersComplete : Prop :=
  ∀ (s : State) (m off : Nat) (w : Word) (host : List Byte) (err : Nat), held s = false → regMaster m = true → off < 2 ^ 28 → off % 4 = 0 →
    (pageExists (off / 0x10000) = true → isBroadcast (off / 0x10000) = false →
      ((rowAt off).isSome = true → refusedWrite off m (requested s) = false →
        exec (.registerWrite m off w host err) s =
          .next (finish s ((writeLogged { master := m, err := err, host := host } off w (requested s)).respond true []))) ∧
      ((rowAt off).isSome = true → refusedWrite off m (requested s) = true →
        exec (.registerWrite m off w host err) s =
          .next (finish s ((bmxFault FK.BMX_ACCESS 4 (0x40000000 + off) 2 m (requested s)).respond false []))) ∧
      (rowAt off = none →
        exec (.registerWrite m off w host err) s = .next (finish s ((undefAccess off 2 m (requested s)).respond true [])))) ∧
    (0x800000 ≤ off → off < 0x840000 →
      exec (.broadcastWrite m off w) s = .next (finish s
        ((broadcastWrite { master := m, err := 0, host := [] } (off / 0x10000) (off % 0x10000) w (requested s)).2.respond true [])) ∧
      exec (.broadcastRead m off) s = .next (finish s (
        let r := broadcastRead (off / 0x10000) (off % 0x10000) m (requested s)
        r.2.respond true (leBytes 4 r.1.toNat)))) ∧
    (∀ (addr len en : Nat) (data : List Byte), addr < 2 ^ 64 → 1 ≤ len → len ≤ 256 → routeTo addr len ≠ some 4 → busHolds s addr len = false →
      exec (.busAccess m false addr len en data err host) s = .next (finish s (
        let r := memRead m 1 addr len err host s
        r.2.respond r.1.1 r.1.2)) ∧
      exec (.busAccess m true addr len en data err host) s = .next (finish s (
        let r := memWrite m addr len (enabledCells addr en (fitBytes len data)) err s
        r.2.respond r.1 []))) ∧
    (∀ (addr len en : Nat) (data : List Byte), addr < 2 ^ 64 → 1 ≤ len → len ≤ 256 → busHolds s addr len = true →
      exec (.busAccess m false addr len en data err host) s =
        .next (finish s (memArrive m 1 (addr - 0x1000000000) len [] (requested s))) ∧
      exec (.busAccess m true addr len en data err host) s = .next (finish s (
        memArrive m 2 (addr - 0x1000000000) len (enabledCells (addr - 0x1000000000) en (fitBytes len data)) (requested s)))) ∧
    ((pageExists (off / 0x10000) || isBroadcast (off / 0x10000)) = true → ∀ write : Bool, masterReach m 4 write = true →
      exec (.peripheralTimeout m (0x40000000 + off) write) s = .next (finish s (
        (raise { kind := FK.BMX_TIMEOUT, src := 0x07, sub := 4, addr := 0x40000000 + off, access := if write then 2 else 1, master := m,
                 injected := false } (s.incF Reg.BMX_CNT_TIMEOUT 1)).respond false (zeros 4)))) ∧
    exec (.bmxCntUndefRead m) s = .next (finish s (
      let r := readReg Reg.BMX_CNT_UNDEF.key 1 m (requested s)
      r.2.respond true (leBytes 4 r.1.toNat))) ∧
    (m = 1 → exec (.topRemapSwap m) s = .next (finish s (taken m 0x100 1 (fun x =>
      (x.setF Reg.TOP_REMAP_SWAP 1).setF Reg.NVM_STATUS_BOOT_LOCK 1) (requested s)))) ∧
    (m ≠ 1 → exec (.topRemapSwap m) s = .next (finish s
      ((bmxFault FK.BMX_ACCESS 4 0x40000100 2 m (requested s)).respond false []))) ∧
    (∀ k, k + 3 < 2 ^ 28 → k % 4 ≠ 0 → pageExists (k / 0x10000) = true ∨ isBroadcast (k / 0x10000) = true →
      exec (.registerWrite m k w host err) s = .next (finish s ((requested s).respond false []))) ∧
    (∀ n, anyMaster n = true → regMaster n = false →
      exec (.registerWrite n off w host err) s =
        .next (finish s ((bmxFault FK.BMX_ACCESS 4 (0x40000000 + off) 2 n s).respond false [])))

/-! ## Performance counters (19_counters.md) -/

/-- The commands of the performance counters complete: a snapshot is taken unless one is being collected or two are unread, freezing and
clearing act at once, a passing configuration is committed as a whole, and a collection ends with its header written
(R657, R659, R660, R661, R662, R663). -/
def Obligations.CountersComplete : Prop :=
  ∀ (s : State) (m : Nat), held s = false → regMaster m = true →
    (snapBusy (requested s) = false → exec (.snapNow m) s = .next (finish s (taken m 0x40000 1 (fun x =>
      (snapTrigger 1 0 0 0 0 false x).1) (requested s)))) ∧
    exec (.pmrFreeze m) s = .next (finish s (taken m 0x40000 2 (fun x => x.setF Reg.PMR_STATUS_FROZEN 1) (requested s))) ∧
    exec (.pmrUnfreeze m) s = .next (finish s (taken m 0x40000 4 (fun x => x.setF Reg.PMR_STATUS_FROZEN 0) (requested s))) ∧
    exec (.clearAll m) s = .next (finish s (taken m 0x40000 8 (fun x => x.resetRange 0x4C000 0x4F200) (requested s))) ∧
    (groupHeld (requested s) 0x40 = false → pmrBadWord (requested s) = none →
      exec (.pmrCommit m) s = .next (finish s (taken m 0x40004 1 (fun x => x.commitRange 0x41000 0x42900) (requested s)))) ∧
    (∀ sn, s.pmr.collecting = some sn → exec .snapshotCollectComplete s = .next (finish s (snapComplete s))) ∧
    exec (.snapLostRead m) s = .next (finish s (
      let r := readReg Reg.PMR_CNT_SNAP_LOST.key 1 m (requested s)
      r.2.respond true (leBytes 4 r.1.toNat)))

/-! ## Faults and snuff (17_faults.md) -/

/-- The commands of the fault collector complete (R602, R605, R608, R609, R610, R612, R614 to R616, R619 to R622). -/
def Obligations.FaultsComplete : Prop :=
  ∀ (s : State) (m : Nat), held s = false → regMaster m = true →
    (∀ kind src sub addr access master, isFaultKind kind = true → src < 256 → sub < 256 → addr < 2 ^ 48 → access ≤ 8 → master < 256 →
      exec (.faultEvent kind src sub addr access master) s = .next (finish s (raise
        { kind := kind, src := src, sub := sub, addr := addr, access := access, master := master, injected := false } s))) ∧
    (∀ msg r, s.flt.notifyQueue = msg :: r → s.mgmt.zmpOn = true →
      exec .faultNotify s = .next (finish s ((List.range 8).foldl (fun s n => faultNotifyOne msg n s)
        { s with flt := { s.flt with notifyQueue := r } }))) ∧
    exec .snuffInAssert s = .next (finish s (raise (fev FK.FLT_SNUFF_IN 0x03 0 0) (s.setF Reg.FLT_STATUS_IN_PIN 1))) ∧
    exec .snuffInDeassert s = .next (finish s (s.setF Reg.FLT_STATUS_IN_PIN 0)) ∧
    exec (.snuffNow m) s = .next (finish s (taken m 0x30000 1 (raise (fev FK.FLT_SNUFF_IN 0x03 1 0)) (requested s))) ∧
    (s.flag Reg.FLT_STATUS_IN_PIN = false →
      exec (.snuffClear m) s = .next (finish s (taken m 0x30000 2 (fun x =>
        snuffLeave ((x.setF Reg.FLT_STATUS_RECOVERIES 0).setF Reg.FLT_STATUS_LATCHED 0)) (requested s)))) ∧
    (s.flag Reg.FLT_STATUS_IN_PIN = true →
      exec (.snuffClear m) s = .next (finish s (taken m 0x30000 2 (fun x =>
        (x.setF Reg.FLT_STATUS_RECOVERIES 0).setF Reg.FLT_STATUS_LATCHED 0) (requested s)))) ∧
    (quietRuns s = true → s.f Reg.FLT_STATUS_RECOVERIES < s.f Reg.FLT_CFG_RECOV_LIMIT →
      exec .quietPeriodEnd s = .next (finish s ((snuffLeave s).incF Reg.FLT_STATUS_RECOVERIES 1))) ∧
    (quietRuns s = true → s.f Reg.FLT_STATUS_RECOVERIES = s.f Reg.FLT_CFG_RECOV_LIMIT →
      exec .quietPeriodEnd s = .next (finish s (raise (fev FK.FLT_SNUFF_LATCHED 0x03 0 0) (s.setF Reg.FLT_STATUS_LATCHED 1)))) ∧
    exec .recoveryWindowEnd s = .next (finish s (s.setF Reg.FLT_STATUS_RECOVERIES 0)) ∧
    exec (.firstClear m) s = .next (finish s (taken m 0x30000 4 (fun x => x.resetRange 0x30040 0x30060) (requested s))) ∧
    (groupHeld (requested s) 0x30 = false → fltErr (requested s) = 0 →
      exec (.fltCommit m) s = .next (finish s (taken m 0x30014 1 (fun x => x.commitRange 0x32000 0x32800) (requested s)))) ∧
    (testEnable s = true → injectable (s.f Reg.FLT_INJ_CFG_SRC) (s.f Reg.FLT_INJ_CFG_SUB) (s.f Reg.FLT_INJ_CFG_CHK) = true →
      exec (.injectArm m) s = .next (finish s (taken m 0x30084 1 (fun x =>
        let i : Injection := { src := x.f Reg.FLT_INJ_CFG_SRC, sub := x.f Reg.FLT_INJ_CFG_SUB, chk := x.f Reg.FLT_INJ_CFG_CHK,
                               double := x.flag Reg.FLT_INJ_CFG_DOUBLE }
        (({ x with flt := { x.flt with inj := some i } }).setF Reg.FLT_INJ_STATUS_ACTIVE 1).setF Reg.FLT_INJ_STATUS_REMAINING
          (max 1 (x.f Reg.FLT_INJ_CFG_COUNT))) (requested s)))) ∧
    exec (.injectCancel m) s = .next (finish s (taken m 0x30084 2 (fun x =>
      { (x.setF Reg.FLT_INJ_STATUS_ACTIVE 0).setF Reg.FLT_INJ_STATUS_REMAINING 0 with flt := { x.flt with inj := none } }) (requested s))) ∧
    (∀ k, s.flt.c4Pending = k → (k = 3 ∨ k = 4) → exec .c4ResetHold s = .next (finish s (holdReset k s)))

/-- A device held in reset by a C4 event leaves reset when that cause clears, and every cause of reset holds it whatever it is doing
(R608, R680, R681). -/
def Obligations.ResetsComplete : Prop :=
  ∀ s : State,
    exec .porstAssert s = .next (finish s (holdReset 0 (bringSet (fun b => { b with porstN := false }) s))) ∧
    exec .brownOut s = .next (finish s (holdReset 6 s)) ∧
    exec .wrstN s = .next (finish s (holdReset 1 (bringSet (fun b => { b with wrstN := false }) s))) ∧
    exec .refclkLoss s = .next (finish s (holdReset 5 (s.setF Reg.TOP_PLL_STATUS_REF_LINK_OK 0))) ∧
    (s.bring.holding = [3] → exec .c4ResetRelease s = .next (finish s (releaseReset 3 s))) ∧
    (∀ cause pers (prio : Bool), cause < 7 → cause ≠ 3 → cause ≠ 4 → pers < 4 → s.bring.holding = [cause] →
      exec (.resetRelease cause pers prio) s = .next (finish s (releaseReset cause (bringSet (fun b =>
        { b with strapPers := pers, strapPrio := prio, porstN := b.porstN || cause == 0, wrstN := b.wrstN || cause == 1 }) s)))) ∧
    (∀ m, regMaster m = true → held s = false →
      exec (.resetKey m 0x44565253) s = .next (finish s (taken m 0x8 0x44565253 (holdReset 2) (requested s))))

/-- The clocks, the personality, the watchdog and the test pins complete (R669, R672, R684, R687, R679, R708, R710). -/
def Obligations.BringupComplete : Prop :=
  ∀ s : State,
    exec (.pllLock 0) s = .next (finish s (s.setF Reg.TOP_PLL_STATUS_SYS_LOCK 1)) ∧
    exec (.pllLock 1) s = .next (finish s (s.setF Reg.TOP_PLL_STATUS_CORE_LOCK 1)) ∧
    exec (.pllLock 2) s = .next (finish s (s.setF Reg.TOP_PLL_STATUS_LINK_LOCK 1)) ∧
    exec (.pllLock 3) s = .next (finish s (s.setF Reg.TOP_PLL_STATUS_REF_HIF_OK 1)) ∧
    (let unlock (F : Field) : State := (if held s then s.setF F 0 else raise (fev FK.TOP_PLL_UNLOCK 0 0 0) (s.setF F 0));
      exec (.pllUnlock 0) s = .next (finish s (unlock Reg.TOP_PLL_STATUS_SYS_LOCK)) ∧
      exec (.pllUnlock 1) s = .next (finish s (unlock Reg.TOP_PLL_STATUS_CORE_LOCK)) ∧
      exec (.pllUnlock 2) s = .next (finish s (unlock Reg.TOP_PLL_STATUS_LINK_LOCK))) ∧
    (s.flag Reg.HIF_STATUS_LINK_UP = true → exec (.pllUnlock 3) s = .next (finish s (
      let x := (s.setF Reg.TOP_PLL_STATUS_REF_HIF_OK 0).draw
      raise (fev FK.HIF_LINK_DOWN 0x0B 0 0) ((linkGone (retire (x.1 % 65) x.2)).incF Reg.HIF_CNT_LINK_DOWN 1)))) ∧
    (held s = false → ∀ v, v < 4 → s.f Reg.TOP_STRAP_PERS = 3 → s.flag Reg.TOP_PERS_SEL_DONE = false →
      exec (.topPersSel 1 v) s = .next (finish s (taken 1 0x18 (BitVec.ofNat 32 v) (fun x =>
        ((x.setF Reg.TOP_PERS_SEL_VALUE v).setF Reg.TOP_PERS_SEL_DONE 1).setF Reg.TOP_STATUS_PERSONALITY v) (requested s)))) ∧
    (held s = false →
      exec (.watchdogEnable 1) s = .next (finish s (taken 1 0x1C 0x10000 (fun x =>
        bringSet (fun b => { b with watchdogOn := true }) (x.setF Reg.TOP_LL_WDOG_EN 1)) (requested s))) ∧
      exec (.watchdogKick 1) s = .next (finish s (taken 1 0x1C 0x20000 (fun x =>
        bringSet (fun b => { b with watchdogOn := x.flag Reg.TOP_LL_WDOG_EN }) x) (requested s)))) ∧
    (held s = false → s.bring.watchdogOn = true →
      exec .watchdogExpiry s = .next (finish s (raise (fev FK.TOP_LL_WATCHDOG 0 0 0) (s.satF Reg.TOP_LL_WDOG_EXPIRED 1)))) ∧
    (∀ retired, retired ≤ 32 →
      exec (.trstN true retired) s = .next (finish s (bringSet (fun b => { b with trstN := true }) s)) ∧
      exec (.trstN false retired) s = .next (finish s (retire retired (bringSet (fun b =>
        { b with trstN := false, tapState := 15, tapIn := [], tapIr := [], tapDr := [] }) s)))) ∧
    (∀ asserted : Bool, exec (.smbAlert asserted) s = .next (finish s (bringSet (fun b => { b with smbAlert := asserted }) s))) ∧
    (∀ tms tdi : Bool, s.bring.trstN = true →
      exec (.tck true tms tdi) s = .next (finish s (bringSet (tapRise tms tdi) s)) ∧
      (s.bring.tapState = 13 →
        exec (.tck false tms tdi) s = .next (finish s (bringSet (fun b => { b with tapIr := b.tapIn }) s))))

/-! ## The pair (18_pairs.md) -/

/-- The claim completes: a unit that may claim claims, becomes ACTIVE when the partner shows no claim, gives way or keeps its claim by
its priority, releases when it must, and stands by otherwise (R628, R630 to R633, R635, R636, R648). -/
def Obligations.PairClaimCompletes : Prop :=
  ∀ (s : State) (m : Nat), held s = false → regMaster m = true →
    (s.flag Reg.PAIR_CFG_EN = true → s.snuffed = false → s.flag Reg.PAIR_CTRL_HOLD = false → s.flag Reg.PAIR_STATUS_SENSE = false →
      pairState s = 1 ∨ pairState s = 4 → exec .claimAssert s = .next (finish s (pairGo 2 s))) ∧
    (pairState s = 2 → s.flag Reg.PAIR_STATUS_SENSE = false → s.pair.trimHold = false → s.pair.claimedBefore = false → s.pair.heard = false →
      exec .claimConfirm s = .next (finish s (
        let x := pairGo 3 (dropQueued (fun _ => true) s)
        ((pairSet (fun p => { p with claimedBefore := true }) x).incF Reg.PAIR_CNT_TAKEOVER 1).lifeAdd 16 1))) ∧
    (pairState s = 3 → s.flag Reg.PAIR_STATUS_SENSE = true →
      exec .dualClaim s = .next (finish s (raise (fev FK.PAIR_DUAL_CLAIM 0x05 0 0) (s.incF Reg.PAIR_CNT_DUAL 1)))) ∧
    (laneBusy s = false → pairState s = 3 → s.pair.releasing = true → s.pair.trimHold = false →
      exec .claimRelease s = .next (finish s (
        let x := dropQueued (fun _ => true) (pairSet (fun p => { p with releasing := false, trimAt := none }) s)
        pairGo (pairIdle x) (x.setF Reg.PAIR_STATUS_TRIM_PENDING 0)))) ∧
    (pairState s = 3 → exec (.pairHoldWrite m true) s = .next (finish s (taken m 0x50008 1 (fun x =>
      pairSet (fun p => { p with releasing := true }) (x.setFlag Reg.PAIR_CTRL_HOLD true)) (requested s)))) ∧
    (∀ level : Bool, pairState s ≠ 2 →
      exec (.pairSenseChange level) s = .next (finish s (pairSettle (s.setFlag Reg.PAIR_STATUS_SENSE level)))) ∧
    (groupHeld (requested s) 0x50 = false → pairErr (requested s) ((requested s).commitRange 0x50000 0x60000) = 0 →
      exec (.pairCommit m) s = .next (finish s (taken m 0x50004 1 (fun x => pairTrans x (x.commitRange 0x50000 0x60000)) (requested s)))) ∧
    exec (.pairClearCnt m) s = .next (finish s (taken m 0x50008 2 (fun x => x.resetRange 0x50020 0x5004C) (requested s))) ∧
    (s.pair.trimHold = false ∨ pairState s = 2 ∨ s.flag Reg.PAIR_STATUS_SENSE = false → exec .trimWaitTimeout s = .next (finish s s)) ∧
    (s.pair.trimHold = true → pairState s ≠ 2 → s.flag Reg.PAIR_STATUS_SENSE = true → exec .trimWaitTimeout s = .next (finish s (
      ((pairSet (fun p => { p with trimAt := none, trimHold := false }) (dropQueued (trimTakes s) s)).incF Reg.PAIR_CNT_TRIM_FAIL 1).intPend 26)))

/-- The pilot completes: heartbeats and digests are sent and taken, bad frames counted, a silent pilot goes down (R637, R638, R641,
R643). -/
def Obligations.PilotCompletes : Prop :=
  ∀ s : State, held s = false →
    (∀ payload : List Byte, payload.length = 16 →
      exec (.heartbeat payload) s = .next (finish s (Machine.heartbeat payload s)) ∧
      (s.pair.own.find? (sameDigest (beamDigestOf payload)) = none →
        exec (.beamDigest payload) s = .next (finish s (pairSet (fun x => { x with partner := x.partner ++ [beamDigestOf payload] }) s)))) ∧
    (∀ payload : List Byte, payload.length = 24 →
      s.pair.own.find? (sameDigest (dumpDigestOf payload)) = none →
      exec (.dumpDigest payload) s = .next (finish s (pairSet (fun x => { x with partner := x.partner ++ [dumpDigestOf payload] }) s))) ∧
    exec .heartbeatSend s = .next (finish s (pairSet (fun p => { p with beatSeq := (p.beatSeq + 1) % 65536 })
      (s.draw.2.emit (.pilot (pilotLine (s.draw.1 % 2 == 1) (pilotFrame 1 (heartbeatPayload s))))))) ∧
    (∀ d r, s.pair.sendQueue = d :: r → d.eligible = false →
      exec .digestSend s = .next (finish s (sendPilot (if d.cause = 1 then 2 else 3) (digestPayload d)
        (pairSet (fun p => { p with sendQueue := r }) s)))) ∧
    exec (.pilotFrameError false) s = .next (finish s (s.incF Reg.PAIR_CNT_PILOT_BAD 1)) ∧
    (s.flag Reg.PAIR_STATUS_PILOT_UP = true →
      exec .pilotDown s = .next (finish s (updComparing (pairSettle (raise (fev FK.PAIR_PILOT_LOSS 0x05 0 0)
        (pairSet (fun p => { p with goodBeats := 0, pilotLow := true, dualBeat := false }) (s.setF Reg.PAIR_STATUS_PILOT_UP 0))))))) ∧
    (∀ d, s.pair.own = [d] → d.unit < 16 → d.key < 2 ^ 64 →
      exec (.digestWaitTimeout d.cause d.unit d.key) s = .next (finish s
        (diverge 3 d.unit d.key d.value 0 ((pairSet (fun x => { x with own := [] }) s).incF Reg.PAIR_CNT_DIG_MISS 1))))

/-! ## The action scheduler (02_time.md) -/

/-- Arming, cancelling and delivering complete: a slot whose committed words pass the check is ARMED, with LEAD_SHORT where its lead is
short, and a slot that fails it ends with an INVALID record; a live slot is cancelled with a record; an ARMED slot is delivered, or its
late occurrence skipped or moved; a delivered one that starves executes (R60, R61, R65 to R68, R71, R75, R77, R721). -/
def Obligations.SlotsComplete : Prop :=
  ∀ (s : State) (m n : Nat), held s = false → regMaster m = true → n < 256 →
    (∀ w : Word, w.getLsbD 25 = false → slotState (requested s) n = 0 →
      let x := ((requested s).setReg (Reg.SLOT_CTRL_ACTION n).key (BitVec.ofNat 32 (getBits w 12 0))).commitRange
        (0x21000 + 32 * n) (0x21020 + 32 * n)
      let armed (short : Bool) := setSlotRun n { occ := 0, moved := none, leadShort := short, units := 0 } (setSlotState n 1 x)
      (armOk x n = true → leadShort x n = false →
        exec (.slotArm m n w) s = .next (finish s (taken m (0x21000 + 32 * n) w (fun _ => armed false) (requested s)))) ∧
      (armOk x n = true → leadShort x n = true →
        exec (.slotArm m n w) s = .next (finish s (taken m (0x21000 + 32 * n) w (fun _ =>
          raise (fev FK.SCHED_LEAD_SHORT 0x02 n (slotTrig0 (armed true) n)) (armed true)) (requested s)))) ∧
      (armOk x n = false →
        exec (.slotArm m n w) s = .next (finish s (taken m (0x21000 + 32 * n) w (fun _ => endInvalid n x) (requested s))))) ∧
    (slotState (requested s) n ≠ 0 →
      exec (.slotCancel m n) s = .next (finish s (taken m (0x21000 + 32 * n) 0x2000000 (fun x =>
        slotIdle n (writeRecord n 0x13 ((slotRun x n).leadShort && (slotRun x n).occ == 0) (slotLate x n) 0 x)) (requested s)))) ∧
    (slotState s n = 1 → slotAct s n = 1 → jobState s (slotTarget s n % 4) = 0 → targetP s n = none →
      exec (.slotDeliver n) s = .next (finish s (boundaryExec n false (setSlotState n 2 s)))) ∧
    (slotState s n = 1 → slotAct s n ≠ 2 → ¬(slotAct s n = 1 ∧ jobState s (slotTarget s n % 4) = 0) →
      (targetP s n = none → exec (.slotDeliver n) s = .next (finish s (setSlotState n 2 s))) ∧
      (∀ p, targetP s n = some p → p ≤ slotTrig s n → exec (.slotDeliver n) s = .next (finish s (setSlotState n 2 s))) ∧
      (∀ p, targetP s n = some p → slotTrig s n < p → exec (.slotDeliver n) s = .next (finish s (slotTooLate n p s)))) ∧
    (starves s n = true →
      exec (.actionStarve n) s = .next (finish s (starveAct n (raise (fev FK.SCHED_STARVED 0x02 n (slotWhen s n)) s)))) ∧
    exec .schedBlockReset s = .next (finish s (schedReset s))

/-- A delivered occurrence whose count or time has come executes at its target and ends DONE or DONE_LATE (R62, R70, R76, R80, R81, R179,
R195, R236, R242, R311, R329, R414, R419, R547, R645, R661). -/
def Obligations.ActionsComplete : Prop :=
  ∀ (s : State) (n : Nat), held s = false → n < 256 → slotState s n = 2 → actDue s n = true → firstOf (actDue s) s n = true →
    (slotAct s n = 0x01 → exec (.dumpBoundary n) s = .next (finish s (boundaryExec n false s))) ∧
    (slotAct s n = 0x02 → slotTarget s n = 0x1100 →
      exec (.lensTableSwap n) s = .next (finish s (endDone n false (lensSwapAt (slotWhen s n) s)))) ∧
    (slotAct s n = 0x02 → slotTarget s n = 0x1000 →
      exec (.weightTableSwap n) s =
        .next (finish s (endDone n false (canSwapAt (slotDom s n - 1) (ceilDiv (slotWhen s n) (chanF s)) s)))) ∧
    (∀ k, k < 64 → slotAct s n = 0x02 → slotTarget s n = 0x1200 + k → lampAt s n k = true →
      exec (.lampTableSwap n k) s = .next (finish s (endDone n false (lampSwapAtRead k s)))) ∧
    (slotAct s n = 0x03 → (s.pset (slotTarget s n % 4)).state ≠ 2 →
      exec (.applySet n) s = .next (finish s (endDone n false s))) ∧
    (let k := slotTarget s n % 4
      let count := if slotDom s n = 0 then none else some (slotDom s n - 1, slotWhen s n)
      slotAct s n = 0x03 → (s.pset k).state = 2 → (s.pset k).slot = n →
      (applyFail (s.pset k).shadow count s = none →
        exec (.applySet n) s = .next (finish s (endDone n false
          (Machine.applySet k (s.pset k).shadow count n (slotWhen s n) true 2 0 s)))) ∧
      (∀ why, applyFail (s.pset k).shadow count s = some why →
        exec (.applySet n) s = .next (finish s (endDone n false (applyReject k why n (slotWhen s n) true 2 0))))) ∧
    (slotAct s n = 0x04 → slotTarget s n = 0x30FF →
      exec (.delayStep n) s = .next (finish s (endDone n false
        ((lensIns s).foldl (fun s' i => stepDelay (slotArg s' n) (slotWhen s n) i s') s)))) ∧
    (slotAct s n = 0x05 → s.flag (Reg.BEACON_CFG_EN (slotTarget s n % 4)) = true → s.snuffed = false →
      exec (.beacon n) s = .next (finish s (endDone n false
        { s with time := { s.time with beaconActive := s.time.beaconActive ||| 2 ^ (slotTarget s n % 4) } }))) ∧
    (slotAct s n = 0x06 → exec (.captureFreeze n) s = .next (finish s (endDone n false (capTrigger s)))) ∧
    (slotAct s n = 0x07 → exec (.counterSnapshot n) s = .next (finish s (snapSlot n false s))) ∧
    (slotAct s n = 0x08 → exec (.beamEnable n) s = .next (finish s (beamSlot n false s))) ∧
    (slotAct s n = 0x09 → exec (.beamDisable n) s = .next (finish s (beamSlot n false s))) ∧
    (slotAct s n = 0x0A → pairState s = 3 →
      exec (.trim n) s = .next (finish s (endDone n false (pairSet (fun p =>
        { p with trimAt := some (ceilDiv (slotWhen s n) (chanF s)), trimDomain := slotDom s n - 1, trimHold := false })
        (s.setF Reg.PAIR_STATUS_TRIM_PENDING 1))))) ∧
    (∀ k, k < 64 → slotAct s n = 0x0B → slotTarget s n = 0x9000 + k → lampAt s n k = true →
      exec (.lampEvent n k) s = .next (finish s (endDone n false (lampEventIn k (slotArg s n) s))))

/-! ## Time (02_time.md) -/

/-- The register commands of the time unit complete: a write of TIME_CTRL.SRC (R52, R83), TB0_CAPTURE (R49), STEP_NOW and STEP_AT_PPS with
a value of fewer than 10^9 nanoseconds (R54), and SD_COMMIT of a group that no armed set holds (R57, R546). A step value out of range
sets STEP_REFUSED and loads nothing. -/
def Obligations.TimeRegistersComplete : Prop :=
  ∀ (s : State) (m : Nat), held s = false → regMaster m = true →
    (∀ w : Word, exec (.timeCtrlSrcWrite m w) s = .next (finish s (taken m 0x10000 w (timeCtrlWrite w) (requested s)))) ∧
    exec (.tb0Capture m) s = .next (finish s (taken m 0x10010 1 (fun x =>
      ((x.setF64 Reg.TB0_SEC_LO_SEC_LO Reg.TB0_SEC_HI_SEC_HI x.time.sec).setF Reg.TB0_NS_NS x.time.ns).setF Reg.TB0_FRAC_FRAC x.time.frac)
      (requested s))) ∧
    ((stepValue s).2 ≤ 999999999 →
      exec (.stepNow m) s = .next (finish s (taken m 0x10030 1 (fun x =>
        stepLate x.tb0 (loadTb0 (stepValue x) (x.commitRange 0x10024 0x10030))) (requested s))) ∧
      exec (.stepAtPps m) s = .next (finish s (taken m 0x10030 2 (fun x =>
        timeSet (fun t => { t with stepAtPps := some (stepValue x) }) (x.commitRange 0x10024 0x10030)) (requested s)))) ∧
    (999999999 < (stepValue s).2 →
      exec (.stepAtPps m) s = .next (finish s (taken m 0x10030 2 (fun x => x.setF Reg.TIME_STATUS_STEP_REFUSED 1) (requested s)))) ∧
    (∀ d, d < 4 → groupHeld (requested s) (16 + d) = false →
      exec (.sdCommit m d) s = .next (finish s (taken m 0x10030 (BitVec.ofNat 32 (2 ^ (4 + d))) (Machine.sdCommit d) (requested s))))

/-- The time unit's events complete: PPS_IN edges, source loss, PTP, PPS_OUT and the beacons (R53, R54, R80, R82, R83, R84, R86). -/
def Obligations.TimeEventsComplete : Prop :=
  ∀ s : State, held s = false →
    (∀ rising : Bool, rising ≠ s.flag Reg.TIME_CTRL_PPS_EDGE → s.f Reg.TIME_CTRL_SRC = 2 → s.time.stepAtPps = none →
      exec (.ppsInEdge rising) s = .next (finish s (
        let x := timeSet (fun t => { t with ppsLostRaised := false }) (s.setF Reg.TIME_STATUS_PPS_SEEN 1)
        stepLate s.tb0 (servoUpdate (ppsOffset x) x)))) ∧
    (∀ (rising : Bool) (v : Nat × Nat), rising ≠ s.flag Reg.TIME_CTRL_PPS_EDGE → s.f Reg.TIME_CTRL_SRC = 1 →
      s.time.stepAtPps = some v →
      exec (.ppsInEdge rising) s = .next (finish s (stepLate s.tb0 (loadAtEdge v
        (timeSet (fun t => { t with ppsLostRaised := false, stepAtPps := none }) (s.setF Reg.TIME_STATUS_PPS_SEEN 1)))))) ∧
    (s.f Reg.TIME_CTRL_SRC ≠ 0 → s.f Reg.TIME_STATUS_QUALITY = 1 ∨ s.f Reg.TIME_STATUS_QUALITY = 2 →
      exec .holdoverTimeout s = .next (finish s (raise (fev FK.TIME_HOLDOVER 0x01 0 0)
        (timeSet (fun t => { t with goodUpdates := 0 }) (setQuality 3 s))))) ∧
    (2 ≤ s.f Reg.TIME_CTRL_SRC → s.time.ppsLostRaised = false →
      exec .ppsLostTimeout s = .next (finish s (raise (fev FK.TIME_PPS_LOST 0x01 0 0)
        (timeSet (fun t => { t with ppsLostRaised := true }) (s.setF Reg.TIME_STATUS_PPS_SEEN 0))))) ∧
    (s.flag Reg.PPS_OUT_CFG_EN = true → s.time.ns ≤ 4 →
      exec .ppsOutRise s = .next (finish s (timeSet (fun t => { t with ppsOut := true }) s))) ∧
    exec .ppsOutFall s = .next (finish s (timeSet (fun t => { t with ppsOut := false }) s)) ∧
    (∀ k, k < 4 → exec (.beaconFall k) s =
      .next (finish s (timeSet (fun t => { t with beaconActive := t.beaconActive &&& (15 ^^^ 2 ^ k) }) s)))

/-- PTP on the management ports completes on an enabled port: an Announce that the receiver takes enters the selection, a one-step Sync
of the selected transmitter gives an offset, and a Sync that the transparent clock forwards leaves with its residence time added
(R84, R86). -/
def Obligations.PtpCompletes : Prop :=
  ∀ (s : State) (via : Nat) (l : List Byte), held s = false → via < 4 → l.length ≤ 1500 → s.flag (Reg.MNET_PORT_CFG_EN (via % 2)) = true →
    (ptpTaken via l s = true → ptpType l = 11 → beAt l 61 2 < 255 →
      exec (.ptpMessage via l) s = .next (finish s (ptpAnnounce via l (s.incF (Reg.MNET_CNT_RX (via % 2)) 1)))) ∧
    (ptpTaken via l s = true → ptpType l = 0 → ptpTwoStep l = false → s.time.ptpMaster = some (via, ptpSource l) →
      exec (.ptpMessage via l) s = .next (finish s (
        let x := s.incF (Reg.MNET_CNT_RX (via % 2)) 1
        ptpSyncDone (timeSet (fun t => { t with ptpT2 := some ((x.tb0 : Int) - ptpCorrection l / 65536), ptpSyncSeq := ptpSeq l,
                                                ptpT1 := some (ptpStamp l) }) x)))) ∧
    (∀ residence, residence < 2 ^ 48 → 34 ≤ l.length → portForwards (via % 2) s = true → s.flag Reg.PTP_CFG_TC_EN = true →
      (via < 2 → ptpType l = 0 → ptpTwoStep l = false →
        exec (.ptpForward via residence l) s = .next (finish s ((s.incF (Reg.MNET_CNT_RX (via % 2)) 1).emit (.ptp (1 - via) (addCorrection residence l))))) ∧
      (2 ≤ via → let o := udpAt l + 8
        ptpType (l.drop o) = 0 → ptpTwoStep (l.drop o) = false →
        exec (.ptpForward via residence l) s =
          .next (finish s ((s.incF (Reg.MNET_CNT_RX (via % 2)) 1).emit (.ptp (5 - via) (udpResum (l.take o ++ addCorrection residence (l.drop o))))))))

/-- The management ports beside PTP and ZMP complete: link changes, forwarded frames, an address leased or chosen, Delay_Req and the
loss of the time transmitter (R84, R568). -/
def Obligations.PortsComplete : Prop :=
  ∀ (s : State) (port : Nat), held s = false → port < 2 → s.flag (Reg.MNET_PORT_CFG_EN port) = true →
    exec (.managementPortLink port true) s = .next (finish s
      ((s.setF (Reg.MNET_PORT_STATUS_LINK port) 1).setF (Reg.MNET_PORT_STATUS_SPEED port) (s.f (Reg.MNET_PORT_CFG_SPEED port)))) ∧
    exec (.managementPortLink port false) s = .next (finish s (s.setF (Reg.MNET_PORT_STATUS_LINK port) 0)) ∧
    (∀ (l : List Byte) (inward : Bool), l.length ≤ 1522 → portForwards port s = true →
      exec (.managementFrame port inward true l) s =
        .next (finish s ((s.incF (Reg.MNET_CNT_RX port) 1).emit (.frame (1 - port) l)))) ∧
    (∀ addr, 0 < addr → addr < 2 ^ 32 → objNat s 0x100001 1 = 1 →
      exec (.dhcpMessage port 5 addr) s = .next (finish s (setObj 0x100007 (leBytes 4 addr) (s.incF (Reg.MNET_CNT_RX port) 1)))) ∧
    (objNat s 0x100001 1 = 1 → objNat s 0x100007 0 = 0 →
      exec .linkLocalFallback s =
        .next (finish s (setObj 0x100007 (leBytes 4 (0xA9FE0100 + s.draw.1 % (254 * 256))) s.draw.2))) ∧
    (∀ (via : Nat) (src : List Byte), s.time.ptpMaster = some (via, src) →
      exec .delayReqSend s = .next (finish s (Machine.delayReqSend s)) ∧
      exec .announceTimeout s = .next (finish s (
        (timeSet (fun t => { t with ptpForeign := t.ptpForeign.filter (fun x => !(x.1 == via && x.2.2.2 == src)), ptpMaster := none,
                                    ptpT1 := none, ptpT2 := none, ptpT3 := none, ptpPathDelay := 0 }) s).setF
          Reg.TIME_STATUS_MASTER_SEEN 0)))

/-! ## Lamps (05_lamps.md, 06_lamp_isa.md) -/

/-- The commands of a lamp's page and its ports complete: run control, the doorbell, the commit, the coefficient bank, the debug port,
interrupts, the timer, the fetch unit, the outbox and SOUT (R205, R223 to R226, R235, R240, R241, R244 to R246, R250, R263, R273). -/
def Obligations.LampControlCompletes : Prop :=
  ∀ (s : State) (m n : Nat), held s = false → regMaster m = true → n < 64 →
    (lampState (requested s) n = 0 →
      exec (.lampRun m n) s = .next (finish s (taken m (0x400000 + n * 0x10000 + 0) 1 (fun x =>
        updLamp n (fun l => { l with haltReq := false }) (x.setF (Reg.LMP_STATE_STATE n) 1)) (requested s))) ∧
      (∀ err, exec (.lampStep m n err) s = .next (finish s (taken m (0x400000 + n * 0x10000 + 0) 4 (fun x =>
        let y := x.setF (Reg.LMP_STATE_STATE n) 1
        let z := match decodeLamp (mapGet 0 y.lmp.imem (n * 2 ^ 13 + lampPc y n)) with
          | none => lampIllegal n (issueTick n y)
          | some op => issueCore n op err y
        if lampRunning z n then lampHaltNow n 2 z else z) (requested s)))) ∧
      ((requested s).flag (Reg.LMP_PORT_CFG_COEF_BANKED n) = true → (requested s).flag (Reg.LMP_COEF_STATUS_SEALED n) = true →
        exec (.lampSwapNow m n) s = .next (finish s (taken m (0x400000 + n * 0x10000 + 0x1C) 4 (lampSwap n) (requested s))))) ∧
    (lampState (requested s) n = 1 →
      exec (.lampHalt m n) s = .next (finish s (taken m (0x400000 + n * 0x10000 + 0) 2 (fun x =>
        haltCheck n (updLamp n (fun l => { l with haltReq := true }) x)) (requested s)))) ∧
    exec (.lampReset m n) s = .next (finish s (taken m (0x400000 + n * 0x10000 + 0) 8 (Machine.lampReset n) (requested s))) ∧
    (∀ v, v < 2 ^ 16 →
      exec (.lmpDoorbell m n v) s = .next (finish s (taken m (0x400000 + n * 0x10000 + 0x10) (BitVec.ofNat 32 v)
        (updLamp n (fun l => { l.setSp 0x55 v with doorbell := true })) (requested s)))) ∧
    (groupHeld (requested s) (16 * (0x40 + n)) = false →
      exec (.lmpCommit m n) s = .next (finish s (taken m (0x400000 + n * 0x10000 + 0x18) 1 (fun x =>
        lmpTrans n x (x.commitRange (0x400000 + n * 0x10000) (0x410000 + n * 0x10000))) (requested s)))) ∧
    exec (.lampSeal m n) s = .next (finish s (taken m (0x400000 + n * 0x10000 + 0x1C) 1 (fun x =>
      x.setF (Reg.LMP_COEF_STATUS_SEALED n) 1) (requested s))) ∧
    exec (.lampUnseal m n) s = .next (finish s (taken m (0x400000 + n * 0x10000 + 0x1C) 2 (fun x =>
      x.setF (Reg.LMP_COEF_STATUS_SEALED n) 0) (requested s))) ∧
    (∀ w : Word, lampState (requested s) n ≠ 1 →
      exec (.dbgDataWrite m n w) s = .next (finish s (taken m (0x400000 + n * 0x10000 + 0x34) w (dbgWrite n w.toNat) (requested s)))) ∧
    (let l := lampAtBoundary n s;
      lampRunning s n = true → l.statusBit 0 = true → l.intPend &&& l.sp 0x44 ≠ 0 → l.interruptible = true → l.afterReti = false →
      exec (.interruptEntry n) s = .next (finish s (
        let x := landAll n s
        let k := x.lamp n
        let active := b2n (k.sp 0x50 != 0) + 2 * b2n (k.sp 0x51 != 0) + 4 * b2n (k.sp 0x52 != 0)
        let k' := ((((k.setSp 0x42 k.status).setSp 0x41 (lampPc x n)).setStatus 0 0 0).setStatus 4 4 1).setStatus 7 5 active
        (perfEvent (bankLmp n) 0x15 1 (x.setLamp n k')).setF (Reg.LMP_PC n) (k'.sp 0x43)))) ∧
    ((s.lamp n).sp 0x56 ≠ 0 →
      exec (.lampTimerExpiry n) s = .next (finish s (updLamp n (fun l => { l.setSp 0x56 0 with
        timerPend := true, cycleOff := (l.cycleOff + l.sp 0x56) % 2 ^ 36 }) s))) ∧
    (∀ j, (s.lamp n).fetchJob = some j → ∀ err,
      exec (.fetchComplete n err) s = .next (finish s (Machine.fetchComplete n err s))) ∧
    (∀ e r, (s.lamp n).outbox = e :: r →
      exec (.outboxRead n) s = .next (finish s (((s.setLamp n { s.lamp n with outbox := r }).unproduce (0x40 + n) 1 2).respond true
        (e.flatMap fun v => leBytes 4 (wrap 32 (sext 18 v)))))) ∧
    ((s.lamp n).outbox = [] →
      exec (.outboxRead n) s = .next (finish s ((s.incF (Reg.LMP_CNT_OBX_UNDER n) 1).respond true (List.replicate 64 0)))) ∧
    (∀ (r : Record) (rest : List (Record × Nat)) (overload : Bool), (s.lamp n).soutPend = (r, 0) :: rest →
      exec (.soutRecordEnter n overload) s = .next (finish s (soutEnter n r overload (s.setLamp n { s.lamp n with soutPend := rest })))) ∧
    (∀ w, w < 2 ^ 32 → lampRunning s n = true → decodeLamp w = none →
      exec (.illegalInstruction n w) s = .next (finish s (lampIllegal n (issueTick n s))))

/-- The instructions that change control flow, issued on a RUNNING lamp where they are legal, complete (R217 to R222, R226, R245, R265,
R274). -/
def Obligations.LampControlFlowCompletes : Prop :=
  ∀ (s : State) (n : Nat), held s = false → n < 64 →
    let x := lampIssued n s
    let l := x.lamp n
    let pc := lampPc x n
    let runs (c : Instr) (op : LampOp) (tgt : Option Nat) (t : State) : Prop :=
      lampReady n op s → exec c s = .next (finish s (lampGoesOn n op tgt x t))
    let back := (pc + 3) % 2 ^ 13
    runs (.nop n) .nop none x ∧
    (lampReady n .halt s → exec (.halt n) s = .next (finish s ((lampHaltNow n 3 x).setF (Reg.LMP_PC n) (pc + 1)))) ∧
    (∀ cnd tgt, cnd < 16 → tgt < 8192 → runs (.b n cnd tgt) (.b cnd tgt) (if l.cond cnd then some tgt else none) x) ∧
    (∀ tgt, tgt < 8192 → runs (.call n tgt) (.call tgt) (some tgt) (lampFlies n [{ delay := 1, dest := .sreg 15 back, sat := false }] x)) ∧
    (∀ cnd a, cnd < 16 → a < 16 → runs (.jr n cnd a) (.jr cnd a) (if l.cond cnd then some (l.s a % 2 ^ 13) else none) x) ∧
    runs (.reti n) .reti none x ∧
    (∀ k e c, k < 4 → e < 8192 → c < 2048 →
      runs (.loop n k e c) (.loop k e c) (if c = 0 then some ((e + 1) % 2 ^ 13) else some back)
        (lampFlies n [{ delay := 3, dest := .loop k back e c, sat := false }] x)) ∧
    (∀ k e a, k < 4 → e < 8192 → a < 16 →
      runs (.loopReg n k e a) (.loopReg k e a) (if l.s a % 2 ^ 16 = 0 then some ((e + 1) % 2 ^ 13) else some back)
        (lampFlies n [{ delay := 3, dest := .loop k back e (l.s a % 2 ^ 16), sat := false }] x))

/-- The scalar instructions complete, with their flags (R255, R259, R260, R266, R268, R275, R276). -/
def Obligations.LampScalarCompletes : Prop :=
  ∀ (s : State) (n : Nat), held s = false → n < 64 →
    let x := lampIssued n s
    let l := x.lamp n
    let runs (c : Instr) (op : LampOp) (t : State) : Prop := lampReady n op s → exec c s = .next (finish s (lampGoesOn n op none x t))
    let result (d v : Nat) (c o : Bool) : List Flight :=
      [{ delay := 1, dest := .sreg d v, sat := false },
       { delay := 1, dest := .flags (b2n (v == 0) + 2 * b2n (v.testBit 35) + 4 * b2n c + 8 * b2n o), sat := false }]
    let lane (d v : Nat) : List Flight := [{ delay := 1, dest := .sreg d v, sat := false }]
    let sum (d p q : Nat) : State :=
      lampFlies n (result d ((p + q) % 2 ^ 36) (decide (2 ^ 36 ≤ p + q)) (outS 36 (sext 36 p + sext 36 q))) x
    let diff (p q : Nat) : Nat := (p + 2 ^ 36 - q) % 2 ^ 36
    (∀ d a b, d < 16 → a < 16 → b < 16 →
      runs (.add n d a b) (.add d a b) (sum d (l.s a) (l.s b)) ∧
      runs (.sub n d a b) (.sub d a b) (lampFlies n (result d (diff (l.s a) (l.s b)) (decide (l.s b ≤ l.s a))
        (outS 36 (sext 36 (l.s a) - sext 36 (l.s b)))) x)) ∧
    (∀ a b, a < 16 → b < 16 →
      runs (.cmp n a b) (.cmp a b) (lampFlies n ((result 0 (diff (l.s a) (l.s b)) (decide (l.s b ≤ l.s a))
        (outS 36 (sext 36 (l.s a) - sext 36 (l.s b)))).drop 1) x)) ∧
    (∀ a imm, a < 16 → imm < 2 ^ 18 →
      runs (.cmpImm n a imm) (.cmpImm a imm) (lampFlies n ((result 0 (diff (l.s a) (wrap 36 (sext 18 imm)))
        (decide (wrap 36 (sext 18 imm) ≤ l.s a)) (outS 36 (sext 36 (l.s a) - sext 36 (wrap 36 (sext 18 imm))))).drop 1) x)) ∧
    (∀ d a b, d < 16 → a < 16 → b < 16 → l.s a < 2 ^ 36 → l.s b < 2 ^ 36 →
      runs (.and n d a b) (.and d a b) (lampFlies n (result d (l.s a &&& l.s b) false false) x) ∧
      runs (.or n d a b) (.or d a b) (lampFlies n (result d (l.s a ||| l.s b) false false) x) ∧
      runs (.xor n d a b) (.xor d a b) (lampFlies n (result d (l.s a ^^^ l.s b) false false) x)) ∧
    (∀ d a k, d < 16 → a < 16 → k < 64 → l.s a < 2 ^ 36 →
      runs (.lsl n d a k) (.lsl d a k) (lampFlies n (result d ((l.s a * 2 ^ k) % 2 ^ 36)
        (k != 0 && decide (k ≤ 36) && (l.s a).testBit (36 - k)) false) x) ∧
      runs (.asr n d a k) (.asr d a k) (lampFlies n (result d (wrap 36 (sext 36 (l.s a) >>> k))
        (k != 0 && (l.s a).testBit (min (k - 1) 35)) false) x) ∧
      runs (.lsr n d a k) (.lsr d a k) (lampFlies n (result d (l.s a / 2 ^ k) (k != 0 && (l.s a).testBit (k - 1)) false) x)) ∧
    (∀ d a imm, d < 16 → a < 16 → imm < 2 ^ 18 →
      runs (.addImm n d a imm) (.addImm d a imm) (sum d (l.s a) (wrap 36 (sext 18 imm))) ∧
      runs (.movImm n d imm) (.movImm d imm) (lampFlies n (lane d (wrap 36 (sext 18 imm))) x) ∧
      runs (.movh n d imm) (.movh d imm) (lampFlies n (lane d (imm * 2 ^ 18 + l.s d % 2 ^ 18)) x)) ∧
    (∀ d a k, d < 16 → a < 16 → k < 16 →
      runs (.getl n d a k) (.getl d a k) (lampFlies n (lane d (wrap 36 ((l.vInts a).getD k 0))) x) ∧
      runs (.setl n d a k) (.setl d a k)
        (lampFlies n [{ delay := 1, dest := .vreg d ((l.vNats d).set k (l.s a % 2 ^ 18)), sat := false }] x)) ∧
    (∀ d ac sh f, d < 16 → ac < 4 → sh < 64 → f < 4 →
      runs (.rsum n d ac sh f) (.rsum d ac sh f) (
        let r := roundEven ((List.range 16).map fun j =>
          if f = 0 ∨ j % 2 = f - 1 then ((l.accLanes ac).map fun v => sext 48 v).getD j 0 else 0).sum sh
        lampFlies n [{ delay := 2, dest := .sreg d (wrap 36 (satS 36 r)), sat := outS 36 r }] x)) ∧
    (∀ d ac k f, d < 16 → ac < 4 → k < 16 → f < 4 →
      runs (.geta n d ac k f) (.geta d ac k f) (
        let v := (l.accLanes ac).getD k 0
        lampFlies n (lane d ((if f = 0 then v % 2 ^ 36 else if f = 1 then v / 2 ^ 12 else if f = 2 then wrap 36 (sext 24 v)
          else v / 2 ^ 24) % 2 ^ 36)) x)) ∧
    (∀ a, a < 16 → l.outbox.length < 256 →
      runs (.obx n a) (.obx a) ((x.setLamp n { l with outbox := l.outbox ++ [l.vNats a] }).produce (0x40 + n) 1)) ∧
    (∀ p imm, p < 8 → imm < 2 ^ 18 →
      runs (.addAImm n p imm) (.addAImm p imm) (x.setLamp n (l.setA p (wrap 24 ((l.a p : Int) + sext 18 imm)))) ∧
      runs (.movAImm n p imm) (.movAImm p imm) (x.setLamp n (l.setA p imm))) ∧
    (∀ p q, p < 8 → q < 16 →
      runs (.movAS n p q) (.movAS p q) (x.setLamp n (l.setA p (l.s q))) ∧
      runs (.movSA n p q) (.movSA p q) (lampFlies n (lane q (l.a p % 2 ^ 36)) x) ∧
      runs (.movMS n p q) (.movMS p q) (x.setLamp n (l.setM p (l.s q)))) ∧
    (∀ p imm, p < 8 → imm < 4096 →
      runs (.movlM n p imm) (.movlM p imm) (x.setLamp n (l.setM p (l.m p / 2 ^ 12 * 2 ^ 12 + imm))) ∧
      runs (.movhM n p imm) (.movhM p imm) (x.setLamp n (l.setM p (imm * 2 ^ 12 + l.m p % 2 ^ 12)))) ∧
    (∀ d sp, d < 16 → sp < 128 → specReadOnly sp = false →
      runs (.mts n d sp) (.mts d sp) (lampFlies n [{ delay := 3, dest := .spec sp (l.s d), sat := false }] x)) ∧
    (∀ d sp, d < 16 → sp < 128 →
      runs (.mfs n d sp) (.mfs d sp) (
        let r := specRead n sp x
        lampFlies n [{ delay := if sp = 0x54 then 3 else 1, dest := .sreg d r.1, sat := false }] (specReadEffect n sp r.2)))

/-- The instructions of the lamp's memories and ports complete: `err` is what the memory check of the access finds (R214, R228 to R231,
R257 to R264, R269 to R273). -/
def Obligations.LampMemoryCompletes : Prop :=
  ∀ (s : State) (n d aa mm pm off err : Nat), held s = false → n < 64 → d < 16 → aa < 8 → mm < 8 → pm < 4 → off < 2 ^ 14 →
    let x := lampIssued n s
    let l := x.lamp n
    let o : MemOp := { aa := aa, mm := mm, pm := pm, off := off }
    let ea := l.ea o
    let runs (c : Instr) (op : LampOp) (t : State) : Prop := lampReady n op s → exec c s = .next (finish s (lampGoesOn n op none x t))
    let data (row : Bool) (dest : State → LandDest) : State :=
      withCheck n 0 row (ea % 2 ^ 17) err (fun y => y.setLamp n (((y.lamp n).fly 3 (dest y) false).modify o)) x
    let coef (row : Bool) (dest : State → LandDest) : State :=
      withCheck n 1 row (cmemIndex x n (ea % 2 ^ 15)) err (fun y => y.setLamp n (((y.lamp n).fly 3 (dest y) false).modify o)) x
    let store (ws : List (Nat × Nat)) : State := x.setLamp n ((l.fly 2 (.words ws) false).modify o)
    runs (.ld n d aa mm pm off err) (.ld d o) (data true fun y => .vreg d (dataRow y n ea)) ∧
    runs (.ldS n d aa mm pm off err) (.ldS d o) (data false fun y => .sreg d (wrap 36 (sext 18 (dmemWord y n ea)))) ∧
    runs (.ldw n d aa mm pm off err) (.ldw d o) (data false fun y =>
      .sreg d (dmemWord y n (ea % 2 ^ 17 / 2 * 2) + dmemWord y n (ea % 2 ^ 17 / 2 * 2 + 1) * 2 ^ 18)) ∧
    runs (.ldc n d aa mm pm off err) (.ldc d o) (coef true fun y => .vreg d (coefRow y n ea)) ∧
    runs (.ldcb n d aa mm pm off err) (.ldcb d o) (coef false fun y =>
      .vreg d ((List.range 16).map fun j => if l.cmplx then coefWord y n (ea / 2 * 2 + j % 2) else coefWord y n ea)) ∧
    runs (.st n d aa mm pm off) (.st d o) (store ((List.range 16).map fun j => (ea % 2 ^ 17 / 16 * 16 + j, l.vLane d j))) ∧
    runs (.stS n d aa mm pm off) (.stS d o) (store [(ea % 2 ^ 17, l.s d % 2 ^ 18)]) ∧
    runs (.stw n d aa mm pm off) (.stw d o)
      (store [(ea % 2 ^ 17 / 2 * 2, l.s d % 2 ^ 18), (ea % 2 ^ 17 / 2 * 2 + 1, l.s d / 2 ^ 18)]) ∧
    (let r := sinRead n x;
      runs (.sin n d) (.sin d) (updLamp n (fun k => k.fly 3 (.vreg d (match r.1 with | some y => y.lanes | none => List.replicate 16 0)) false)
        r.2) ∧
      runs (.pass n) .pass (match r.1 with | some y => soutQueue n 3 y r.2 | none => r.2)) ∧
    runs (.sout n d) (.sout d) (x.setLamp n { l with soutPend := l.soutPend ++ [({ kind := 2, lanes := l.vNats d }, 0)] }) ∧
    (∀ sh cj, sh < 64 → cj < 2 →
      runs (.xmul n sh cj aa mm pm err) (.xmul sh cj { o with off := 0 }) (xmulRun n sh cj { o with off := 0 } err x)) ∧
    (∀ ac, ac < 4 → off < 4096 →
      runs (.tap n ac d aa mm pm off err) (.tap ac d o) (withCheck n 0 true (ea % 2 ^ 17) err (fun y =>
        y.setLamp n ((((y.lamp n).accumulate ac (productLanes l.cmplx 0 ((dataRow y n ea).map fun v => sext 18 v) (l.vInts d))).fly 2
          (.words ((dataRow y n ea).mapIdx fun j v => ((ea + 16) % 2 ^ 17 / 16 * 16 + j, v))) false).modify o)) x)) ∧
    runs (.srch n d aa mm pm off) (.srch d o)
      (x.setLamp n ((l.fly 2 (.acc 3 ((srchLanes l d aa).map fun v => wrap 48 v)) false).modify o)) ∧
    runs (.srchi n) .srchi (lampFlies n [{ delay := 2, sat := false,
                                           dest := .acc 3 (List.replicate 16 (0xFFFFFF * 2 ^ 24 + if l.statusBit 3 then 0x800000 else 0x7FFFFF)) }] x) ∧
    (∀ a b rows dir pk, a < 16 → b < 16 → rows < 64 → dir < 2 → pk < 2 → l.s a % 4 = 0 → l.fetchJob = none →
      runs (.fetch n a b aa rows dir pk) (.fetch a b aa rows dir pk) (x.setLamp n { l.setSp 0x5A 0 with
        fetchJob := some { bus := l.s b % 2 ^ 12 * 2 ^ 36 + l.s a, row := l.a aa % 2 ^ 17 / 16, rows := if rows = 0 then 64 else rows,
                           toBus := dir == 1, p9 := pk == 1 } }))

/-- The vector instructions complete (R252 to R254, R261, R277 to R279). -/
def Obligations.LampVectorCompletes : Prop :=
  ∀ (s : State) (n d a b ac sh cj : Nat), held s = false → n < 64 → d < 16 → a < 16 → b < 16 → ac < 4 → sh < 64 → cj < 2 →
    let x := lampIssued n s
    let l := x.lamp n
    let runs (c : Instr) (op : LampOp) (t : State) : Prop := lampReady n op s → exec c s = .next (finish s (lampGoesOn n op none x t))
    let lanes (delay : Nat) (v : List Int) : State :=
      lampFlies n [{ delay := delay, dest := .vreg d (v.map fun y => wrap 18 (satS 18 y)), sat := v.any (outS 18) }] x
    let bits (v : List Nat) : State := lampFlies n [{ delay := 1, dest := .vreg d v, sat := false }] x
    let acc (v : List Int) : State :=
      lampFlies n [{ delay := 2, dest := .acc ac (v.map fun y => wrap 48 (satS 48 y)), sat := v.any (outS 48) }] x
    let plus (terms : List Int) : List Int := (List.range 16).map fun j => (l.accIn ac).getD j 0 + terms.getD j 0
    runs (.vadd n d a b) (.vadd d a b) (lanes 1 (zipLanes (· + ·) (l.vInts a) (l.vInts b))) ∧
    runs (.vsub n d a b) (.vsub d a b) (lanes 1 (zipLanes (· - ·) (l.vInts a) (l.vInts b))) ∧
    runs (.vmin n d a b) (.vmin d a b) (lanes 1 (zipLanes min (l.vInts a) (l.vInts b))) ∧
    runs (.vmax n d a b) (.vmax d a b) (lanes 1 (zipLanes max (l.vInts a) (l.vInts b))) ∧
    runs (.vand n d a b) (.vand d a b) (bits (zipBits (· &&& ·) (l.vNats a) (l.vNats b))) ∧
    runs (.vor n d a b) (.vor d a b) (bits (zipBits (· ||| ·) (l.vNats a) (l.vNats b))) ∧
    runs (.vxor n d a b) (.vxor d a b) (bits (zipBits (· ^^^ ·) (l.vNats a) (l.vNats b))) ∧
    (∀ r, r < 2 → runs (.vasr n d a sh r) (.vasr d a sh r) (lanes 1 ((l.vInts a).map fun y => if r = 1 then roundEven y sh else y >>> sh))) ∧
    runs (.vlsl n d a sh) (.vlsl d a sh) (lanes 1 ((l.vInts a).map fun y => y * 2 ^ sh)) ∧
    runs (.bcast n d a) (.bcast d a) (bits ((List.range 16).map fun j => if l.cmplx ∧ j % 2 = 1 then l.s a / 2 ^ 18 else l.s a % 2 ^ 18)) ∧
    runs (.mul n d a b sh cj) (.mul d a b sh cj) (lanes 2 ((productLanes l.cmplx cj (l.vInts a) (l.vInts b)).map fun y => roundEven y sh)) ∧
    runs (.mpy n ac a b cj) (.mpy ac a b cj) (acc (productLanes l.cmplx cj (l.vInts a) (l.vInts b))) ∧
    runs (.mac n ac a b cj) (.mac ac a b cj) (acc (plus (productLanes l.cmplx cj (l.vInts a) (l.vInts b)))) ∧
    runs (.msu n ac a b cj) (.msu ac a b cj) (acc (plus ((productLanes l.cmplx cj (l.vInts a) (l.vInts b)).map fun y => -y))) ∧
    runs (.pwr n ac a) (.pwr ac a) (acc (plus (pwrTerms l a))) ∧
    runs (.rnd n d ac sh) (.rnd d ac sh) (lanes 1 ((l.accLanes ac).map fun v => roundEven (sext 48 v) sh))

/-! ## Staging and the capture writer (07_staging.md) -/

/-- The commands of the staging block complete: its commit and counters, windows that time out, wait for verdicts and are handed out, and
the capture writer (R291, R294, R299, R300, R304, R311, R312, R496). -/
def Obligations.StagingCompletes : Prop :=
  ∀ (s : State) (m : Nat), held s = false → regMaster m = true →
    (let new := (requested s).commitRange 0xF0000 0x100000;
      groupHeld (requested s) 0xF0 = false → stgErr (requested s) new none = 0 → (lanErr (requested s) new).1 = 0 →
      exec (.stgCommit m) s = .next (finish s (taken m 0xF0004 1 (fun x => stgTrans x none new) (requested s)))) ∧
    exec (.stgClearCnt m) s = .next (finish s (taken m 0xF0004 2 (fun x =>
      let y := (x.resetRange 0xF0800 0xF0C00).resetRange 0xF3000 0xF3800
      let clear (w : Win) : Win := { w with cells := w.cells.map fun c => (c.1, if c.2 = 0 ∨ 2 < c.2 then c.2 else c.2 + 2) }
      { y with stg := { y.stg with pos := [], sets := y.stg.sets.map (fun g => (g.1, { g.2 with wins := g.2.wins.map clear })),
                                   gone := y.stg.gone.map fun g => (g.1, clear g.2) } }) (requested s))) ∧
    (∀ j k w, j < 4 → k < 2 ^ 64 → findWin s j k = some w →
      (w.state = 1 →
        exec (.windowTimeout j k) s = .next (finish s (raise (stgEv FK.STG_WINDOW_TIMEOUT j k) (closeWin j k s)))) ∧
      (w.state = 2 → inspects s j = true →
        exec (.verdictWaitExpiry j k) s = .next (finish s (
          ((List.range w.nch).flatMap fun c => (w.missing c).map fun b => (c, b)).foldl (fun y x =>
            match findWin y j k with
            | none => y
            | some v =>
              let bits := List.replicate (v.blockSize x.2) (y.f (Reg.SET_CFG_MISS_VALID j))
              raise (stgEv FK.STG_VERDICT_MISS j k) (setCount j .verdictMiss 1
                (putWin j { v with verdicts := mapSet [] v.verdicts (x.1 * 64 + x.2) bits } y))) s)))) ∧
    (∀ j c w, j < 4 → c < 512 → handable s j = some w → w.state = 2 → c < w.nch → mapGet [] w.valid c = [] →
      inspects s j = false ∨ w.missing c = [] →
      exec (.windowHandOut j c) s = .next (finish s (
        let v := validity s j w c
        let whole := (List.range w.nch).all fun i => !(mapGet [] (mapSet [] w.valid c v) i).isEmpty
        let x := putWin j { w with valid := mapSet [] w.valid c v, state := if whole then 3 else 2 } s
        let y := if x.flag (Reg.JOB_CFG_EN j) then x.incF (Reg.JOB_CLAMP j) (clampCount x { w with valid := mapSet [] w.valid c v } c v) else x
        lanHand j w.k w.nch c (if whole then perfEvent 0x0F 0x13 1 y else y)))) ∧
    ((requested s).f Reg.CAP_POST < (requested s).f Reg.CAP_SIZE →
      exec (.capArm m) s = .next (finish s (taken m 0xF0500 1 (fun x =>
        (((capSet (fun _ => { Capture.reset with base := x.f Reg.CAP_BASE, size := x.f Reg.CAP_SIZE, post := x.f Reg.CAP_POST }) x).setF
          Reg.CAP_WR 0).setF Reg.CAP_STATUS_STATE 1).drainSource 9) (requested s)))) ∧
    exec (.capStop m) s = .next (finish s (taken m 0xF0500 2 (fun x => x.setF Reg.CAP_STATUS_STATE 0) (requested s))) ∧
    (capState (requested s) = 1 →
      exec (.freezeNow m) s = .next (finish s (taken m 0xF0500 4 (fun x =>
        (capSet (fun c => { c with trigNext := true, postLeft := c.post * 0x10000 })
          (((x.setF Reg.CAP_TRIG_POS (x.f Reg.CAP_WR)).setF Reg.CAP_TRIG_TIME_SEC x.time.sec).setF Reg.CAP_TRIG_TIME_NS x.time.ns)).setF
          Reg.CAP_STATUS_STATE 2) (requested s)))) ∧
    (∀ rising : Bool, s.flag Reg.CAP_CTRL_TRIG_EN = true → s.f Reg.CAP_CTRL_TRIG_EDGE = (if rising then 0 else 1) →
      exec (.captureTrigIn rising) s = .next (finish s (capTrigger s)))

/-! ## The lantern array (08_lanterns.md) -/

/-- The commands of the lantern array complete: its commit, reseeding, the dispatch, start, completion and promotion of a task, the
notices, and lantern debug (R320, R321, R333 to R338, R341, R344, R345, R356, R362, R496). Gated, its registers change nothing, and a commit
is refused or puts the staged values back (R315). -/
def Obligations.LanternCompletes : Prop :=
  ∀ (s : State) (m : Nat), held s = false → regMaster m = true →
    (let new := (requested s).commitRange 0x100000 0x110000;
      s.actsF = false → groupHeld (requested s) 0x100 = false → (lanErr (requested s) new).1 = 0 → dumpErrs new = 0 →
      exec (.lanCommit m) s = .next (finish s (taken m 0x100004 1 (fun x => lanTrans x new) (requested s)))) ∧
    (s.actsF = true →
      (groupHeld (requested s) 0x100 = false →
        (stagedFail 0x100 (requested s) = none →
          exec (.lanCommit m) s = .next (finish s (taken m 0x100004 1 (groupRestage 0x100) (requested s)))) ∧
        (∀ fl, stagedFail 0x100 (requested s) = some fl →
          exec (.lanCommit m) s = .next (finish s (taken m 0x100004 1 (fun _ => fl.state) (requested s))))) ∧
      exec (.lanReseed m) s = .next (finish s (taken m 0x100004 2 id (requested s))) ∧
      (∀ (off : Nat) (w : Word), off = 0x300 ∨ 0x310 ≤ off ∧ off ≤ 0x32C → off % 4 = 0 →
        exec (.lanDebugWrite m off w) s = .next (finish s (taken m (0x100000 + off) w id (requested s))))) ∧
    (s.actsF = false →
      exec (.lanReseed m) s = .next (finish s (taken m 0x100004 2 (fun x =>
        (List.range 256).foldl (fun y l => putLantern l { y.lantern l with gen := seedOf y l } y) x) (requested s))) ∧
      (∀ (off : Nat) (w : Word), off = 0x300 ∨ 0x310 ≤ off ∧ off ≤ 0x32C → off % 4 = 0 →
        exec (.lanDebugWrite m off w) s = .next (finish s (taken m (0x100000 + off) w (fun x =>
          lanDebugUpdate (plainWrite (0x100000 + off) w x)) (requested s))))) ∧
    (∀ j w, j < 4 → (s.lantern (((jobGeo s j).lantOffset + (jobRun s j).q) % 256)).queue.length < 64 → (jobRun s j).absent = [] →
      (jobRun s j).wins.find? (fun v => !v.dispatched) = some w → (jobRun s j).wins.find? (fun v => v.k == w.k) = some w → w.begun = true →
      w.run = true → w.c < w.limit → w.handed.contains w.c = true →
      exec (.taskDispatch j) s = .next (finish s (
        let r := jobRun s j
        let g := jobGeo s j
        let t := mkTask g j w (periodNum s j w.serial) w.c w.i r.q (if r.reseedAt > 0 ∧ w.k = r.reseedWin then r.reseedAt else 0)
        let lan := s.lantern ((g.lantOffset + r.q) % 256)
        let last := w.i + 1 ≥ chanTasks g
        let w' := { w with left := w.left + 1, i := if last then 0 else w.i + 1, c := if last then w.c + 1 else w.c }
        lanTurn j ((putJobRun j { r with q := r.q + 1, stream := r.stream ++ [.task t],
                                         wins := r.wins.map fun v => if v.k = w.k then w' else v }
          (putLantern ((g.lantOffset + r.q) % 256) { lan with queue := lan.queue ++ [t] } s)).setF64
            (Reg.JOB_TASKS_LO j) (Reg.JOB_TASKS_HI j) (r.q + 1))))) ∧
    (∀ l t r, l < 256 → (s.lantern l).queue = t :: r → (s.lantern l).running = none → (s.lantern l).halted = false →
      ((s.lantern l).plane (s.lantern l).act).held = false → t.reseed = 0 →
      exec (.taskStart l) s = .next (finish s (perfEvent 0x10 0x10 1 (putLantern l (
        ({ s.lantern l with queue := r, running := some t, done := false }).setPlane (s.lantern l).act
          { task := some t, held := true, acc := [], vr := [], vc := [] }) s)))) ∧
    (∀ l t, l < 256 → (s.lantern l).running = some t → (s.lantern l).done = false → debugMasked s l = false →
      exec (.taskComplete l) s = .next (finish s (putLantern l (
        let r := taskResult s t
        let x := (s.lantern l).setPlane (s.lantern l).act { task := some t, held := true, acc := r.1, vr := r.2.1, vc := r.2.2 }
        if (x.plane (1 - x.act)).held then { x with done := true, halted := false }
        else { x with running := none, done := false, halted := false, act := 1 - x.act }) s))) ∧
    (∀ j n t rest errs, j < 4 → (jobRun s j).stream = .task t :: rest →
      ((s.lantern t.lantern).plane (1 - (s.lantern t.lantern).act)).held = true →
      ((s.lantern t.lantern).plane (1 - (s.lantern t.lantern).act)).task = some t →
      exec (.promotion j n errs) s = .next (finish s (Machine.promotion j n errs s))) ∧
    (∀ j c rest, j < 4 → (jobRun s j).stream = .notice c :: rest → c.all = true →
      exec (.notice j) s = .next (finish s (lanTurn j (pumpMarkers j (rest.length + 1)
        (skipChan j c.serial c.c 1 false (putJobRun j { jobRun s j with stream := rest } s)))))) ∧
    (∀ j c rest, j < 4 → (jobRun s j).stream = .notice c :: rest → c.all = false →
      exec (.notice j) s = .next (finish s (lanTurn j (pumpMarkers j (rest.length + 1)
        (c.tasks.foldl (fun y t => slotArrive t.slot (.notice t) y) (putJobRun j { jobRun s j with stream := rest } s))))))

/-! ## The mantle (09_mantle.md) -/

/-- The commands of the mantle complete: what waits at the head of a slot's queue runs in turn, a job's marker leaves a slice, a dump
copy becomes readable, and the slots are cleared after reset (R354, R355, R367, R370, R372, R383, R387). In F personality a commit of the
group is rejected (R349). -/
def Obligations.MantleCompletes : Prop :=
  ∀ s : State, held s = false →
    (∀ j k p, j < 4 → k < 256 → (s.mjob j).periods.find? (fun p => p.markerIn && mapGet 0 p.slicesDone k == 0) = some p →
      exec (.periodEndMarker j k) s = .next (finish s (
        let y := (((List.range p.geo.bankSlots).map (p.geo.bankFirst p.num + ·)).filter fun n => n % 256 == k).foldl
          (fun x n => slotArrive n (.drain p.serial) x)
          (updPeriod j p.serial (fun q => { q with slicesDone := mapSet 0 q.slicesDone k 1 }) s)
        if y.snuffed then snuffDrains y else y))) ∧
    (∀ n serial r errs, n < 8448 → (s.mslot n).queue = .drain serial :: r → drainTurn s serial = true →
      exec (.slotDrain n errs) s = .next (finish s
        (slotFlush (r.length + 1) n (drainApply n serial errs (putSlot n { s.mslot n with queue := r } s))))) ∧
    (∀ n j serial r, n < 8448 → (s.mslot n).queue = .clear j serial :: r →
      ((s.mjob j).periods.any fun p => decide (p.serial < serial) && p.drainAhead n) = false →
      exec (.slotClear n) s = .next (finish s (slotFlush (r.length + 1) n
        (let x := putSlot n { MSlot.reset with queue := r } s;
          dumpStateReg j (putMjob j { x.mjob j with clears := (x.mjob j).clears - 1 } x))))) ∧
    (∀ n t r, n < 8448 → (s.mslot n).queue = .tagSet t :: r →
      exec (.tagSet n) s = .next (finish s (slotFlush (r.length + 1) n (putSlot n { s.mslot n with tag := t, queue := r } s)))) ∧
    (∀ j n h r, j < 4 → (s.mjob j).ready = (n, h) :: r →
      exec (.dumpCopyComplete j) s = .next (finish s (
        let x := putMjob j { s.mjob j with ready := r, begun := (s.mjob j).begun - 1, newest := some (n, leAt h 120 8) } s
        (((dramOut n h x).incF (Reg.DUMP_WR j) 1).intPend (4 + j)).produce (1 + j) (leAt h 120 8 / 64)))) ∧
    (s.flag Reg.MNT_STATUS_INIT_DONE = false → s.actsF = false →
      exec .mantleInitClear s = .next (finish s (s.setF Reg.MNT_STATUS_INIT_DONE 1))) ∧
    (∀ m, regMaster m = true → s.actsF = true → groupHeld (requested s) 0x110 = false →
      ∃ fl, stagedFail 0x110 (requested s) = some fl ∧ fl.code = 1 ∧
        exec (.mntCommit m) s = .next (finish s (taken m 0x110000 1 (fun _ => fl.state) (requested s)))) ∧
    (∀ m, regMaster m = true → s.actsF = false → groupHeld (requested s) 0x110 = false →
      mntErr (requested s) ((requested s).commitRange 0x110000 0x120000) = 0 →
      exec (.mntCommit m) s = .next (finish s (taken m 0x110000 1 (fun x => geoRegs (x.commitRange 0x110000 0x120000)) (requested s))))

/-! ## The Candelabra (10_candelabra.md) -/

/-- The commands of the Candelabra complete: its commit, its weight banks and its blocks' skew timeout (R400, R403, R412, R413, R415,
R417). Gated, its registers change nothing, and a commit is refused or puts the staged values back (R390). -/
def Obligations.CandelabraCompletes : Prop :=
  ∀ (s : State) (m : Nat), held s = false → regMaster m = true →
    (let new := (requested s).commitRange 0x120000 0x130000;
      s.actsF = false → groupHeld (requested s) 0x120 = false → canErr (requested s) new none = 0 →
      exec (.canCommit m) s = .next (finish s (taken m 0x120004 1 (fun x => canTrans x none new) (requested s)))) ∧
    (∀ k b, k < 16 → b < 2 ^ 64 → exec (.blockSkewTimeout k b) s = .next (finish s (closeBlock k b true s))) ∧
    (s.actsF = true →
      (groupHeld (requested s) 0x120 = false →
        (stagedFail 0x120 (requested s) = none →
          exec (.canCommit m) s = .next (finish s (taken m 0x120004 1 (groupRestage 0x120) (requested s)))) ∧
        (∀ fl, stagedFail 0x120 (requested s) = some fl →
          exec (.canCommit m) s = .next (finish s (taken m 0x120004 1 (fun _ => fl.state) (requested s))))) ∧
      (∀ w : Word, exec (.canWData m w) s = .next (finish s (taken m 0x12001C w id (requested s)))) ∧
      exec (.copyLive m) s = .next (finish s (taken m 0x120010 8 id (requested s))) ∧
      exec (.canSeal m) s = .next (finish s (taken m 0x120010 1 id (requested s))) ∧
      exec (.canUnseal m) s = .next (finish s (taken m 0x120010 2 id (requested s))) ∧
      exec (.canSwapNow m) s = .next (finish s (taken m 0x120010 4 id (requested s)))) ∧
    (s.actsF = false →
      (canBusy (requested s) = false → s.can.ptrEnd = false → ∀ w : Word,
        exec (.canWData m w) s = .next (finish s (taken m 0x12001C w (fun x =>
          let p := x.f Reg.CAN_W_PTR / 2 * 2
          let base := (1 - canLive x) * 8388608
          (canSet (fun c => { c with
            weights := mapSet 0 (mapSet 0 c.weights (base + p) (getBits w 15 0)) (base + p + 1) (getBits w 31 16),
            ptrEnd := decide (p + 2 ≥ 8388608) }) x).setF Reg.CAN_W_PTR (p + 2)) (requested s)))) ∧
      (canBusy (requested s) = false →
        exec (.copyLive m) s = .next (finish s (taken m 0x120010 8 (fun x => x.setF Reg.CAN_W_STATUS_BUSY 1) (requested s)))) ∧
      ((requested s).flag Reg.CAN_W_STATUS_BUSY = false → retiring (requested s) = false →
        exec (.canSeal m) s = .next (finish s (taken m 0x120010 1 (fun x => x.setF Reg.CAN_W_STATUS_SEALED 1) (requested s)))) ∧
      exec (.canUnseal m) s = .next (finish s (taken m 0x120010 2 (fun x => x.setF Reg.CAN_W_STATUS_SEALED 0) (requested s))) ∧
      ((requested s).flag Reg.CAN_CTRL_EN = false → (requested s).flag Reg.CAN_W_STATUS_SEALED = true →
        exec (.canSwapNow m) s = .next (finish s (taken m 0x120010 4 (fun x =>
          let y := canExchange 0 0 x
          canSet (fun c => { c with banks := ([0, 1, 2, 3] : List Nat).map fun d => (d, [(0, canLive y)]),
                                    stales := ([0, 1, 2, 3] : List Nat).map fun d => (d, [(0, false)]) }) y) (requested s))))) ∧
    (s.flag Reg.CAN_W_STATUS_BUSY = true → exec .copyComplete s = .next (finish s (
      let moved := (s.can.weights.filter fun x => x.1 / 8388608 == canLive s).map fun x => ((1 - canLive s) * 8388608 + x.1 % 8388608, x.2)
      let kept := s.can.weights.filter fun x => x.1 / 8388608 == canLive s
      (canSet (fun c => { c with weights := if canLive s = 0 then kept ++ moved else moved ++ kept }) s).setF Reg.CAN_W_STATUS_BUSY 0)))


/-! ## DMA (11_dma.md) -/

/-- The commands of the DMA registers complete: START takes the channel's first descriptor, DOORBELL is taken or kept, ABORT ends the
descriptor in progress, counts are cleared, clearing EN aborts every channel, a write of CMP_RD may release a record, and the block's
reset waits for the records it writes (R437, R439, R443, R445 to R447). -/
def Obligations.DmaRegistersComplete : Prop :=
  ∀ (s : State) (m c err : Nat) (host : List Byte), held s = false → regMaster m = true → c < 16 →
    (s.flag Reg.DMA_CTRL_EN = true → chState s c = 0 → s.dma.resetDue = false →
      exec (.dmaStart m c) s = .next (finish s (taken m (0xD0100 + c * 64) 1 (fun x =>
        let base := paceSources.foldl (fun b p => mapSet 0 b p ((paceMade x p : Int) - paceHeld x p)) []
        let y := putChan c { DmaChan.reset with fetch := some (x.f64 (Reg.CH_DESC_LO c) (Reg.CH_DESC_HI c) / 64 * 64), paceBase := base } x
        setChState c 1 ((y.setF (Reg.CH_STATUS_DB_PEND c) 0).setF (Reg.CH_STATUS_PACE_REQ c) 0)) (requested s)))) ∧
    (s.flag Reg.DMA_CTRL_EN = true → chState s c ≠ 0 → s.dma.resetDue = false →
      exec (.dmaDoorbell m c err host) s = .next (finish s (taken m (0xD0100 + c * 64) 2 (fun x => x.setF (Reg.CH_STATUS_DB_PEND c) 1)
        (requested s)))) ∧
    (s.flag Reg.DMA_CTRL_EN = true → chState s c = 0 → hasLast s c = true → s.dma.resetDue = false →
      exec (.dmaDoorbell m c err host) s = .next (finish s (taken m (0xD0100 + c * 64) 2 (doorbellRead c err host) (requested s)))) ∧
    (chState s c = 1 → (s.chan c).desc ≠ [] → (s.chan c).ending ≠ 2 →
      exec (.dmaAbort m c) s = .next (finish s (taken m (0xD0100 + c * 64) 4 (fun x =>
        setChState c 3 (updChan c (fun d => { d with ending := 3 }) x)) (requested s)))) ∧
    (chState s c = 2 →
      exec (.dmaAbort m c) s = .next (finish s (taken m (0xD0100 + c * 64) 4
        (updChan c (fun d => { d with held := d.held.map (fun h => (h.1, h.2.1, none)), aborted := true })) (requested s)))) ∧
    exec (.dmaClearCnt m c) s = .next (finish s (taken m (0xD0100 + c * 64) 8 (fun x =>
      ((x.setF (Reg.CNT_DESC c) 0).setF64 (Reg.CNT_BYTES_LO c) (Reg.CNT_BYTES_HI c) 0).setF (Reg.CNT_ERR c) 0) (requested s))) ∧
    exec (.dmaEnWrite m true) s = .next (finish s (taken m 0xD0000 1 (fun x => x.setF Reg.DMA_CTRL_EN 1) (requested s))) ∧
    (s.flag Reg.DMA_CTRL_EN = true →
      exec (.dmaEnWrite m false) s = .next (finish s (taken m 0xD0000 0 (fun x =>
        (List.range 16).foldl (fun y i => Machine.dmaAbort i y) (x.setF Reg.DMA_CTRL_EN 0)) (requested s)))) ∧
    (∀ v, v < 2 ^ 17 →
      exec (.cmpRdWrite m c v err host) s = .next (finish s (taken m (0xD0100 + c * 64 + 0x28) (BitVec.ofNat 32 v) (fun x =>
        dmaResetEnd (releaseHeld c err host ((x.setF (Reg.CMP_RD c) v).setOnce (Reg.CMP_RD c).key false))) (requested s)))) ∧
    exec .dmaBlockReset s = .next (finish s (
      let x := (List.range 16).foldl (fun y i => dmaResetChan i y) s
      if x.dma.chans.all (fun y => y.2.desc.isEmpty && y.2.held.isNone && y.2.reads.isEmpty && y.2.writes.isEmpty) then
        { x.resetRange 0xD0000 0xE0000 with dma := { x.dma with chans := [], last := [], resetDue := false } }
      else { x with dma := { x.dma with resetDue := true } }))

/-- A channel fetches a descriptor, issues bursts, takes their answers, a read never before an overlapping write issued before it,
and ends the descriptor with its record (R424 to R442, R444, R484). -/
def Obligations.DmaBurstsComplete : Prop :=
  ∀ (s : State) (c k err : Nat) (host again : List Byte), held s = false → c < 16 →
    (∀ a, (s.chan c).fetch = some a → s.flag Reg.DMA_CTRL_EN = true → chState s c = 1 → busHolds s a 64 = false →
      let x := updChan c (fun d => { clearDesc d with fetch := none, seq := d.seq + 1 })
        ((s.setF64 (Reg.CH_LAST_LO c) (Reg.CH_LAST_HI c) a).incF (Reg.CNT_DESC c) 1)
      let r := memRead (dmaMaster c) 4 a 64 err host x
      r.1.1 = true → descErr r.1.2 = 0 → hostClosed r.2 = false →
      exec (.descriptorFetch c err host) s = .next (finish s (
        paceShow c (updChan c (fun d => { d with desc := r.1.2, paceSrc := descPace r.1.2 }) r.2)))) ∧
    (∀ dst : Bool,
      let x := s.chan c
      let side := if dst then dstSide x.desc else srcSide x.desc
      let pos := if dst then x.dstPos else x.srcPos
      let n := side.burst pos (!dst)
      chState s c = 1 → x.desc ≠ [] → x.ending = 0 → x.mismatch = none → x.reads.length < 8 → pos < side.len →
      (if dst then descMode x.desc = 2 else descMode x.desc ≠ 1) → dmaTurn s c = true →
      descPace x.desc = 0 ∨ (paceShow c s).flag (Reg.CH_STATUS_PACE_REQ c) = true →
      exec (.readBurst c dst) s = .next (finish s (
        let y := paceShow c s
        perfEvent 0x0D 0x10 1 (paceShow c (dmaServed c (putChan c { x with
          reads := x.reads ++ [{ pos := pos, n := n, addr := side.addr pos, dst := dst, data := [], wrAt := x.wrPos }],
          srcPos := if dst then x.srcPos else pos + n, dstPos := if dst then pos + n else x.dstPos,
          cons := if descPace x.desc = 0 then x.cons else x.cons + beatsOf (side.addr pos) n } y)))))) ∧
    (let x := s.chan c
      let side := dstSide x.desc
      let n := side.burst x.wrPos false
      chState s c = 1 → x.desc ≠ [] → x.ending = 0 → descMode x.desc ≠ 2 → x.writes.length < 8 → x.wrPos < side.len →
      hostClosed s = false → dmaTurn s c = true → ∀ bs, formedBytes x x.wrPos n = some bs →
      exec (.writeBurst c) s = .next (finish s (perfEvent 0x0D 0x11 1 (dmaServed c (putChan c (dropUsed { x with
        writes := x.writes ++ [{ pos := x.wrPos, n := n, addr := side.addr x.wrPos, dst := true, data := bs, wrAt := 0 }], wrPos := x.wrPos + n }) s))))) ∧
    (∀ b, (s.chan c).reads[k]? = some b →
      exec (.readResponse c k err host) s = .next (finish s (
        if ((s.chan c).writes.any fun w => decide (w.pos < b.wrAt) && beatsMeet w.addr w.n b.addr b.n) || busHolds s b.addr b.n then s
        else
          let r := burstBeats c err b host s
          readDone c k r.1 r.2))) ∧
    (∀ b, (s.chan c).writes[k]? = some b → busHolds s b.addr b.n = false →
      (inPages b.addr && pageSilent (dmaMaster c) b.addr err true) = false →
      exec (.writeAck c k err) s = .next (finish s (
        let r := busWrite { master := dmaMaster c, err := err, host := [] } b.addr b.n (enabledCells b.addr (2 ^ b.n - 1) b.data) s
        writeDone c k r.1 r.2))) ∧
    (descReady s c = true → chState s c = 1 → (s.chan c).ending = 0 → busHolds s ((chLast s c + 56) % 2 ^ 64) 8 = false →
      let r := memRead (dmaMaster c) 4 ((chLast s c + 56) % 2 ^ 64) 8 err host s
      r.1.1 = true →
      (ofLe r.1.2 = 0 → exec (.descriptorEnd c err host again) s = .next (finish s (
        dmaResetEnd (recordOut c (recordBytes r.2 c 1 1) (descInt (s.chan c).desc) none true 0 again r.2)))) ∧
      (ofLe r.1.2 ≠ 0 → ofLe r.1.2 % 64 = 0 → exec (.descriptorEnd c err host again) s = .next (finish s (
        dmaResetEnd (recordOut c (recordBytes r.2 c 1 0) (descInt (s.chan c).desc) (some (ofLe r.1.2)) false 0 [] r.2)))))

/-! ## LPDDR6 (12_memory.md) -/

/-- Initialisation, training, set points, refresh and self-refresh complete (R459 to R468, R732). -/
def Obligations.MemoryControlCompletes : Prop :=
  ∀ (s : State) (m c : Nat), held s = false → regMaster m = true → c < 8 →
    (memReady s = false → s.mem.initing = false → (s.reg Reg.MEM_GEOM_CHANNELS.key).toNat = objNat s 0x000008 0xA →
      exec (.memInit m) s = .next (finish s (taken m 0xC0000 1 (fun x =>
        memSet (fun y => { y with initing := true }) (((x.setFlag Reg.MEM_STATUS_MODE (memChannels x == 8)).setF Reg.MEM_STATUS_TRAINING 1).setF
          Reg.MEM_TRAIN_STATUS_FAIL_CH 0)) (requested s)))) ∧
    (∀ fail, fail < 256 → s.mem.initing = true →
      let f := fail &&& popMask s
      let x := memSet (fun y => { y with initing := false }) ((s.setF Reg.MEM_STATUS_TRAINING 0).setF Reg.MEM_TRAIN_STATUS_FAIL_CH f)
      exec (.memTrainingComplete fail) s = .next (finish s (
        if f = 0 then memShow (markTrained 0 (x.setF Reg.MEM_STATUS_READY 1)) else trainFail f x))) ∧
    (memReady s = true → c < memChannels s → s.flag Reg.MEM_STATUS_SWITCHING = false → s.flag (Reg.CH_TEMP_IN_SR c) = false →
      exec (.periodicRetrain c) s = .next (finish s (
        memSet (fun y => { y with periodic := y.periodic ||| 2 ^ c }) (s.setF Reg.MEM_STATUS_TRAINING 1)))) ∧
    (s.mem.periodic = 2 ^ c → s.flag Reg.MEM_TRAIN_STATUS_DEFERRED = false →
      exec (.periodicRetrainComplete c) s = .next (finish s (
        (memSet (fun y => { y with periodic := y.periodic ^^^ 2 ^ c,
                                   setTemp := mapSet 0 y.setTemp (memActive s * 8 + c) (s.f (Reg.CH_TEMP_VALUE c)) }) s).setF
          Reg.MEM_STATUS_TRAINING 0))) ∧
    (memReady s = true → s.flag Reg.MEM_STATUS_SWITCHING = false → s.flag Reg.MEM_TRAIN_STATUS_DEFERRED = false →
      s.flag Reg.MEM_STATUS_TRAINING = false →
      exec (.fspReq m) s = .next (finish s (taken m 0xC0018 1 fspBegin (requested s)))) ∧
    exec (.fspInvalidate m) s = .next (finish s (taken m 0xC0018 2 (fun x => unTrain (1 - memActive x) x) (requested s))) ∧
    (∀ k v, k < 2 → v ≤ 4 → k ≠ memActive s →
      exec (.fspRateWrite m k v) s = .next (finish s (taken m (0xC0010 + 4 * k) (BitVec.ofNat 32 v) (fun x =>
        unTrain k (x.setF (if k = 0 then Reg.MEM_FSP0_RATE else Reg.MEM_FSP1_RATE) v)) (requested s)))) ∧
    (∀ fail, fail < 256 → s.flag Reg.MEM_STATUS_SWITCHING = true → s.flag Reg.MEM_STATUS_TRAINING = false →
      exec (.fspSwitchComplete fail) s = .next (finish s (raise (fev FK.MEM_FSP_SWITCH 0x0C 0 0) (memShow
        ((((s.setF Reg.MEM_STATUS_SWITCHING 0).setF Reg.MEM_STATUS_TRAINING 0).setF Reg.MEM_STATUS_FSP_ACTIVE (1 - memActive s)).incF
          Reg.CNT_SWITCH 1))))) ∧
    (∀ ts : List Int, ts.length = 8 → exec (.tempPoll ts) s = .next (finish s (
      memShow (((ts.take (memChannels s)).zipIdx).foldl (fun x t => tempRead t.2 t.1 x) s)))) ∧
    (s.flag Reg.MEM_CTRL_SR_EN = true → memReady s = true → c < memChannels s → s.flag (Reg.CH_TEMP_IN_SR c) = false →
      s.mem.periodic.testBit c = false → s.flag Reg.MEM_STATUS_SWITCHING = false →
      (∀ q ∈ s.mem.queue, subChannel s q.off / 2 ≠ c) →
      exec (.srEntry c) s = .next (finish s (memSet (fun y => { y with entering := y.entering ||| 2 ^ c })
        ((s.setF (Reg.CH_TEMP_IN_SR c) 1).incF ⟨0xC010C + c * 32, 31, 0⟩ 1)))) ∧
    (∀ (entering : Bool) (q : MemReq), s.flag (Reg.CH_TEMP_IN_SR c) = true → s.mem.srRetrain.testBit c = false → q ∈ s.mem.queue →
      reqChannel s q = c →
      exec (.srExit c entering) s = .next (finish s (
        let x := memSet (fun y => { y with entering := if y.entering.testBit c then y.entering ^^^ 2 ^ c else y.entering })
          (s.setF (Reg.CH_TEMP_IN_SR c) 0)
        if entering && s.mem.entering.testBit c then x.incF ⟨0xC0110 + c * 32, 31, 0⟩ 1 else x))) ∧
    (groupHeld (requested s) 0xC0 = false → memGroupErr ((requested s).commitRange 0xC0000 0xD0000) = 0 →
      exec (.memCommit m) s = .next (finish s (taken m 0xC0008 1 (fun x => x.commitRange 0xC0000 0xD0000) (requested s))))

/-- Requests are queued at their master's port, and issued by a channel that does not hold its traffic, as its order chooses; a read without
errors answers the bytes there are; a burst is read and checked, and the patrol goes on in its turn; while their channel holds its traffic
those wait (R456 to R458, R461, R464, R468 to R474). -/
def Obligations.MemoryAccessCompletes : Prop :=
  ∀ (s : State) (m c off e0 e1 slip : Nat), held s = false → anyMaster m = true → c < 8 →
    (∀ len (write : Bool) (data : List Byte), 1 ≤ len → len ≤ 256 → off < 2 ^ 40 → memReady s = true → off + len ≤ dramBytes s →
      memFull s m = false →
      let cells := if write then atOffset off (fitBytes len data) else []
      exec (.memRequest (masterPort m) m write off len data) s = .next (finish s (
        (alignedParts 256 off len).foldl (fun x p => memQueue (memReq x m (if write then 2 else 1) p.1 p.2
          (cells.filter fun b => decide (p.1 ≤ b.1) && decide (b.1 < p.1 + p.2))) x) s))) ∧
    (∀ q, memReady s = true → chanHolds s c = false → memChoose s.draw.2 c s.draw.1 = some q →
      exec (.memIssue c e0 e1 slip) s = .next (finish s (
        let r := memServe q { half := fun h i => errDigit (if h = 0 then e0 else e1) i, tag := fun _ => false, slip := slip }
          (memTake c q (srOut c s.draw.2))
        r.2.respond r.1.1 r.1.2)) ∧
      (Settled s → q.write = false → s.flt.inj = none →
        ∃ t, exec (.memIssue c 0 0 0) s = .next t ∧ t.resp = { ok := true, data := dramPeek s q.off q.n } ∧
          t.mem.dram = s.mem.dram ∧ t.mem.queue = s.mem.queue.erase q)) ∧
    (off < 2 ^ 40 → off % 32 = 0 →
      exec (.burstReadCheck off e0 e1 slip m) s = .next (finish s (
        if memHolds s off 32 then s
        else
          let r := dramAccess m 1 off 32 [] (MemErrs.one e0 e1 slip) s
          r.2.respond r.1.1 r.1.2))) ∧
    (memReady s = true → s.flag Reg.MEM_CTRL_SCRUB_EN = true → memHolds s (s.mem.scrub * 32) 32 = false →
      exec (.patrolScrub e0 e1 slip) s = .next (finish s (
        let r := dramAccess 0xFF 6 (s.mem.scrub * 32) 32 [] (MemErrs.one e0 e1 slip) s
        memSet (fun y => { y with scrub := (y.scrub + 1) % max 1 (dramBytes r.2 / 32) }) r.2))) ∧
    (masterReach m 4 false = true → exec (.memErrAddrRead m) s = .next (finish s (
      let r := readReg 0xC0058 (if m = 0 then 3 else 1) m (requested s)
      r.2.respond true (leBytes 4 r.1.toNat))))

/-! ## The host interface (14_host.md) -/

/-- The link trains and goes down, configuration space answers, and PERST# resets it (R506, R507, R509, R521, R527, R682). -/
def Obligations.HostLinkCompletes : Prop :=
  ∀ (s : State) (m : Nat), regMaster m = true →
    exec (.hifPerstN true) s = .next (finish s (bringSet (fun b => { b with hifPerstN := true }) s)) ∧
    (let x := bringSet (fun b => { b with hifPerstN := false }) s
     exec (.hifPerstN false) s = .next (finish s (hifSet (fun h => { h with cfgReady := false })
       (if s.flag Reg.HIF_STATUS_LINK_UP then
          raise (fev FK.HIF_LINK_DOWN 0x0B 0 0) ((linkGone (retire (x.draw.1 % 65) x.draw.2)).incF Reg.HIF_CNT_LINK_DOWN 1)
        else linkGone x)))) ∧
    (held s = false →
      (∀ width rate (cxl flit256 : Bool), width < 3 → rate < 4 → s.bring.hifPerstN = true → maxWidth s ≤ width → maxRate s ≤ rate →
        exec (.hifLinkUp width rate cxl flit256) s = .next (finish s (
          let x := (((((s.setF Reg.HIF_STATUS_LINK_UP 1).setF Reg.HIF_STATUS_WIDTH width).setF Reg.HIF_STATUS_RATE rate).setFlag
            Reg.HIF_STATUS_CXL_MODE cxl).setFlag Reg.HIF_STATUS_FLIT256 (flit256 || (cxl && rate == 0)))
          hostBack (resendAll (if width > maxWidth x ∨ rate > maxRate x then raise (fev FK.HIF_LINK_DEGRADED 0x0B 0 0) x else x))))) ∧
      (∀ retired, retired ≤ 64 → s.flag Reg.HIF_STATUS_LINK_UP = true →
        exec (.hifLinkDown retired) s = .next (finish s (
          raise (fev FK.HIF_LINK_DOWN 0x0B 0 0) ((linkGone (retire retired s)).incF Reg.HIF_CNT_LINK_DOWN 1)))) ∧
      exec (.hifRetrain m) s = .next (finish s (taken m 0xB0000 0x20 (fun x => x.setF Reg.HIF_STATUS_LINK_UP 0) (requested s))) ∧
      (∀ loaded : Bool, s.flag Reg.HIF_STATUS_LINK_UP = true → (loaded || s.hif.cfgReady) = true →
        let x := if loaded then cfgLoad s else s
        (∀ off, (CfgReq.read off).wf = true →
          exec (.configRequest loaded (.read off)) s = .next (finish s (x.respond true (leBytes 4 (cfgWord x (off / 4 * 4)).toNat)))) ∧
        (∀ off v, (CfgReq.write off v).wf = true →
          exec (.configRequest loaded (.write off v)) s = .next (finish s (
            (hostEnables (cfgWrite (off / 4 * 4) (BitVec.ofNat 32 v) x)).respond true []))) ∧
        (∀ cache mem base msixEn, (CfgReq.control cache mem base msixEn).wf = true →
          let y := hostControl cache mem base msixEn x
          exec (.configRequest loaded (.control cache mem base msixEn)) s = .next (finish s ((hostEnables y).respond true [])) ∧
            decoderOn y = true ∧ decoderBase y = base ∧ (cfgWord y 0xB0).getLsbD 31 = msixEn ∧ (cfgWord y 0x16C).getLsbD 0 = cache ∧
            (cfgWord y 0x16C).getLsbD 2 = mem)))

/-- The host's accesses, CXL.mem, snoops, MSI-X and the mailbox complete (R510 to R516, R518, R522, R523, R525, R526). -/
def Obligations.HostAccessCompletes : Prop :=
  ∀ (s : State) (m : Nat) (write : Bool), held s = false → regMaster m = true →
    (s.flag Reg.HIF_STATUS_LINK_UP = true →
      (∀ off w err host, off < 2 ^ 28 → off % 4 = 0 → err ≤ 2 →
        exec (.bar0Access write off 4 w err host) s = .next (finish s (
          busAccess { master := 2, err := err, host := host } write (0x40000000 + off) 4 15 (leBytes 4 w.toNat) s))) ∧
      (∀ off len en data err, off < 2 ^ 20 → 1 ≤ len → len ≤ 64 → off % len = 0 → off / 64 = (off + len - 1) / 64 →
        routeTo (apertureAddr s off) len ≠ some 4 → routeTo (apertureAddr s off) len ≠ some 0 →
        exec (.apertureAccess write off len en data err) s = .next (finish s (
          busAccess { master := 2, err := err, host := [] } write (apertureAddr s off) len en data s))) ∧
      (∀ off w, off < 0x11000 → off % 4 = 0 → exec (.bar2Access true off w) s = .next (finish s (
        (hostEnables (compWrite off w s)).respond true []))) ∧
      (∀ k w, k < 128 → exec (.bar2Access true (0x11000 + 4 * k) w) s = .next (finish s (
        (hifSet (fun h => { h with msix := mapSet (if k % 4 = 3 then 1 else 0) h.msix k w }) s).respond true []))) ∧
      (∀ k w, k < 128 → exec (.bar2Access false (0x11000 + 4 * k) w) s = .next (finish s (
        s.respond true (leBytes 4 (msixWord s k).toNat))))) ∧
    (∀ addr err o, addr < 2 ^ 52 → cxlOffset s addr = some o →
      memHolds s (o / 64 * 64) 64 = false →
      (memReady s = true → o / 64 * 64 + 64 ≤ dramBytes s → exec (.cxlMemRead addr err) s = .next (finish s (
        let r := cxlLine (o / 64 * 64) err (perfEvent 0x0B 0x10 1 s)
        if r.1.1 then r.2.respond true r.1.2 else (memPoison r.2).respond false r.1.2))) ∧
      (∀ en data, en < 2 ^ 64 → data.length = 64 → s.flag Reg.HIF_CTRL_WPROT_EN = false →
        exec (.cxlMemWrite addr en data err) s = .next (finish s (
          let r := memWrite 3 (0x1000000000 + o / 64 * 64) 64
            ((enabledCells (o / 64 * 64) en (fitBytes 64 data)).map fun c => (0x1000000000 + c.1, c.2)) err s
          (if r.1 then r.2 else memPoison r.2).respond true [])))) ∧
    (∀ addr, addr < 2 ^ 52 → s.flag Reg.HIF_STATUS_LINK_UP = true → s.flag Reg.HIF_STATUS_CXL_MODE = true →
      exec (.snoop addr) s = .next (finish s (s.respond true [0x04]))) ∧
    (s.flag Reg.MBX_STATUS_BUSY = false →
      exec (.mbxDoorbell m) s = .next (finish s (taken m 0xB0200 1 (fun x =>
        hifSet (fun h => { h with mbxTaken := true, mbxMaster := m }) (x.setF Reg.MBX_STATUS_BUSY 1)) (requested s)))) ∧
    (s.flag Reg.MBX_STATUS_BUSY = true →
      exec (.mbxDoorbell m) s = .next (finish s (taken m 0xB0200 1 (fun x =>
        raise (fev FK.HIF_MBX_OVERRUN 0x0B 0 0) (x.incF Reg.HIF_CNT_MBX_OVERRUN 1)) (requested s)))) ∧
    (∀ (host : List Byte) (bad : Bool), s.hif.mbxTaken = true → mailboxServed s = true → leAt (mbxRequest s) 16 2 ≤ 4072 →
      leAt (mbxRequest s) 0 2 = zmpMagic →
      exec (.mbxResponse host bad) s = .next (finish s (
        let q := parseMsg (mbxRequest s)
        let r := mailboxAnswer host bad q s
        let l := msgBytes (answerMsg q r.1)
        if held r.2 then r.2 else mbxEnd 0 l.length (putResponse l r.2)))) ∧
    (∀ v, v < 32 → msixDue s v = true →
      exec (.msixMessage v) s = .next (finish s (hifSet (fun h => { h with sent := h.sent ||| 2 ^ v, lastSent := mapSet 0 h.lastSent v (s.tb0 + 1) })
        (s.emit (.hostWrite ((msixWord s (4 * v)).toNat + 2 ^ 32 * (msixWord s (4 * v + 1)).toNat)
          (leBytes 4 (msixWord s (4 * v + 2)).toNat))))))

/-! ## The dictionary and ZMP (15_dictionary.md) -/

/-- Requests complete outside recovery mode, for an origin that the Lamplighter serves: the answer is the operation's, and its status and
payload are given back (R534 to R547, R551, R560 to R562); one whose COUNT is 0, or is not 1 with element 0xFF, answers RANGE and changes
nothing (R533). -/
def Obligations.DictionaryCompletes : Prop :=
  (∀ (s : State) (origin session ix el count p : Nat) (value host : List Byte) (bad : Bool), held s = false → origin < 4 → session < 8 →
    ix < 2 ^ 16 → el < 256 → count < 256 → (count = 0 ∨ el = 0xFF ∧ count ≠ 1) → value.length ≤ 4072 → p < 4 →
    takesOrigin s origin = true → s.flag Reg.NVM_STATUS_RECOVERY = false →
    let range := finish s (s.respond false (leBytes 1 St.range))
    exec (.read origin session ix el count) s = .next range ∧
    exec (.write origin session ix el count value host bad) s = .next range ∧
    exec (.writeStaged p origin session ix el count value) s = .next range ∧
    (origin = 1 → ∀ mode interval, mode < 256 → interval < 2 ^ 16 →
      exec (.subscribe session ix el count mode interval) s = .next range)) ∧
  ∀ (s : State) (origin session ix el count p : Nat) (value host : List Byte) (bad : Bool), held s = false → origin < 4 → session < 8 →
    ix < 2 ^ 16 → el < 256 → 1 ≤ count → count < 256 → (el ≠ 0xFF ∨ count = 1) → value.length ≤ 4072 → p < 4 →
    takesOrigin s origin = true → s.flag Reg.NVM_STATUS_RECOVERY = false →
    let answers (r : Answer × State) : State := r.2.respond (r.1.1 == St.ok) (leBytes 1 r.1.1 ++ r.1.2)
    exec (.read origin session ix el count) s = .next (finish s (answers (dictRead origin ix el count (payloadLimit origin) s))) ∧
    exec (.write origin session ix el count value host bad) s =
      .next (finish s (answers (dictWrite origin session ix el count value host bad s))) ∧
    exec (.writeStaged p origin session ix el count value) s = .next (finish s (answers (dictStage origin session p ix el count value s))) ∧
    exec (.applyNow origin session p) s = .next (finish s (answers (Machine.applyNow p origin session (logDrain s)))) ∧
    (∀ n dom policy trig ns, n < 256 → dom < 256 → policy < 256 → trig < 2 ^ 64 → ns < 2 ^ 32 →
      (dom < 8 → policy < 2 → exec (.applyScheduled origin session p n dom policy trig ns) s =
        .next (finish s (answers (Machine.applyScheduled p n dom policy trig ns origin session (logDrain s))))) ∧
      (8 ≤ dom ∨ 2 ≤ policy → exec (.applyScheduled origin session p n dom policy trig ns) s =
        .next (finish s (answers ((St.range, []), logDrain s))))) ∧
    (∀ off len, off < 2 ^ 64 → len < 2 ^ 32 → exec (.blockRead origin ix el off len) s =
      .next (finish s (answers (Machine.blockRead origin ix el (leBytes 8 off ++ leBytes 4 len) (payloadLimit origin) s)))) ∧
    (∀ off, off < 2 ^ 64 → value.length ≤ 4064 → exec (.blockWrite origin session ix el off value) s =
      .next (finish s (answers (Machine.blockWrite origin session ix el (leBytes 8 off ++ value) s)))) ∧
    (∀ first len, first < 2 ^ 64 → len < 2 ^ 16 → exec (.logRead origin first len) s =
      .next (finish s (answers (Machine.logRead (leBytes 8 first ++ leBytes 2 len) (if origin = 1 then 43 else 126) (payloadLimit origin) s)))) ∧
    (origin = 1 → ∀ mode interval, mode < 256 → interval < 2 ^ 16 → exec (.subscribe session ix el count mode interval) s =
      .next (finish s (answers (dictSubscribe session ix el count (leBytes 1 mode ++ leBytes 1 0 ++ leBytes 2 interval) s))))

/-- The command objects of the parameter sets, of the defaults and of the lifetime record complete (R543, R565, R568, R590). -/
def Obligations.CommandObjectsComplete : Prop :=
  ∀ (s : State) (origin session p : Nat), held s = false → session < 8 → p < 4 → s.flag Reg.NVM_STATUS_RECOVERY = false →
    (origin < 3 → takesOrigin s origin = true →
      ((s.pset p).state ≠ 2 →
        exec (.psetClear origin session p) s = .next (finish s (objectCommand origin session (0x1200 + p) 1 [1] (fun x =>
          logPut (logCtrl 3 2 0 0x020000) 0 p (x.putPset p PSet.reset)) s))) ∧
      ((s.pset p).state ≠ 2 → (shadowGroups (setShadow (s.pset p))).find? (groupHeld (logDrain s)) = none →
        applyFail (setShadow (s.pset p)) none (logDrain s) = none →
        exec (.psetApplyNow origin session p) s = .next (finish s (objectCommand origin session (0x1200 + p) 1 [2] (fun x =>
          applySet p (setShadow (x.pset p)) none 0 0 false origin session x) s))) ∧
      ((s.pset p).state ≠ 2 → applyFail (setShadow (s.pset p)) none (logDrain s) = none →
        exec (.psetCheck origin session p) s = .next (finish s (objectCommand origin session (0x1200 + p) 1 [3] id s))) ∧
      exec (.restoreDefaults origin session 0x44464C54) s = .next (finish s (objectCommand origin session 0x1000 8 [0x54, 0x4C, 0x46, 0x44]
        (setNvm (fun n => { n with defaultsDue := true })) s))) ∧
    (takesOrigin s 3 = true →
      exec (.lifetimeClear 0x434C5252) s = .next (finish s (objectCommand 3 0 0x9000 4 [0x52, 0x52, 0x4C, 0x43] (Machine.lifetimeClear 0x434C5252) s)))

/-- ZMP and the persistent stores complete: datagrams reach their session, DISCOVER is answered, notifications are sent, sessions time
out, and the journal and the log are written (R539, R549 to R559, R567). -/
def Obligations.ZmpCompletes : Prop :=
  ∀ (s : State) (ip udp : Nat), held s = false → ip < 2 ^ 32 → udp < 2 ^ 16 →
    (∀ (port : Nat) (l host : List Byte) (bad : Bool), port < 2 → s.flag (Reg.MNET_PORT_CFG_EN port) = true → s.mgmt.zmpOn = true →
      40 ≤ l.length → l.length = 40 + leAt l 16 2 → l.length ≤ 1440 → leAt l 0 2 = zmpMagic → (parseMsg l).flags.testBit 0 = false →
      (parseMsg l).flags.testBit 2 = false →
      let x := zmpCount 0 (s.incF (Reg.MNET_CNT_RX port) 1)
      let m := parseMsg l
      sessionEnabled x m.session = true → l.drop (l.length - 16) = zmpTag x m.session (l.take (l.length - 16)) →
      exec (.zmpDatagram port ip udp 0 l host bad) s = .next (finish s (sessionRequest ip udp host bad m x))) ∧
    (∀ seq, seq < 2 ^ 32 → s.mgmt.zmpOn = true → objNat s 0x100006 1 ≠ 0 →
      exec (.discover ip udp seq) s = .next (finish s (zmpSend ip udp (msgBytes
        { version := 1, opcode := 0xA, flags := 1, session := 0xFF, seq := seq, ix := 0, el := 0, count := 0, status := 0, reserved := 0,
          group := 0, payload := identityRecord s } ++ zeros 16) s))) ∧
    (∀ n, n < 8 → exec (.sessionTimeout n) s = .next (finish s (putSession n { sessionOf s n with peer := none, subs := [] } s))) ∧
    (∀ n k u, n < 8 → k < 32 → (sessionOf s n).subs[k]? = some u → (sessionOf s n).peer ≠ none → s.mgmt.zmpOn = true →
      u.mode = 2 → u.lastNs = 0 ∨ u.lastNs - 1 + u.interval * 1000000 ≤ s.tb0 →
      exec (.notifySend n k) s = .next (finish s (
        let r := coveredValues u.index u.element u.count s
        let y := sessionOf r.2 n
        sendNotify n u.index u.element u.count r.1
          (putSession n { y with subs := y.subs.set k { u with last := r.1, lastNs := s.tb0 + 1 } } r.2)))) ∧
    (s.mgmt.journal ≠ [] → exec .journalWrite s = .next (finish s (
      mgmtSet (fun g => { g with journal := [] }) (keepObjects s.mgmt.journal s)))) ∧
    (s.mgmt.bootSteps = 5 → tailNext (logDrain s) < (logDrain s).dict.logNext → exec .logPersist s = .next (finish s (
      let x := logDrain s
      let first := max (tailNext x) (x.dict.logNext - 16384) / 31
      (List.range ((x.dict.logNext - 1) / 31 + 1 - first)).foldl (fun s i =>
        tailWrite ((tailSeq x (tailNext x) + 1 + i) % 2 ^ 32) (first + i) x.dict.logNext (fun n => mapGet [] x.dict.log (n % 65536)) s) x)))

/-! ## What the register pages promise (01_instrument.md, 13_fabric.md) -/

/-- R491. An access of an offset that no chapter defines, in a page that exists, completes without an error: a read answers zero, a write
changes no staged value. Every one is counted in BMX_CNT_UNDEF, the first since that register was read raises FK_BMX_UNDEF_REG, and when it
is not the first no other register changes but performance counters. -/
def Obligations.UndefinedOffsets : Prop :=
  ∀ (s : State) (m off : Nat) (w : Word), Settled s → held s = false → regMaster m = true → off < 2 ^ 28 → off % 4 = 0 →
    pageExists (off / 0x10000) = true → rowAt off = none →
    let counted (t : State) : Prop :=
      t.f Reg.BMX_CNT_UNDEF = min (s.f Reg.BMX_CNT_UNDEF + 1) (2 ^ 32 - 1) ∧ t.once Reg.BMX_CNT_UNDEF.key = true ∧
      t.f (Reg.FLT_KIND_CNT FK.BMX_UNDEF_REG) =
        (s.f (Reg.FLT_KIND_CNT FK.BMX_UNDEF_REG) + (if s.once Reg.BMX_CNT_UNDEF.key then 0 else 1)) % 2 ^ 32 ∧
      t.staged = s.staged ∧ Memory.same s t ∧
      (s.once Reg.BMX_CNT_UNDEF.key = true → ∀ k, k ≠ Reg.BMX_CNT_UNDEF.key → isCounter k = false → t.reg k = s.reg k)
    (∃ t, exec (.registerWrite m off w [] 0) s = .next t ∧ t.resp = { ok := true, data := [] } ∧ counted t) ∧
    (∀ reader en, anyMaster reader = true → masterReach reader 4 false = true →
      ∃ t, exec (.busAccess reader false (0x40000000 + off) 4 en [] 0 []) s = .next t ∧ t.resp = { ok := true, data := zeros 4 } ∧ counted t) ∧
    (∃ t, exec (.bmxCntUndefRead m) s = .next t ∧ t.once Reg.BMX_CNT_UNDEF.key = false)

/-- R8 and R480. An access to a register page that is not an aligned 32-bit word, and an access to a region that R479 does not give the
master, complete with an error response and write nothing; the second raises FK_BMX_ACCESS, and where that does not snuff the device no
register changes outside the pages of the fault collector, the counters, the pair unit, the matrix and the host interface. -/
def Obligations.RefusedAccesses : Prop :=
  ∀ (s : State) (m addr len en err : Nat) (write : Bool) (data host : List Byte), Settled s → held s = false → anyMaster m = true →
    addr < 2 ^ 64 → 1 ≤ len → len ≤ 256 →
    (∀ target, routeTo addr len = some target → masterReach m target write = false →
      ∃ t, exec (.busAccess m write addr len en data err host) s = .next t ∧ t.resp.ok = false ∧ t.staged = s.staged ∧ Memory.same s t ∧
        t.f (Reg.FLT_KIND_CNT FK.BMX_ACCESS) = (s.f (Reg.FLT_KIND_CNT FK.BMX_ACCESS) + 1) % 2 ^ 32 ∧
        (t.snuffed = s.snuffed → ∀ k, k / 0x10000 ∉ [3, 4, 5, 7, 0xB] → t.reg k = s.reg k)) ∧
    (routeTo addr len = some 4 → masterReach m 4 write = true →
      (pageExists ((addr - 0x40000000) / 0x10000) || isBroadcast ((addr - 0x40000000) / 0x10000)) = true → len ≠ 4 ∨ addr % 4 ≠ 0 →
      ∃ t, exec (.busAccess m write addr len en data err host) s = .next t ∧ t.resp.ok = false ∧ t.staged = s.staged ∧ Memory.same s t ∧
        ∀ k, isCounter k = false → t.reg k = s.reg k)

/-- R495. A write to a register with RWS fields is acknowledged and changes the staged values of that register's RWS fields alone: the
active fields keep their values, and so does every other staged value. The entries of reserved codes in a word of the class table stay
zero (R609); a lantern's seed is staged for the lantern selected. A write to a page whose block is power-gated (R166), or to a
word of a scheduler slot that is not IDLE (R60), is acknowledged and changes nothing. -/
def Obligations.StagedWrites : Prop :=
  ∀ (s : State) (m off : Nat) (w : Word), Settled s → held s = false → regMaster m = true → off < 2 ^ 28 → off % 4 = 0 →
    pageExists (off / 0x10000) = true → rwsMask off ≠ 0 →
    let discards := pageGated s (off / 0x10000) || (off / 0x10000 == 2 && slotState s ((off - 0x21000) / 32) != 0)
    (discards = true →
      ∃ t, exec (.registerWrite m off w [] 0) s = .next t ∧ t.resp = { ok := true, data := [] } ∧ t.staged = s.staged ∧
        (∀ k, k ≠ Reg.BMX_CNT_LOG_HOLD.key → isCounter k = false → t.reg k = s.reg k) ∧ Memory.same s t) ∧
    (discards = false → off ≠ 0x100208 → off ≠ 0x10020C →
      ∃ t, exec (.registerWrite m off w [] 0) s = .next t ∧ t.resp = { ok := true, data := [] } ∧
        t.stgd off &&& rwsMask off = (if off / 0x10000 = 3 then maskClassWord off w else w) &&& rwsMask off ∧
        t.reg off &&& rwsMask off = s.reg off &&& rwsMask off ∧ (∀ k, k ≠ off → t.stgd k = s.stgd k) ∧
        (∀ k, k ≠ off → k ≠ Reg.BMX_CNT_LOG_HOLD.key → isCounter k = false → t.reg k = s.reg k) ∧ Memory.same s t) ∧
    (discards = false → off = 0x100208 ∨ off = 0x10020C →
      let l := s.f Reg.LAN_WIN_SEL_LANTERN
      ∃ t, exec (.registerWrite m off w [] 0) s = .next t ∧ t.resp = { ok := true, data := [] } ∧ t.staged = s.staged ∧
        mapGet 0 t.lan.seedsStg l = (if off = 0x100208 then mapGet 0 s.lan.seedsStg l / 2 ^ 32 * 2 ^ 32 + w.toNat
          else mapGet 0 s.lan.seedsStg l % 2 ^ 32 + w.toNat * 2 ^ 32) ∧
        (∀ k, k ≠ l → mapGet 0 t.lan.seedsStg k = mapGet 0 s.lan.seedsStg k) ∧
        (∀ k, k ≠ Reg.BMX_CNT_LOG_HOLD.key → isCounter k = false → t.reg k = s.reg k))

/-- A command that is one register write does exactly what that write does, for every master of the matrix: no bit of the register, no
refusal and no side effect of the bus is lost by giving it a name of its own. -/
def Obligations.CommandsAreWrites : Prop :=
  ∀ (c : Instr) (s : State) (m off err : Nat) (w : Word) (host : List Byte), asWrite s c = some (m, off, w, host, err) → wellFormed c = true →
    exec c s = exec (.registerWrite m off w host err) s

/-! ## What the fault collector promises (17_faults.md) -/

/-- An event of class C0 or C1 that takes no snapshot is counted, and its message kept in the ring in its place, carrying LOST when one was
dropped before it; while the ring holds 1,024 unread entries the message is dropped and counted, and the first drop raises
FK_FLT_RING_FULL, itself counted and dropped (R598, R602 to R604, R606). -/
def Obligations.MessagesKept : Prop :=
  ∀ (s : State) (kind src sub addr access master : Nat), Settled s → held s = false → isFaultKind kind = true → src < 256 → sub < 256 →
    addr < 2 ^ 48 → access ≤ 8 → master < 256 → kind ≠ FK.FLT_RING_FULL → classOf s kind ≤ 1 → classOf s FK.FLT_RING_FULL ≤ 1 →
    classOf s kind < s.f Reg.PMR_CFG_FAULT_MIN → classOf s FK.FLT_RING_FULL < s.f Reg.PMR_CFG_FAULT_MIN →
    let e : FaultEv := { kind := kind, src := src, sub := sub, addr := addr, access := access, master := master, injected := false }
    let wr := s.f Reg.FLT_RING_WR
    ∃ t, exec (.faultEvent kind src sub addr access master) s = .next t ∧
      t.f (Reg.FLT_KIND_CNT kind) = (s.f (Reg.FLT_KIND_CNT kind) + 1) % 2 ^ 32 ∧ Memory.same s t ∧ t.snuffed = s.snuffed ∧
      (classOf s kind = 1 → (t.reg Reg.HIF_INT_PEND.key).getLsbD 1 = true) ∧
      (fltRingFull s = false →
        t.f Reg.FLT_RING_WR = (wr + 1) % 2048 ∧ t.flt.lost = false ∧ t.f Reg.FLT_CNT_DROP = s.f Reg.FLT_CNT_DROP ∧
        (∀ i, i < 4 → t.reg (0x38000 + 16 * (wr % 1024) + 4 * i) =
          BitVec.ofNat 32 (faultMsg s e (classOf s kind) s.flt.lost / 2 ^ (32 * i))) ∧
        (∀ j i, j < 1024 → j ≠ wr % 1024 → i < 4 → t.reg (0x38000 + 16 * j + 4 * i) = s.reg (0x38000 + 16 * j + 4 * i))) ∧
      (fltRingFull s = true →
        let first := s.once Reg.FLT_RING_WR.key = false
        t.f Reg.FLT_RING_WR = wr ∧ t.flt.lost = true ∧ t.once Reg.FLT_RING_WR.key = true ∧
        (first → t.f Reg.FLT_CNT_DROP = (s.f Reg.FLT_CNT_DROP + 2) % 2 ^ 32 ∧
          t.f (Reg.FLT_KIND_CNT FK.FLT_RING_FULL) = (s.f (Reg.FLT_KIND_CNT FK.FLT_RING_FULL) + 1) % 2 ^ 32) ∧
        (¬ first → t.f Reg.FLT_CNT_DROP = (s.f Reg.FLT_CNT_DROP + 1) % 2 ^ 32 ∧
          t.f (Reg.FLT_KIND_CNT FK.FLT_RING_FULL) = s.f (Reg.FLT_KIND_CNT FK.FLT_RING_FULL)) ∧
        (∀ j i, j < 1024 → i < 4 → t.reg (0x38000 + 16 * j + 4 * i) = s.reg (0x38000 + 16 * j + 4 * i)))

/-- R612. An event of class C2, of C3 acting as C2 or of C4, an assertion of SNUFF_IN_N and a write of SNUFF_NOW each snuff a device that is
not snuffed: one entry, counted in FLT_CNT_SNUFF and in the lifetime SNUFF_EVENTS, HIF_INT_PEND bit 2 set, SNUFF_OUT_N asserted. On a snuffed
device they are no second entry. FK_FLT_SNUFF_IN has the class C2 that R609 fixes for it. -/
def Obligations.SnuffEntered : Prop :=
  ∀ (s : State) (m kind src sub addr access master : Nat), Settled s → held s = false → regMaster m = true → isFaultKind kind = true →
    src < 256 → sub < 256 → addr < 2 ^ 48 → access ≤ 8 → master < 256 →
    let once (t : State) : Prop := t.snuffed = true ∧
      (s.snuffed = false → t.f Reg.FLT_CNT_SNUFF = (s.f Reg.FLT_CNT_SNUFF + 1) % 2 ^ 32 ∧
        mapGet 0 t.mgmt.life 12 = min (2 ^ 32 - 1) (mapGet 0 s.mgmt.life 12 + 1) ∧
        (t.reg Reg.HIF_INT_PEND.key).getLsbD 2 = true ∧ t.flt.snuffOut = true ∧ t.time.beaconActive = 0) ∧
      (s.snuffed = true → t.f Reg.FLT_CNT_SNUFF = s.f Reg.FLT_CNT_SNUFF ∧ mapGet 0 t.mgmt.life 12 = mapGet 0 s.mgmt.life 12)
    (actingClass (classOf s kind) src = 2 ∨ actingClass (classOf s kind) src = 4 →
      ∃ t, exec (.faultEvent kind src sub addr access master) s = .next t ∧ once t) ∧
    (classOf s FK.FLT_SNUFF_IN = 2 →
      (∃ t, exec .snuffInAssert s = .next t ∧ t = finish s (raise (fev FK.FLT_SNUFF_IN 0x03 0 0) (s.setF Reg.FLT_STATUS_IN_PIN 1)) ∧ once t) ∧
      (∃ t, exec (.snuffNow m) s = .next t ∧ t = finish s (taken m 0x30000 1 (raise (fev FK.FLT_SNUFF_IN 0x03 1 0)) (requested s)) ∧ once t))

/-- R615. A quiet period that ends with recoveries left leaves snuff and counts a recovery; one that ends with none left latches the snuff and
raises FK_FLT_SNUFF_LATCHED; the end of the recovery window returns RECOVERIES to zero. -/
def Obligations.QuietPeriodEnds : Prop :=
  ∀ s : State, Settled s → held s = false →
    (quietRuns s = true → s.f Reg.FLT_STATUS_RECOVERIES < s.f Reg.FLT_CFG_RECOV_LIMIT →
      ∃ t, exec .quietPeriodEnd s = .next t ∧ t.snuffed = false ∧ t.flt.snuffOut = false ∧
        t.f Reg.FLT_STATUS_RECOVERIES = s.f Reg.FLT_STATUS_RECOVERIES + 1 ∧ t.flag Reg.FLT_STATUS_LATCHED = false ∧
        (t.reg Reg.HIF_INT_PEND.key).getLsbD 2 = true ∧ t.staged = s.staged ∧ Memory.same s t ∧
        (∀ k, k ≠ Reg.FLT_STATUS_SNUFFED.key → k ≠ Reg.HIF_STATUS_SNUFFED.key → k ≠ Reg.HIF_INT_PEND.key → t.reg k = s.reg k)) ∧
    (quietRuns s = true → s.f Reg.FLT_STATUS_RECOVERIES = s.f Reg.FLT_CFG_RECOV_LIMIT →
      ∃ t, exec .quietPeriodEnd s = .next t ∧ t.snuffed = true ∧ t.flag Reg.FLT_STATUS_LATCHED = true ∧
        t.f Reg.FLT_STATUS_RECOVERIES = s.f Reg.FLT_STATUS_RECOVERIES ∧
        t.f (Reg.FLT_KIND_CNT FK.FLT_SNUFF_LATCHED) = (s.f (Reg.FLT_KIND_CNT FK.FLT_SNUFF_LATCHED) + 1) % 2 ^ 32) ∧
    (∃ t, exec .recoveryWindowEnd s = .next t ∧ t.f Reg.FLT_STATUS_RECOVERIES = 0 ∧ t.snuffed = s.snuffed ∧ t.staged = s.staged ∧
      Memory.same s t ∧ ∀ k, k ≠ Reg.FLT_STATUS_RECOVERIES.key → t.reg k = s.reg k)

/-- R618. Every cause of reset leaves the device unsnuffed, with RECOVERIES zero and LATCHED clear; a device that leaves reset is snuffed if
SNUFF_IN_N is asserted, and not otherwise. Power-on reset keeps of the registers only the levels of the pins SNUFF_IN_N and
PAIR_SENSE_IN, and every reset keeps MRAM, whose word write in progress completes (R677, R679). -/
def Obligations.ResetLeaves : Prop :=
  ∀ (s : State) (cause pers : Nat) (prio : Bool), Settled s →
    let clear (t : State) : Prop := t.snuffed = false ∧ t.f Reg.FLT_STATUS_RECOVERIES = 0 ∧ t.flag Reg.FLT_STATUS_LATCHED = false ∧
      t.nvm = (nvmFinish s).nvm
    let power (t : State) : Prop := clear t ∧ (∀ k, t.stgd k = regReset k) ∧
      (∀ k, k ≠ Reg.FLT_STATUS_IN_PIN.key → k ≠ Reg.PAIR_STATUS_SENSE.key → t.reg k = regReset k) ∧
      t.f Reg.FLT_STATUS_IN_PIN = s.f Reg.FLT_STATUS_IN_PIN ∧ t.f Reg.PAIR_STATUS_SENSE = s.f Reg.PAIR_STATUS_SENSE ∧
      t.mem = State.reset.mem ∧ t.lmp = State.reset.lmp ∧ t.stg = State.reset.stg
    (∃ t, exec .porstAssert s = .next t ∧ held t = true ∧ power t) ∧
    (∃ t, exec .brownOut s = .next t ∧ held t = true ∧ power t) ∧
    (held s = false →
      (∃ t, exec .wrstN s = .next t ∧ held t = true ∧ clear t) ∧ (∃ t, exec .refclkLoss s = .next t ∧ held t = true ∧ clear t) ∧
      (∀ m, regMaster m = true → ∃ t, exec (.resetKey m 0x44565253) s = .next t ∧ held t = true ∧ clear t) ∧
      (s.flt.c4Pending ≠ 0 → ∃ t, exec .c4ResetHold s = .next t ∧ held t = true ∧ clear t)) ∧
    (s.bring.holding = [cause] → s.snuffed = false → classOf s FK.FLT_SNUFF_IN = 2 →
      ((releaseReset cause s).snuffed = s.flag Reg.FLT_STATUS_IN_PIN ∧ held (releaseReset cause s) = false) ∧
      (cause < 7 → cause ≠ 3 → cause ≠ 4 → pers < 4 →
        ∃ t, exec (.resetRelease cause pers prio) s = .next t ∧ held t = false ∧ t.snuffed = s.flag Reg.FLT_STATUS_IN_PIN) ∧
      (cause = 3 → ∃ t, exec .c4ResetRelease s = .next t ∧ held t = false ∧ t.snuffed = s.flag Reg.FLT_STATUS_IN_PIN))

/-! ## What the pair unit and the counters promise (18_pairs.md, 19_counters.md) -/

/-- R633. Both units ACTIVE: the event is counted and raised, and by its default class, C2, it snuffs the unit and so releases its
claim. -/
def Obligations.DualClaimSnuffs : Prop :=
  defaultClass FK.PAIR_DUAL_CLAIM = 2 ∧
  ∀ s : State, Settled s → held s = false → pairState s = 3 → s.flag Reg.PAIR_STATUS_SENSE = true →
    ∃ t, exec .dualClaim s = .next t ∧ t.f Reg.PAIR_CNT_DUAL = (s.f Reg.PAIR_CNT_DUAL + 1) % 2 ^ 32 ∧
      t.f (Reg.FLT_KIND_CNT FK.PAIR_DUAL_CLAIM) = (s.f (Reg.FLT_KIND_CNT FK.PAIR_DUAL_CLAIM) + 1) % 2 ^ 32 ∧
      (classOf s FK.PAIR_DUAL_CLAIM = 2 → s.snuffed = false →
        t.snuffed = true ∧ t.flag Reg.PAIR_STATUS_CLAIM_OUT = false ∧ pairState t ≠ 3 ∧ pairState t ≠ 2)

/-- The claim shown follows the state of the unit, and a snuffed unit shows none, through every command of the claim, of its pins and of
the snuff (R628, R632). -/
def Obligations.ClaimFollowsRole : Prop :=
  ∀ (s t : State) (m : Nat) (level : Bool) (c : Instr),
    c ∈ [.claimAssert, .claimConfirm, .claimRelease, .dualClaim, .trimWaitTimeout, .pilotDown, .pairSenseChange level, .pairHoldWrite m level,
      .snuffInAssert, .snuffNow m, .quietPeriodEnd, .snuffClear m, .porstAssert] →
    Settled s → roleAndClaimAgree s = true → exec c s = .next t → roleAndClaimAgree t = true

/-- R660. CLEAR_ALL zeroes every counter and every OVF bit, and leaves the frozen state. -/
def Obligations.CountersCleared : Prop :=
  ∀ (s : State) (m : Nat), Settled s → held s = false → regMaster m = true →
    ∃ t, exec (.clearAll m) s = .next t ∧
      (∀ bank k, bank < 100 → k < 16 → t.f (Reg.CTR_LO bank k) = 0 ∧ t.f (Reg.CTR_HI bank k) = 0 ∧ t.flag (Reg.CTR_HI_OVF bank k) = false) ∧
      t.f Reg.PMR_STATUS_FROZEN = s.f Reg.PMR_STATUS_FROZEN ∧ Memory.same s t ∧
      (∀ k, isCounter k = false → k ≠ Reg.BMX_CNT_LOG_HOLD.key → t.reg k = s.reg k)

/-! ## What lamps and memories promise (05_lamps.md, 06_lamp_isa.md, 12_memory.md) -/

/-- An instruction that uses registers alone leaves every other lamp, every memory and every register but LMP_PC and its lamp's counters as
they are; the results due land first, and its own are in flight: V, ACC and S registers hold what has landed (R215, R658). -/
def Obligations.LampComputesAlone : Prop :=
  ∀ (c : Instr) (n : Nat) (op : LampOp) (s : State), registerOp c = some (n, op) → wellFormed c = true → held s = false → Settled s →
    lampReady n op s → (s.lamp n).haltReq = false →
    ∃ t, exec c s = .next t ∧ (∀ k, k ≠ n → t.lamp k = s.lamp k) ∧
      (let l := (issueTick n s).lamp n; (t.lamp n).v = l.v ∧ (t.lamp n).acc = l.acc ∧ (t.lamp n).sr = l.sr) ∧
      t.lmp = { s.lmp with lamps := t.lmp.lamps, dmem := (issueTick n s).lmp.dmem } ∧
      (∀ k, k ≠ (Reg.LMP_PC n).key → ¬ (0x4C000 + bankLmp n * 128 ≤ k ∧ k < 0x4C080 + bankLmp n * 128) → t.reg k = s.reg k) ∧
      t.staged = s.staged ∧ t.time = s.time ∧ t.sched = s.sched ∧ t.flt = s.flt ∧ t.pair = s.pair ∧ t.pmr = s.pmr ∧ t.bring = s.bring ∧
      t.links = s.links ∧ t.lens = s.lens ∧ t.stg = s.stg ∧ t.lan = s.lan ∧ t.mnt = s.mnt ∧ t.can = s.can ∧ t.dma = s.dma ∧ t.mem = s.mem ∧
      t.hif = s.hif ∧ t.dict = s.dict ∧ t.nvm = s.nvm ∧ t.mgmt = s.mgmt ∧ t.objs = s.objs ∧ t.resp = s.resp ∧ t.out = s.out

/-- Results that reach one S or V register in the same cycle leave the result of the instruction issued later; a register that no result
reaches keeps its value; the other results come one issue nearer (R215, R216). -/
def Obligations.LaterResultIsKept : Prop :=
  ∀ (s : State) (n : Nat), held s = false → Settled s → n < 64 → lampReady n .nop s → (s.lamp n).haltReq = false →
    (∀ f ∈ (s.lamp n).flight, ∀ r x, f.dest = .vreg r x → x.length = 16) →
    let due := (s.lamp n).flight.filter fun f => decide (f.delay ≤ 1)
    ∃ t, exec (.nop n) s = .next t ∧
      (∀ r, (t.lamp n).s r = ((due.reverse.findSome? fun f => match f.dest with
        | .sreg q v => if q = r then some (v % 2 ^ 36) else none
        | _ => none).getD ((s.lamp n).s r))) ∧
      (∀ r, (t.lamp n).vNats r = ((due.reverse.findSome? fun f => match f.dest with
        | .vreg q x => if q = r then some x else none
        | _ => none).getD ((s.lamp n).vNats r))) ∧
      (t.lamp n).flight = ((s.lamp n).flight.filter fun f => decide (f.delay > 1)).map fun f => { f with delay := f.delay - 1 }

/-- A lamp instruction's word and its fields say the same: every instruction whose fields fit their bits is read back from its word, and
every word that decodes is the word of the instruction it decodes to (R249, R250, R274 to R279). -/
def Obligations.LampWordsRoundTrip : Prop :=
  (∀ op : LampOp, op.fits = true → encodeLamp op < 2 ^ 32 ∧ decodeLamp (encodeLamp op) = some op) ∧
  (∀ (w : Nat) (op : LampOp), w < 2 ^ 32 → decodeLamp w = some op → op.fits = true ∧ encodeLamp op = w)

/-- A write of LPDDR6 by a master that reaches it, with no request waiting, no channel holding its traffic and no injection armed, writes exactly the bytes whose enables
are set; every other byte of LPDDR6 reads as before, the canonical form is kept, and the other memories are unchanged (R457, R481,
R482). -/
def Obligations.DramBytesWritten : Prop :=
  ∀ (s : State) (m off len en : Nat) (data host : List Byte), Settled s → held s = false → anyMaster m = true → masterReach m 8 true = true →
    1 ≤ len → len ≤ 256 → memReady s = true → s.mem.queue = [] → s.flt.inj = none →
    s.flag Reg.MEM_STATUS_SWITCHING = false → s.mem.periodic = 0 → off + len ≤ dramBytes s →
    off + len ≤ 0x1000000000 →
    ∃ t, exec (.busAccess m true (0x1000000000 + off) len en data 0 host) s = .next t ∧ t.resp = { ok := true, data := [] } ∧
      (∀ i, i < len → mapGet 0 t.mem.dram (off + i) =
        if en.testBit i then (fitBytes len data).getD i 0 else mapGet 0 s.mem.dram (off + i)) ∧
      (∀ o, o < off ∨ off + len ≤ o → mapGet 0 t.mem.dram o = mapGet 0 s.mem.dram o) ∧
      (Memory.wf s = true → Memory.wf t = true) ∧ t.lmp = s.lmp ∧ t.mgmt = s.mgmt ∧ t.nvm = s.nvm ∧ t.stg = s.stg

/-! ## What ZMP promises (15_dictionary.md) -/

/-- A message's bytes and its fields say the same, whatever follows it: every header field and the payload are read back (R550). -/
def Obligations.ZmpMessagesRoundTrip : Prop :=
  ∀ (m : ZmpMsg) (tag : List Byte), m.version < 256 → m.opcode < 256 → m.flags < 256 → m.session < 256 → m.seq < 2 ^ 32 → m.ix < 2 ^ 16 →
    m.el < 256 → m.count < 256 → m.status < 256 → m.reserved = 0 → m.group < 2 ^ 16 → m.payload.length < 2 ^ 16 →
    parseMsg (msgBytes m ++ tag) = m ∧ leAt (msgBytes m ++ tag) 0 2 = zmpMagic ∧ (msgBytes m).length = 24 + m.payload.length

end Statements
end

