-- ==== Sys2Proof/Laws/Bits.lean ====
section
/-! SUPPORT. Sys2Proof/Laws/Bits.lean: the laws of bit fields and of byte order. -/
namespace Sys2Proof.Machine

/-! ## Bit fields -/

theorem getBits_eq (w : Word) (hi lo : Nat) : getBits w hi lo = w.toNat / 2 ^ lo % 2 ^ (hi - lo + 1) := by
  rw [getBits, Nat.shiftRight_eq_div_pow]

theorem getBits_lt (w : Word) (hi lo : Nat) : getBits w hi lo < 2 ^ (hi - lo + 1) := Nat.mod_lt _ (Nat.two_pow_pos _)

theorem testBit_getBits (w : Word) (hi lo i : Nat) :
    (getBits w hi lo).testBit i = (decide (i < hi - lo + 1) && w.getLsbD (lo + i)) := by
  rw [getBits, Nat.testBit_mod_two_pow, Nat.testBit_shiftRight]; rfl

theorem getLsbD_setBits (w : Word) (hi lo v i : Nat) (h : i < 32) :
    (setBits w hi lo v).getLsbD i =
      if lo ≤ i ∧ i < lo + (hi - lo + 1) then v.testBit (i - lo) else w.getLsbD i := by
  have hm : (BitVec.ofNat 32 ((2 ^ (hi - lo + 1) - 1) <<< lo)).getLsbD i = (decide (lo ≤ i) && decide (i - lo < hi - lo + 1)) := by
    rw [BitVec.getLsbD_ofNat, Nat.testBit_shiftLeft, Nat.testBit_two_pow_sub_one]; simp [h]
  have hv : (BitVec.ofNat 32 ((v % 2 ^ (hi - lo + 1)) <<< lo)).getLsbD i =
      (decide (lo ≤ i) && (decide (i - lo < hi - lo + 1) && v.testBit (i - lo))) := by
    rw [BitVec.getLsbD_ofNat, Nat.testBit_shiftLeft, Nat.testBit_mod_two_pow]; simp [h]
  simp only [setBits, BitVec.getLsbD_or, BitVec.getLsbD_and, BitVec.getLsbD_not, hm, hv, h]
  by_cases h1 : lo ≤ i <;> by_cases h2 : i < lo + (hi - lo + 1)
  · have : i - lo < hi - lo + 1 := by omega
    simp [h1, h2, this]
  · have : ¬ (i - lo < hi - lo + 1) := by omega
    simp [h1, h2, this]
  · simp [h1]
  · simp [h1]

/-- A field written is read back, as far as it holds the value. -/
theorem getBits_setBits_same (w : Word) (hi lo v : Nat) (h : lo + (hi - lo + 1) ≤ 32) :
    getBits (setBits w hi lo v) hi lo = v % 2 ^ (hi - lo + 1) := by
  apply Nat.eq_of_testBit_eq
  intro i
  rw [testBit_getBits, Nat.testBit_mod_two_pow]
  by_cases hi' : i < hi - lo + 1
  · rw [getLsbD_setBits _ _ _ _ _ (by omega)]
    have : lo ≤ lo + i ∧ lo + i < lo + (hi - lo + 1) := by omega
    simp [hi', this]
  · simp [hi']

/-- Other fields of the word are unchanged. -/
theorem getBits_setBits_apart (w : Word) {hi lo hi' lo' : Nat} (v : Nat)
    (h : lo + (hi - lo + 1) ≤ lo' ∨ lo' + (hi' - lo' + 1) ≤ lo) :
    getBits (setBits w hi lo v) hi' lo' = getBits w hi' lo' := by
  apply Nat.eq_of_testBit_eq
  intro i
  rw [testBit_getBits, testBit_getBits]
  by_cases hi'' : i < hi' - lo' + 1
  · by_cases h32 : lo' + i < 32
    · rw [getLsbD_setBits _ _ _ _ _ h32]
      have : ¬ (lo ≤ lo' + i ∧ lo' + i < lo + (hi - lo + 1)) := by omega
      simp [this]
    · rw [BitVec.getLsbD_of_ge _ _ (by omega), BitVec.getLsbD_of_ge _ _ (by omega)]
  · simp [hi'']

/-! ## Byte order (R4) -/

@[simp] theorem leBytes_length (n v : Nat) : (leBytes n v).length = n := by
  induction n generalizing v with
  | zero => rfl
  | succ n ih => simp [leBytes, ih]

/-- Little-endian bytes spell the number they came from. -/
theorem ofLe_leBytes (n v : Nat) : ofLe (leBytes n v) = v % 2 ^ (8 * n) := by
  induction n generalizing v with
  | zero => simp [leBytes, ofLe, Nat.mod_one]
  | succ n ih =>
    rw [leBytes, ofLe, ih, BitVec.toNat_ofNat, show 8 * (n + 1) = 8 + 8 * n by ring, Nat.pow_add, Nat.mod_mul]

theorem leBytes_ofLe (l : List Byte) : leBytes l.length (ofLe l) = l := by
  induction l with
  | nil => rfl
  | cons b r ih =>
    have h1 : BitVec.ofNat 8 (b.toNat + 256 * ofLe r) = b := by
      apply BitVec.eq_of_toNat_eq; have := b.isLt; rw [BitVec.toNat_ofNat]; omega
    have h2 : (b.toNat + 256 * ofLe r) / 256 = ofLe r := by have := b.isLt; omega
    rw [List.length_cons, ofLe, leBytes, h1, h2, ih]

@[simp] theorem fitBytes_length (n : Nat) (l : List Byte) : (fitBytes n l).length = n := by
  simp [fitBytes]; omega

/-- A list of the right length is not cut or padded. -/
theorem fitBytes_of_length {n : Nat} {l : List Byte} (h : l.length = n) : fitBytes n l = l := by
  subst h; simp [fitBytes]

end Sys2Proof.Machine
end

