-- ==== Sys2Proof/Laws/Map.lean ====
section
/-! SUPPORT. Sys2Proof/Laws/Map.lean: the laws of sparse stores: what a write changes, and that every write keeps the canonical form. -/
namespace Sys2Proof.Machine

variable {β : Type}

/-! ## Reading after writing -/

theorem mapGet_mapIns_same (d v : β) (k : Nat) (m : List (Nat × β)) : mapGet d (mapIns k v m) k = v := by
  induction m with
  | nil => simp [mapIns, mapGet]
  | cons p r ih =>
    obtain ⟨k', v'⟩ := p
    unfold mapIns
    split
    · rename_i h; simp [mapGet, Nat.ne_of_lt h, ih]
    · split <;> simp [mapGet]

theorem mapGet_mapIns_ne (d v : β) {k j : Nat} (h : j ≠ k) (m : List (Nat × β)) :
    mapGet d (mapIns k v m) j = mapGet d m j := by
  induction m with
  | nil => simp [mapIns, mapGet, Ne.symm h]
  | cons p r ih =>
    obtain ⟨k', v'⟩ := p
    unfold mapIns
    split
    · simp [mapGet, ih]
    · split
      · rename_i e; subst e; simp [mapGet, Ne.symm h]
      · simp [mapGet, Ne.symm h]

theorem mapGet_mapDel_same (d : β) (k : Nat) (m : List (Nat × β)) : mapGet d (mapDel k m) k = d := by
  induction m with
  | nil => rfl
  | cons p r ih =>
    obtain ⟨k', v'⟩ := p
    unfold mapDel
    split
    · exact ih
    · rename_i h; simp [mapGet, h, ih]

theorem mapGet_mapDel_ne (d : β) {k j : Nat} (h : j ≠ k) (m : List (Nat × β)) :
    mapGet d (mapDel k m) j = mapGet d m j := by
  induction m with
  | nil => rfl
  | cons p r ih =>
    obtain ⟨k', v'⟩ := p
    unfold mapDel
    split
    · rename_i e; subst e; simp [mapGet, Ne.symm h, ih]
    · simp [mapGet, ih]

variable [DecidableEq β]

@[simp] theorem mapGet_mapSet_same (d v : β) (k : Nat) (m : List (Nat × β)) : mapGet d (mapSet d m k v) k = v := by
  unfold mapSet
  split
  · rename_i h; rw [h]; exact mapGet_mapDel_same d k m
  · exact mapGet_mapIns_same d v k m

theorem mapGet_mapSet_ne (d e v : β) {k j : Nat} (h : j ≠ k) (m : List (Nat × β)) :
    mapGet d (mapSet e m k v) j = mapGet d m j := by
  unfold mapSet
  split
  · exact mapGet_mapDel_ne d h m
  · exact mapGet_mapIns_ne d v h m

theorem mapGet_mapSetList_of_lt (d : β) (vs : List β) : ∀ (m : List (Nat × β)) (k j : Nat), j < k →
    mapGet d (mapSetList d m k vs) j = mapGet d m j := by
  induction vs with
  | nil => intro m k j _; rfl
  | cons v r ih =>
    intro m k j h
    rw [mapSetList, ih _ _ _ (by omega), mapGet_mapSet_ne _ _ _ (by omega)]

theorem mapGet_mapSetList_of_ge (d : β) (vs : List β) : ∀ (m : List (Nat × β)) (k j : Nat), k + vs.length ≤ j →
    mapGet d (mapSetList d m k vs) j = mapGet d m j := by
  induction vs with
  | nil => intro m k j _; rfl
  | cons v r ih =>
    intro m k j h
    rw [List.length_cons] at h
    rw [mapSetList, ih _ _ _ (by omega), mapGet_mapSet_ne _ _ _ (by omega)]

/-- A list written is read back. -/
theorem mapGetList_mapSetList (d : β) (vs : List β) : ∀ (m : List (Nat × β)) (k : Nat),
    mapGetList d (mapSetList d m k vs) k vs.length = vs := by
  induction vs with
  | nil => intro m k; rfl
  | cons v r ih =>
    intro m k
    rw [List.length_cons, mapGetList, mapSetList, ih, mapGet_mapSetList_of_lt _ _ _ _ _ (by omega), mapGet_mapSet_same]

/-! ## The canonical form -/

omit [DecidableEq β] in
theorem mapAbove_mono {i k : Nat} (h : i ≤ k) : ∀ m : List (Nat × β), mapAbove k m = true → mapAbove i m = true := by
  intro m
  induction m with
  | nil => intro _; rfl
  | cons p r ih =>
    intro hm
    simp only [mapAbove, Bool.and_eq_true, decide_eq_true_eq] at hm ⊢
    exact ⟨by omega, ih hm.2⟩

omit [DecidableEq β] in
theorem mapAbove_mapIns {i k : Nat} (v : β) (hk : i < k) : ∀ m : List (Nat × β), mapAbove i m = true →
    mapAbove i (mapIns k v m) = true := by
  intro m
  induction m with
  | nil => intro _; simp [mapIns, mapAbove, hk]
  | cons p r ih =>
    intro hm
    obtain ⟨k', v'⟩ := p
    simp only [mapAbove, Bool.and_eq_true, decide_eq_true_eq] at hm
    unfold mapIns
    split
    · simp [mapAbove, hm.1, ih hm.2]
    · split <;> simp [mapAbove, hk, hm.1, hm.2]

omit [DecidableEq β] in
theorem mapAbove_mapDel {i : Nat} (k : Nat) : ∀ m : List (Nat × β), mapAbove i m = true → mapAbove i (mapDel k m) = true := by
  intro m
  induction m with
  | nil => intro _; rfl
  | cons p r ih =>
    intro hm
    obtain ⟨k', v'⟩ := p
    simp only [mapAbove, Bool.and_eq_true, decide_eq_true_eq] at hm
    unfold mapDel
    split
    · exact ih hm.2
    · simp [mapAbove, hm.1, ih hm.2]

theorem mapWf_mapIns (d : Nat → β) (k : Nat) (v : β) (hv : v ≠ d k) : ∀ m : List (Nat × β), mapWf d m = true →
    mapWf d (mapIns k v m) = true := by
  intro m
  induction m with
  | nil => intro _; simp [mapIns, mapWf, mapAbove, hv]
  | cons p r ih =>
    intro hm
    obtain ⟨k', v'⟩ := p
    simp only [mapWf, Bool.and_eq_true, decide_eq_true_eq] at hm
    unfold mapIns
    split
    · rename_i h; simp [mapWf, hm.1.1, mapAbove_mapIns v h _ hm.1.2, ih hm.2]
    · split
      · rename_i h; subst h; simp [mapWf, hv, hm.1.2, hm.2]
      · simp only [mapWf, mapAbove, Bool.and_eq_true, decide_eq_true_eq]
        exact ⟨⟨hv, by omega, mapAbove_mono (by omega) _ hm.1.2⟩, hm.1, hm.2⟩

theorem mapWf_mapDel (d : Nat → β) (k : Nat) : ∀ m : List (Nat × β), mapWf d m = true → mapWf d (mapDel k m) = true := by
  intro m
  induction m with
  | nil => intro _; rfl
  | cons p r ih =>
    intro hm
    obtain ⟨k', v'⟩ := p
    simp only [mapWf, Bool.and_eq_true, decide_eq_true_eq] at hm
    unfold mapDel
    split
    · exact ih hm.2
    · simp [mapWf, hm.1.1, mapAbove_mapDel k _ hm.1.2, ih hm.2]

/-- A write keeps the canonical form. -/
theorem mapWf_mapSet (d : Nat → β) (k : Nat) (v : β) (m : List (Nat × β)) (h : mapWf d m = true) :
    mapWf d (mapSet (d k) m k v) = true := by
  unfold mapSet
  split
  · exact mapWf_mapDel d k m h
  · rename_i hv; exact mapWf_mapIns d k v hv m h

theorem mapWf_mapSetList (d : β) (vs : List β) : ∀ (m : List (Nat × β)) (k : Nat), mapWf (fun _ => d) m = true →
    mapWf (fun _ => d) (mapSetList d m k vs) = true := by
  induction vs with
  | nil => intro m k h; exact h
  | cons v r ih => intro m k h; exact ih _ _ (mapWf_mapSet (fun _ => d) k v m h)

omit [DecidableEq β] in
/-- A key below every listed one reads as unlisted. -/
theorem mapGet_of_above (d : β) {k : Nat} : ∀ m : List (Nat × β), mapAbove k m = true → mapGet d m k = d := by
  intro m
  induction m with
  | nil => intro _; rfl
  | cons p r ih =>
    intro h
    simp only [mapAbove, Bool.and_eq_true, decide_eq_true_eq] at h
    obtain ⟨k', v'⟩ := p
    simp [mapGet, Nat.ne_of_gt h.1, ih h.2]

end Sys2Proof.Machine
end

