-- ==== Sys2Proof/Laws/State.lean ====
section
/-! SUPPORT. Sys2Proof/Laws/State.lean: what each update of the state leaves unchanged, field by field, and what it writes. -/
namespace Sys2Proof.Machine

variable (s : State)

/-! ### setReg -/

@[simp] theorem State.setReg_pending (k : Nat) (w : Word) : (s.setReg k w).pending = s.pending := rfl
@[simp] theorem State.setReg_staged (k : Nat) (w : Word) : (s.setReg k w).staged = s.staged := rfl
@[simp] theorem State.setReg_onceRaised (k : Nat) (w : Word) : (s.setReg k w).onceRaised = s.onceRaised := rfl
@[simp] theorem State.setReg_hiLatch (k : Nat) (w : Word) : (s.setReg k w).hiLatch = s.hiLatch := rfl
@[simp] theorem State.setReg_objs (k : Nat) (w : Word) : (s.setReg k w).objs = s.objs := rfl
@[simp] theorem State.setReg_resp (k : Nat) (w : Word) : (s.setReg k w).resp = s.resp := rfl
@[simp] theorem State.setReg_out (k : Nat) (w : Word) : (s.setReg k w).out = s.out := rfl
@[simp] theorem State.setReg_fresh (k : Nat) (w : Word) : (s.setReg k w).fresh = s.fresh := rfl
@[simp] theorem State.setReg_time (k : Nat) (w : Word) : (s.setReg k w).time = s.time := rfl
@[simp] theorem State.setReg_sched (k : Nat) (w : Word) : (s.setReg k w).sched = s.sched := rfl
@[simp] theorem State.setReg_flt (k : Nat) (w : Word) : (s.setReg k w).flt = s.flt := rfl
@[simp] theorem State.setReg_pair (k : Nat) (w : Word) : (s.setReg k w).pair = s.pair := rfl
@[simp] theorem State.setReg_pmr (k : Nat) (w : Word) : (s.setReg k w).pmr = s.pmr := rfl
@[simp] theorem State.setReg_bring (k : Nat) (w : Word) : (s.setReg k w).bring = s.bring := rfl
@[simp] theorem State.setReg_links (k : Nat) (w : Word) : (s.setReg k w).links = s.links := rfl
@[simp] theorem State.setReg_lens (k : Nat) (w : Word) : (s.setReg k w).lens = s.lens := rfl
@[simp] theorem State.setReg_lmp (k : Nat) (w : Word) : (s.setReg k w).lmp = s.lmp := rfl
@[simp] theorem State.setReg_stg (k : Nat) (w : Word) : (s.setReg k w).stg = s.stg := rfl
@[simp] theorem State.setReg_lan (k : Nat) (w : Word) : (s.setReg k w).lan = s.lan := rfl
@[simp] theorem State.setReg_mnt (k : Nat) (w : Word) : (s.setReg k w).mnt = s.mnt := rfl
@[simp] theorem State.setReg_can (k : Nat) (w : Word) : (s.setReg k w).can = s.can := rfl
@[simp] theorem State.setReg_dma (k : Nat) (w : Word) : (s.setReg k w).dma = s.dma := rfl
@[simp] theorem State.setReg_mem (k : Nat) (w : Word) : (s.setReg k w).mem = s.mem := rfl
@[simp] theorem State.setReg_hif (k : Nat) (w : Word) : (s.setReg k w).hif = s.hif := rfl
@[simp] theorem State.setReg_dict (k : Nat) (w : Word) : (s.setReg k w).dict = s.dict := rfl
@[simp] theorem State.setReg_nvm (k : Nat) (w : Word) : (s.setReg k w).nvm = s.nvm := rfl
@[simp] theorem State.setReg_mgmt (k : Nat) (w : Word) : (s.setReg k w).mgmt = s.mgmt := rfl

/-! ### setStg -/

@[simp] theorem State.setStg_pending (k : Nat) (w : Word) : (s.setStg k w).pending = s.pending := rfl
@[simp] theorem State.setStg_regs (k : Nat) (w : Word) : (s.setStg k w).regs = s.regs := rfl
@[simp] theorem State.setStg_onceRaised (k : Nat) (w : Word) : (s.setStg k w).onceRaised = s.onceRaised := rfl
@[simp] theorem State.setStg_hiLatch (k : Nat) (w : Word) : (s.setStg k w).hiLatch = s.hiLatch := rfl
@[simp] theorem State.setStg_objs (k : Nat) (w : Word) : (s.setStg k w).objs = s.objs := rfl
@[simp] theorem State.setStg_resp (k : Nat) (w : Word) : (s.setStg k w).resp = s.resp := rfl
@[simp] theorem State.setStg_out (k : Nat) (w : Word) : (s.setStg k w).out = s.out := rfl
@[simp] theorem State.setStg_fresh (k : Nat) (w : Word) : (s.setStg k w).fresh = s.fresh := rfl
@[simp] theorem State.setStg_time (k : Nat) (w : Word) : (s.setStg k w).time = s.time := rfl
@[simp] theorem State.setStg_sched (k : Nat) (w : Word) : (s.setStg k w).sched = s.sched := rfl
@[simp] theorem State.setStg_flt (k : Nat) (w : Word) : (s.setStg k w).flt = s.flt := rfl
@[simp] theorem State.setStg_pair (k : Nat) (w : Word) : (s.setStg k w).pair = s.pair := rfl
@[simp] theorem State.setStg_pmr (k : Nat) (w : Word) : (s.setStg k w).pmr = s.pmr := rfl
@[simp] theorem State.setStg_bring (k : Nat) (w : Word) : (s.setStg k w).bring = s.bring := rfl
@[simp] theorem State.setStg_links (k : Nat) (w : Word) : (s.setStg k w).links = s.links := rfl
@[simp] theorem State.setStg_lens (k : Nat) (w : Word) : (s.setStg k w).lens = s.lens := rfl
@[simp] theorem State.setStg_lmp (k : Nat) (w : Word) : (s.setStg k w).lmp = s.lmp := rfl
@[simp] theorem State.setStg_stg (k : Nat) (w : Word) : (s.setStg k w).stg = s.stg := rfl
@[simp] theorem State.setStg_lan (k : Nat) (w : Word) : (s.setStg k w).lan = s.lan := rfl
@[simp] theorem State.setStg_mnt (k : Nat) (w : Word) : (s.setStg k w).mnt = s.mnt := rfl
@[simp] theorem State.setStg_can (k : Nat) (w : Word) : (s.setStg k w).can = s.can := rfl
@[simp] theorem State.setStg_dma (k : Nat) (w : Word) : (s.setStg k w).dma = s.dma := rfl
@[simp] theorem State.setStg_mem (k : Nat) (w : Word) : (s.setStg k w).mem = s.mem := rfl
@[simp] theorem State.setStg_hif (k : Nat) (w : Word) : (s.setStg k w).hif = s.hif := rfl
@[simp] theorem State.setStg_dict (k : Nat) (w : Word) : (s.setStg k w).dict = s.dict := rfl
@[simp] theorem State.setStg_nvm (k : Nat) (w : Word) : (s.setStg k w).nvm = s.nvm := rfl
@[simp] theorem State.setStg_mgmt (k : Nat) (w : Word) : (s.setStg k w).mgmt = s.mgmt := rfl

/-! ### setF -/

@[simp] theorem State.setF_pending (F : Field) (v : Nat) : (s.setF F v).pending = s.pending := rfl
@[simp] theorem State.setF_staged (F : Field) (v : Nat) : (s.setF F v).staged = s.staged := rfl
@[simp] theorem State.setF_onceRaised (F : Field) (v : Nat) : (s.setF F v).onceRaised = s.onceRaised := rfl
@[simp] theorem State.setF_hiLatch (F : Field) (v : Nat) : (s.setF F v).hiLatch = s.hiLatch := rfl
@[simp] theorem State.setF_objs (F : Field) (v : Nat) : (s.setF F v).objs = s.objs := rfl
@[simp] theorem State.setF_resp (F : Field) (v : Nat) : (s.setF F v).resp = s.resp := rfl
@[simp] theorem State.setF_out (F : Field) (v : Nat) : (s.setF F v).out = s.out := rfl
@[simp] theorem State.setF_fresh (F : Field) (v : Nat) : (s.setF F v).fresh = s.fresh := rfl
@[simp] theorem State.setF_time (F : Field) (v : Nat) : (s.setF F v).time = s.time := rfl
@[simp] theorem State.setF_sched (F : Field) (v : Nat) : (s.setF F v).sched = s.sched := rfl
@[simp] theorem State.setF_flt (F : Field) (v : Nat) : (s.setF F v).flt = s.flt := rfl
@[simp] theorem State.setF_pair (F : Field) (v : Nat) : (s.setF F v).pair = s.pair := rfl
@[simp] theorem State.setF_pmr (F : Field) (v : Nat) : (s.setF F v).pmr = s.pmr := rfl
@[simp] theorem State.setF_bring (F : Field) (v : Nat) : (s.setF F v).bring = s.bring := rfl
@[simp] theorem State.setF_links (F : Field) (v : Nat) : (s.setF F v).links = s.links := rfl
@[simp] theorem State.setF_lens (F : Field) (v : Nat) : (s.setF F v).lens = s.lens := rfl
@[simp] theorem State.setF_lmp (F : Field) (v : Nat) : (s.setF F v).lmp = s.lmp := rfl
@[simp] theorem State.setF_stg (F : Field) (v : Nat) : (s.setF F v).stg = s.stg := rfl
@[simp] theorem State.setF_lan (F : Field) (v : Nat) : (s.setF F v).lan = s.lan := rfl
@[simp] theorem State.setF_mnt (F : Field) (v : Nat) : (s.setF F v).mnt = s.mnt := rfl
@[simp] theorem State.setF_can (F : Field) (v : Nat) : (s.setF F v).can = s.can := rfl
@[simp] theorem State.setF_dma (F : Field) (v : Nat) : (s.setF F v).dma = s.dma := rfl
@[simp] theorem State.setF_mem (F : Field) (v : Nat) : (s.setF F v).mem = s.mem := rfl
@[simp] theorem State.setF_hif (F : Field) (v : Nat) : (s.setF F v).hif = s.hif := rfl
@[simp] theorem State.setF_dict (F : Field) (v : Nat) : (s.setF F v).dict = s.dict := rfl
@[simp] theorem State.setF_nvm (F : Field) (v : Nat) : (s.setF F v).nvm = s.nvm := rfl
@[simp] theorem State.setF_mgmt (F : Field) (v : Nat) : (s.setF F v).mgmt = s.mgmt := rfl

/-! ### setFlag -/

@[simp] theorem State.setFlag_pending (F : Field) (b : Bool) : (s.setFlag F b).pending = s.pending := rfl
@[simp] theorem State.setFlag_staged (F : Field) (b : Bool) : (s.setFlag F b).staged = s.staged := rfl
@[simp] theorem State.setFlag_onceRaised (F : Field) (b : Bool) : (s.setFlag F b).onceRaised = s.onceRaised := rfl
@[simp] theorem State.setFlag_hiLatch (F : Field) (b : Bool) : (s.setFlag F b).hiLatch = s.hiLatch := rfl
@[simp] theorem State.setFlag_objs (F : Field) (b : Bool) : (s.setFlag F b).objs = s.objs := rfl
@[simp] theorem State.setFlag_resp (F : Field) (b : Bool) : (s.setFlag F b).resp = s.resp := rfl
@[simp] theorem State.setFlag_out (F : Field) (b : Bool) : (s.setFlag F b).out = s.out := rfl
@[simp] theorem State.setFlag_fresh (F : Field) (b : Bool) : (s.setFlag F b).fresh = s.fresh := rfl
@[simp] theorem State.setFlag_time (F : Field) (b : Bool) : (s.setFlag F b).time = s.time := rfl
@[simp] theorem State.setFlag_sched (F : Field) (b : Bool) : (s.setFlag F b).sched = s.sched := rfl
@[simp] theorem State.setFlag_flt (F : Field) (b : Bool) : (s.setFlag F b).flt = s.flt := rfl
@[simp] theorem State.setFlag_pair (F : Field) (b : Bool) : (s.setFlag F b).pair = s.pair := rfl
@[simp] theorem State.setFlag_pmr (F : Field) (b : Bool) : (s.setFlag F b).pmr = s.pmr := rfl
@[simp] theorem State.setFlag_bring (F : Field) (b : Bool) : (s.setFlag F b).bring = s.bring := rfl
@[simp] theorem State.setFlag_links (F : Field) (b : Bool) : (s.setFlag F b).links = s.links := rfl
@[simp] theorem State.setFlag_lens (F : Field) (b : Bool) : (s.setFlag F b).lens = s.lens := rfl
@[simp] theorem State.setFlag_lmp (F : Field) (b : Bool) : (s.setFlag F b).lmp = s.lmp := rfl
@[simp] theorem State.setFlag_stg (F : Field) (b : Bool) : (s.setFlag F b).stg = s.stg := rfl
@[simp] theorem State.setFlag_lan (F : Field) (b : Bool) : (s.setFlag F b).lan = s.lan := rfl
@[simp] theorem State.setFlag_mnt (F : Field) (b : Bool) : (s.setFlag F b).mnt = s.mnt := rfl
@[simp] theorem State.setFlag_can (F : Field) (b : Bool) : (s.setFlag F b).can = s.can := rfl
@[simp] theorem State.setFlag_dma (F : Field) (b : Bool) : (s.setFlag F b).dma = s.dma := rfl
@[simp] theorem State.setFlag_mem (F : Field) (b : Bool) : (s.setFlag F b).mem = s.mem := rfl
@[simp] theorem State.setFlag_hif (F : Field) (b : Bool) : (s.setFlag F b).hif = s.hif := rfl
@[simp] theorem State.setFlag_dict (F : Field) (b : Bool) : (s.setFlag F b).dict = s.dict := rfl
@[simp] theorem State.setFlag_nvm (F : Field) (b : Bool) : (s.setFlag F b).nvm = s.nvm := rfl
@[simp] theorem State.setFlag_mgmt (F : Field) (b : Bool) : (s.setFlag F b).mgmt = s.mgmt := rfl

/-! ### incF -/

@[simp] theorem State.incF_pending (F : Field) (n : Nat) : (s.incF F n).pending = s.pending := rfl
@[simp] theorem State.incF_staged (F : Field) (n : Nat) : (s.incF F n).staged = s.staged := rfl
@[simp] theorem State.incF_onceRaised (F : Field) (n : Nat) : (s.incF F n).onceRaised = s.onceRaised := rfl
@[simp] theorem State.incF_hiLatch (F : Field) (n : Nat) : (s.incF F n).hiLatch = s.hiLatch := rfl
@[simp] theorem State.incF_objs (F : Field) (n : Nat) : (s.incF F n).objs = s.objs := rfl
@[simp] theorem State.incF_resp (F : Field) (n : Nat) : (s.incF F n).resp = s.resp := rfl
@[simp] theorem State.incF_out (F : Field) (n : Nat) : (s.incF F n).out = s.out := rfl
@[simp] theorem State.incF_fresh (F : Field) (n : Nat) : (s.incF F n).fresh = s.fresh := rfl
@[simp] theorem State.incF_time (F : Field) (n : Nat) : (s.incF F n).time = s.time := rfl
@[simp] theorem State.incF_sched (F : Field) (n : Nat) : (s.incF F n).sched = s.sched := rfl
@[simp] theorem State.incF_flt (F : Field) (n : Nat) : (s.incF F n).flt = s.flt := rfl
@[simp] theorem State.incF_pair (F : Field) (n : Nat) : (s.incF F n).pair = s.pair := rfl
@[simp] theorem State.incF_pmr (F : Field) (n : Nat) : (s.incF F n).pmr = s.pmr := rfl
@[simp] theorem State.incF_bring (F : Field) (n : Nat) : (s.incF F n).bring = s.bring := rfl
@[simp] theorem State.incF_links (F : Field) (n : Nat) : (s.incF F n).links = s.links := rfl
@[simp] theorem State.incF_lens (F : Field) (n : Nat) : (s.incF F n).lens = s.lens := rfl
@[simp] theorem State.incF_lmp (F : Field) (n : Nat) : (s.incF F n).lmp = s.lmp := rfl
@[simp] theorem State.incF_stg (F : Field) (n : Nat) : (s.incF F n).stg = s.stg := rfl
@[simp] theorem State.incF_lan (F : Field) (n : Nat) : (s.incF F n).lan = s.lan := rfl
@[simp] theorem State.incF_mnt (F : Field) (n : Nat) : (s.incF F n).mnt = s.mnt := rfl
@[simp] theorem State.incF_can (F : Field) (n : Nat) : (s.incF F n).can = s.can := rfl
@[simp] theorem State.incF_dma (F : Field) (n : Nat) : (s.incF F n).dma = s.dma := rfl
@[simp] theorem State.incF_mem (F : Field) (n : Nat) : (s.incF F n).mem = s.mem := rfl
@[simp] theorem State.incF_hif (F : Field) (n : Nat) : (s.incF F n).hif = s.hif := rfl
@[simp] theorem State.incF_dict (F : Field) (n : Nat) : (s.incF F n).dict = s.dict := rfl
@[simp] theorem State.incF_nvm (F : Field) (n : Nat) : (s.incF F n).nvm = s.nvm := rfl
@[simp] theorem State.incF_mgmt (F : Field) (n : Nat) : (s.incF F n).mgmt = s.mgmt := rfl

/-! ### satF -/

@[simp] theorem State.satF_pending (F : Field) (n : Nat) : (s.satF F n).pending = s.pending := rfl
@[simp] theorem State.satF_staged (F : Field) (n : Nat) : (s.satF F n).staged = s.staged := rfl
@[simp] theorem State.satF_onceRaised (F : Field) (n : Nat) : (s.satF F n).onceRaised = s.onceRaised := rfl
@[simp] theorem State.satF_hiLatch (F : Field) (n : Nat) : (s.satF F n).hiLatch = s.hiLatch := rfl
@[simp] theorem State.satF_objs (F : Field) (n : Nat) : (s.satF F n).objs = s.objs := rfl
@[simp] theorem State.satF_resp (F : Field) (n : Nat) : (s.satF F n).resp = s.resp := rfl
@[simp] theorem State.satF_out (F : Field) (n : Nat) : (s.satF F n).out = s.out := rfl
@[simp] theorem State.satF_fresh (F : Field) (n : Nat) : (s.satF F n).fresh = s.fresh := rfl
@[simp] theorem State.satF_time (F : Field) (n : Nat) : (s.satF F n).time = s.time := rfl
@[simp] theorem State.satF_sched (F : Field) (n : Nat) : (s.satF F n).sched = s.sched := rfl
@[simp] theorem State.satF_flt (F : Field) (n : Nat) : (s.satF F n).flt = s.flt := rfl
@[simp] theorem State.satF_pair (F : Field) (n : Nat) : (s.satF F n).pair = s.pair := rfl
@[simp] theorem State.satF_pmr (F : Field) (n : Nat) : (s.satF F n).pmr = s.pmr := rfl
@[simp] theorem State.satF_bring (F : Field) (n : Nat) : (s.satF F n).bring = s.bring := rfl
@[simp] theorem State.satF_links (F : Field) (n : Nat) : (s.satF F n).links = s.links := rfl
@[simp] theorem State.satF_lens (F : Field) (n : Nat) : (s.satF F n).lens = s.lens := rfl
@[simp] theorem State.satF_lmp (F : Field) (n : Nat) : (s.satF F n).lmp = s.lmp := rfl
@[simp] theorem State.satF_stg (F : Field) (n : Nat) : (s.satF F n).stg = s.stg := rfl
@[simp] theorem State.satF_lan (F : Field) (n : Nat) : (s.satF F n).lan = s.lan := rfl
@[simp] theorem State.satF_mnt (F : Field) (n : Nat) : (s.satF F n).mnt = s.mnt := rfl
@[simp] theorem State.satF_can (F : Field) (n : Nat) : (s.satF F n).can = s.can := rfl
@[simp] theorem State.satF_dma (F : Field) (n : Nat) : (s.satF F n).dma = s.dma := rfl
@[simp] theorem State.satF_mem (F : Field) (n : Nat) : (s.satF F n).mem = s.mem := rfl
@[simp] theorem State.satF_hif (F : Field) (n : Nat) : (s.satF F n).hif = s.hif := rfl
@[simp] theorem State.satF_dict (F : Field) (n : Nat) : (s.satF F n).dict = s.dict := rfl
@[simp] theorem State.satF_nvm (F : Field) (n : Nat) : (s.satF F n).nvm = s.nvm := rfl
@[simp] theorem State.satF_mgmt (F : Field) (n : Nat) : (s.satF F n).mgmt = s.mgmt := rfl

/-! ### intPend -/

@[simp] theorem State.intPend_pending (v : Nat) : (s.intPend v).pending = s.pending := rfl
@[simp] theorem State.intPend_staged (v : Nat) : (s.intPend v).staged = s.staged := rfl
@[simp] theorem State.intPend_onceRaised (v : Nat) : (s.intPend v).onceRaised = s.onceRaised := rfl
@[simp] theorem State.intPend_hiLatch (v : Nat) : (s.intPend v).hiLatch = s.hiLatch := rfl
@[simp] theorem State.intPend_objs (v : Nat) : (s.intPend v).objs = s.objs := rfl
@[simp] theorem State.intPend_resp (v : Nat) : (s.intPend v).resp = s.resp := rfl
@[simp] theorem State.intPend_out (v : Nat) : (s.intPend v).out = s.out := rfl
@[simp] theorem State.intPend_fresh (v : Nat) : (s.intPend v).fresh = s.fresh := rfl
@[simp] theorem State.intPend_time (v : Nat) : (s.intPend v).time = s.time := rfl
@[simp] theorem State.intPend_sched (v : Nat) : (s.intPend v).sched = s.sched := rfl
@[simp] theorem State.intPend_flt (v : Nat) : (s.intPend v).flt = s.flt := rfl
@[simp] theorem State.intPend_pair (v : Nat) : (s.intPend v).pair = s.pair := rfl
@[simp] theorem State.intPend_pmr (v : Nat) : (s.intPend v).pmr = s.pmr := rfl
@[simp] theorem State.intPend_bring (v : Nat) : (s.intPend v).bring = s.bring := rfl
@[simp] theorem State.intPend_links (v : Nat) : (s.intPend v).links = s.links := rfl
@[simp] theorem State.intPend_lens (v : Nat) : (s.intPend v).lens = s.lens := rfl
@[simp] theorem State.intPend_lmp (v : Nat) : (s.intPend v).lmp = s.lmp := rfl
@[simp] theorem State.intPend_stg (v : Nat) : (s.intPend v).stg = s.stg := rfl
@[simp] theorem State.intPend_lan (v : Nat) : (s.intPend v).lan = s.lan := rfl
@[simp] theorem State.intPend_mnt (v : Nat) : (s.intPend v).mnt = s.mnt := rfl
@[simp] theorem State.intPend_can (v : Nat) : (s.intPend v).can = s.can := rfl
@[simp] theorem State.intPend_dma (v : Nat) : (s.intPend v).dma = s.dma := rfl
@[simp] theorem State.intPend_mem (v : Nat) : (s.intPend v).mem = s.mem := rfl
@[simp] theorem State.intPend_hif (v : Nat) : (s.intPend v).hif = s.hif := rfl
@[simp] theorem State.intPend_dict (v : Nat) : (s.intPend v).dict = s.dict := rfl
@[simp] theorem State.intPend_nvm (v : Nat) : (s.intPend v).nvm = s.nvm := rfl
@[simp] theorem State.intPend_mgmt (v : Nat) : (s.intPend v).mgmt = s.mgmt := rfl

/-! ### setOnce -/

@[simp] theorem State.setOnce_pending (k : Nat) (b : Bool) : (s.setOnce k b).pending = s.pending := rfl
@[simp] theorem State.setOnce_regs (k : Nat) (b : Bool) : (s.setOnce k b).regs = s.regs := rfl
@[simp] theorem State.setOnce_staged (k : Nat) (b : Bool) : (s.setOnce k b).staged = s.staged := rfl
@[simp] theorem State.setOnce_hiLatch (k : Nat) (b : Bool) : (s.setOnce k b).hiLatch = s.hiLatch := rfl
@[simp] theorem State.setOnce_objs (k : Nat) (b : Bool) : (s.setOnce k b).objs = s.objs := rfl
@[simp] theorem State.setOnce_resp (k : Nat) (b : Bool) : (s.setOnce k b).resp = s.resp := rfl
@[simp] theorem State.setOnce_out (k : Nat) (b : Bool) : (s.setOnce k b).out = s.out := rfl
@[simp] theorem State.setOnce_fresh (k : Nat) (b : Bool) : (s.setOnce k b).fresh = s.fresh := rfl
@[simp] theorem State.setOnce_time (k : Nat) (b : Bool) : (s.setOnce k b).time = s.time := rfl
@[simp] theorem State.setOnce_sched (k : Nat) (b : Bool) : (s.setOnce k b).sched = s.sched := rfl
@[simp] theorem State.setOnce_flt (k : Nat) (b : Bool) : (s.setOnce k b).flt = s.flt := rfl
@[simp] theorem State.setOnce_pair (k : Nat) (b : Bool) : (s.setOnce k b).pair = s.pair := rfl
@[simp] theorem State.setOnce_pmr (k : Nat) (b : Bool) : (s.setOnce k b).pmr = s.pmr := rfl
@[simp] theorem State.setOnce_bring (k : Nat) (b : Bool) : (s.setOnce k b).bring = s.bring := rfl
@[simp] theorem State.setOnce_links (k : Nat) (b : Bool) : (s.setOnce k b).links = s.links := rfl
@[simp] theorem State.setOnce_lens (k : Nat) (b : Bool) : (s.setOnce k b).lens = s.lens := rfl
@[simp] theorem State.setOnce_lmp (k : Nat) (b : Bool) : (s.setOnce k b).lmp = s.lmp := rfl
@[simp] theorem State.setOnce_stg (k : Nat) (b : Bool) : (s.setOnce k b).stg = s.stg := rfl
@[simp] theorem State.setOnce_lan (k : Nat) (b : Bool) : (s.setOnce k b).lan = s.lan := rfl
@[simp] theorem State.setOnce_mnt (k : Nat) (b : Bool) : (s.setOnce k b).mnt = s.mnt := rfl
@[simp] theorem State.setOnce_can (k : Nat) (b : Bool) : (s.setOnce k b).can = s.can := rfl
@[simp] theorem State.setOnce_dma (k : Nat) (b : Bool) : (s.setOnce k b).dma = s.dma := rfl
@[simp] theorem State.setOnce_mem (k : Nat) (b : Bool) : (s.setOnce k b).mem = s.mem := rfl
@[simp] theorem State.setOnce_hif (k : Nat) (b : Bool) : (s.setOnce k b).hif = s.hif := rfl
@[simp] theorem State.setOnce_dict (k : Nat) (b : Bool) : (s.setOnce k b).dict = s.dict := rfl
@[simp] theorem State.setOnce_nvm (k : Nat) (b : Bool) : (s.setOnce k b).nvm = s.nvm := rfl
@[simp] theorem State.setOnce_mgmt (k : Nat) (b : Bool) : (s.setOnce k b).mgmt = s.mgmt := rfl

/-! ### emit -/

@[simp] theorem State.emit_pending (o : Out) : (s.emit o).pending = s.pending := rfl
@[simp] theorem State.emit_regs (o : Out) : (s.emit o).regs = s.regs := rfl
@[simp] theorem State.emit_staged (o : Out) : (s.emit o).staged = s.staged := rfl
@[simp] theorem State.emit_onceRaised (o : Out) : (s.emit o).onceRaised = s.onceRaised := rfl
@[simp] theorem State.emit_hiLatch (o : Out) : (s.emit o).hiLatch = s.hiLatch := rfl
@[simp] theorem State.emit_objs (o : Out) : (s.emit o).objs = s.objs := rfl
@[simp] theorem State.emit_resp (o : Out) : (s.emit o).resp = s.resp := rfl
@[simp] theorem State.emit_fresh (o : Out) : (s.emit o).fresh = s.fresh := rfl
@[simp] theorem State.emit_time (o : Out) : (s.emit o).time = s.time := rfl
@[simp] theorem State.emit_sched (o : Out) : (s.emit o).sched = s.sched := rfl
@[simp] theorem State.emit_flt (o : Out) : (s.emit o).flt = s.flt := rfl
@[simp] theorem State.emit_pair (o : Out) : (s.emit o).pair = s.pair := rfl
@[simp] theorem State.emit_pmr (o : Out) : (s.emit o).pmr = s.pmr := rfl
@[simp] theorem State.emit_bring (o : Out) : (s.emit o).bring = s.bring := rfl
@[simp] theorem State.emit_links (o : Out) : (s.emit o).links = s.links := rfl
@[simp] theorem State.emit_lens (o : Out) : (s.emit o).lens = s.lens := rfl
@[simp] theorem State.emit_lmp (o : Out) : (s.emit o).lmp = s.lmp := rfl
@[simp] theorem State.emit_stg (o : Out) : (s.emit o).stg = s.stg := rfl
@[simp] theorem State.emit_lan (o : Out) : (s.emit o).lan = s.lan := rfl
@[simp] theorem State.emit_mnt (o : Out) : (s.emit o).mnt = s.mnt := rfl
@[simp] theorem State.emit_can (o : Out) : (s.emit o).can = s.can := rfl
@[simp] theorem State.emit_dma (o : Out) : (s.emit o).dma = s.dma := rfl
@[simp] theorem State.emit_mem (o : Out) : (s.emit o).mem = s.mem := rfl
@[simp] theorem State.emit_hif (o : Out) : (s.emit o).hif = s.hif := rfl
@[simp] theorem State.emit_dict (o : Out) : (s.emit o).dict = s.dict := rfl
@[simp] theorem State.emit_nvm (o : Out) : (s.emit o).nvm = s.nvm := rfl
@[simp] theorem State.emit_mgmt (o : Out) : (s.emit o).mgmt = s.mgmt := rfl

/-! ### respond -/

@[simp] theorem State.respond_pending (ok : Bool) (d : List Byte) : (s.respond ok d).pending = s.pending := rfl
@[simp] theorem State.respond_regs (ok : Bool) (d : List Byte) : (s.respond ok d).regs = s.regs := rfl
@[simp] theorem State.respond_staged (ok : Bool) (d : List Byte) : (s.respond ok d).staged = s.staged := rfl
@[simp] theorem State.respond_onceRaised (ok : Bool) (d : List Byte) : (s.respond ok d).onceRaised = s.onceRaised := rfl
@[simp] theorem State.respond_hiLatch (ok : Bool) (d : List Byte) : (s.respond ok d).hiLatch = s.hiLatch := rfl
@[simp] theorem State.respond_objs (ok : Bool) (d : List Byte) : (s.respond ok d).objs = s.objs := rfl
@[simp] theorem State.respond_out (ok : Bool) (d : List Byte) : (s.respond ok d).out = s.out := rfl
@[simp] theorem State.respond_fresh (ok : Bool) (d : List Byte) : (s.respond ok d).fresh = s.fresh := rfl
@[simp] theorem State.respond_time (ok : Bool) (d : List Byte) : (s.respond ok d).time = s.time := rfl
@[simp] theorem State.respond_sched (ok : Bool) (d : List Byte) : (s.respond ok d).sched = s.sched := rfl
@[simp] theorem State.respond_flt (ok : Bool) (d : List Byte) : (s.respond ok d).flt = s.flt := rfl
@[simp] theorem State.respond_pair (ok : Bool) (d : List Byte) : (s.respond ok d).pair = s.pair := rfl
@[simp] theorem State.respond_pmr (ok : Bool) (d : List Byte) : (s.respond ok d).pmr = s.pmr := rfl
@[simp] theorem State.respond_bring (ok : Bool) (d : List Byte) : (s.respond ok d).bring = s.bring := rfl
@[simp] theorem State.respond_links (ok : Bool) (d : List Byte) : (s.respond ok d).links = s.links := rfl
@[simp] theorem State.respond_lens (ok : Bool) (d : List Byte) : (s.respond ok d).lens = s.lens := rfl
@[simp] theorem State.respond_lmp (ok : Bool) (d : List Byte) : (s.respond ok d).lmp = s.lmp := rfl
@[simp] theorem State.respond_stg (ok : Bool) (d : List Byte) : (s.respond ok d).stg = s.stg := rfl
@[simp] theorem State.respond_lan (ok : Bool) (d : List Byte) : (s.respond ok d).lan = s.lan := rfl
@[simp] theorem State.respond_mnt (ok : Bool) (d : List Byte) : (s.respond ok d).mnt = s.mnt := rfl
@[simp] theorem State.respond_can (ok : Bool) (d : List Byte) : (s.respond ok d).can = s.can := rfl
@[simp] theorem State.respond_dma (ok : Bool) (d : List Byte) : (s.respond ok d).dma = s.dma := rfl
@[simp] theorem State.respond_mem (ok : Bool) (d : List Byte) : (s.respond ok d).mem = s.mem := rfl
@[simp] theorem State.respond_hif (ok : Bool) (d : List Byte) : (s.respond ok d).hif = s.hif := rfl
@[simp] theorem State.respond_dict (ok : Bool) (d : List Byte) : (s.respond ok d).dict = s.dict := rfl
@[simp] theorem State.respond_nvm (ok : Bool) (d : List Byte) : (s.respond ok d).nvm = s.nvm := rfl
@[simp] theorem State.respond_mgmt (ok : Bool) (d : List Byte) : (s.respond ok d).mgmt = s.mgmt := rfl

/-! ### withPending -/

@[simp] theorem State.withPending_regs (q : List Instr) : (s.withPending q).regs = s.regs := rfl
@[simp] theorem State.withPending_staged (q : List Instr) : (s.withPending q).staged = s.staged := rfl
@[simp] theorem State.withPending_onceRaised (q : List Instr) : (s.withPending q).onceRaised = s.onceRaised := rfl
@[simp] theorem State.withPending_hiLatch (q : List Instr) : (s.withPending q).hiLatch = s.hiLatch := rfl
@[simp] theorem State.withPending_objs (q : List Instr) : (s.withPending q).objs = s.objs := rfl
@[simp] theorem State.withPending_resp (q : List Instr) : (s.withPending q).resp = s.resp := rfl
@[simp] theorem State.withPending_out (q : List Instr) : (s.withPending q).out = s.out := rfl
@[simp] theorem State.withPending_fresh (q : List Instr) : (s.withPending q).fresh = s.fresh := rfl
@[simp] theorem State.withPending_time (q : List Instr) : (s.withPending q).time = s.time := rfl
@[simp] theorem State.withPending_sched (q : List Instr) : (s.withPending q).sched = s.sched := rfl
@[simp] theorem State.withPending_flt (q : List Instr) : (s.withPending q).flt = s.flt := rfl
@[simp] theorem State.withPending_pair (q : List Instr) : (s.withPending q).pair = s.pair := rfl
@[simp] theorem State.withPending_pmr (q : List Instr) : (s.withPending q).pmr = s.pmr := rfl
@[simp] theorem State.withPending_bring (q : List Instr) : (s.withPending q).bring = s.bring := rfl
@[simp] theorem State.withPending_links (q : List Instr) : (s.withPending q).links = s.links := rfl
@[simp] theorem State.withPending_lens (q : List Instr) : (s.withPending q).lens = s.lens := rfl
@[simp] theorem State.withPending_lmp (q : List Instr) : (s.withPending q).lmp = s.lmp := rfl
@[simp] theorem State.withPending_stg (q : List Instr) : (s.withPending q).stg = s.stg := rfl
@[simp] theorem State.withPending_lan (q : List Instr) : (s.withPending q).lan = s.lan := rfl
@[simp] theorem State.withPending_mnt (q : List Instr) : (s.withPending q).mnt = s.mnt := rfl
@[simp] theorem State.withPending_can (q : List Instr) : (s.withPending q).can = s.can := rfl
@[simp] theorem State.withPending_dma (q : List Instr) : (s.withPending q).dma = s.dma := rfl
@[simp] theorem State.withPending_mem (q : List Instr) : (s.withPending q).mem = s.mem := rfl
@[simp] theorem State.withPending_hif (q : List Instr) : (s.withPending q).hif = s.hif := rfl
@[simp] theorem State.withPending_dict (q : List Instr) : (s.withPending q).dict = s.dict := rfl
@[simp] theorem State.withPending_nvm (q : List Instr) : (s.withPending q).nvm = s.nvm := rfl
@[simp] theorem State.withPending_mgmt (q : List Instr) : (s.withPending q).mgmt = s.mgmt := rfl

/-! ### lifeAdd -/

@[simp] theorem State.lifeAdd_pending (o n : Nat) : (s.lifeAdd o n).pending = s.pending := rfl
@[simp] theorem State.lifeAdd_regs (o n : Nat) : (s.lifeAdd o n).regs = s.regs := rfl
@[simp] theorem State.lifeAdd_staged (o n : Nat) : (s.lifeAdd o n).staged = s.staged := rfl
@[simp] theorem State.lifeAdd_onceRaised (o n : Nat) : (s.lifeAdd o n).onceRaised = s.onceRaised := rfl
@[simp] theorem State.lifeAdd_hiLatch (o n : Nat) : (s.lifeAdd o n).hiLatch = s.hiLatch := rfl
@[simp] theorem State.lifeAdd_objs (o n : Nat) : (s.lifeAdd o n).objs = s.objs := rfl
@[simp] theorem State.lifeAdd_resp (o n : Nat) : (s.lifeAdd o n).resp = s.resp := rfl
@[simp] theorem State.lifeAdd_out (o n : Nat) : (s.lifeAdd o n).out = s.out := rfl
@[simp] theorem State.lifeAdd_fresh (o n : Nat) : (s.lifeAdd o n).fresh = s.fresh := rfl
@[simp] theorem State.lifeAdd_time (o n : Nat) : (s.lifeAdd o n).time = s.time := rfl
@[simp] theorem State.lifeAdd_sched (o n : Nat) : (s.lifeAdd o n).sched = s.sched := rfl
@[simp] theorem State.lifeAdd_flt (o n : Nat) : (s.lifeAdd o n).flt = s.flt := rfl
@[simp] theorem State.lifeAdd_pair (o n : Nat) : (s.lifeAdd o n).pair = s.pair := rfl
@[simp] theorem State.lifeAdd_pmr (o n : Nat) : (s.lifeAdd o n).pmr = s.pmr := rfl
@[simp] theorem State.lifeAdd_bring (o n : Nat) : (s.lifeAdd o n).bring = s.bring := rfl
@[simp] theorem State.lifeAdd_links (o n : Nat) : (s.lifeAdd o n).links = s.links := rfl
@[simp] theorem State.lifeAdd_lens (o n : Nat) : (s.lifeAdd o n).lens = s.lens := rfl
@[simp] theorem State.lifeAdd_lmp (o n : Nat) : (s.lifeAdd o n).lmp = s.lmp := rfl
@[simp] theorem State.lifeAdd_stg (o n : Nat) : (s.lifeAdd o n).stg = s.stg := rfl
@[simp] theorem State.lifeAdd_lan (o n : Nat) : (s.lifeAdd o n).lan = s.lan := rfl
@[simp] theorem State.lifeAdd_mnt (o n : Nat) : (s.lifeAdd o n).mnt = s.mnt := rfl
@[simp] theorem State.lifeAdd_can (o n : Nat) : (s.lifeAdd o n).can = s.can := rfl
@[simp] theorem State.lifeAdd_dma (o n : Nat) : (s.lifeAdd o n).dma = s.dma := rfl
@[simp] theorem State.lifeAdd_mem (o n : Nat) : (s.lifeAdd o n).mem = s.mem := rfl
@[simp] theorem State.lifeAdd_hif (o n : Nat) : (s.lifeAdd o n).hif = s.hif := rfl
@[simp] theorem State.lifeAdd_dict (o n : Nat) : (s.lifeAdd o n).dict = s.dict := rfl
@[simp] theorem State.lifeAdd_nvm (o n : Nat) : (s.lifeAdd o n).nvm = s.nvm := rfl

/-! ### produce -/

@[simp] theorem State.produce_pending (c n : Nat) : (s.produce c n).pending = s.pending := rfl
@[simp] theorem State.produce_staged (c n : Nat) : (s.produce c n).staged = s.staged := rfl
@[simp] theorem State.produce_onceRaised (c n : Nat) : (s.produce c n).onceRaised = s.onceRaised := rfl
@[simp] theorem State.produce_hiLatch (c n : Nat) : (s.produce c n).hiLatch = s.hiLatch := rfl
@[simp] theorem State.produce_objs (c n : Nat) : (s.produce c n).objs = s.objs := rfl
@[simp] theorem State.produce_resp (c n : Nat) : (s.produce c n).resp = s.resp := rfl
@[simp] theorem State.produce_out (c n : Nat) : (s.produce c n).out = s.out := rfl
@[simp] theorem State.produce_fresh (c n : Nat) : (s.produce c n).fresh = s.fresh := rfl
@[simp] theorem State.produce_time (c n : Nat) : (s.produce c n).time = s.time := rfl
@[simp] theorem State.produce_sched (c n : Nat) : (s.produce c n).sched = s.sched := rfl
@[simp] theorem State.produce_flt (c n : Nat) : (s.produce c n).flt = s.flt := rfl
@[simp] theorem State.produce_pair (c n : Nat) : (s.produce c n).pair = s.pair := rfl
@[simp] theorem State.produce_pmr (c n : Nat) : (s.produce c n).pmr = s.pmr := rfl
@[simp] theorem State.produce_bring (c n : Nat) : (s.produce c n).bring = s.bring := rfl
@[simp] theorem State.produce_links (c n : Nat) : (s.produce c n).links = s.links := rfl
@[simp] theorem State.produce_lens (c n : Nat) : (s.produce c n).lens = s.lens := rfl
@[simp] theorem State.produce_lmp (c n : Nat) : (s.produce c n).lmp = s.lmp := rfl
@[simp] theorem State.produce_stg (c n : Nat) : (s.produce c n).stg = s.stg := rfl
@[simp] theorem State.produce_lan (c n : Nat) : (s.produce c n).lan = s.lan := rfl
@[simp] theorem State.produce_mnt (c n : Nat) : (s.produce c n).mnt = s.mnt := rfl
@[simp] theorem State.produce_can (c n : Nat) : (s.produce c n).can = s.can := rfl
@[simp] theorem State.produce_mem (c n : Nat) : (s.produce c n).mem = s.mem := rfl
@[simp] theorem State.produce_hif (c n : Nat) : (s.produce c n).hif = s.hif := rfl
@[simp] theorem State.produce_dict (c n : Nat) : (s.produce c n).dict = s.dict := rfl
@[simp] theorem State.produce_nvm (c n : Nat) : (s.produce c n).nvm = s.nvm := rfl
@[simp] theorem State.produce_mgmt (c n : Nat) : (s.produce c n).mgmt = s.mgmt := rfl

/-! ### unproduce and drainSource -/

@[simp] theorem State.unproduce_pending (c n m : Nat) : (s.unproduce c n m).pending = s.pending := rfl
@[simp] theorem State.unproduce_staged (c n m : Nat) : (s.unproduce c n m).staged = s.staged := rfl
@[simp] theorem State.unproduce_onceRaised (c n m : Nat) : (s.unproduce c n m).onceRaised = s.onceRaised := rfl
@[simp] theorem State.unproduce_hiLatch (c n m : Nat) : (s.unproduce c n m).hiLatch = s.hiLatch := rfl
@[simp] theorem State.unproduce_objs (c n m : Nat) : (s.unproduce c n m).objs = s.objs := rfl
@[simp] theorem State.unproduce_resp (c n m : Nat) : (s.unproduce c n m).resp = s.resp := rfl
@[simp] theorem State.unproduce_out (c n m : Nat) : (s.unproduce c n m).out = s.out := rfl
@[simp] theorem State.unproduce_fresh (c n m : Nat) : (s.unproduce c n m).fresh = s.fresh := rfl
@[simp] theorem State.unproduce_time (c n m : Nat) : (s.unproduce c n m).time = s.time := rfl
@[simp] theorem State.unproduce_sched (c n m : Nat) : (s.unproduce c n m).sched = s.sched := rfl
@[simp] theorem State.unproduce_flt (c n m : Nat) : (s.unproduce c n m).flt = s.flt := rfl
@[simp] theorem State.unproduce_pair (c n m : Nat) : (s.unproduce c n m).pair = s.pair := rfl
@[simp] theorem State.unproduce_pmr (c n m : Nat) : (s.unproduce c n m).pmr = s.pmr := rfl
@[simp] theorem State.unproduce_bring (c n m : Nat) : (s.unproduce c n m).bring = s.bring := rfl
@[simp] theorem State.unproduce_links (c n m : Nat) : (s.unproduce c n m).links = s.links := rfl
@[simp] theorem State.unproduce_lens (c n m : Nat) : (s.unproduce c n m).lens = s.lens := rfl
@[simp] theorem State.unproduce_lmp (c n m : Nat) : (s.unproduce c n m).lmp = s.lmp := rfl
@[simp] theorem State.unproduce_stg (c n m : Nat) : (s.unproduce c n m).stg = s.stg := rfl
@[simp] theorem State.unproduce_lan (c n m : Nat) : (s.unproduce c n m).lan = s.lan := rfl
@[simp] theorem State.unproduce_mnt (c n m : Nat) : (s.unproduce c n m).mnt = s.mnt := rfl
@[simp] theorem State.unproduce_can (c n m : Nat) : (s.unproduce c n m).can = s.can := rfl
@[simp] theorem State.unproduce_mem (c n m : Nat) : (s.unproduce c n m).mem = s.mem := rfl
@[simp] theorem State.unproduce_hif (c n m : Nat) : (s.unproduce c n m).hif = s.hif := rfl
@[simp] theorem State.unproduce_dict (c n m : Nat) : (s.unproduce c n m).dict = s.dict := rfl
@[simp] theorem State.unproduce_nvm (c n m : Nat) : (s.unproduce c n m).nvm = s.nvm := rfl
@[simp] theorem State.unproduce_mgmt (c n m : Nat) : (s.unproduce c n m).mgmt = s.mgmt := rfl
@[simp] theorem State.drainSource_pending (c : Nat) : (s.drainSource c).pending = s.pending := rfl
@[simp] theorem State.drainSource_staged (c : Nat) : (s.drainSource c).staged = s.staged := rfl
@[simp] theorem State.drainSource_onceRaised (c : Nat) : (s.drainSource c).onceRaised = s.onceRaised := rfl
@[simp] theorem State.drainSource_hiLatch (c : Nat) : (s.drainSource c).hiLatch = s.hiLatch := rfl
@[simp] theorem State.drainSource_objs (c : Nat) : (s.drainSource c).objs = s.objs := rfl
@[simp] theorem State.drainSource_resp (c : Nat) : (s.drainSource c).resp = s.resp := rfl
@[simp] theorem State.drainSource_out (c : Nat) : (s.drainSource c).out = s.out := rfl
@[simp] theorem State.drainSource_fresh (c : Nat) : (s.drainSource c).fresh = s.fresh := rfl
@[simp] theorem State.drainSource_time (c : Nat) : (s.drainSource c).time = s.time := rfl
@[simp] theorem State.drainSource_sched (c : Nat) : (s.drainSource c).sched = s.sched := rfl
@[simp] theorem State.drainSource_flt (c : Nat) : (s.drainSource c).flt = s.flt := rfl
@[simp] theorem State.drainSource_pair (c : Nat) : (s.drainSource c).pair = s.pair := rfl
@[simp] theorem State.drainSource_pmr (c : Nat) : (s.drainSource c).pmr = s.pmr := rfl
@[simp] theorem State.drainSource_bring (c : Nat) : (s.drainSource c).bring = s.bring := rfl
@[simp] theorem State.drainSource_links (c : Nat) : (s.drainSource c).links = s.links := rfl
@[simp] theorem State.drainSource_lens (c : Nat) : (s.drainSource c).lens = s.lens := rfl
@[simp] theorem State.drainSource_lmp (c : Nat) : (s.drainSource c).lmp = s.lmp := rfl
@[simp] theorem State.drainSource_stg (c : Nat) : (s.drainSource c).stg = s.stg := rfl
@[simp] theorem State.drainSource_lan (c : Nat) : (s.drainSource c).lan = s.lan := rfl
@[simp] theorem State.drainSource_mnt (c : Nat) : (s.drainSource c).mnt = s.mnt := rfl
@[simp] theorem State.drainSource_can (c : Nat) : (s.drainSource c).can = s.can := rfl
@[simp] theorem State.drainSource_mem (c : Nat) : (s.drainSource c).mem = s.mem := rfl
@[simp] theorem State.drainSource_hif (c : Nat) : (s.drainSource c).hif = s.hif := rfl
@[simp] theorem State.drainSource_dict (c : Nat) : (s.drainSource c).dict = s.dict := rfl
@[simp] theorem State.drainSource_nvm (c : Nat) : (s.drainSource c).nvm = s.nvm := rfl
@[simp] theorem State.drainSource_mgmt (c : Nat) : (s.drainSource c).mgmt = s.mgmt := rfl

/-! ### setLamp -/

@[simp] theorem State.setLamp_pending (n : Nat) (l : Lamp) : (s.setLamp n l).pending = s.pending := rfl
@[simp] theorem State.setLamp_regs (n : Nat) (l : Lamp) : (s.setLamp n l).regs = s.regs := rfl
@[simp] theorem State.setLamp_staged (n : Nat) (l : Lamp) : (s.setLamp n l).staged = s.staged := rfl
@[simp] theorem State.setLamp_onceRaised (n : Nat) (l : Lamp) : (s.setLamp n l).onceRaised = s.onceRaised := rfl
@[simp] theorem State.setLamp_hiLatch (n : Nat) (l : Lamp) : (s.setLamp n l).hiLatch = s.hiLatch := rfl
@[simp] theorem State.setLamp_objs (n : Nat) (l : Lamp) : (s.setLamp n l).objs = s.objs := rfl
@[simp] theorem State.setLamp_resp (n : Nat) (l : Lamp) : (s.setLamp n l).resp = s.resp := rfl
@[simp] theorem State.setLamp_out (n : Nat) (l : Lamp) : (s.setLamp n l).out = s.out := rfl
@[simp] theorem State.setLamp_fresh (n : Nat) (l : Lamp) : (s.setLamp n l).fresh = s.fresh := rfl
@[simp] theorem State.setLamp_time (n : Nat) (l : Lamp) : (s.setLamp n l).time = s.time := rfl
@[simp] theorem State.setLamp_sched (n : Nat) (l : Lamp) : (s.setLamp n l).sched = s.sched := rfl
@[simp] theorem State.setLamp_flt (n : Nat) (l : Lamp) : (s.setLamp n l).flt = s.flt := rfl
@[simp] theorem State.setLamp_pair (n : Nat) (l : Lamp) : (s.setLamp n l).pair = s.pair := rfl
@[simp] theorem State.setLamp_pmr (n : Nat) (l : Lamp) : (s.setLamp n l).pmr = s.pmr := rfl
@[simp] theorem State.setLamp_bring (n : Nat) (l : Lamp) : (s.setLamp n l).bring = s.bring := rfl
@[simp] theorem State.setLamp_links (n : Nat) (l : Lamp) : (s.setLamp n l).links = s.links := rfl
@[simp] theorem State.setLamp_lens (n : Nat) (l : Lamp) : (s.setLamp n l).lens = s.lens := rfl
@[simp] theorem State.setLamp_stg (n : Nat) (l : Lamp) : (s.setLamp n l).stg = s.stg := rfl
@[simp] theorem State.setLamp_lan (n : Nat) (l : Lamp) : (s.setLamp n l).lan = s.lan := rfl
@[simp] theorem State.setLamp_mnt (n : Nat) (l : Lamp) : (s.setLamp n l).mnt = s.mnt := rfl
@[simp] theorem State.setLamp_can (n : Nat) (l : Lamp) : (s.setLamp n l).can = s.can := rfl
@[simp] theorem State.setLamp_dma (n : Nat) (l : Lamp) : (s.setLamp n l).dma = s.dma := rfl
@[simp] theorem State.setLamp_mem (n : Nat) (l : Lamp) : (s.setLamp n l).mem = s.mem := rfl
@[simp] theorem State.setLamp_hif (n : Nat) (l : Lamp) : (s.setLamp n l).hif = s.hif := rfl
@[simp] theorem State.setLamp_dict (n : Nat) (l : Lamp) : (s.setLamp n l).dict = s.dict := rfl
@[simp] theorem State.setLamp_nvm (n : Nat) (l : Lamp) : (s.setLamp n l).nvm = s.nvm := rfl
@[simp] theorem State.setLamp_mgmt (n : Nat) (l : Lamp) : (s.setLamp n l).mgmt = s.mgmt := rfl

/-! ### putPset -/

@[simp] theorem State.putPset_pending (n : Nat) (p : PSet) : (s.putPset n p).pending = s.pending := rfl
@[simp] theorem State.putPset_regs (n : Nat) (p : PSet) : (s.putPset n p).regs = s.regs := rfl
@[simp] theorem State.putPset_staged (n : Nat) (p : PSet) : (s.putPset n p).staged = s.staged := rfl
@[simp] theorem State.putPset_onceRaised (n : Nat) (p : PSet) : (s.putPset n p).onceRaised = s.onceRaised := rfl
@[simp] theorem State.putPset_hiLatch (n : Nat) (p : PSet) : (s.putPset n p).hiLatch = s.hiLatch := rfl
@[simp] theorem State.putPset_objs (n : Nat) (p : PSet) : (s.putPset n p).objs = s.objs := rfl
@[simp] theorem State.putPset_resp (n : Nat) (p : PSet) : (s.putPset n p).resp = s.resp := rfl
@[simp] theorem State.putPset_out (n : Nat) (p : PSet) : (s.putPset n p).out = s.out := rfl
@[simp] theorem State.putPset_fresh (n : Nat) (p : PSet) : (s.putPset n p).fresh = s.fresh := rfl
@[simp] theorem State.putPset_time (n : Nat) (p : PSet) : (s.putPset n p).time = s.time := rfl
@[simp] theorem State.putPset_sched (n : Nat) (p : PSet) : (s.putPset n p).sched = s.sched := rfl
@[simp] theorem State.putPset_flt (n : Nat) (p : PSet) : (s.putPset n p).flt = s.flt := rfl
@[simp] theorem State.putPset_pair (n : Nat) (p : PSet) : (s.putPset n p).pair = s.pair := rfl
@[simp] theorem State.putPset_pmr (n : Nat) (p : PSet) : (s.putPset n p).pmr = s.pmr := rfl
@[simp] theorem State.putPset_bring (n : Nat) (p : PSet) : (s.putPset n p).bring = s.bring := rfl
@[simp] theorem State.putPset_links (n : Nat) (p : PSet) : (s.putPset n p).links = s.links := rfl
@[simp] theorem State.putPset_lens (n : Nat) (p : PSet) : (s.putPset n p).lens = s.lens := rfl
@[simp] theorem State.putPset_lmp (n : Nat) (p : PSet) : (s.putPset n p).lmp = s.lmp := rfl
@[simp] theorem State.putPset_stg (n : Nat) (p : PSet) : (s.putPset n p).stg = s.stg := rfl
@[simp] theorem State.putPset_lan (n : Nat) (p : PSet) : (s.putPset n p).lan = s.lan := rfl
@[simp] theorem State.putPset_mnt (n : Nat) (p : PSet) : (s.putPset n p).mnt = s.mnt := rfl
@[simp] theorem State.putPset_can (n : Nat) (p : PSet) : (s.putPset n p).can = s.can := rfl
@[simp] theorem State.putPset_dma (n : Nat) (p : PSet) : (s.putPset n p).dma = s.dma := rfl
@[simp] theorem State.putPset_mem (n : Nat) (p : PSet) : (s.putPset n p).mem = s.mem := rfl
@[simp] theorem State.putPset_hif (n : Nat) (p : PSet) : (s.putPset n p).hif = s.hif := rfl
@[simp] theorem State.putPset_nvm (n : Nat) (p : PSet) : (s.putPset n p).nvm = s.nvm := rfl
@[simp] theorem State.putPset_mgmt (n : Nat) (p : PSet) : (s.putPset n p).mgmt = s.mgmt := rfl

/-! ### What the updates write -/

@[simp] theorem State.setReg_regs (k : Nat) (w : Word) : (s.setReg k w).regs = mapSet (regReset k) s.regs k w := rfl
@[simp] theorem State.setStg_staged (k : Nat) (w : Word) : (s.setStg k w).staged = mapSet (regReset k) s.staged k w := rfl
@[simp] theorem State.setOnce_onceRaised (k : Nat) (b : Bool) : (s.setOnce k b).onceRaised = mapSet false s.onceRaised k b := rfl
@[simp] theorem State.emit_out (o : Out) : (s.emit o).out = s.out ++ [o] := rfl
@[simp] theorem State.respond_resp (ok : Bool) (d : List Byte) : (s.respond ok d).resp = { ok := ok, data := d } := rfl
@[simp] theorem State.withPending_pending (q : List Instr) : (s.withPending q).pending = q := rfl
@[simp] theorem State.draw_fst : s.draw.1 = Config.freeValue s.fresh := rfl
@[simp] theorem State.draw_snd : s.draw.2 = { s with fresh := s.fresh + 1 } := rfl

end Sys2Proof.Machine
end

