-- ==== Sys2Proof/Laws/Regs.lean ====
section
/-! SUPPORT. Sys2Proof/Laws/Regs.lean: reading registers and their fields after they are written. -/
namespace Sys2Proof.Machine

/-! ## Words -/

@[simp] theorem reg_setReg_same (s : State) (k : Nat) (w : Word) : (s.setReg k w).reg k = w := by
  simp [State.reg]

theorem reg_setReg_ne (s : State) {k j : Nat} (w : Word) (h : j ≠ k) : (s.setReg k w).reg j = s.reg j := by
  simp [State.reg, mapGet_mapSet_ne _ _ _ h]

@[simp] theorem stgd_setStg_same (s : State) (k : Nat) (w : Word) : (s.setStg k w).stgd k = w := by
  simp [State.stgd]

theorem stgd_setStg_ne (s : State) {k j : Nat} (w : Word) (h : j ≠ k) : (s.setStg k w).stgd j = s.stgd j := by
  simp [State.stgd, mapGet_mapSet_ne _ _ _ h]

/-- A register word depends on the stored words alone. -/
theorem reg_congr {s t : State} (h : t.regs = s.regs) (k : Nat) : t.reg k = s.reg k := by simp [State.reg, h]
theorem f_congr {s t : State} (h : t.regs = s.regs) (F : Field) : t.f F = s.f F := by simp [State.f, reg_congr h]

/-! ## Fields -/

/-- The field lies within its word. -/
abbrev Field.fits (F : Field) : Prop := F.lo + (F.hi - F.lo + 1) ≤ 32

/-- Two fields share no bit. -/
abbrev Field.apart (F G : Field) : Prop :=
  F.key ≠ G.key ∨ F.lo + (F.hi - F.lo + 1) ≤ G.lo ∨ G.lo + (G.hi - G.lo + 1) ≤ F.lo

/-- A field written reads the value, as far as it holds it. -/
theorem f_setF_same (s : State) {F : Field} (v : Nat) (h : F.fits) : (s.setF F v).f F = v % 2 ^ (F.hi - F.lo + 1) := by
  rw [State.f, State.setF, reg_setReg_same, getBits_setBits_same _ _ _ _ h]

theorem f_setF_apart (s : State) {F G : Field} (v : Nat) (h : F.apart G) : (s.setF F v).f G = s.f G := by
  rw [State.f, State.f, State.setF]
  by_cases hk : G.key = F.key
  · rw [hk, reg_setReg_same]
    rcases h with h | h
    · exact absurd hk.symm h
    · exact getBits_setBits_apart _ v h
  · rw [reg_setReg_ne _ _ hk]

theorem reg_setF_ne (s : State) {F : Field} {k : Nat} (v : Nat) (h : k ≠ F.key) : (s.setF F v).reg k = s.reg k :=
  reg_setReg_ne s _ h

theorem flag_setF_one (s : State) {F : Field} (h : F.fits) : (s.setF F 1).flag F = true := by
  have h2 : 1 % 2 ^ (F.hi - F.lo + 1) = 1 := Nat.mod_eq_of_lt (Nat.one_lt_two_pow (by omega))
  rw [State.flag, f_setF_same s 1 h, h2]; rfl

theorem flag_setF_zero (s : State) {F : Field} (h : F.fits) : (s.setF F 0).flag F = false := by
  rw [State.flag, f_setF_same s 0 h, Nat.zero_mod]; rfl

theorem f_lt (s : State) (F : Field) : s.f F < 2 ^ (F.hi - F.lo + 1) := getBits_lt _ _ _

end Sys2Proof.Machine
end

