-- ==== Sys2Proof/Laws/Settle.lean ====
section
/-! SUPPORT. Sys2Proof/Laws/Settle.lean: what the end of a command does: nothing to a settled state, and it always leaves one. -/
namespace Sys2Proof.Machine

/-! ## Block resets and cut fetches -/

theorem settleResets_resets (k : Nat) : ∀ (done : List Nat) (s : State), (settleResets k done s).flt.blockResets = [] := by
  induction k with
  | zero => intro done s; rfl
  | succ k ih =>
    intro done s
    rw [settleResets]
    split
    · rfl
    · exact ih _ _

theorem snuffLanes_of_quiet {s : State} (h : lanesQuiet s = true) : snuffLanes s = s := by simp [snuffLanes, h]

theorem settleResets_of_nil (k : Nat) (done : List Nat) {s : State} (h : s.flt.blockResets = []) (hq : lanesQuiet s = true) :
    settleResets k done s = s := by
  have hs : setBlockResets [] s = s := by
    unfold setBlockResets
    rw [← h]
  cases k with
  | zero => rw [settleResets, snuffLanes_of_quiet hq]; exact hs
  | succ k => rw [settleResets, snuffLanes_of_quiet hq, h]; exact hs

theorem clearCuts_of_nil {s : State} (h : s.lmp.cut = []) : clearCuts s = s := by
  unfold clearCuts
  rw [← h]

theorem settleCuts_of_nil {s : State} (h : s.lmp.cut = []) : settleCuts s = s := by
  rw [settleCuts, h]
  exact clearCuts_of_nil h

/-! ## Discarded descriptors -/

theorem settleLost_of_nil (k : Nat) {s : State} (h : s.links.lost = []) : settleLost k s = s := by
  cases k with
  | zero => rfl
  | succ k => rw [settleLost, h]

theorem clearLost_of_nil {s : State} (h : s.links.lost = []) : clearLost s = s := by
  unfold clearLost
  rw [← h]

/-! ## Packets that a snuff abandons -/

theorem lanesQuiet_flagLanes (s : State) : lanesQuiet (flagLanes s) = true := by
  have : ((flagLanes s).links.tx.all fun x => laneSnuffed x.2) = true := by
    simp only [flagLanes, List.all_map, List.all_eq_true, Function.comp, laneSnuffed]
    intro x _
    cases x.2.cur <;> simp
  simp [lanesQuiet, this]

theorem lanesQuiet_snuffLanes (s : State) : lanesQuiet (snuffLanes s) = true := by
  unfold snuffLanes
  split
  · assumption
  · exact lanesQuiet_flagLanes _

theorem lanesQuiet_congr {s t : State} (h1 : t.snuffed = s.snuffed) (h2 : t.links.tx = s.links.tx) : lanesQuiet t = lanesQuiet s := by
  simp only [lanesQuiet, h1, h2]

theorem lanesQuiet_settleResets (k : Nat) : ∀ (done : List Nat) (s : State), lanesQuiet (settleResets k done s) = true := by
  induction k with
  | zero => intro done s; exact lanesQuiet_snuffLanes s
  | succ k ih =>
    intro done s
    rw [settleResets]
    split
    · exact lanesQuiet_snuffLanes s
    · exact ih _ _

/-! ## Parameter sets -/

theorem pset_putPset_same (s : State) (n : Nat) (p : PSet) : (s.putPset n p).pset n = p := by
  simp [State.pset, State.putPset]

theorem pset_putPset_ne (s : State) {n m : Nat} (p : PSet) (h : m ≠ n) : (s.putPset n p).pset m = s.pset m := by
  simp [State.pset, State.putPset, mapGet_mapSet_ne _ _ _ h]

theorem psetQuiet_putPset_ne (s : State) {n m : Nat} (p : PSet) (h : m ≠ n) : psetQuiet (s.putPset n p) m = psetQuiet s m := by
  simp only [psetQuiet, pset_putPset_ne s p h]; rfl

theorem psetSettleOne_same (s : State) (n : Nat) : psetQuiet (psetSettleOne n s) n = true := by
  unfold psetSettleOne
  split
  · assumption
  · simp [psetQuiet, pset_putPset_same]

theorem psetSettleOne_ne (s : State) {n m : Nat} (h : m ≠ n) : psetQuiet (psetSettleOne n s) m = psetQuiet s m := by
  unfold psetSettleOne
  split
  · rfl
  · exact psetQuiet_putPset_ne s _ h

theorem psetSettleOne_of_quiet {s : State} {n : Nat} (h : psetQuiet s n = true) : psetSettleOne n s = s := by simp [psetSettleOne, h]

theorem psetSettle_quiet (s : State) : ∀ n, n < 4 → psetQuiet (psetSettle s) n = true := by
  intro n hn
  unfold psetSettle
  match n, hn with
  | 0, _ => rw [psetSettleOne_ne _ (by decide), psetSettleOne_ne _ (by decide), psetSettleOne_ne _ (by decide)]
            exact psetSettleOne_same s 0
  | 1, _ => rw [psetSettleOne_ne _ (by decide), psetSettleOne_ne _ (by decide)]; exact psetSettleOne_same _ 1
  | 2, _ => rw [psetSettleOne_ne _ (by decide)]; exact psetSettleOne_same _ 2
  | 3, _ => exact psetSettleOne_same _ 3

theorem psetSettle_of_quiet {s : State} (h : ∀ n, n < 4 → psetQuiet s n = true) : psetSettle s = s := by
  unfold psetSettle
  rw [psetSettleOne_of_quiet (h 0 (by decide)), psetSettleOne_of_quiet (h 1 (by decide)), psetSettleOne_of_quiet (h 2 (by decide)),
    psetSettleOne_of_quiet (h 3 (by decide))]

@[simp] theorem psetSettleOne_pending (s : State) (n : Nat) : (psetSettleOne n s).pending = s.pending := by unfold psetSettleOne; split <;> rfl
@[simp] theorem psetSettleOne_regs (s : State) (n : Nat) : (psetSettleOne n s).regs = s.regs := by unfold psetSettleOne; split <;> rfl
@[simp] theorem psetSettleOne_staged (s : State) (n : Nat) : (psetSettleOne n s).staged = s.staged := by unfold psetSettleOne; split <;> rfl
@[simp] theorem psetSettleOne_onceRaised (s : State) (n : Nat) : (psetSettleOne n s).onceRaised = s.onceRaised := by unfold psetSettleOne; split <;> rfl
@[simp] theorem psetSettleOne_hiLatch (s : State) (n : Nat) : (psetSettleOne n s).hiLatch = s.hiLatch := by unfold psetSettleOne; split <;> rfl
@[simp] theorem psetSettleOne_objs (s : State) (n : Nat) : (psetSettleOne n s).objs = s.objs := by unfold psetSettleOne; split <;> rfl
@[simp] theorem psetSettleOne_resp (s : State) (n : Nat) : (psetSettleOne n s).resp = s.resp := by unfold psetSettleOne; split <;> rfl
@[simp] theorem psetSettleOne_out (s : State) (n : Nat) : (psetSettleOne n s).out = s.out := by unfold psetSettleOne; split <;> rfl
@[simp] theorem psetSettleOne_fresh (s : State) (n : Nat) : (psetSettleOne n s).fresh = s.fresh := by unfold psetSettleOne; split <;> rfl
@[simp] theorem psetSettleOne_time (s : State) (n : Nat) : (psetSettleOne n s).time = s.time := by unfold psetSettleOne; split <;> rfl
@[simp] theorem psetSettleOne_sched (s : State) (n : Nat) : (psetSettleOne n s).sched = s.sched := by unfold psetSettleOne; split <;> rfl
@[simp] theorem psetSettleOne_flt (s : State) (n : Nat) : (psetSettleOne n s).flt = s.flt := by unfold psetSettleOne; split <;> rfl
@[simp] theorem psetSettleOne_pair (s : State) (n : Nat) : (psetSettleOne n s).pair = s.pair := by unfold psetSettleOne; split <;> rfl
@[simp] theorem psetSettleOne_pmr (s : State) (n : Nat) : (psetSettleOne n s).pmr = s.pmr := by unfold psetSettleOne; split <;> rfl
@[simp] theorem psetSettleOne_bring (s : State) (n : Nat) : (psetSettleOne n s).bring = s.bring := by unfold psetSettleOne; split <;> rfl
@[simp] theorem psetSettleOne_links (s : State) (n : Nat) : (psetSettleOne n s).links = s.links := by unfold psetSettleOne; split <;> rfl
@[simp] theorem psetSettleOne_lens (s : State) (n : Nat) : (psetSettleOne n s).lens = s.lens := by unfold psetSettleOne; split <;> rfl
@[simp] theorem psetSettleOne_lmp (s : State) (n : Nat) : (psetSettleOne n s).lmp = s.lmp := by unfold psetSettleOne; split <;> rfl
@[simp] theorem psetSettleOne_stg (s : State) (n : Nat) : (psetSettleOne n s).stg = s.stg := by unfold psetSettleOne; split <;> rfl
@[simp] theorem psetSettleOne_lan (s : State) (n : Nat) : (psetSettleOne n s).lan = s.lan := by unfold psetSettleOne; split <;> rfl
@[simp] theorem psetSettleOne_mnt (s : State) (n : Nat) : (psetSettleOne n s).mnt = s.mnt := by unfold psetSettleOne; split <;> rfl
@[simp] theorem psetSettleOne_can (s : State) (n : Nat) : (psetSettleOne n s).can = s.can := by unfold psetSettleOne; split <;> rfl
@[simp] theorem psetSettleOne_dma (s : State) (n : Nat) : (psetSettleOne n s).dma = s.dma := by unfold psetSettleOne; split <;> rfl
@[simp] theorem psetSettleOne_mem (s : State) (n : Nat) : (psetSettleOne n s).mem = s.mem := by unfold psetSettleOne; split <;> rfl
@[simp] theorem psetSettleOne_hif (s : State) (n : Nat) : (psetSettleOne n s).hif = s.hif := by unfold psetSettleOne; split <;> rfl
@[simp] theorem psetSettleOne_nvm (s : State) (n : Nat) : (psetSettleOne n s).nvm = s.nvm := by unfold psetSettleOne; split <;> rfl
@[simp] theorem psetSettleOne_mgmt (s : State) (n : Nat) : (psetSettleOne n s).mgmt = s.mgmt := by unfold psetSettleOne; split <;> rfl

@[simp] theorem psetSettle_pending (s : State) : (psetSettle s).pending = s.pending := by simp [psetSettle]
@[simp] theorem psetSettle_regs (s : State) : (psetSettle s).regs = s.regs := by simp [psetSettle]
@[simp] theorem psetSettle_staged (s : State) : (psetSettle s).staged = s.staged := by simp [psetSettle]
@[simp] theorem psetSettle_onceRaised (s : State) : (psetSettle s).onceRaised = s.onceRaised := by simp [psetSettle]
@[simp] theorem psetSettle_hiLatch (s : State) : (psetSettle s).hiLatch = s.hiLatch := by simp [psetSettle]
@[simp] theorem psetSettle_objs (s : State) : (psetSettle s).objs = s.objs := by simp [psetSettle]
@[simp] theorem psetSettle_resp (s : State) : (psetSettle s).resp = s.resp := by simp [psetSettle]
@[simp] theorem psetSettle_out (s : State) : (psetSettle s).out = s.out := by simp [psetSettle]
@[simp] theorem psetSettle_fresh (s : State) : (psetSettle s).fresh = s.fresh := by simp [psetSettle]
@[simp] theorem psetSettle_time (s : State) : (psetSettle s).time = s.time := by simp [psetSettle]
@[simp] theorem psetSettle_sched (s : State) : (psetSettle s).sched = s.sched := by simp [psetSettle]
@[simp] theorem psetSettle_flt (s : State) : (psetSettle s).flt = s.flt := by simp [psetSettle]
@[simp] theorem psetSettle_pair (s : State) : (psetSettle s).pair = s.pair := by simp [psetSettle]
@[simp] theorem psetSettle_pmr (s : State) : (psetSettle s).pmr = s.pmr := by simp [psetSettle]
@[simp] theorem psetSettle_bring (s : State) : (psetSettle s).bring = s.bring := by simp [psetSettle]
@[simp] theorem psetSettle_links (s : State) : (psetSettle s).links = s.links := by simp [psetSettle]
@[simp] theorem psetSettle_lens (s : State) : (psetSettle s).lens = s.lens := by simp [psetSettle]
@[simp] theorem psetSettle_lmp (s : State) : (psetSettle s).lmp = s.lmp := by simp [psetSettle]
@[simp] theorem psetSettle_stg (s : State) : (psetSettle s).stg = s.stg := by simp [psetSettle]
@[simp] theorem psetSettle_lan (s : State) : (psetSettle s).lan = s.lan := by simp [psetSettle]
@[simp] theorem psetSettle_mnt (s : State) : (psetSettle s).mnt = s.mnt := by simp [psetSettle]
@[simp] theorem psetSettle_can (s : State) : (psetSettle s).can = s.can := by simp [psetSettle]
@[simp] theorem psetSettle_dma (s : State) : (psetSettle s).dma = s.dma := by simp [psetSettle]
@[simp] theorem psetSettle_mem (s : State) : (psetSettle s).mem = s.mem := by simp [psetSettle]
@[simp] theorem psetSettle_hif (s : State) : (psetSettle s).hif = s.hif := by simp [psetSettle]
@[simp] theorem psetSettle_nvm (s : State) : (psetSettle s).nvm = s.nvm := by simp [psetSettle]
@[simp] theorem psetSettle_mgmt (s : State) : (psetSettle s).mgmt = s.mgmt := by simp [psetSettle]

/-! ## The boot stage -/

theorem stageSettle_of_quiet {s : State} (h : stageQuiet s = true) : stageSettle s = s := by
  unfold stageQuiet at h
  unfold stageSettle
  cases h1 : stageWaits s <;> cases h2 : bootReady s <;> cases h3 : trainFailed s <;> simp_all

theorem stageQuiet_setStage (s : State) {v : Nat} (hv : v < 8) (h2 : v ≠ 2) : stageQuiet (s.setF Reg.TOP_STATUS_STAGE v) = true := by
  have : (s.setF Reg.TOP_STATUS_STAGE v).f Reg.TOP_STATUS_STAGE = v := by
    rw [f_setF_same _ _ (by decide : Reg.TOP_STATUS_STAGE.fits)]
    exact Nat.mod_eq_of_lt hv
  simp [stageQuiet, stageWaits, this, h2]

theorem stageQuiet_stageSettle (s : State) : stageQuiet (stageSettle s) = true := by
  unfold stageSettle
  split
  · exact stageQuiet_setStage s (by decide) (by decide)
  · split
    · exact stageQuiet_setStage s (by decide) (by decide)
    · unfold stageQuiet
      cases h1 : stageWaits s <;> cases h2 : bootReady s <;> cases h3 : trainFailed s <;> simp_all

/-- The stage's settling changes no register but TOP_STATUS. -/
theorem stageSettle_eq_regs (s : State) : stageSettle s = s ∨ ∃ v, stageSettle s = s.setF Reg.TOP_STATUS_STAGE v := by
  unfold stageSettle
  split
  · exact .inr ⟨_, rfl⟩
  · split
    · exact .inr ⟨_, rfl⟩
    · exact .inl rfl

/-! ## The end of a command -/

theorem settle_of_settled {s : State} (h : Settled s) : settle s = s := by
  unfold settle
  rw [settleLost_of_nil _ h.lost, settleCuts_of_nil h.cuts, settleResets_of_nil _ _ h.resets h.lanes, psetSettle_of_quiet h.psets,
    clearCuts_of_nil h.cuts, clearLost_of_nil h.lost, stageSettle_of_quiet h.stage]

theorem psetQuiet_congr {s t : State} (hd : t.dict.psets = s.dict.psets) (hr : t.regs = s.regs) (hs : t.sched = s.sched) (n : Nat) :
    psetQuiet t n = psetQuiet s n := by
  simp only [psetQuiet, State.pset, slotState, slotRun, State.f, State.reg, hd, hr, hs]

@[simp] theorem clearCuts_flt (s : State) : (clearCuts s).flt = s.flt := rfl

theorem psetQuiet_clearCuts (s : State) (n : Nat) : psetQuiet (clearCuts s) n = psetQuiet s n := psetQuiet_congr rfl rfl rfl n

theorem psetQuiet_clearLost (s : State) (n : Nat) : psetQuiet (clearLost s) n = psetQuiet s n := psetQuiet_congr rfl rfl rfl n

theorem slotState_setStage (s : State) (v k : Nat) : slotState (s.setF Reg.TOP_STATUS_STAGE v) k = slotState s k := by
  apply f_setF_apart
  left
  simp only [Reg.TOP_STATUS_STAGE, Reg.SLOT_CTRL_STATE]
  omega

theorem psetQuiet_setStage (s : State) (v n : Nat) : psetQuiet (s.setF Reg.TOP_STATUS_STAGE v) n = psetQuiet s n := by
  simp only [psetQuiet, slotState_setStage]
  rfl

theorem snuffed_setStage (s : State) (v : Nat) : (s.setF Reg.TOP_STATUS_STAGE v).snuffed = s.snuffed := by
  have : (s.setF Reg.TOP_STATUS_STAGE v).f Reg.FLT_STATUS_SNUFFED = s.f Reg.FLT_STATUS_SNUFFED :=
    f_setF_apart _ _ (.inl (by decide))
  simp only [State.snuffed, State.flag, this]

theorem settled_stageSettle {s : State} (h1 : s.flt.blockResets = []) (h2 : s.lmp.cut = [])
    (h3 : ∀ n, n < 4 → psetQuiet s n = true) (h4 : s.links.lost = []) (h5 : lanesQuiet s = true) :
    Settled (stageSettle s) := by
  have hs := stageQuiet_stageSettle s
  rcases stageSettle_eq_regs s with h | ⟨v, h⟩
  · rw [h] at hs ⊢
    exact ⟨h1, h2, h3, hs, h4, h5⟩
  · rw [h] at hs ⊢
    exact ⟨h1, h2, fun n hn => by rw [psetQuiet_setStage]; exact h3 n hn, hs, h4,
      (lanesQuiet_congr (snuffed_setStage s v) rfl).trans h5⟩

theorem settled_settle (s : State) : Settled (settle s) := by
  unfold settle
  generalize ha : settleResets 128 [] (settleCuts (settleLost 1024 s)) = a
  have hr : a.flt.blockResets = [] := ha ▸ settleResets_resets _ _ _
  have hl : lanesQuiet a = true := ha ▸ lanesQuiet_settleResets _ _ _
  refine settled_stageSettle ?_ rfl (fun n hn => ?_) rfl ?_
  · change (clearCuts (psetSettle a)).flt.blockResets = []
    rw [clearCuts_flt, psetSettle_flt, hr]
  · rw [psetQuiet_clearLost, psetQuiet_clearCuts]; exact psetSettle_quiet _ n hn
  · refine (lanesQuiet_congr ?_ ?_).trans hl
    · simp only [State.snuffed, State.flag, State.f, State.reg, clearLost, clearCuts, psetSettle_regs]
    · simp only [clearLost, clearCuts, psetSettle_links]

/-- Settled does not depend on the queue. -/
theorem settled_pending {s : State} (q : List Instr) : Settled { s with pending := q } ↔ Settled s :=
  ⟨fun h => ⟨h.1, h.2, h.3, h.4, h.5, h.6⟩, fun h => ⟨h.1, h.2, h.3, h.4, h.5, h.6⟩⟩

theorem settled_finish (s t : State) : Settled (finish s t) := (settled_pending _).2 (settled_settle t)

@[simp] theorem finish_pending (s t : State) : (finish s t).pending = s.pending := rfl

theorem finish_of_settled (s : State) {t : State} (h : Settled t) : finish s t = { t with pending := s.pending } := by
  rw [finish, settle_of_settled h]

/-! ## The two forms of a meaning -/

theorem dev_next {f : State → State} {s : State} (h : held s = false) : dev true f s = .next (finish s (f s)) := by
  simp [dev, h]

theorem dev_held {f : State → State} {s : State} (h : held s = true) : dev true f s = .next s := by
  simp [dev, h]

theorem pin_next {f : State → State} {s : State} : pin true f s = .next (finish s (f s)) := by simp [pin]

theorem dev_illFormed {f : State → State} {s : State} : dev false f s = .fault .illFormed := by simp [dev]
theorem pin_illFormed {f : State → State} {s : State} : pin false f s = .fault .illFormed := by simp [pin]

/-- Everything a command's meaning can answer: a fault, the state it found, or the settled end of what it did. -/
theorem dev_cases {ok : Bool} {f : State → State} {s t : State} (h : dev ok f s = .next t) :
    t = s ∨ t = finish s (f s) := by
  unfold dev at h
  split at h
  · split at h
    · cases h; exact .inl rfl
    · cases h; exact .inr rfl
  · cases h

theorem pin_cases {ok : Bool} {f : State → State} {s t : State} (h : pin ok f s = .next t) : t = finish s (f s) := by
  unfold pin at h
  split at h
  · cases h; rfl
  · cases h

end Sys2Proof.Machine
end

