-- ==== Sys2Proof/Laws/Commands.lean ====
section
/-! SUPPORT. Sys2Proof/Laws/Commands.lean: the shapes of register commands, and what the performance counters' events leave unchanged. -/
namespace Sys2Proof.Machine

/-! ## Performance counter events -/

/-- Two states differ in registers of the performance counters alone (R653). -/
def SameButCounters (s t : State) : Prop := ∃ r, t = { s with regs := r } ∧ ∀ k, k < 0x4C000 ∨ 0x4F200 ≤ k → t.reg k = s.reg k

theorem SameButCounters.refl (s : State) : SameButCounters s s := ⟨s.regs, rfl, fun _ _ => rfl⟩

theorem SameButCounters.trans {s t u : State} (h : SameButCounters s t) (g : SameButCounters t u) : SameButCounters s u := by
  obtain ⟨r, h1, h2⟩ := h
  obtain ⟨q, g1, g2⟩ := g
  subst h1
  exact ⟨q, g1, fun k hk => (g2 k hk).trans (h2 k hk)⟩

theorem SameButCounters.setReg (s : State) {k : Nat} (w : Word) (h : 0x4C000 ≤ k ∧ k < 0x4F200) : SameButCounters s (s.setReg k w) :=
  ⟨_, rfl, fun j hj => reg_setReg_ne s w (by omega)⟩

theorem ctrStore_same (s : State) {bank k : Nat} (v : Nat) (hb : bank < 100) (hk : k < 16) : SameButCounters s (ctrStore s bank k v) := by
  have h1 : SameButCounters s ((s.setF (Reg.CTR_LO bank k) (v % 2 ^ 32)).setF (Reg.CTR_HI bank k) (v / 2 ^ 32 % 2 ^ 16)) :=
    (SameButCounters.setReg s _ (by simp only [Reg.CTR_LO]; omega)).trans (SameButCounters.setReg _ _ (by simp only [Reg.CTR_HI]; omega))
  unfold ctrStore
  dsimp only
  split
  · exact h1.trans (SameButCounters.setReg _ _ (by simp only [Reg.CTR_HI_OVF]; omega))
  · exact h1

theorem perfRun_same (inc : State → Nat → Nat) {bank : Nat} (hb : bank < 100) : ∀ (n k wraps : Nat) (s : State), n + k ≤ 16 →
    SameButCounters s (perfRun inc bank n k wraps s) := by
  intro n
  induction n with
  | zero => intro k w s _; exact .refl s
  | succ n ih =>
    intro k w s hk
    have hc : ∀ (i v : Nat), SameButCounters s (if i = 0 then s else ctrStore s bank k v) := by
      intro i v
      split
      · exact .refl s
      · exact ctrStore_same s v hb (by omega)
    rw [perfRun]
    exact SameButCounters.trans (hc _ _) (ih (k + 1) _ _ (by omega))

theorem bankSize_le (b : Nat) : bankSize b ≤ 16 := by unfold bankSize; split <;> [omega; (split <;> omega)]

theorem perfEvent_same (bank code n : Nat) (s : State) : SameButCounters s (perfEvent bank code n s) := by
  unfold perfEvent
  split
  · exact .refl s
  · by_cases hb : bank < 100
    · exact perfRun_same _ hb _ _ _ _ (by have := bankSize_le bank; omega)
    · have : bankSize bank = 0 := by simp only [bankSize]; split <;> simp_all
      rw [this]
      exact .refl s

/-- What is read of registers outside the counters. -/
theorem SameButCounters.f {s t : State} (h : SameButCounters s t) {F : Field} (hF : F.key < 0x4C000 ∨ 0x4F200 ≤ F.key) : t.f F = s.f F := by
  obtain ⟨r, _, h2⟩ := h
  rw [State.f, State.f, h2 _ hF]

theorem requested_same (s : State) : SameButCounters s (requested s) := perfEvent_same _ _ _ _

theorem requested_f (s : State) {F : Field} (h : F.key < 0x4C000 ∨ 0x4F200 ≤ F.key) : (requested s).f F = s.f F := (requested_same s).f h

theorem requested_flag (s : State) {F : Field} (h : F.key < 0x4C000 ∨ 0x4F200 ≤ F.key) : (requested s).flag F = s.flag F := by
  rw [State.flag, State.flag, requested_f s h]

theorem requested_reg (s : State) {k : Nat} (h : k < 0x4C000 ∨ 0x4F200 ≤ k) : (requested s).reg k = s.reg k := by
  obtain ⟨_, _, h2⟩ := requested_same s
  exact h2 k h

@[simp] theorem perfEvent_pending (b c n : Nat) (s : State) : (perfEvent b c n s).pending = s.pending := by obtain ⟨_, h, _⟩ := perfEvent_same b c n s; rw [h]
@[simp] theorem perfEvent_staged (b c n : Nat) (s : State) : (perfEvent b c n s).staged = s.staged := by obtain ⟨_, h, _⟩ := perfEvent_same b c n s; rw [h]
@[simp] theorem perfEvent_onceRaised (b c n : Nat) (s : State) : (perfEvent b c n s).onceRaised = s.onceRaised := by obtain ⟨_, h, _⟩ := perfEvent_same b c n s; rw [h]
@[simp] theorem perfEvent_hiLatch (b c n : Nat) (s : State) : (perfEvent b c n s).hiLatch = s.hiLatch := by obtain ⟨_, h, _⟩ := perfEvent_same b c n s; rw [h]
@[simp] theorem perfEvent_objs (b c n : Nat) (s : State) : (perfEvent b c n s).objs = s.objs := by obtain ⟨_, h, _⟩ := perfEvent_same b c n s; rw [h]
@[simp] theorem perfEvent_resp (b c n : Nat) (s : State) : (perfEvent b c n s).resp = s.resp := by obtain ⟨_, h, _⟩ := perfEvent_same b c n s; rw [h]
@[simp] theorem perfEvent_out (b c n : Nat) (s : State) : (perfEvent b c n s).out = s.out := by obtain ⟨_, h, _⟩ := perfEvent_same b c n s; rw [h]
@[simp] theorem perfEvent_fresh (b c n : Nat) (s : State) : (perfEvent b c n s).fresh = s.fresh := by obtain ⟨_, h, _⟩ := perfEvent_same b c n s; rw [h]
@[simp] theorem perfEvent_time (b c n : Nat) (s : State) : (perfEvent b c n s).time = s.time := by obtain ⟨_, h, _⟩ := perfEvent_same b c n s; rw [h]
@[simp] theorem perfEvent_sched (b c n : Nat) (s : State) : (perfEvent b c n s).sched = s.sched := by obtain ⟨_, h, _⟩ := perfEvent_same b c n s; rw [h]
@[simp] theorem perfEvent_flt (b c n : Nat) (s : State) : (perfEvent b c n s).flt = s.flt := by obtain ⟨_, h, _⟩ := perfEvent_same b c n s; rw [h]
@[simp] theorem perfEvent_pair (b c n : Nat) (s : State) : (perfEvent b c n s).pair = s.pair := by obtain ⟨_, h, _⟩ := perfEvent_same b c n s; rw [h]
@[simp] theorem perfEvent_pmr (b c n : Nat) (s : State) : (perfEvent b c n s).pmr = s.pmr := by obtain ⟨_, h, _⟩ := perfEvent_same b c n s; rw [h]
@[simp] theorem perfEvent_bring (b c n : Nat) (s : State) : (perfEvent b c n s).bring = s.bring := by obtain ⟨_, h, _⟩ := perfEvent_same b c n s; rw [h]
@[simp] theorem perfEvent_links (b c n : Nat) (s : State) : (perfEvent b c n s).links = s.links := by obtain ⟨_, h, _⟩ := perfEvent_same b c n s; rw [h]
@[simp] theorem perfEvent_lens (b c n : Nat) (s : State) : (perfEvent b c n s).lens = s.lens := by obtain ⟨_, h, _⟩ := perfEvent_same b c n s; rw [h]
@[simp] theorem perfEvent_lmp (b c n : Nat) (s : State) : (perfEvent b c n s).lmp = s.lmp := by obtain ⟨_, h, _⟩ := perfEvent_same b c n s; rw [h]
@[simp] theorem perfEvent_stg (b c n : Nat) (s : State) : (perfEvent b c n s).stg = s.stg := by obtain ⟨_, h, _⟩ := perfEvent_same b c n s; rw [h]
@[simp] theorem perfEvent_lan (b c n : Nat) (s : State) : (perfEvent b c n s).lan = s.lan := by obtain ⟨_, h, _⟩ := perfEvent_same b c n s; rw [h]
@[simp] theorem perfEvent_mnt (b c n : Nat) (s : State) : (perfEvent b c n s).mnt = s.mnt := by obtain ⟨_, h, _⟩ := perfEvent_same b c n s; rw [h]
@[simp] theorem perfEvent_can (b c n : Nat) (s : State) : (perfEvent b c n s).can = s.can := by obtain ⟨_, h, _⟩ := perfEvent_same b c n s; rw [h]
@[simp] theorem perfEvent_dma (b c n : Nat) (s : State) : (perfEvent b c n s).dma = s.dma := by obtain ⟨_, h, _⟩ := perfEvent_same b c n s; rw [h]
@[simp] theorem perfEvent_mem (b c n : Nat) (s : State) : (perfEvent b c n s).mem = s.mem := by obtain ⟨_, h, _⟩ := perfEvent_same b c n s; rw [h]
@[simp] theorem perfEvent_hif (b c n : Nat) (s : State) : (perfEvent b c n s).hif = s.hif := by obtain ⟨_, h, _⟩ := perfEvent_same b c n s; rw [h]
@[simp] theorem perfEvent_dict (b c n : Nat) (s : State) : (perfEvent b c n s).dict = s.dict := by obtain ⟨_, h, _⟩ := perfEvent_same b c n s; rw [h]
@[simp] theorem perfEvent_nvm (b c n : Nat) (s : State) : (perfEvent b c n s).nvm = s.nvm := by obtain ⟨_, h, _⟩ := perfEvent_same b c n s; rw [h]
@[simp] theorem perfEvent_mgmt (b c n : Nat) (s : State) : (perfEvent b c n s).mgmt = s.mgmt := by obtain ⟨_, h, _⟩ := perfEvent_same b c n s; rw [h]

@[simp] theorem requested_pending (s : State) : (requested s).pending = s.pending := perfEvent_pending _ _ _ s
@[simp] theorem requested_staged (s : State) : (requested s).staged = s.staged := perfEvent_staged _ _ _ s
@[simp] theorem requested_onceRaised (s : State) : (requested s).onceRaised = s.onceRaised := perfEvent_onceRaised _ _ _ s
@[simp] theorem requested_hiLatch (s : State) : (requested s).hiLatch = s.hiLatch := perfEvent_hiLatch _ _ _ s
@[simp] theorem requested_objs (s : State) : (requested s).objs = s.objs := perfEvent_objs _ _ _ s
@[simp] theorem requested_resp (s : State) : (requested s).resp = s.resp := perfEvent_resp _ _ _ s
@[simp] theorem requested_out (s : State) : (requested s).out = s.out := perfEvent_out _ _ _ s
@[simp] theorem requested_fresh (s : State) : (requested s).fresh = s.fresh := perfEvent_fresh _ _ _ s
@[simp] theorem requested_time (s : State) : (requested s).time = s.time := perfEvent_time _ _ _ s
@[simp] theorem requested_sched (s : State) : (requested s).sched = s.sched := perfEvent_sched _ _ _ s
@[simp] theorem requested_flt (s : State) : (requested s).flt = s.flt := perfEvent_flt _ _ _ s
@[simp] theorem requested_pair (s : State) : (requested s).pair = s.pair := perfEvent_pair _ _ _ s
@[simp] theorem requested_pmr (s : State) : (requested s).pmr = s.pmr := perfEvent_pmr _ _ _ s
@[simp] theorem requested_bring (s : State) : (requested s).bring = s.bring := perfEvent_bring _ _ _ s
@[simp] theorem requested_links (s : State) : (requested s).links = s.links := perfEvent_links _ _ _ s
@[simp] theorem requested_lens (s : State) : (requested s).lens = s.lens := perfEvent_lens _ _ _ s
@[simp] theorem requested_lmp (s : State) : (requested s).lmp = s.lmp := perfEvent_lmp _ _ _ s
@[simp] theorem requested_stg (s : State) : (requested s).stg = s.stg := perfEvent_stg _ _ _ s
@[simp] theorem requested_lan (s : State) : (requested s).lan = s.lan := perfEvent_lan _ _ _ s
@[simp] theorem requested_mnt (s : State) : (requested s).mnt = s.mnt := perfEvent_mnt _ _ _ s
@[simp] theorem requested_can (s : State) : (requested s).can = s.can := perfEvent_can _ _ _ s
@[simp] theorem requested_dma (s : State) : (requested s).dma = s.dma := perfEvent_dma _ _ _ s
@[simp] theorem requested_mem (s : State) : (requested s).mem = s.mem := perfEvent_mem _ _ _ s
@[simp] theorem requested_hif (s : State) : (requested s).hif = s.hif := perfEvent_hif _ _ _ s
@[simp] theorem requested_dict (s : State) : (requested s).dict = s.dict := perfEvent_dict _ _ _ s
@[simp] theorem requested_nvm (s : State) : (requested s).nvm = s.nvm := perfEvent_nvm _ _ _ s
@[simp] theorem requested_mgmt (s : State) : (requested s).mgmt = s.mgmt := perfEvent_mgmt _ _ _ s

/-! ## Register commands -/

/-- Only the registers of R16, R684 and R687 refuse a master that reaches the register pages. -/
theorem refusedWrite_of_ge {key : Nat} (m : Nat) (s : State) (h : 0x101 ≤ key) : refusedWrite key m s = false := by
  have h1 : (key == 0x18) = false := by simp; omega
  have h2 : (key == 0x1C) = false := by simp; omega
  have h3 : (key == 0x100) = false := by simp; omega
  simp [refusedWrite, h1, h2, h3]

theorem taken_congr {m key : Nat} {w : Word} {f g : State → State} {s : State} (h : f s = g s) : taken m key w f s = taken m key w g s := by
  simp [taken, h]

/-- The same, for what a command answers. -/
theorem next_taken_congr {m key : Nat} {w : Word} {f g : State → State} {s x : State} (h : f x = g x) :
    (.next (finish s (taken m key w f x)) : Host.Outcome State Fault Refusal) = .next (finish s (taken m key w g x)) := by
  rw [taken_congr h]

/-- The masters of R480 reach the register pages. -/
theorem masterReach_page {m : Nat} (h : regMaster m = true) : masterReach m 4 true = true := by
  simp only [regMaster, Bool.or_eq_true, beq_iff_eq, Bool.and_eq_true, decide_eq_true_eq] at h
  have : m = 1 ∨ m = 2 ∨ m = 0x20 ∨ (0x10 ≤ m ∧ m ≤ 0x1F) := by omega
  rcases this with rfl | rfl | rfl | h
  · decide
  · decide
  · decide
  · have h0 : ¬ m = 0 := by omega
    have h1 : ¬ m = 1 := by omega
    have h2 : ¬ m = 2 := by omega
    have h3 : ¬ (m = 3 ∨ m = 35) := by omega
    have h4 : ¬ (8 ≤ m ∧ m ≤ 15) := by omega
    simp [masterReach, h0, h1, h2, h3, h4, h]

theorem anyMaster_of_regMaster {m : Nat} (h : regMaster m = true) : anyMaster m = true := by
  simp only [regMaster, anyMaster, Bool.or_eq_true, beq_iff_eq, Bool.and_eq_true, decide_eq_true_eq] at h ⊢
  omega

/-- A master that R479 gives no register writes is turned away, whatever the register does (R480). -/
theorem writeCmd_away {g : Bool} {m key : Nat} {w : Word} {f : State → State} {s : State} (h : masterReach m 4 true = false) :
    writeCmd g m key w f s = (bmxFault FK.BMX_ACCESS 4 (0x40000000 + key) 2 m s).respond false [] := by
  simp [writeCmd, h]

theorem commitCmd_taken {m key : Nat} {w : Word} {f : State → State} {s : State} (hm : regMaster m = true) (h : refusedWrite key m (requested s) = false) :
    commitCmd m key w f s = taken m key w f (requested s) := by
  simp [commitCmd, writeCmd, h, masterReach_page hm]

theorem regCmd_taken {m key : Nat} {w : Word} {f : State → State} {s : State} (hm : regMaster m = true) (h : refusedWrite key m (requested s) = false)
    (hg : pageGated (requested s) (key / 0x10000) = false) : regCmd m key w f s = taken m key w f (requested s) := by
  simp only [regCmd, writeCmd, masterReach_page hm, Bool.not_true, h, Bool.false_eq_true, if_false]
  exact taken_congr (by simp [hg])

/-- Pages that are never gated. -/
theorem pageGated_of_page {s : State} {p : Nat} (h : p ≠ 0x0E ∧ p ≠ 0x10 ∧ p ≠ 0x11 ∧ p ≠ 0x12) : pageGated s p = false := by
  have h1 : (p == 0x0E) = false := by simp [h.1]
  have h2 : (p == 0x10) = false := by simp [h.2.1]
  have h3 : (p == 0x11) = false := by simp [h.2.2.1]
  have h4 : (p == 0x12) = false := by simp [h.2.2.2]
  simp [pageGated, h1, h2, h3, h4]

/-- Commands of registers that no gate and no restriction reaches. -/
theorem regCmd_plain {m key : Nat} {w : Word} {f : State → State} {s : State} (hm : regMaster m = true) (h : 0x101 ≤ key)
    (hp : key / 0x10000 ≠ 0x0E ∧ key / 0x10000 ≠ 0x10 ∧ key / 0x10000 ≠ 0x11 ∧ key / 0x10000 ≠ 0x12) :
    regCmd m key w f s = taken m key w f (requested s) :=
  regCmd_taken hm (refusedWrite_of_ge _ _ h) (pageGated_of_page hp)

theorem commitCmd_plain {m key : Nat} {w : Word} {f : State → State} {s : State} (hm : regMaster m = true) (h : 0x101 ≤ key) :
    commitCmd m key w f s = taken m key w f (requested s) :=
  commitCmd_taken hm (refusedWrite_of_ge _ _ h)

end Sys2Proof.Machine
end

