-- ==== Sys2Proof/Laws/Bus.lean ====
section
/-! SUPPORT. Sys2Proof/Laws/Bus.lean: a bus access to a register page is a read or a write of that register. -/
namespace Sys2Proof.Machine

theorem routeTo_page {off : Nat} (h : off < 2 ^ 28) (ha : off % 4 = 0) : routeTo (0x40000000 + off) 4 = some 4 := by
  have e : ∀ t, t < 9 → t ≠ 4 → (decide ((regionSpan t).1 ≤ 0x40000000 + off) &&
      decide (0x40000000 + off + 4 ≤ (regionSpan t).1 + (regionSpan t).2)) = false := by
    intro t ht h4
    have : t = 0 ∨ t = 1 ∨ t = 2 ∨ t = 3 ∨ t = 5 ∨ t = 6 ∨ t = 7 ∨ t = 8 := by omega
    rcases this with rfl | rfl | rfl | rfl | rfl | rfl | rfl | rfl <;> simp [regionSpan] <;> omega
  have e4 : (decide ((regionSpan 4).1 ≤ 0x40000000 + off) && decide (0x40000000 + off + 4 ≤ (regionSpan 4).1 + (regionSpan 4).2)) = true := by
    simp [regionSpan]; omega
  unfold routeTo
  rw [if_neg (by omega)]
  simp only [List.range, List.range.loop, List.find?, e 0 (by decide) (by decide), e 1 (by decide) (by decide), e 2 (by decide) (by decide),
    e 3 (by decide) (by decide), e4]

theorem masterReach_page_read {m : Nat} (h : anyMaster m = true) (h3 : m ≠ 3) : masterReach m 4 false = true := by
  simp only [anyMaster, Bool.or_eq_true, Bool.and_eq_true, decide_eq_true_eq] at h
  have : m = 0 ∨ m = 1 ∨ m = 2 ∨ m = 0x20 ∨ m = 0x21 ∨ m = 0x22 ∨ (8 ≤ m ∧ m ≤ 0x0F) ∨ (0x10 ≤ m ∧ m ≤ 0x1F) := by omega
  rcases this with rfl | rfl | rfl | rfl | rfl | rfl | h | h
  · decide
  · decide
  · decide
  · decide
  · decide
  · decide
  · have h0 : ¬ m = 0 := by omega
    have h1 : ¬ m = 1 := by omega
    have h2 : ¬ m = 2 := by omega
    have h3 : ¬ (m = 3 ∨ m = 35) := by omega
    simp [masterReach, h0, h1, h2, h3, h]
  · have h0 : ¬ m = 0 := by omega
    have h1 : ¬ m = 1 := by omega
    have h2 : ¬ m = 2 := by omega
    have h3 : ¬ (m = 3 ∨ m = 35) := by omega
    have h4 : ¬ (8 ≤ m ∧ m ≤ 15) := by omega
    simp [masterReach, h0, h1, h2, h3, h4, h]

/-- The four bytes of a word, all enabled. -/
theorem enabledCells_word (addr : Nat) (w : Word) :
    enabledCells addr 15 (fitBytes 4 (leBytes 4 w.toNat)) =
      [(addr, BitVec.ofNat 8 w.toNat), (addr + 1, BitVec.ofNat 8 (w.toNat / 256)), (addr + 2, BitVec.ofNat 8 (w.toNat / 256 / 256)),
       (addr + 3, BitVec.ofNat 8 (w.toNat / 256 / 256 / 256))] := by
  have e : ∀ i, i < 4 → Nat.testBit 15 i = true := by decide
  rw [fitBytes_of_length (by simp)]
  simp [enabledCells, leBytes, List.zipIdx, e 0, e 1, e 2, e 3]

theorem ofLe_enabledCells_word (addr : Nat) (w : Word) :
    BitVec.ofNat 32 (ofLe ((enabledCells addr 15 (fitBytes 4 (leBytes 4 w.toNat))).map Prod.snd)) = w := by
  have : (enabledCells addr 15 (fitBytes 4 (leBytes 4 w.toNat))).map Prod.snd = leBytes 4 w.toNat := by
    rw [enabledCells_word]; rfl
  rw [this, ofLe_leBytes]
  apply BitVec.eq_of_toNat_eq
  rw [BitVec.toNat_ofNat]
  have := w.isLt
  omega

/-- The page of a register offset exists or is a broadcast page. -/
abbrev pageAnswers (off : Nat) : Bool := pageExists (off / 0x10000) || isBroadcast (off / 0x10000)

/-- A bus write of a whole register word. -/
theorem busAccess_writeWord (b : Writer) {off : Nat} (w : Word) (s : State) (hm : regMaster b.master = true) (ho : off < 2 ^ 28)
    (ha : off % 4 = 0) (hp : pageAnswers off = true) (data : List Byte) (hd : data = leBytes 4 w.toNat) :
    busAccess b true (0x40000000 + off) 4 15 data s =
      (let r := if isBroadcast (off / 0x10000) then broadcastWrite b (off / 0x10000) (off % 0x10000) w (requested s)
        else pageWrite b off w (requested s)
       r.2.respond r.1 []) := by
  subst hd
  have hr := routeTo_page ho ha
  have hc := enabledCells_word (0x40000000 + off) w
  have hw := ofLe_enabledCells_word (0x40000000 + off) w
  have h4 : (0x40000000 + off) % 4 = 0 := by omega
  have hs : 0x40000000 + off - 0x40000000 = off := by omega
  have hb : busHolds s (0x40000000 + off) 4 = false := by simp [busHolds, hr]
  simp only [busAccess, hb, Bool.false_and, Bool.false_eq_true, if_false, busWrite, hr, if_true, masterReach_page hm, pageBusWrite, hs, hw]
  rw [hc]
  simp only [pageAnswers] at hp
  simp [hp, h4, requested]

end Sys2Proof.Machine
end

