-- ==== Sys2Proof/Laws/Dictionary.lean ====
section
/-! SUPPORT. Sys2Proof/Laws/Dictionary.lean: what draining the log's buffer leaves unchanged, and what a write of a command object does. -/
namespace Sys2Proof.Machine

/-! ## The log -/

/-- Two states differ in the change log alone (R564 to R567). -/
def SameButLog (s t : State) : Prop :=
  ∃ buf log next oldest, t = { s with dict := { s.dict with logBuf := buf, log := log, logNext := next, logOldest := oldest } }

theorem SameButLog.refl (s : State) : SameButLog s s := ⟨_, _, _, _, rfl⟩

theorem SameButLog.trans {s t u : State} (h : SameButLog s t) (g : SameButLog t u) : SameButLog s u := by
  obtain ⟨_, _, _, _, rfl⟩ := h
  obtain ⟨_, _, _, _, rfl⟩ := g
  exact ⟨_, _, _, _, rfl⟩

theorem logPutAt_same (t : List Byte) (c o n : Nat) (s : State) : SameButLog s (logPutAt t c o n s) := ⟨_, _, _, _, rfl⟩

theorem logPut_same (c o n : Nat) (s : State) : SameButLog s (logPut c o n s) := logPutAt_same _ _ _ _ s

theorem logDrain_same (s : State) : SameButLog s (logDrain s) := by
  have h : ∀ (l : List (List Byte)) (s : State), SameButLog s (l.foldl (fun s e =>
      logPutAt ((e.drop 16).take 12) (logCtrl 1 (leAt e 4 1) 0 (leAt e 0 4)) (leAt e 8 4) (leAt e 12 4) s) s) := by
    intro l
    induction l with
    | nil => exact SameButLog.refl
    | cons e r ih => exact fun s => (logPutAt_same _ _ _ _ s).trans (ih _)
  refine (h s.dict.logBuf s).trans ?_
  exact ⟨_, _, _, _, rfl⟩

@[simp] theorem logDrain_mgmt (s : State) : (logDrain s).mgmt = s.mgmt := by obtain ⟨_, _, _, _, h⟩ := logDrain_same s; rw [h]
@[simp] theorem logDrain_nvm (s : State) : (logDrain s).nvm = s.nvm := by obtain ⟨_, _, _, _, h⟩ := logDrain_same s; rw [h]
@[simp] theorem logDrain_regs (s : State) : (logDrain s).regs = s.regs := by obtain ⟨_, _, _, _, h⟩ := logDrain_same s; rw [h]
@[simp] theorem logDrain_staged (s : State) : (logDrain s).staged = s.staged := by obtain ⟨_, _, _, _, h⟩ := logDrain_same s; rw [h]
@[simp] theorem logDrain_objs (s : State) : (logDrain s).objs = s.objs := by obtain ⟨_, _, _, _, h⟩ := logDrain_same s; rw [h]
@[simp] theorem logDrain_pset (s : State) (n : Nat) : (logDrain s).pset n = s.pset n := by obtain ⟨_, _, _, _, h⟩ := logDrain_same s; rw [h]; rfl
@[simp] theorem logDrain_updPtr (s : State) : (logDrain s).dict.updPtr = s.dict.updPtr := by obtain ⟨_, _, _, _, h⟩ := logDrain_same s; rw [h]

/-! ## Command objects -/

/-- A WRITE of one command object whose value passes its checks and whose command is accepted: the command acts, and the write is logged
unless it is exempt (R536, R537, R564). `w` is the element checked, `k` its kind. -/
theorem dictWrite_command {origin session ix el : Nat} {value : List Byte} {bad : Bool} {w : ElemWrite} {k : OSpec} {f : State → State} {s : State}
    (hc : checkWrite origin 1 ix el 1 value = (St.ok, [w])) (hk : w.row.home = .spec k) (hw : elemWords w = []) (hp : w.row.persist = false)
    (hx : writeSpec k w origin session bad (logDrain s) = ((St.ok, []), f (logDrain s))) :
    dictWrite origin session ix el 1 value [] bad s =
      ((St.ok, []), logObject 0 origin session w (peekElem w (logDrain s)) (f (logDrain s))) := by
  unfold dictWrite
  rw [hc]
  dsimp only
  rw [if_neg (by simp)]
  unfold writeElems
  simp only [List.flatMap_cons, List.flatMap_nil, List.append_nil, hw, writeGroups, shadowGroups, List.filter_nil, List.foldl_nil,
    List.length_nil, List.isEmpty_nil, if_true, commitGroups]
  simp [writeAnswer, writeEach, writeElem, hk, hx, hw, hp]

/-- The same through the Lamplighter, as the statements say it. -/
theorem served_command {origin session jx ix el : Nat} {value : List Byte} {bad : Bool} {w : ElemWrite} {k : OSpec} {f : State → State} {s : State}
    (ht : takesOrigin s origin = true) (hr : s.flag Reg.NVM_STATUS_RECOVERY = false ∨ jx = 0xA000)
    (hc : checkWrite origin 1 ix el 1 value = (St.ok, [w])) (hk : w.row.home = .spec k) (hw : elemWords w = []) (hp : w.row.persist = false)
    (hx : writeSpec k w origin session bad (logDrain s) = ((St.ok, []), f (logDrain s))) :
    served origin jx (dictWrite origin session ix el 1 value [] bad) s = objectCommand origin session ix el value f s := by
  have h : ¬ (s.flag Reg.NVM_STATUS_RECOVERY = true ∧ jx ≠ 0x0000 ∧ jx ≠ 0xA000) := by
    rcases hr with h | h
    · simp [h]
    · simp [h]
  unfold served objectCommand
  rw [if_neg (by simp [ht]), if_neg h, dictWrite_command hc hk hw hp hx, hc]
  simp [leBytes, St.ok]

end Sys2Proof.Machine
end

