-- ==== Sys2Proof/Laws/Exec.lean ====
section
/-! SUPPORT. Sys2Proof/Laws/Exec.lean: what every command can answer. -/
namespace Sys2Proof.Machine

/-- A meaning is one of the two forms of Machine/Settle.lean, with the well-formedness of its command as its condition. -/
theorem exec_form (c : Instr) : ∃ f, (exec c = dev (wellFormed c) f ∧ pinCommand c = false) ∨ (exec c = pin (wellFormed c) f ∧ pinCommand c = true) := by
  cases c <;> exact ⟨_, by first | exact .inl ⟨rfl, rfl⟩ | exact .inr ⟨rfl, rfl⟩⟩

end Sys2Proof.Machine
end

