-- ==== Sys2Proof/Laws/Faults.lean ====
section
/-! SUPPORT. Sys2Proof/Laws/Faults.lean: everything that raising a fault can change (R602 to R614): registers of the fault collector, the
counters, the pair unit and the host interface, what is raised once, the state of those units, and the SNUFF marks of drains. -/
namespace Sys2Proof.Machine

/-- Pages whose registers a fault's collection may change: FLT, PMR, PAIR and HIF. -/
def faultPage (k : Nat) : Prop := k / 0x10000 = 3 ∨ k / 0x10000 = 4 ∨ k / 0x10000 = 5 ∨ k / 0x10000 = 0x0B

/-- Two states differ in what raising a fault may change. -/
def SameButFaults (s t : State) : Prop :=
  (∃ r o f p c b l j, t = { s with regs := r, onceRaised := o, flt := f, pair := p, pmr := c, time := { s.time with beaconActive := b },
                                   mgmt := { s.mgmt with life := l }, mnt := { s.mnt with jobs := j } }) ∧
  ∀ k, ¬ faultPage k → t.reg k = s.reg k

theorem SameButFaults.refl (s : State) : SameButFaults s s := ⟨⟨_, _, _, _, _, _, _, _, rfl⟩, fun _ _ => rfl⟩

theorem SameButFaults.trans {s t u : State} (h : SameButFaults s t) (g : SameButFaults t u) : SameButFaults s u := by
  obtain ⟨⟨r, o, f, p, c, b, l, j, rfl⟩, h2⟩ := h
  obtain ⟨⟨r', o', f', p', c', b', l', j', rfl⟩, g2⟩ := g
  exact ⟨⟨r', o', f', p', c', b', l', j', rfl⟩, fun k hk => (g2 k hk).trans (h2 k hk)⟩

theorem SameButFaults.setReg (s : State) {k : Nat} (w : Word) (h : faultPage k) : SameButFaults s (s.setReg k w) :=
  ⟨⟨_, _, _, _, _, _, _, _, rfl⟩, fun _ hj => reg_setReg_ne s w fun e => hj (e ▸ h)⟩

theorem SameButFaults.setF (s : State) {F : Field} (v : Nat) (h : faultPage F.key) : SameButFaults s (s.setF F v) := .setReg s _ h

theorem SameButFaults.setFlt (s : State) (f : FaultState) : SameButFaults s { s with flt := f } :=
  ⟨⟨_, _, _, _, _, _, _, _, rfl⟩, fun _ _ => rfl⟩

theorem SameButFaults.setPair (s : State) (p : PairState) : SameButFaults s { s with pair := p } :=
  ⟨⟨_, _, _, _, _, _, _, _, rfl⟩, fun _ _ => rfl⟩

theorem SameButFaults.setPmr (s : State) (c : PmrState) : SameButFaults s { s with pmr := c } :=
  ⟨⟨_, _, _, _, _, _, _, _, rfl⟩, fun _ _ => rfl⟩

theorem SameButFaults.setOnce (s : State) (k : Nat) (b : Bool) : SameButFaults s (s.setOnce k b) :=
  ⟨⟨_, _, _, _, _, _, _, _, rfl⟩, fun _ _ => rfl⟩

theorem SameButFaults.lifeAdd (s : State) (k n : Nat) : SameButFaults s (s.lifeAdd k n) :=
  ⟨⟨_, _, _, _, _, _, _, _, rfl⟩, fun _ _ => rfl⟩

theorem SameButFaults.intPend (s : State) (v : Nat) : SameButFaults s (s.intPend v) := .setReg s _ (.inr (.inr (.inr (by decide))))

theorem faultPage_flt {k : Nat} (h : k / 0x10000 = 3) : faultPage k := .inl h
theorem faultPage_pmr {k : Nat} (h : k / 0x10000 = 4) : faultPage k := .inr (.inl h)
theorem faultPage_pair {k : Nat} (h : k / 0x10000 = 5) : faultPage k := .inr (.inr (.inl h))
theorem faultPage_hif {k : Nat} (h : k / 0x10000 = 0x0B) : faultPage k := .inr (.inr (.inr h))

/-! ## The steps of a collection -/

theorem putWords_faults (n : Nat) : ∀ (s : State) (k : Nat) (l : List Byte), (∀ i, i < n → faultPage (k + 4 * i)) → SameButFaults s (putWords s k n l) := by
  induction n with
  | zero => intro s k l _; exact .refl s
  | succ n ih =>
    intro s k l h
    refine (SameButFaults.setReg s _ (h 0 (by omega))).trans (ih _ _ _ fun i hi => ?_)
    have := h (i + 1) (by omega)
    rwa [show k + 4 * (i + 1) = k + 4 + 4 * i by omega] at this

theorem keepMsg_faults (e : FaultEv) (sev : Nat) (s : State) : SameButFaults s (keepMsg e sev s) := by
  have hring : ∀ x : Nat, x < 1024 → ∀ i, i < 4 → faultPage ((Reg.FLT_RING0 x).key + 4 * i) := by
    intro x hx i hi
    refine .inl ?_
    simp only [Reg.FLT_RING0]
    omega
  have hfirst : ∀ i, i < 4 → faultPage ((Reg.FLT_FIRST_MSG 0).key + 4 * i) := by
    intro i hi
    refine .inl ?_
    simp only [Reg.FLT_FIRST_MSG]
    omega
  unfold keepMsg
  dsimp only
  have h1 := (putWords_faults 4 s _ (leBytes 16 (faultMsg s e sev s.flt.lost)) (hring _ (Nat.mod_lt (s.f Reg.FLT_RING_WR) (by decide)))).trans
    (SameButFaults.setF _ ((putWords s (Reg.FLT_RING0 (s.f Reg.FLT_RING_WR % 1024)).key 4 (leBytes 16 (faultMsg s e sev s.flt.lost))).f Reg.FLT_RING_WR + 1)
      (faultPage_flt (k := Reg.FLT_RING_WR.key) (by decide)))
  change SameButFaults s ((putMsg s (Reg.FLT_RING0 (s.f Reg.FLT_RING_WR % 1024)).key (faultMsg s e sev s.flt.lost)).incF Reg.FLT_RING_WR 1) at h1
  generalize (putMsg s (Reg.FLT_RING0 (s.f Reg.FLT_RING_WR % 1024)).key (faultMsg s e sev s.flt.lost)).incF Reg.FLT_RING_WR 1 = a at h1 ⊢
  generalize hb : ({ a with flt := _ } : State) = b
  have h2 : SameButFaults s b := h1.trans (hb ▸ SameButFaults.setFlt a _)
  split
  · refine h2.trans ((putWords_faults 4 b _ (leBytes 16 (faultMsg s e sev s.flt.lost)) hfirst).trans ?_)
    exact (((SameButFaults.setF _ _ (faultPage_flt (by decide))).trans (SameButFaults.setF _ _ (faultPage_flt (by decide)))).trans
      (SameButFaults.setF _ _ (faultPage_flt (by decide)))).trans (SameButFaults.setF _ _ (faultPage_flt (by decide)))
  · exact h2

theorem pairEnter_faults (st : Nat) (s : State) : SameButFaults s (pairEnter st s).1 := by
  unfold pairEnter
  split
  · exact .refl s
  · exact ((SameButFaults.setF s st (faultPage_pair (k := Reg.PAIR_STATUS_STATE.key) (by decide))).trans (.intPend _ 26)).trans
      (SameButFaults.setF _ _ (faultPage_pair (k := Reg.PAIR_STATUS_CLAIM_OUT.key) (by decide)))

theorem pairSnuff_faults (s : State) : SameButFaults s (pairSnuff s).1 := by
  unfold pairSnuff
  dsimp only
  split
  · exact ((SameButFaults.setPair s _).trans (SameButFaults.setF _ 0 (faultPage_pair (k := Reg.PAIR_STATUS_TRIM_PENDING.key) (by decide)))).trans
      (pairEnter_faults _ _)
  · exact .refl s

theorem snuffEnter_faults (s : State) : SameButFaults s (snuffEnter s).1 := by
  unfold snuffEnter
  split
  · exact .refl s
  · have h1 : SameButFaults s ((s.setF Reg.FLT_STATUS_SNUFFED 1).incF Reg.FLT_CNT_SNUFF 1) :=
      (SameButFaults.setF s 1 (faultPage_flt (k := Reg.FLT_STATUS_SNUFFED.key) (by decide))).trans
        (SameButFaults.setF _ _ (faultPage_flt (k := Reg.FLT_CNT_SNUFF.key) (by decide)))
    dsimp only
    generalize (s.setF Reg.FLT_STATUS_SNUFFED 1).incF Reg.FLT_CNT_SNUFF 1 = a at h1 ⊢
    have h2 : SameButFaults a (snuffDrains { a with flt := { a.flt with snuffOut := true }, time := { a.time with beaconActive := 0 } }) :=
      ⟨⟨_, _, _, _, _, _, _, _, rfl⟩, fun _ _ => rfl⟩
    generalize snuffDrains { a with flt := _, time := _ } = b at h2 ⊢
    have h3 : SameButFaults b (pairSnuff (((b.intPend 2).setF Reg.HIF_STATUS_SNUFFED 1).lifeAdd 12 1)).1 :=
      (((SameButFaults.intPend b 2).trans (SameButFaults.setF _ 1 (faultPage_hif (k := Reg.HIF_STATUS_SNUFFED.key) (by decide)))).trans
        (.lifeAdd _ 12 1)).trans (pairSnuff_faults _)
    generalize pairSnuff (((b.intPend 2).setF Reg.HIF_STATUS_SNUFFED 1).lifeAdd 12 1) = c at h3 ⊢
    split
    · exact ((h1.trans h2).trans h3).trans (SameButFaults.setF _ 1 (faultPage_flt (k := Reg.FLT_STATUS_LATCHED.key) (by decide)))
    · exact (h1.trans h2).trans h3

theorem snapTrigger_faults (cause domain slot trigger kind : Nat) (freeze : Bool) (s : State) :
    SameButFaults s (snapTrigger cause domain slot trigger kind freeze s).1 := by
  unfold snapTrigger
  dsimp only
  have h1 : SameButFaults s (if freeze then s.setF Reg.PMR_STATUS_FROZEN 1 else s) := by
    split
    · exact .setF s 1 (faultPage_pmr (k := Reg.PMR_STATUS_FROZEN.key) (by decide))
    · exact .refl s
  generalize (if freeze then s.setF Reg.PMR_STATUS_FROZEN 1 else s) = a at h1 ⊢
  split
  · exact h1.trans (SameButFaults.setPmr a _)
  split
  · exact (h1.trans (SameButFaults.setF a _ (faultPage_pmr (k := Reg.PMR_CNT_SNAP_LOST.key) (by decide)))).trans (.setOnce _ _ _)
  · exact (h1.trans (SameButFaults.setPmr a _)).trans (SameButFaults.setF _ 1 (faultPage_pmr (k := Reg.PMR_STATUS_COLLECTING.key) (by decide)))

theorem collectKeep_faults (e : FaultEv) (sev : Nat) (s : State) (h : e.kind < 4096) : SameButFaults s (collectKeep e sev s).1 := by
  have h1 : SameButFaults s (s.incF (Reg.FLT_KIND_CNT e.kind) 1) := .setF s _ (faultPage_flt (by simp only [Reg.FLT_KIND_CNT]; omega))
  unfold collectKeep
  dsimp only
  generalize s.incF (Reg.FLT_KIND_CNT e.kind) 1 = a at h1 ⊢
  split
  · exact ((h1.trans (SameButFaults.setF a _ (faultPage_flt (k := Reg.FLT_CNT_DROP.key) (by decide)))).trans
      (.setOnce _ Reg.FLT_RING_WR.key true)).trans (.setFlt _ _)
  · exact h1.trans (keepMsg_faults e sev a)

theorem collectSnap_faults (e : FaultEv) (sev : Nat) (s : State) : SameButFaults s (collectSnap e sev s).1 := by
  unfold collectSnap
  split
  · exact snapTrigger_faults _ _ _ _ _ _ s
  · exact .refl s

theorem collectReset_faults (e : FaultEv) (sev : Nat) (lost : Bool) (s : State) : SameButFaults s (collectReset e sev lost s) := by
  have hw : ∀ i, i < 4 → faultPage ((Reg.FLT_LAST_C4_MSG 0).key + 4 * i) := fun i hi => faultPage_flt (by simp only [Reg.FLT_LAST_C4_MSG]; omega)
  unfold collectReset
  dsimp only
  split
  · exact .setFlt s _
  · split
    · exact (putWords_faults 4 s _ (leBytes 16 (faultMsg s e sev lost)) hw).trans (.setFlt _ _)
    · exact .refl s

/-- One event's collection (R602 to R608). Its kind's code has 12 bits. -/
theorem collectOne_faults (e : FaultEv) (s : State) (h : e.kind < 4096) : SameButFaults s (collectOne e s).1 := by
  have h1 := collectKeep_faults e (classOf s e.kind) s h
  unfold collectOne
  dsimp only
  generalize collectKeep e (classOf s e.kind) s = a at h1 ⊢
  have h2 : SameButFaults a.1 (if actingClass (classOf s e.kind) e.src ≥ 1 then a.1.intPend 1 else a.1) := by
    split
    · exact .intPend a.1 1
    · exact .refl a.1
  generalize (if actingClass (classOf s e.kind) e.src ≥ 1 then a.1.intPend 1 else a.1) = b at h2 ⊢
  have h3 := collectSnap_faults e (classOf s e.kind) b
  generalize collectSnap e (classOf s e.kind) b = d at h3 ⊢
  have h4 : SameButFaults d.1 (if actingClass (classOf s e.kind) e.src = 2 ∨ actingClass (classOf s e.kind) e.src = 4 then snuffEnter d.1 else (d.1, [])).1 := by
    split
    · exact snuffEnter_faults d.1
    · exact .refl d.1
  exact (((h1.trans h2).trans h3).trans h4).trans (collectReset_faults _ _ _ _)

/-! ## Raising -/

theorem pairEnter_kinds (st : Nat) (s : State) : ∀ x ∈ (pairEnter st s).2, x.kind < 4096 := by
  intro x hx
  unfold pairEnter at hx
  split at hx
  · simp at hx
  · dsimp only at hx
    split at hx
    · simp only [List.mem_singleton] at hx
      subst hx
      decide
    · simp at hx

/-- Every event a collection raises is of a kind of 12 bits. -/
theorem collectOne_kinds (e : FaultEv) (s : State) : ∀ x ∈ (collectOne e s).2, x.kind < 4096 := by
  have hp : ∀ s : State, ∀ x ∈ (pairSnuff s).2, x.kind < 4096 := by
    intro s x hx
    unfold pairSnuff at hx
    dsimp only at hx
    split at hx
    · exact pairEnter_kinds _ _ x hx
    · simp at hx
  have hs : ∀ s : State, ∀ x ∈ (snuffEnter s).2, x.kind < 4096 := by
    intro s x hx
    unfold snuffEnter at hx
    split at hx
    · simp at hx
    · dsimp only at hx
      split at hx
      · simp only [List.mem_append, List.mem_singleton] at hx
        rcases hx with hx | rfl
        · exact hp _ x hx
        · decide
      · exact hp _ x hx
  intro x hx
  unfold collectOne at hx
  simp only [List.mem_append] at hx
  rcases hx with (hx | hx) | hx
  · unfold collectKeep at hx
    dsimp only at hx
    split at hx
    · dsimp only at hx
      split at hx
      · simp at hx
      · simp only [List.mem_singleton] at hx; subst hx; decide
    · simp at hx
  · generalize (if actingClass (classOf s e.kind) e.src ≥ 1 then (collectKeep e (classOf s e.kind) s).1.intPend 1
      else (collectKeep e (classOf s e.kind) s).1) = b at hx
    unfold collectSnap at hx
    split at hx
    · dsimp only at hx
      split at hx
      · simp only [List.mem_singleton] at hx; subst hx; decide
      · simp at hx
    · simp at hx
  · split at hx
    · exact hs _ x hx
    · simp at hx

theorem collect_faults (n : Nat) : ∀ (l : List FaultEv) (s : State), (∀ x ∈ l, x.kind < 4096) → SameButFaults s (collect n l s) := by
  induction n with
  | zero => intro l s _; exact .refl s
  | succ n ih =>
    intro l s h
    cases l with
    | nil => exact .refl s
    | cons e r =>
      have h1 := collectOne_faults e s (h e (by simp))
      have h2 := collectOne_kinds e s
      change SameButFaults s (collect n (r ++ (collectOne e s).2) (collectOne e s).1)
      generalize collectOne e s = a at h1 h2 ⊢
      refine h1.trans (ih _ _ fun x hx => ?_)
      rcases List.mem_append.1 hx with hx | hx
      · exact h x (by simp [hx])
      · exact h2 x hx

/-- Everything that raising a fault can change. -/
theorem raise_faults (e : FaultEv) (s : State) (h : e.kind < 4096) : SameButFaults s (raise e s) :=
  collect_faults 8 [e] s (by simpa using h)

/-! ## What such a change leaves -/

theorem SameButFaults.same {s t : State} (h : SameButFaults s t) : Memory.same s t := by
  obtain ⟨⟨r, o, f, p, c, b, l, j, rfl⟩, _⟩ := h
  exact ⟨rfl, rfl, rfl, rfl, rfl, rfl, rfl⟩

theorem SameButFaults.f {s t : State} (h : SameButFaults s t) {F : Field} (hF : ¬ faultPage F.key) : t.f F = s.f F := by
  simp [State.f, h.2 _ hF]

theorem SameButFaults.rest {s t : State} (h : SameButFaults s t) :
    t.pending = s.pending ∧ t.staged = s.staged ∧ t.hiLatch = s.hiLatch ∧ t.objs = s.objs ∧ t.resp = s.resp ∧ t.out = s.out ∧ t.fresh = s.fresh ∧
      t.sched = s.sched ∧ t.bring = s.bring ∧ t.links = s.links ∧ t.lens = s.lens ∧ t.lmp = s.lmp ∧ t.stg = s.stg ∧ t.lan = s.lan ∧ t.mnt.slots = s.mnt.slots ∧
      t.can = s.can ∧ t.dma = s.dma ∧ t.mem = s.mem ∧ t.hif = s.hif ∧ t.dict = s.dict ∧ t.nvm = s.nvm := by
  obtain ⟨⟨r, o, f, p, c, b, l, j, rfl⟩, _⟩ := h
  simp

end Sys2Proof.Machine
end

