-- ==== Sys2Proof/Laws/Lamp.lean ====
section
/-! SUPPORT. Sys2Proof/Laws/Lamp.lean: a lamp in the state, results put in flight, and what the issue of a legal instruction comes to. -/
namespace Sys2Proof.Machine

/-! ## The store of lamps -/

@[simp] theorem lamp_setLamp_same (s : State) (n : Nat) (l : Lamp) : (s.setLamp n l).lamp n = l := mapGet_mapSet_same _ _ _ _

theorem lamp_setLamp_ne (s : State) {n k : Nat} (l : Lamp) (h : k ≠ n) : (s.setLamp n l).lamp k = s.lamp k := mapGet_mapSet_ne _ _ _ h _

theorem mapIns_mapIns {β : Type} (k : Nat) (v w : β) (m : List (Nat × β)) : mapIns k w (mapIns k v m) = mapIns k w m := by
  induction m with
  | nil => simp [mapIns]
  | cons p r ih =>
    obtain ⟨k', v'⟩ := p
    by_cases h : k' < k
    · simp [mapIns, h, ih]
    · by_cases e : k' = k
      · subst e; simp [mapIns]
      · simp [mapIns, h, e]

/-- Of two lamps stored that both have results in flight, the later stands. -/
theorem setLamp_setLamp (s : State) (n : Nat) (l k : Lamp) (hl : l ≠ Lamp.reset) (hk : k ≠ Lamp.reset) :
    (s.setLamp n l).setLamp n k = s.setLamp n k := by
  simp [State.setLamp, mapSet, hl, hk, mapIns_mapIns]

theorem ne_reset_of_flight {l : Lamp} (h : l.flight ≠ []) : l ≠ Lamp.reset := fun e => h (e ▸ rfl)

/-- What is read of lamps and registers does not see the counters of R653. -/
theorem SameButCounters.lamp {s t : State} (h : SameButCounters s t) (n : Nat) : t.lamp n = s.lamp n := by
  obtain ⟨r, h1, _⟩ := h
  subst h1; rfl

/-! ## Results in flight -/

theorem updLamp_fly (n k : Nat) (d : LandDest) (b : Bool) (s : State) :
    updLamp n (fun l => l.fly k d b) s = lampFlies n [{ delay := k, dest := d, sat := b }] s := rfl

theorem lampFlies_lampFlies (n : Nat) (f g : List Flight) (s : State) (hf : f ≠ []) (hg : g ≠ []) :
    lampFlies n g (lampFlies n f s) = lampFlies n (f ++ g) s := by
  unfold lampFlies
  rw [lamp_setLamp_same, setLamp_setLamp]
  · simp
  · exact ne_reset_of_flight (by simp [hf])
  · exact ne_reset_of_flight (by simp [hg])

theorem lamp_lampFlies (n : Nat) (f : List Flight) (s : State) : (lampFlies n f s).lamp n = { s.lamp n with flight := (s.lamp n).flight ++ f } :=
  lamp_setLamp_same _ _ _

/-! ## Issue -/

theorem lampIssued_lamp (n : Nat) (s : State) : (lampIssued n s).lamp n = (issueTick n s).lamp n := (perfEvent_same _ _ _ _).lamp n

theorem lampIssued_f (n : Nat) (s : State) {F : Field} (h : F.key < 0x4C000 ∨ 0x4F200 ≤ F.key) :
    (lampIssued n s).f F = (issueTick n s).f F := (perfEvent_same _ _ _ _).f h

theorem lampIssued_pc (n : Nat) (s : State) : lampPc (lampIssued n s) n = lampPc (issueTick n s) n :=
  lampIssued_f n s (by simp only [Reg.LMP_PC]; omega)

/-- A legal instruction other than halt, issued on a RUNNING lamp. -/
theorem lampIssue_ready {n : Nat} {op : LampOp} {err : Nat} {s : State} (h : lampReady n op s) (hh : op ≠ .halt) :
    lampIssue n op err s = lampGoesOn n op (branchTarget ((lampIssued n s).lamp n) (lampPc (lampIssued n s) n) op) (lampIssued n s)
      (lampExec n op err (lampIssued n s)) := by
  obtain ⟨h1, h2⟩ := h
  rw [lampIssue, if_pos h1, issueCore]
  simp only [h2, Bool.false_eq_true, if_false, hh, lampGoesOn, lampIssued_pc]
  change haltCheck n (if !lampRunning (lampExec n op err (lampIssued n s)) n then _ else _) = _
  cases lampRunning (lampExec n op err (lampIssued n s)) n <;> rfl

end Sys2Proof.Machine
end

