-- ==== Sys2Proof/Laws/Memory.lean ====
section
/-! SUPPORT. Sys2Proof/Laws/Memory.lean: the byte and word stores are in canonical form at reset, and every operation that writes one
keeps the form. -/
namespace Sys2Proof.Machine

/-- The form depends on the seven stores alone. -/
theorem Memory.wf_of_same {s t : State} (h : Memory.same s t) : Memory.wf t = Memory.wf s := by
  obtain ⟨h1, h2, h3, h4, h5, h6, h7⟩ := h
  simp only [Memory.wf, h1, h2, h3, h4, h5, h6, h7]

theorem Memory.wf_reset : Memory.wf State.reset = true := by decide +kernel

/-- A list of writes keeps the form, however each computes its key and value. -/
theorem mapWf_foldl {α β : Type} [DecidableEq β] (d : β) (g : List (Nat × β) → α → List (Nat × β))
    (hg : ∀ m x, mapWf (fun _ => d) m = true → mapWf (fun _ => d) (g m x) = true) :
    ∀ (l : List α) (m : List (Nat × β)), mapWf (fun _ => d) m = true → mapWf (fun _ => d) (l.foldl g m) = true := by
  intro l
  induction l with
  | nil => intro m h; exact h
  | cons x r ih => intro m h; exact ih _ (hg m x h)

/-! ## LPDDR6 -/

theorem dramPoke_wf (l : List (Nat × Byte)) (s : State) (h : Memory.wf s = true) : Memory.wf (dramPoke l s) = true := by
  simp only [Memory.wf, Bool.and_eq_true, dramPoke] at h ⊢
  refine ⟨⟨⟨⟨⟨⟨mapWf_foldl 0 _ (fun m x hm => ?_) _ _ h.1.1.1.1.1.1, h.1.1.1.1.1.2⟩, h.1.1.1.1.2⟩, h.1.1.1.2⟩, h.1.1.2⟩, h.1.2⟩, h.2⟩
  split
  · exact mapWf_mapSet (fun _ => 0) x.1 x.2 m hm
  · exact hm

theorem perfEvent_wf (b c n : Nat) (s : State) : Memory.wf (perfEvent b c n s) = Memory.wf s := by
  obtain ⟨_, h, _⟩ := perfEvent_same b c n s; rw [h]; exact Memory.wf_of_same ⟨rfl, rfl, rfl, rfl, rfl, rfl, rfl⟩

theorem raise_wf (e : FaultEv) (s : State) (h : e.kind < 4096) : Memory.wf (raise e s) = Memory.wf s :=
  Memory.wf_of_same (raise_faults e s h).same

theorem bmxFault_wf (kind target addr access master : Nat) (s : State) (h : kind < 4096) :
    Memory.wf (bmxFault kind target addr access master s) = Memory.wf s := by
  unfold bmxFault
  dsimp only
  rw [raise_wf _ _ h]
  split
  · exact Memory.wf_of_same ⟨rfl, rfl, rfl, rfl, rfl, rfl, rfl⟩
  · rfl

theorem injectCheck_wf (src sub chk : Nat) (s : State) : Memory.wf (injectCheck src sub chk s).2 = Memory.wf s := by
  unfold injectCheck
  split
  · rfl
  · split
    · dsimp only
      split
      · exact Memory.wf_of_same ⟨rfl, rfl, rfl, rfl, rfl, rfl, rfl⟩
      · exact Memory.wf_of_same ⟨rfl, rfl, rfl, rfl, rfl, rfl, rfl⟩
    · rfl

theorem memErr_wf (kind off access master : Nat) (inj : Bool) (cnt : Field) (latch : Bool) (s : State) (h : kind < 4096) :
    Memory.wf (memErr kind off access master inj cnt latch s) = Memory.wf s := by
  unfold memErr
  rw [raise_wf _ _ h]
  split
  · exact Memory.wf_of_same ⟨rfl, rfl, rfl, rfl, rfl, rfl, rfl⟩
  · exact Memory.wf_of_same ⟨rfl, rfl, rfl, rfl, rfl, rfl, rfl⟩

theorem memHalf_wf (half err off access master : Nat) (s : State) : Memory.wf (memHalf half err off access master s).2 = Memory.wf s := by
  unfold memHalf
  dsimp only
  split
  · exact injectCheck_wf _ _ _ s
  · split
    · rw [memErr_wf FK.MEM_CE _ _ _ _ _ _ _ (by decide), injectCheck_wf]
    · rw [memErr_wf FK.MEM_UE _ _ _ _ _ _ _ (by decide), injectCheck_wf]

theorem writeBack_wf (access : Nat) (s : State) : Memory.wf (writeBack access s) = Memory.wf s := by
  unfold writeBack
  split
  · exact perfEvent_wf _ _ _ s
  · rfl

theorem burstCheck_wf (off e0 e1 : Nat) (tag : Bool) (access master : Nat) (s : State) :
    Memory.wf (burstCheck off e0 e1 tag access master s).2 = Memory.wf s := by
  unfold burstCheck
  dsimp only
  split
  · split
    · rw [memErr_wf FK.MEM_TAG _ _ _ _ _ _ _ (by decide), injectCheck_wf, memHalf_wf, memHalf_wf]
    · split
      · rw [writeBack_wf, injectCheck_wf, memHalf_wf, memHalf_wf]
      · rw [injectCheck_wf, memHalf_wf, memHalf_wf]
  · rw [injectCheck_wf, memHalf_wf, memHalf_wf]

theorem burstOf_wf (base : Nat) (e : MemErrs) (access master : Nat) (s : State) (b : Nat) :
    Memory.wf (burstOf base e access master s b).2 = Memory.wf s := burstCheck_wf _ _ _ _ _ _ s

theorem burstChecks_wf (base : Nat) (l : List Nat) (e : MemErrs) (access master : Nat) (s : State) :
    Memory.wf (burstChecks base l e access master s).2 = Memory.wf s := by
  have key : ∀ (l : List Nat) (a : Bool × State), Memory.wf (l.foldl (fun (a : Bool × State) b =>
      let r := burstOf base e access master a.2 b; (a.1 && r.1, r.2)) a).2 = Memory.wf a.2 := by
    intro l
    induction l with
    | nil => intro a; rfl
    | cons b r ih => intro a; exact (ih _).trans (burstOf_wf _ _ _ _ _ _)
  exact key l (true, s)

theorem countMerges_wf (n : Nat) (s : State) : Memory.wf (countMerges n s) = Memory.wf s := by
  unfold countMerges
  split
  · rfl
  · rw [perfEvent_wf, perfEvent_wf]

theorem mergePoke_wf (l : List Nat) (slip : Nat) (s : State) (h : Memory.wf s = true) : Memory.wf (mergePoke l slip s) = true := by
  have key : ∀ (l : List Nat) (t : State), Memory.wf t = true →
      Memory.wf (l.foldl (fun s b => dramPoke (atOffset b (slipPeek s b 32 slip)) s) t) = true := by
    intro l
    induction l with
    | nil => intro t ht; exact ht
    | cons b r ih => intro t ht; exact ih _ (dramPoke_wf _ _ ht)
  unfold mergePoke
  split
  · exact h
  · exact key l s h

theorem serveRead_wf (q : MemReq) (e : MemErrs) (s : State) : Memory.wf (serveRead q e s).2 = Memory.wf s := by
  have key : ∀ (l : List (Nat × Nat)) (a : ReadAns × State), Memory.wf (l.foldl (fun (a : ReadAns × State) p =>
      let (ok, s) := burstChecks q.off (burstList p.1 p.2) e q.access q.master a.2
      let bs := if ok then slipPeek s p.1 p.2 e.slip else zeros p.2
      ((a.1.1 && ok, a.1.2 ++ bs), s.emit (.memAnswer q.master p.1 ok bs))) a).2 = Memory.wf a.2 := by
    intro l
    induction l with
    | nil => intro a; rfl
    | cons p r ih =>
      intro a
      refine (ih _).trans ?_
      exact (Memory.wf_of_same ⟨rfl, rfl, rfl, rfl, rfl, rfl, rfl⟩).trans (burstChecks_wf q.off (burstList p.1 p.2) e q.access q.master a.2)
  exact (key _ _).trans (perfEvent_wf _ _ _ s)

theorem serveWrite_wf (q : MemReq) (e : MemErrs) (s : State) (h : Memory.wf s = true) : Memory.wf (serveWrite q e s).2 = true := by
  have key : ∀ (l : List Nat) (a : List Nat × State), Memory.wf (l.foldl (fun (a : List Nat × State) b =>
      let r := burstOf q.off e 2 q.master a.2 b
      (if r.1 then a.1 else b :: a.1, r.2)) a).2 = Memory.wf a.2 := by
    intro l
    induction l with
    | nil => intro a; rfl
    | cons b r ih => intro a; exact (ih _).trans (burstOf_wf _ _ _ _ _ _)
  refine (Memory.wf_of_same ⟨rfl, rfl, rfl, rfl, rfl, rfl, rfl⟩).trans
    (dramPoke_wf _ _ (mergePoke_wf _ _ _ (((perfEvent_wf _ _ _ _).trans ((key _ _).trans (countMerges_wf _ s))).trans h)))

/-- Serving a request keeps the form. -/
theorem memServe_wf (q : MemReq) (e : MemErrs) (s : State) (h : Memory.wf s = true) : Memory.wf (memServe q e s).2 = true := by
  unfold memServe
  split
  · exact serveWrite_wf q e s h
  · exact (serveRead_wf q e s).trans h

theorem memTake_wf (c : Nat) (q : MemReq) (s : State) : Memory.wf (memTake c q s) = Memory.wf s := by
  unfold memTake
  dsimp only
  split
  · exact (Memory.wf_of_same ⟨rfl, rfl, rfl, rfl, rfl, rfl, rfl⟩).trans (perfEvent_wf _ _ _ s)
  · exact Memory.wf_of_same ⟨rfl, rfl, rfl, rfl, rfl, rfl, rfl⟩

theorem memQueue_wf (q : MemReq) (s : State) : Memory.wf (memQueue q s) = Memory.wf s :=
  Memory.wf_of_same ⟨rfl, rfl, rfl, rfl, rfl, rfl, rfl⟩

theorem srOut_wf (c : Nat) (s : State) : Memory.wf (srOut c s) = Memory.wf s := by
  unfold srOut srRetrained srWake
  dsimp only
  split
  · split <;> split <;> exact Memory.wf_of_same ⟨rfl, rfl, rfl, rfl, rfl, rfl, rfl⟩
  · rfl

theorem memUntil_wf (n c : Nat) (q : MemReq) (e : MemErrs) : ∀ s : State, Memory.wf s = true → Memory.wf (memUntil n c q e s).2 = true := by
  have serve (e : MemErrs) (p : MemReq) (t : State) (h : Memory.wf t = true) : Memory.wf (memServe p e (memTake c p t)).2 = true :=
    memServe_wf p e _ ((memTake_wf c p t).trans h)
  induction n with
  | zero => exact fun s h => serve e q s h
  | succ n ih =>
    intro s h
    unfold memUntil
    split
    · exact serve e q s h
    · dsimp only
      split
      · exact serve e q _ h
      · split
        · exact serve e q _ h
        · exact ih _ (serve _ _ _ h)

theorem memAccess_wf (q : MemReq) (e : MemErrs) (s : State) (h : Memory.wf s = true) : Memory.wf (memAccess q e s).2 = true := by
  unfold memAccess
  dsimp only
  split
  · exact h
  · exact memUntil_wf _ _ _ _ _ ((memQueue_wf _ _).trans ((srOut_wf _ s).trans h))

/-- An access of LPDDR6 keeps the form, and so does every write of the data path. -/
theorem dramAccess_wf (master access off n : Nat) (cells : List (Nat × Byte)) (e : MemErrs) (s : State) (h : Memory.wf s = true) :
    Memory.wf (dramAccess master access off n cells e s).2 = true := by
  have key : ∀ (l : List (Nat × Nat)) (a : ReadAns × State), Memory.wf a.2 = true → Memory.wf (l.foldl (fun (a : ReadAns × State) p =>
      let q := memReq a.2 master access p.1 p.2 (cells.filter fun c => decide (p.1 ≤ c.1) && decide (c.1 < p.1 + p.2))
      let r := memAccess q (e.from (p.1 / 32 - off / 32)) a.2
      ((a.1.1 && r.1.1, a.1.2 ++ r.1.2), r.2)) a).2 = true := by
    intro l
    induction l with
    | nil => intro a ha; exact ha
    | cons p r ih =>
      intro a ha
      rw [List.foldl_cons]
      refine ih _ ?_
      exact memAccess_wf _ _ _ ha
  by_cases hb : off + n > dramBytes s
  · simp only [dramAccess, hb, if_true]
    rw [bmxFault_wf FK.BMX_DECODE 8 (0x1000000000 + off) access master s (by decide)]
    exact h
  · by_cases hr : memReady s = true
    · simp only [dramAccess, hb, hr, if_false, Bool.not_true, Bool.false_eq_true]
      exact key _ _ h
    · simp only [dramAccess, hb, hr, if_false, Bool.not_false, if_true]
      exact h

theorem granulePut_wf (master : Nat) (g : List (Nat × Byte)) (s : State) (h : Memory.wf s = true) :
    Memory.wf (granulePut master g s) = true := by
  rw [granulePut]
  exact dramAccess_wf _ _ _ _ _ _ s h

theorem dramPut_wf (master : Nat) (l : List (Nat × Byte)) (s : State) (h : Memory.wf s = true) : Memory.wf (dramPut master l s) = true := by
  rw [dramPut]
  induction granules l generalizing s with
  | nil => exact h
  | cons g r ih =>
    rw [List.foldl_cons]
    exact ih _ (granulePut_wf master g s h)

theorem dramOut_wf (off : Nat) (bs : List Byte) (s : State) (h : Memory.wf s = true) : Memory.wf (dramOut off bs s) = true := by
  rw [dramOut]
  exact dramPut_wf _ _ s h

/-! ## Lamp memories -/

theorem storeWords_wf (n : Nat) (ws : List (Nat × Nat)) (s : State) (h : Memory.wf s = true) : Memory.wf (storeWords n ws s) = true := by
  simp only [Memory.wf, Bool.and_eq_true, storeWords] at h ⊢
  exact ⟨⟨⟨h.1.1.1, mapWf_foldl 0 _ (fun m x hm => mapWf_mapSet (fun _ => 0) _ _ m hm) _ _ h.1.1.2⟩, h.1.2⟩, h.2⟩

theorem setLamp_wf (n : Nat) (l : Lamp) (s : State) : Memory.wf (s.setLamp n l) = Memory.wf s := rfl

theorem landAllOf_wf (n : Nat) (fs : List Flight) (s : State) (h : Memory.wf s = true) : Memory.wf (landAllOf n fs s) = true := by
  have key : ∀ (l : List Flight) (t : State), Memory.wf t = true → Memory.wf (l.foldl (fun s f => storeWords n f.memWords s) t) = true := by
    intro l
    induction l with
    | nil => intro t h; exact h
    | cons f r ih => intro t h; exact ih _ (storeWords_wf n _ t h)
  exact key fs _ h

theorem landTick_wf (n : Nat) (s : State) (h : Memory.wf s = true) : Memory.wf (landTick n s) = true := landAllOf_wf n _ _ h

theorem landAll_wf (n : Nat) (s : State) (h : Memory.wf s = true) : Memory.wf (landAll n s) = true := landAllOf_wf n _ _ h

theorem p9Put_wf (n g r : Nat) (v : Byte) (m : List (Nat × Nat)) (h : mapWf (fun _ => 0) m = true) : mapWf (fun _ => 0) (p9Put n g r v m) = true :=
  mapWf_foldl 0 _ (fun m _ hm => mapWf_mapSet (fun _ => 0) _ _ m hm) _ m h

/-- A bus write into a lamp's window, refused or not. -/
theorem lampMemWrite_wf (master n o len : Nat) (cells : List (Nat × Byte)) (s : State) (h : Memory.wf s = true) :
    Memory.wf (lampMemWrite master n o len cells s).2 = true := by
  have h0 := h
  simp only [Memory.wf, Bool.and_eq_true] at h
  obtain ⟨⟨⟨⟨⟨⟨h1, h2⟩, h3⟩, h4⟩, h5⟩, h6⟩, h7⟩ := h
  unfold lampMemWrite
  dsimp only
  split
  · simp only [Memory.wf, setLmp, Bool.and_eq_true]
    exact ⟨⟨⟨⟨⟨⟨h1, h2⟩, h3⟩, h4⟩, mapWf_foldl 0 _ (fun m x hm => mapWf_mapSet (fun _ => 0) _ _ m hm) _ _ h5⟩, h6⟩, h7⟩
  · split
    · split
      · exact h0
      · simp only [Memory.wf, setLmp, Bool.and_eq_true]
        exact ⟨⟨⟨⟨⟨⟨h1, h2⟩, h3⟩, h4⟩, h5⟩, mapWf_foldl 0 _ (fun m x hm => mapWf_mapSet (fun _ => 0) _ _ m hm) _ _ h6⟩, h7⟩
    · split
      · split
        · generalize he : ({ kind := FK.LMP_IMEM_BUSY, src := _, sub := _, addr := _, access := _, master := _, injected := _ } : FaultEv) = e
          have hk : e.kind < 4096 := by rw [← he]; show FK.LMP_IMEM_BUSY < 4096; decide
          exact (Memory.wf_of_same (raise_faults e s hk).same).trans h0
        · simp only [Memory.wf, setLmp, Bool.and_eq_true]
          exact ⟨⟨⟨⟨⟨⟨h1, h2⟩, h3⟩, h4⟩, h5⟩, h6⟩, mapWf_foldl 0 _ (fun m x hm => mapWf_mapSet (fun _ => 0) _ _ m hm) _ _ h7⟩
      · split
        · simp only [Memory.wf, setLmp, Bool.and_eq_true]
          exact ⟨⟨⟨⟨⟨⟨h1, h2⟩, h3⟩, h4⟩, mapWf_foldl 0 _ (fun m x hm => p9Put_wf _ _ _ _ m hm) _ _ h5⟩, h6⟩, h7⟩
        · exact h0

/-! ## The Lamplighter's SRAM, MRAM and the staging SRAM -/

theorem putSram_wf (cells : List (Nat × Byte)) (s : State) (h : Memory.wf s = true) : Memory.wf (putSram cells s) = true := by
  simp only [Memory.wf, Bool.and_eq_true, putSram] at h ⊢
  exact ⟨⟨⟨⟨⟨⟨h.1.1.1.1.1.1, mapWf_foldl 0 _ (fun m x hm => mapWf_mapSet (fun _ => 0) _ _ m hm) _ _ h.1.1.1.1.1.2⟩, h.1.1.1.1.2⟩, h.1.1.1.2⟩,
    h.1.1.2⟩, h.1.2⟩, h.2⟩

/-- MRAM bytes written at an address. -/
theorem setNvm_wf (a : Nat) (bs : List Byte) (s : State) (h : Memory.wf s = true) :
    Memory.wf (setNvm (fun n => { n with bytes := mapSetList 0 n.bytes a bs }) s) = true := by
  simp only [Memory.wf, Bool.and_eq_true, setNvm] at h ⊢
  exact ⟨⟨⟨⟨⟨h.1.1.1.1.1, mapWf_mapSetList 0 bs _ a h.1.1.1.1.2⟩, h.1.1.1.2⟩, h.1.1.2⟩, h.1.2⟩, h.2⟩

theorem nvmPut_wf (a : Nat) (bs : List Byte) (s : State) (h : Memory.wf s = true) : Memory.wf (nvmPut a bs s) = true := by
  unfold nvmPut
  split
  · exact h
  · exact setNvm_wf a bs s h

theorem nvmFinish_wf (s : State) (h : Memory.wf s = true) : Memory.wf (nvmFinish s) = true := by
  unfold nvmFinish
  split
  · exact h
  · exact setNvm_wf _ _ s h

theorem nvmWriteComplete_wf (bad : Nat) (s : State) (h : Memory.wf s = true) : Memory.wf (nvmWriteComplete bad s) = true := by
  unfold nvmWriteComplete
  split
  · exact h
  · rename_i a w _
    dsimp only
    split
    · exact setNvm_wf a (leBytes 8 w) (mgmtSet (fun m => { m with nvmWrite := none }) (s.setF Reg.NVM_STATUS_BUSY 0)) h
    · refine (Memory.wf_of_same (raise_faults _ _ (show FK.NVM_WRITE_FAIL < 4096 by decide)).same).trans ?_
      exact setNvm_wf a _ (mgmtSet (fun m => { m with nvmWrite := none }) (s.setF Reg.NVM_STATUS_BUSY 0)).draw.2 h

/-- The staging SRAM written at an address, as a sample is stored. -/
theorem setStgSram_wf (a : Nat) (bs : List Byte) (s : State) (h : Memory.wf s = true) :
    Memory.wf { s with stg := { s.stg with sram := mapSetList 0 s.stg.sram a bs } } = true := by
  simp only [Memory.wf, Bool.and_eq_true] at h ⊢
  exact ⟨⟨⟨⟨h.1.1.1.1, mapWf_mapSetList 0 bs _ a h.1.1.1.2⟩, h.1.1.2⟩, h.1.2⟩, h.2⟩

/-- Device reset, power-on reset included: MRAM keeps its form, the other stores are empty. -/
theorem resetAll_wf (power : Bool) (s : State) (h : Memory.wf s = true) : Memory.wf (resetAll power s) = true := by
  have h1 := nvmFinish_wf s h
  have h2 : mapWf (fun _ => (0 : Byte)) (nvmFinish s).nvm.bytes = true := by
    simp only [Memory.wf, Bool.and_eq_true] at h1
    exact h1.1.1.1.1.2
  have h3 : Memory.wf (resetAll power s) = mapWf (fun _ => (0 : Byte)) (nvmFinish s).nvm.bytes := by
    cases power <;>
      simp [resetAll, Memory.wf, State.reset, MemState.reset, Mgmt.reset, StgState.reset, LampState.reset, mapWf]
  rw [h3, h2]

end Sys2Proof.Machine
end

