-- ==== Sys2Proof/Tests/Slice0.lean ====
section
/-! SUPPORT. Sys2Proof/Tests/Slice0.lean: tests of the model: terms that the well-formedness check refuses, the spec's worked examples, and,
for every statement, states and operands that meet its hypotheses. -/
namespace Sys2Proof.Tests
open Sys2Proof.Machine
set_option Elab.async false

/-! ## Well-formedness: for every check of every command, a term that only that check refuses -/

/-- A byte string of n zeros. -/
def rep (n : Nat) : List Byte := List.replicate n 0

theorem test_wellFormed_accepts0 : ([
  .registerWrite 1 0 0 [] 0, .broadcastWrite 1 0x800000 0, .broadcastRead 1 0x800000, .busAccess 1 true 0 1 0 [] 0 [], .peripheralTimeout 1 0 true,
  .bmxCntUndefRead 1, .topRemapSwap 1, .timeCtrlSrcWrite 1 0, .ptpMessage 0 [], .ptpForward 0 0 (rep 34), .stepNow 1, .stepAtPps 1, .sdCommit 1 0,
  .tb0Capture 1, .beaconFall 0, .slotArm 1 0 0, .slotCancel 1 0, .slotDeliver 0, .actionStarve 0, .dumpBoundary 0, .lensTableSwap 0,
  .lampTableSwap 0 0, .weightTableSwap 0, .applySet 0, .delayStep 0, .beacon 0, .captureFreeze 0, .counterSnapshot 0, .beamEnable 0, .beamDisable 0,
  .trim 0, .lampEvent 0 0, .headWick 0 true 0 0 0 0, .bodyWick 0 true 0 0 (rep 120) [], .bodyLastWick 0 true 0 0 (rep 120) [] true,
  .idleWick 0 true 0 0, .ctrlWick 0 true 0 0 (rep 120), .trainWick 0 true 0 0 (rep 120), .creditSyncWick 0 true 0 0 (rep 120),
  .flaggedIdleWick 0 true 0 0, .wickCrcFail 0 true 0 (rep 120), .wickTransmit 0, .clockAcquired 0, .equaliserAdapted 0, .trainStageTimeout 0 true,
  .ffeFallback 0, .backoffExpiry 0, .clockActivityStart 0, .groupClockLoss 0 true, .creditReset 0, .retrain 1 0, .sendRetrainReq 1 0,
  .laneClearCnt 1 0, .lnkCommit 1 0, .retrainAll 1 0, .egrCommit 1, .egressPacket 0 true, .countMarker 0, .deskewDone 0,
  .reservedTypeWick 0 true 0 0 8 (rep 120), .prbsLock 0 [], .lensCommit 1, .lensCoefData 1 0, .lensSeal 1, .lensUnseal 1, .lensSwapNow 1,
  .lensResetPtr 1, .lensOutputCount 0, .lampRun 1 0, .lampHalt 1 0, .lampStep 1 0 0, .lampReset 1 0, .lmpDoorbell 1 0 0, .lmpCommit 1 0,
  .lampSeal 1 0, .lampUnseal 1 0, .lampSwapNow 1 0, .dbgDataWrite 1 0 0, .interruptEntry 0, .lampTimerExpiry 0, .fetchComplete 0 0, .outboxRead 0,
  .soutRecordEnter 0 true, .illegalInstruction 0 0, .nop 0, .halt 0, .b 0 0 0, .call 0 0, .jr 0 0 0, .reti 0, .loop 0 0 0 0, .loopReg 0 0 0 0,
  .add 0 0 0 0, .sub 0 0 0 0, .and 0 0 0 0, .or 0 0 0 0, .xor 0 0 0 0, .lsl 0 0 0 0, .asr 0 0 0 0, .lsr 0 0 0 0, .addImm 0 0 0 0, .movImm 0 0 0,
  .movh 0 0 0, .cmp 0 0 0, .cmpImm 0 0 0, .getl 0 0 0 0, .setl 0 0 0 0, .rsum 0 0 0 0 0, .geta 0 0 0 0 0, .obx 0 0, .addAImm 0 0 0, .movAS 0 0 0,
  .movSA 0 0 0, .movMS 0 0 0, .movAImm 0 0 0, .movlM 0 0 0, .movhM 0 0 0, .mts 0 0 0, .mfs 0 0 0, .ld 0 0 0 0 0 0 0] : List Instr).all wellFormed = true := by decide +kernel

theorem test_wellFormed_accepts1 : ([
  .st 0 0 0 0 0 0, .ldc 0 0 0 0 0 0 0, .ldcb 0 0 0 0 0 0 0, .ldS 0 0 0 0 0 0 0, .stS 0 0 0 0 0 0, .ldw 0 0 0 0 0 0 0, .stw 0 0 0 0 0 0, .sin 0 0,
  .sout 0 0, .pass 0, .xmul 0 0 0 0 0 0 0, .tap 0 0 0 0 0 0 0 0, .srch 0 0 0 0 0 0, .srchi 0, .fetch 0 0 0 0 0 0 0, .vadd 0 0 0 0, .vsub 0 0 0 0,
  .vmin 0 0 0 0, .vmax 0 0 0 0, .vand 0 0 0 0, .vor 0 0 0 0, .vxor 0 0 0 0, .vasr 0 0 0 0 0, .vlsl 0 0 0 0, .bcast 0 0 0, .mul 0 0 0 0 0 0,
  .mpy 0 0 0 0 0, .mac 0 0 0 0 0, .msu 0 0 0 0 0, .pwr 0 0 0, .rnd 0 0 0 0, .stgCommit 1, .stgClearCnt 1, .windowTimeout 0 0, .verdictWaitExpiry 0 0,
  .windowHandOut 0 0, .capArm 1, .capStop 1, .freezeNow 1, .lanCommit 1, .lanReseed 1, .taskDispatch 0, .taskStart 0, .taskComplete 0,
  .lanDebugWrite 1 0x300 0, .promotion 0 0 [], .notice 0, .periodEndMarker 0 0, .slotDrain 0 [], .dumpCopyComplete 0, .slotClear 0, .tagSet 0,
  .mntCommit 1, .canCommit 1, .blockSkewTimeout 0 0, .canWData 1 0, .copyLive 1, .canSeal 1, .canUnseal 1, .canSwapNow 1, .dmaStart 1 0,
  .dmaDoorbell 1 0 0 [], .dmaAbort 1 0, .dmaClearCnt 1 0, .dmaEnWrite 1 true, .descriptorFetch 0 0 [], .readBurst 0 true, .writeBurst 0,
  .readResponse 0 0 0 [], .writeAck 0 0 0, .descriptorEnd 0 0 [] [], .cmpRdWrite 1 0 0 0 [], .memInit 1, .memTrainingComplete 0, .periodicRetrain 0,
  .periodicRetrainComplete 0, .fspReq 1, .fspInvalidate 1, .fspRateWrite 1 0 0, .fspSwitchComplete 0, .tempPoll (List.replicate 8 0), .srEntry 0,
  .srExit 0 true, .memRequest 6 1 true 0 1 [], .memIssue 0 0 0 0, .burstReadCheck 0 0 0 0 1, .patrolScrub 0 0 0, .memCommit 1,
  .memErrAddrRead 1, .hifLinkUp 0 0 true true, .hifLinkDown 0, .hifRetrain 1, .configRequest true (.read 0), .bar0Access true 0 1 0 0 [],
  .apertureAccess true 0 1 0 [] 0, .cxlMemRead 0 0, .cxlMemWrite 0 0 (rep 64) 0, .snoop 0, .mbxDoorbell 1, .msixMessage 0, .bar2Access true 0 0,
  .zmpDatagram 0 0 0 0 [] [] true, .read 0 0 0 0 1, .write 0 0 0 0 1 [] [] true, .writeStaged 0 0 0 0 0 1 [], .applyNow 0 0 0,
  .applyScheduled 0 0 0 0 0 0 0 0, .subscribe 0 0 0 1 0 0, .blockRead 0 0 0 0 0, .blockWrite 0 0 0 0 0 [], .logRead 0 0 0, .discover 0 0 0,
  .notifySend 0 0, .sessionTimeout 0, .psetClear 0 0 0, .psetApplyNow 0 0 0, .psetCheck 0 0 0, .restoreDefaults 0 0 0, .bootRomStart [2 ^ 20 - 1] [0x1C2000] [0x1C0000],
  .firmwareInit [0x100000] [0x140000]] : List Instr).all wellFormed = true := by decide +kernel

theorem test_wellFormed_accepts2 : ([
  .lamplighterReset 0, .nvmWordWrite 1 0 true, .nvmWriteComplete 0, .nvmErrAddrRead 1, .thermalSample (List.replicate 32 0),
  .voltageSample (List.replicate 24 0), .eyeStart 1 0, .eyeComplete 0 0, .lifetimeClear 0, .updateBegin 0 0, .updateCommit 0 0 true,
  .updateActivate 0 0, .updateConfirm 0 0, .updateRevert 0 0, .updateAbort 0 0, .faultEvent FK.TIME_HOLDOVER 0 0 0 0 0, .snuffNow 1, .snuffClear 1,
  .firstClear 1, .fltCommit 1, .injectArm 1, .injectCancel 1, .pairHoldWrite 1 true, .pairCommit 1, .pairClearCnt 1, .heartbeat (rep 16),
  .dumpDigest (rep 24), .beamDigest (rep 16), .digestWaitTimeout 0 0 0, .snapNow 1, .pmrFreeze 1, .pmrUnfreeze 1, .clearAll 1, .pmrCommit 1,
  .snapLostRead 1, .resetRelease 0 0 true, .resetKey 1 0, .pllUnlock 0, .topPersSel 1 0, .watchdogEnable 1, .watchdogKick 1, .trstN true 0,
  .pllLock 0, .managementPortLink 0 true, .managementFrame 0 true true [], .dhcpMessage 0 0 0, .registerWrite 9 1 0 [] 7, .broadcastRead 1 0x800001, .read 0 0 0 0xFF 2, .subscribe 0 0 0 0 3 0] : List Instr).all wellFormed = true := by decide +kernel

theorem test_wellFormed_refuses0 : ([
  .registerWrite 4 0 0 [] 0, .registerWrite 1 (2 ^ 28) 0 [] 0, .broadcastWrite 4 0x800000 0, .broadcastWrite 1 0x7fffff 0,
  .broadcastWrite 1 0x840000 0, .broadcastRead 4 0x800000, .broadcastRead 1 0x7fffff, .broadcastRead 1 0x840000, .busAccess 4 true 0 1 0 [] 0 [],
  .busAccess 1 true (2 ^ 64) 1 0 [] 0 [], .busAccess 1 true 0 0 0 [] 0 [], .busAccess 1 true 0 257 0 [] 0 [], .peripheralTimeout 4 0 true,
  .peripheralTimeout 1 (2 ^ 48) true, .bmxCntUndefRead 4, .topRemapSwap 4, .timeCtrlSrcWrite 4 0, .ptpMessage 4 [], .ptpMessage 0 (rep 1501),
  .ptpForward 4 0 (rep 34), .ptpForward 0 (2 ^ 48) (rep 34), .ptpForward 0 0 (rep 33), .ptpForward 0 0 (rep 1501), .stepNow 4, .stepAtPps 4,
  .sdCommit 4 0, .sdCommit 1 4, .tb0Capture 4, .beaconFall 4, .slotArm 4 0 0, .slotArm 1 256 0, .slotCancel 4 0, .slotCancel 1 256, .slotDeliver 256,
  .actionStarve 256, .dumpBoundary 256, .lensTableSwap 256, .lampTableSwap 256 0, .lampTableSwap 0 64, .weightTableSwap 256, .applySet 256,
  .delayStep 256, .beacon 256, .captureFreeze 256, .counterSnapshot 256, .beamEnable 256, .beamDisable 256, .trim 256, .lampEvent 256 0,
  .lampEvent 0 64, .headWick 128 true 0 0 0 0, .headWick 0 true 1024 0 0 0, .headWick 0 true 0 256 0 0, .bodyWick 128 true 0 0 (rep 120) [],
  .bodyWick 0 true 1024 0 (rep 120) [], .bodyWick 0 true 0 256 (rep 120) [], .bodyWick 0 true 0 0 (rep 119) [],
  .bodyLastWick 128 true 0 0 (rep 120) [] true, .bodyLastWick 0 true 1024 0 (rep 120) [] true, .bodyLastWick 0 true 0 256 (rep 120) [] true,
  .bodyLastWick 0 true 0 0 (rep 119) [] true, .idleWick 128 true 0 0, .idleWick 0 true 1024 0, .idleWick 0 true 0 256,
  .ctrlWick 128 true 0 0 (rep 120), .ctrlWick 0 true 1024 0 (rep 120), .ctrlWick 0 true 0 256 (rep 120), .ctrlWick 0 true 0 0 (rep 119),
  .trainWick 128 true 0 0 (rep 120), .trainWick 0 true 1024 0 (rep 120), .trainWick 0 true 0 256 (rep 120), .trainWick 0 true 0 0 (rep 119),
  .creditSyncWick 128 true 0 0 (rep 120), .creditSyncWick 0 true 1024 0 (rep 120), .creditSyncWick 0 true 0 256 (rep 120),
  .creditSyncWick 0 true 0 0 (rep 119), .flaggedIdleWick 128 true 0 0, .flaggedIdleWick 0 true 1024 0, .flaggedIdleWick 0 true 0 256,
  .wickCrcFail 128 true 0 (rep 120), .wickCrcFail 0 true (2 ^ 32) (rep 120), .wickCrcFail 0 true 0 (rep 119), .wickTransmit 128, .clockAcquired 16,
  .equaliserAdapted 128, .trainStageTimeout 128 true, .ffeFallback 128, .backoffExpiry 128, .clockActivityStart 16, .groupClockLoss 16 true] : List Instr).all (fun c => !wellFormed c) = true := by decide +kernel

theorem test_wellFormed_refuses1 : ([
  .creditReset 128, .retrain 4 0, .retrain 1 128, .sendRetrainReq 4 0, .sendRetrainReq 1 128, .laneClearCnt 4 0, .laneClearCnt 1 128, .lnkCommit 4 0,
  .lnkCommit 1 16, .retrainAll 4 0, .retrainAll 1 16, .egrCommit 4, .egressPacket 256 true, .countMarker 256, .deskewDone 128,
  .reservedTypeWick 128 true 0 0 8 (rep 120), .reservedTypeWick 0 true 1024 0 8 (rep 120), .reservedTypeWick 0 true 0 256 8 (rep 120),
  .reservedTypeWick 0 true 0 0 7 (rep 120), .reservedTypeWick 0 true 0 0 16 (rep 120), .reservedTypeWick 0 true 0 0 8 (rep 119), .prbsLock 128 [],
  .lensCommit 4, .lensCoefData 4 0, .lensSeal 4, .lensUnseal 4, .lensSwapNow 4, .lensResetPtr 4, .lensOutputCount (2 ^ 64), .lampRun 4 0,
  .lampRun 1 64, .lampHalt 4 0, .lampHalt 1 64, .lampStep 4 0 0, .lampStep 1 64 0, .lampReset 4 0, .lampReset 1 64, .lmpDoorbell 4 0 0,
  .lmpDoorbell 1 64 0, .lmpDoorbell 1 0 (2 ^ 16), .lmpCommit 4 0, .lmpCommit 1 64, .lampSeal 4 0, .lampSeal 1 64, .lampUnseal 4 0, .lampUnseal 1 64,
  .lampSwapNow 4 0, .lampSwapNow 1 64, .dbgDataWrite 4 0 0, .dbgDataWrite 1 64 0, .interruptEntry 64, .lampTimerExpiry 64, .fetchComplete 64 0,
  .outboxRead 64, .soutRecordEnter 64 true, .illegalInstruction 64 0, .illegalInstruction 0 (2 ^ 32), .nop 64, .halt 64, .b 64 0 0, .b 0 16 0,
  .b 0 0 8192, .call 64 0, .call 0 8192, .jr 64 0 0, .jr 0 16 0, .jr 0 0 16, .reti 64, .loop 64 0 0 0, .loop 0 4 0 0, .loop 0 0 8192 0,
  .loop 0 0 0 2048, .loopReg 64 0 0 0, .loopReg 0 4 0 0, .loopReg 0 0 8192 0, .loopReg 0 0 0 16, .add 64 0 0 0, .add 0 16 0 0, .add 0 0 16 0,
  .add 0 0 0 16, .sub 64 0 0 0, .sub 0 16 0 0, .sub 0 0 16 0, .sub 0 0 0 16, .and 64 0 0 0, .and 0 16 0 0, .and 0 0 16 0, .and 0 0 0 16,
  .or 64 0 0 0, .or 0 16 0 0] : List Instr).all (fun c => !wellFormed c) = true := by decide +kernel

theorem test_wellFormed_refuses2 : ([
  .or 0 0 16 0, .or 0 0 0 16, .xor 64 0 0 0, .xor 0 16 0 0, .xor 0 0 16 0, .xor 0 0 0 16, .lsl 64 0 0 0, .lsl 0 16 0 0, .lsl 0 0 16 0, .lsl 0 0 0 64,
  .asr 64 0 0 0, .asr 0 16 0 0, .asr 0 0 16 0, .asr 0 0 0 64, .lsr 64 0 0 0, .lsr 0 16 0 0, .lsr 0 0 16 0, .lsr 0 0 0 64, .addImm 64 0 0 0,
  .addImm 0 16 0 0, .addImm 0 0 16 0, .addImm 0 0 0 (2 ^ 18), .movImm 64 0 0, .movImm 0 16 0, .movImm 0 0 (2 ^ 18), .movh 64 0 0, .movh 0 16 0,
  .movh 0 0 (2 ^ 18), .cmp 64 0 0, .cmp 0 16 0, .cmp 0 0 16, .cmpImm 64 0 0, .cmpImm 0 16 0, .cmpImm 0 0 (2 ^ 18), .getl 64 0 0 0, .getl 0 16 0 0,
  .getl 0 0 16 0, .getl 0 0 0 16, .setl 64 0 0 0, .setl 0 16 0 0, .setl 0 0 16 0, .setl 0 0 0 16, .rsum 64 0 0 0 0, .rsum 0 16 0 0 0,
  .rsum 0 0 4 0 0, .rsum 0 0 0 64 0, .rsum 0 0 0 0 4, .geta 64 0 0 0 0, .geta 0 16 0 0 0, .geta 0 0 4 0 0, .geta 0 0 0 16 0, .geta 0 0 0 0 4,
  .obx 64 0, .obx 0 16, .addAImm 64 0 0, .addAImm 0 8 0, .addAImm 0 0 (2 ^ 18), .movAS 64 0 0, .movAS 0 8 0, .movAS 0 0 16, .movSA 64 0 0,
  .movSA 0 8 0, .movSA 0 0 16, .movMS 64 0 0, .movMS 0 8 0, .movMS 0 0 16, .movAImm 64 0 0, .movAImm 0 8 0, .movAImm 0 0 (2 ^ 18), .movlM 64 0 0,
  .movlM 0 8 0, .movlM 0 0 4096, .movhM 64 0 0, .movhM 0 8 0, .movhM 0 0 4096, .mts 64 0 0, .mts 0 16 0, .mts 0 0 128, .mfs 64 0 0, .mfs 0 16 0,
  .mfs 0 0 128, .ld 64 0 0 0 0 0 0, .ld 0 16 0 0 0 0 0, .ld 0 0 8 0 0 0 0, .ld 0 0 0 8 0 0 0, .ld 0 0 0 0 4 0 0, .ld 0 0 0 0 0 (2 ^ 14) 0,
  .st 64 0 0 0 0 0, .st 0 16 0 0 0 0, .st 0 0 8 0 0 0] : List Instr).all (fun c => !wellFormed c) = true := by decide +kernel

theorem test_wellFormed_refuses3 : ([
  .st 0 0 0 8 0 0, .st 0 0 0 0 4 0, .st 0 0 0 0 0 (2 ^ 14), .ldc 64 0 0 0 0 0 0, .ldc 0 16 0 0 0 0 0, .ldc 0 0 8 0 0 0 0, .ldc 0 0 0 8 0 0 0,
  .ldc 0 0 0 0 4 0 0, .ldc 0 0 0 0 0 (2 ^ 14) 0, .ldcb 64 0 0 0 0 0 0, .ldcb 0 16 0 0 0 0 0, .ldcb 0 0 8 0 0 0 0, .ldcb 0 0 0 8 0 0 0,
  .ldcb 0 0 0 0 4 0 0, .ldcb 0 0 0 0 0 (2 ^ 14) 0, .ldS 64 0 0 0 0 0 0, .ldS 0 16 0 0 0 0 0, .ldS 0 0 8 0 0 0 0, .ldS 0 0 0 8 0 0 0,
  .ldS 0 0 0 0 4 0 0, .ldS 0 0 0 0 0 (2 ^ 14) 0, .stS 64 0 0 0 0 0, .stS 0 16 0 0 0 0, .stS 0 0 8 0 0 0, .stS 0 0 0 8 0 0, .stS 0 0 0 0 4 0,
  .stS 0 0 0 0 0 (2 ^ 14), .ldw 64 0 0 0 0 0 0, .ldw 0 16 0 0 0 0 0, .ldw 0 0 8 0 0 0 0, .ldw 0 0 0 8 0 0 0, .ldw 0 0 0 0 4 0 0,
  .ldw 0 0 0 0 0 (2 ^ 14) 0, .stw 64 0 0 0 0 0, .stw 0 16 0 0 0 0, .stw 0 0 8 0 0 0, .stw 0 0 0 8 0 0, .stw 0 0 0 0 4 0, .stw 0 0 0 0 0 (2 ^ 14),
  .sin 64 0, .sin 0 16, .sout 64 0, .sout 0 16, .pass 64, .xmul 64 0 0 0 0 0 0, .xmul 0 64 0 0 0 0 0, .xmul 0 0 2 0 0 0 0, .xmul 0 0 0 8 0 0 0,
  .xmul 0 0 0 0 8 0 0, .xmul 0 0 0 0 0 4 0, .tap 64 0 0 0 0 0 0 0, .tap 0 4 0 0 0 0 0 0, .tap 0 0 16 0 0 0 0 0, .tap 0 0 0 8 0 0 0 0,
  .tap 0 0 0 0 8 0 0 0, .tap 0 0 0 0 0 4 0 0, .tap 0 0 0 0 0 0 4096 0, .srch 64 0 0 0 0 0, .srch 0 16 0 0 0 0, .srch 0 0 8 0 0 0, .srch 0 0 0 8 0 0,
  .srch 0 0 0 0 4 0, .srch 0 0 0 0 0 (2 ^ 14), .srchi 64, .fetch 64 0 0 0 0 0 0, .fetch 0 16 0 0 0 0 0, .fetch 0 0 16 0 0 0 0, .fetch 0 0 0 8 0 0 0,
  .fetch 0 0 0 0 64 0 0, .fetch 0 0 0 0 0 2 0, .fetch 0 0 0 0 0 0 2, .vadd 64 0 0 0, .vadd 0 16 0 0, .vadd 0 0 16 0, .vadd 0 0 0 16, .vsub 64 0 0 0,
  .vsub 0 16 0 0, .vsub 0 0 16 0, .vsub 0 0 0 16, .vmin 64 0 0 0, .vmin 0 16 0 0, .vmin 0 0 16 0, .vmin 0 0 0 16, .vmax 64 0 0 0, .vmax 0 16 0 0,
  .vmax 0 0 16 0, .vmax 0 0 0 16, .vand 64 0 0 0, .vand 0 16 0 0, .vand 0 0 16 0] : List Instr).all (fun c => !wellFormed c) = true := by decide +kernel

theorem test_wellFormed_refuses4 : ([
  .vand 0 0 0 16, .vor 64 0 0 0, .vor 0 16 0 0, .vor 0 0 16 0, .vor 0 0 0 16, .vxor 64 0 0 0, .vxor 0 16 0 0, .vxor 0 0 16 0, .vxor 0 0 0 16,
  .vasr 64 0 0 0 0, .vasr 0 16 0 0 0, .vasr 0 0 16 0 0, .vasr 0 0 0 64 0, .vasr 0 0 0 0 2, .vlsl 64 0 0 0, .vlsl 0 16 0 0, .vlsl 0 0 16 0,
  .vlsl 0 0 0 64, .bcast 64 0 0, .bcast 0 16 0, .bcast 0 0 16, .mul 64 0 0 0 0 0, .mul 0 16 0 0 0 0, .mul 0 0 16 0 0 0, .mul 0 0 0 16 0 0,
  .mul 0 0 0 0 64 0, .mul 0 0 0 0 0 2, .mpy 64 0 0 0 0, .mpy 0 4 0 0 0, .mpy 0 0 16 0 0, .mpy 0 0 0 16 0, .mpy 0 0 0 0 2, .mac 64 0 0 0 0,
  .mac 0 4 0 0 0, .mac 0 0 16 0 0, .mac 0 0 0 16 0, .mac 0 0 0 0 2, .msu 64 0 0 0 0, .msu 0 4 0 0 0, .msu 0 0 16 0 0, .msu 0 0 0 16 0,
  .msu 0 0 0 0 2, .pwr 64 0 0, .pwr 0 4 0, .pwr 0 0 16, .rnd 64 0 0 0, .rnd 0 16 0 0, .rnd 0 0 4 0, .rnd 0 0 0 64, .stgCommit 4, .stgClearCnt 4,
  .windowTimeout 4 0, .windowTimeout 0 (2 ^ 64), .verdictWaitExpiry 4 0, .verdictWaitExpiry 0 (2 ^ 64), .windowHandOut 4 0, .windowHandOut 0 512,
  .capArm 4, .capStop 4, .freezeNow 4, .lanCommit 4, .lanReseed 4, .taskDispatch 4, .taskStart 256, .taskComplete 256, .lanDebugWrite 4 0x300 0,
  .lanDebugWrite 1 0x304 0, .lanDebugWrite 1 0x330 0, .lanDebugWrite 1 0x301 0, .promotion 4 0 [], .notice 4, .periodEndMarker 4 0,
  .periodEndMarker 0 256, .slotDrain 8448 [], .dumpCopyComplete 4, .slotClear 8448, .tagSet 8448, .mntCommit 4, .canCommit 4, .blockSkewTimeout 16 0,
  .blockSkewTimeout 0 (2 ^ 64), .canWData 4 0, .copyLive 4, .canSeal 4, .canUnseal 4, .canSwapNow 4, .dmaStart 4 0, .dmaStart 1 16,
  .dmaDoorbell 4 0 0 [], .dmaDoorbell 1 16 0 []] : List Instr).all (fun c => !wellFormed c) = true := by decide +kernel

theorem test_wellFormed_refuses5 : ([
  .dmaAbort 4 0, .dmaAbort 1 16, .dmaClearCnt 4 0, .dmaClearCnt 1 16, .dmaEnWrite 4 true, .descriptorFetch 16 0 [], .readBurst 16 true,
  .writeBurst 16, .readResponse 16 0 0 [], .writeAck 16 0 0, .descriptorEnd 16 0 [] [], .cmpRdWrite 4 0 0 0 [], .cmpRdWrite 1 16 0 0 [],
  .cmpRdWrite 1 0 (2 ^ 17) 0 [], .memInit 4, .memTrainingComplete 256, .periodicRetrain 8, .periodicRetrainComplete 8, .fspReq 4, .fspInvalidate 4,
  .fspRateWrite 4 0 0, .fspRateWrite 1 2 0, .fspRateWrite 1 0 8, .fspSwitchComplete 256, .tempPoll (List.replicate 7 0), .srEntry 8, .srExit 8 true,
  .memRequest 5 1 true 0 1 [], .memRequest 6 4 true 0 1 [], .memRequest 6 1 true (2 ^ 40) 1 [], .memRequest 6 1 true 0 0 [],
  .memRequest 6 1 true 0 257 [], .memIssue 8 0 0 0, .burstReadCheck (2 ^ 40) 0 0 0 1, .burstReadCheck 1 0 0 0 1, .burstReadCheck 0 0 0 0 4,
  .memCommit 4, .memErrAddrRead 4, .hifLinkUp 3 0 true true, .hifLinkUp 0 4 true true, .hifLinkDown 65, .hifRetrain 4,
  .configRequest true (.read 4096), .configRequest true (.write 4096 0), .configRequest true (.write 0 (2 ^ 32)),
  .configRequest true (.control true true (2 ^ 52) true), .configRequest true (.control true true 1 true), .bar0Access true (2 ^ 28) 1 0 0 [], .bar0Access true 0 0 0 0 [],
  .bar0Access true 0 65 0 0 [], .apertureAccess true (2 ^ 20) 1 0 [] 0, .apertureAccess true 0 0 0 [] 0, .apertureAccess true 0 65 0 [] 0,
  .cxlMemRead (2 ^ 52) 0, .cxlMemWrite (2 ^ 52) 0 (rep 64) 0, .cxlMemWrite 0 (2 ^ 64) (rep 64) 0, .cxlMemWrite 0 0 (rep 63) 0, .snoop (2 ^ 52),
  .mbxDoorbell 4, .msixMessage 32, .bar2Access true 0x40000 0, .bar2Access true 1 0, .zmpDatagram 2 0 0 0 [] [] true,
  .zmpDatagram 0 (2 ^ 32) 0 0 [] [] true, .zmpDatagram 0 0 (2 ^ 16) 0 [] [] true, .zmpDatagram 0 0 0 (2 ^ 32) [] [] true,
  .zmpDatagram 0 0 0 0 (rep 1473) [] true, .read 4 0 0 0 1, .read 0 8 0 0 1, .read 0 0 (2 ^ 16) 0 1, .read 0 0 0 256 1, .read 0 0 0 0 256,
  .write 4 0 0 0 1 [] [] true, .write 0 8 0 0 1 [] [] true, .write 0 0 (2 ^ 16) 0 1 [] [] true, .write 0 0 0 256 1 [] [] true,
  .write 0 0 0 0 256 [] [] true, .write 0 0 0 0 1 (rep 4073) [] true, .writeStaged 4 0 0 0 0 1 [], .writeStaged 0 4 0 0 0 1 [],
  .writeStaged 0 0 8 0 0 1 [], .writeStaged 0 0 0 (2 ^ 16) 0 1 [], .writeStaged 0 0 0 0 256 1 [], .writeStaged 0 0 0 0 0 256 [],
  .writeStaged 0 0 0 0 0 1 (rep 4073), .applyNow 4 0 0, .applyNow 0 8 0, .applyNow 0 0 4, .applyScheduled 4 0 0 0 0 0 0 0,
  .applyScheduled 0 8 0 0 0 0 0 0, .applyScheduled 0 0 4 0 0 0 0 0] : List Instr).all (fun c => !wellFormed c) = true := by decide +kernel

theorem test_wellFormed_refuses6 : ([
  .applyScheduled 0 0 0 256 0 0 0 0, .applyScheduled 0 0 0 0 0 0 (2 ^ 64) 0, .applyScheduled 0 0 0 0 0 0 0 (2 ^ 32), .subscribe 8 0 0 1 0 0,
  .subscribe 0 (2 ^ 16) 0 1 0 0, .subscribe 0 0 256 1 0 0, .subscribe 0 0 0 256 0 0, .subscribe 0 0 0 1 0 (2 ^ 16), .blockRead 4 0 0 0 0,
  .blockRead 0 (2 ^ 16) 0 0 0, .blockRead 0 0 256 0 0, .blockRead 0 0 0 (2 ^ 64) 0, .blockRead 0 0 0 0 (2 ^ 32), .blockWrite 4 0 0 0 0 [],
  .blockWrite 0 8 0 0 0 [], .blockWrite 0 0 (2 ^ 16) 0 0 [], .blockWrite 0 0 0 256 0 [], .blockWrite 0 0 0 0 (2 ^ 64) [],
  .blockWrite 0 0 0 0 0 (rep 4065), .logRead 4 0 0, .logRead 0 (2 ^ 64) 0, .logRead 0 0 (2 ^ 16), .discover (2 ^ 32) 0 0, .discover 0 (2 ^ 16) 0,
  .discover 0 0 (2 ^ 32), .notifySend 8 0, .notifySend 0 32, .sessionTimeout 8, .psetClear 4 0 0, .psetClear 0 8 0, .psetClear 0 0 4,
  .psetApplyNow 4 0 0, .psetApplyNow 0 8 0, .psetApplyNow 0 0 4, .psetCheck 4 0 0, .psetCheck 0 8 0, .psetCheck 0 0 4, .restoreDefaults 4 0 0,
  .restoreDefaults 0 8 0, .restoreDefaults 0 0 (2 ^ 32), .bootRomStart [2 ^ 20] [] [], .bootRomStart [] [5] [], .bootRomStart [] [] [0x1C2000], .firmwareInit [0] [], .firmwareInit [] [0x1C8000],
  .lamplighterReset 65, .nvmWordWrite 4 0 true, .nvmErrAddrRead 4, .thermalSample (List.replicate 31 0),
  .thermalSample (List.replicate 32 4096), .voltageSample (List.replicate 23 0), .voltageSample (List.replicate 24 65536), .eyeStart 4 0,
  .eyeStart 1 128, .eyeComplete (2 ^ 16) 0, .eyeComplete 0 256, .lifetimeClear (2 ^ 32), .updateBegin 3 0, .updateBegin 0 8, .updateCommit 3 0 true,
  .updateCommit 0 8 true, .updateActivate 3 0, .updateActivate 0 8, .updateConfirm 3 0, .updateConfirm 0 8, .updateRevert 3 0, .updateRevert 0 8,
  .updateAbort 3 0, .updateAbort 0 8, .faultEvent 0xFFFF 0 0 0 0 0, .faultEvent FK.TIME_HOLDOVER 256 0 0 0 0,
  .faultEvent FK.TIME_HOLDOVER 0 256 0 0 0, .faultEvent FK.TIME_HOLDOVER 0 0 (2 ^ 48) 0 0, .faultEvent FK.TIME_HOLDOVER 0 0 0 9 0,
  .faultEvent FK.TIME_HOLDOVER 0 0 0 0 256, .snuffNow 4, .snuffClear 4, .firstClear 4, .fltCommit 4, .injectArm 4, .injectCancel 4,
  .pairHoldWrite 4 true, .pairCommit 4, .pairClearCnt 4, .heartbeat (rep 15), .dumpDigest (rep 23), .beamDigest (rep 15), .digestWaitTimeout 0 16 0,
  .digestWaitTimeout 0 0 (2 ^ 64), .snapNow 4] : List Instr).all (fun c => !wellFormed c) = true := by decide +kernel

theorem test_wellFormed_refuses7 : ([
  .pmrFreeze 4, .pmrUnfreeze 4, .clearAll 4, .pmrCommit 4, .snapLostRead 4, .resetRelease 7 0 true, .resetRelease 0 4 true, .resetKey 4 0,
  .pllUnlock 4, .topPersSel 4 0, .topPersSel 1 4, .watchdogEnable 4, .watchdogKick 4, .trstN true 33, .pllLock 4, .managementPortLink 2 true,
  .managementFrame 2 true true [], .managementFrame 0 true true (rep 1523), .dhcpMessage 2 0 0, .dhcpMessage 0 256 0, .dhcpMessage 0 0 (2 ^ 32)] : List Instr).all (fun c => !wellFormed c) = true := by decide +kernel

/-! ## The spec's worked examples -/

/-- The device at the release of its first reset. -/
def live : State := State.reset

/-- 03_steras_links.md, R104: a HEAD wick with SEQ 0x2A5 and CREDIT 0x3C. -/
theorem test_wick_header : wickHeader 1 0x2A5 0x3C = 0xB346A53C ∧ (wickImage 0xB346A53C []).take 4 = [0xB3, 0x46, 0xA5, 0x3C] := by
  decide +kernel

/-- 03_steras_links.md, R112 to R118: the packet of an F device. -/
def examplePacket : Desc := mkDesc 0 0 0 0 0x1EF0E60400 2048 128 1536 1 59 63
theorem test_packet_descriptor : ((descBytes examplePacket).drop 4).take 8 = [0x00, 0x04, 0xE6, 0xF0, 0x1E, 0, 0, 0] := by decide +kernel
theorem test_packet_shape : dShapeOk examplePacket = true ∧ wicksFor (dSamples examplePacket) 8 = 63 ∧ dSamples examplePacket = 7552 := by
  decide +kernel
/-- Input 2,100 at count 30 is byte 3,892 of the sample area. -/
theorem test_packet_sample :
    dSample examplePacket ((List.replicate 3892 0) ++ [0x7F] ++ List.replicate 8 0) 52 0 30 = (7, -1) := by decide +kernel

/-- 06_lamp_isa.md: mac acc2, v5, v9, cj. -/
theorem test_mac_word : encodeLamp (.mac 2 5 9 1) = 0xF0166800 ∧ decodeLamp 0xF0166800 = some (.mac 2 5 9 1) := by decide +kernel

/-- 17_faults.md: the message of a double error in a data word of LMP37. -/
theorem test_fault_message :
    (List.range 4).map (fun i => faultMsg { live with time := { live.time with sec := 0, ns := 0x5E210C4A } }
      { kind := FK.LMP_MEM_UE, src := 0x65, sub := 0, addr := lampWordAddr 37 0 1000, access := 5, master := 0x0C, injected := false } 2 false
      / 2 ^ (32 * i) % 2 ^ 32) = [0x24020065, 0x02500FA0, 0x00C50001, 0x5E210C4A] := by decide +kernel

/-- 05_lamps.md: the W32 address of data word 1,000 of LMP12. -/
theorem test_w32_address : lampWordAddr 12 0 1000 = 0x0100C00FA0 := by decide +kernel

/-- 12_memory.md, R453: 8 channels, offset 0x1_2345_6780. -/
def eightChannels : State := live.setF Reg.MEM_GEOM_CHANNELS 2
theorem test_dram_mapping :
    memChannels eightChannels = 8 ∧ subChannel eightChannels 0x123456780 = 1 ∧ localOffset eightChannels 0x123456780 = 0x12345680 := by
  decide +kernel

/-- 08_lanterns.md: the block (20, 7) of channel index 2 of a 2,048-input job in even and odd periods. -/
def exampleGeo : JobGeo :=
  { cross := false, pingpong := true, nin := 2048, rows := 0, nch := 4, blocks := 528, slotFirst := 0, dlen := 1024, dwell := 0, fmt := 0,
    domain := 0, lantOffset := 0 }
def exampleTask (num q : Nat) : Task :=
  mkTask exampleGeo 0 { k := 0, nch := 4, handed := [], begun := true, run := true, serial := 1, tag := 0, c := 2, i := 217, limit := 4,
                        left := 0, accum := [], gone := false } num 2 217 q 0
theorem test_task_placement :
    ((exampleTask 0 1273).slot, (exampleTask 1 3385).slot, (exampleTask 0 1273).lantern, (exampleTask 1 3385).lantern) =
      (1273, 3385, 249, 57) ∧ ((exampleTask 0 1273).rowPos, (exampleTask 0 1273).colPos) = (1280, 448) ∧ exampleGeo.slotCount = 4224 := by
  decide +kernel

/-- 09_mantle.md: the dump image of a 4,096-input job of 4 channels. -/
def bigGeo : JobGeo := { exampleGeo with pingpong := false, nin := 4096, blocks := 2080 }
theorem test_dump_image :
    slotOff bigGeo = 384 ∧ dataOff bigGeo = 66944 ∧ tallyOff bigGeo false = 272696704 ∧ imageSize bigGeo false = 340854144 := by
  decide +kernel

/-- 02_time.md: the estimate and the lead of a channel of 36,914,062.5 samples per second. -/
def exampleDomain : State :=
  ((((live.setF (Reg.SD_NUM 0) 73828125).setF (Reg.SD_DEN 0) 2).setF (Reg.SD_CTRL_EN 0) 1).setF (Reg.SD_EPOCH_SEC_LO 0) 1800000000)
theorem test_estimate :
    sdEstAt exampleDomain 0 1800003600000000000 = 132890625000 ∧ sdEstAt exampleDomain 0 1800003590004000000 = 132521632031 := by
  decide +kernel

/-- 11_dma.md: the bursts of a host array on its way into lamp P9 memory. -/
def exampleSrc : Side := { base := 0x8000001234000000, line := 64, stride := 256, lines := 64 }
def exampleDst : Side := { base := 0x0100CB0E10, line := 2304, stride := 0, lines := 1 }
theorem test_dma_bursts :
    exampleSrc.len = 4096 ∧ exampleSrc.burst 64 true = 64 ∧ exampleSrc.addr 64 = 0x8000001234000100 ∧
      exampleDst.burst 0 false = 240 ∧ beatsOf exampleDst.base 240 = 4 ∧ exampleDst.burst 2288 false = 16 := by decide +kernel

/-- 15_dictionary.md: the header of a multicast WRITE_STAGED. -/
theorem test_zmp_header :
    msgBytes { version := 1, opcode := 3, flags := 0x0C, session := 2, seq := 0x150, ix := 0x6000, el := 3, count := 1, status := 0,
               reserved := 0, group := 3, payload := [0xB0, 0x04] } =
      [0x54, 0x5A, 0x01, 0x03, 0x0C, 0x02, 0x50, 0x01, 0, 0, 0, 0x60, 0x03, 0x01, 0, 0, 0x02, 0, 0x03, 0, 0, 0, 0, 0, 0xB0, 0x04] := by
  decide +kernel

/-- 14_host.md: dump number 6 in LPDDR6. -/
def exampleRing : State := ((live.setF (Reg.DUMP_BASE 0) 0x10000).setF (Reg.DUMP_STRIDE 0) 5202).setF (Reg.DUMP_BUFS 0) 4
theorem test_dump_place : copyBase exampleRing 0 6 = 0x128A40000 := by decide +kernel

/-- 03_steras_links.md, R133: RX_GOT 5,119 and RX_RELEASED 4,950 when a CREDIT_SYNC reports TX_TOTAL 5,120. -/
theorem test_credit_reconciled :
    let r := (creditRecon 0 5120 (updRx 0 (fun r => { r with rxGot := 5119, rxReleased := 4950 })
      (live.setF (lf Reg.LANE_CFG_RX_MODE 0) 1))).rxLane 0
    (r.rxGot, r.rxReleased) = (5120, 4951) := by decide +kernel

/-- 06_lamp_isa.md, R258: a circular buffer of 10 rows at a base of 256 words: the tenth access returns to the base. -/
def ringLamp : Lamp := (Lamp.reset.setA 0 (256 + 144)).setM 0 0x0A0010
theorem test_circular_buffer :
    (ringLamp.modify { aa := 0, mm := 0, pm := 2, off := 0 }).a 0 = 256 ∧
      ((ringLamp.setA 0 256).modify { aa := 0, mm := 0, pm := 2, off := 0 }).a 0 = 272 := by decide +kernel

/-! ## Hypotheses that are met: states and operands for every statement -/

/-- The personality: 0 F, 1 X, 2 FX, 3 none (R25). -/
def pers (p : Nat) (s : State) : State := s.setF Reg.TOP_STATUS_PERSONALITY p

theorem test_live_settled : Settled live := by
  refine ⟨by decide +kernel, by decide +kernel, ?_, by decide +kernel, by decide +kernel, by decide +kernel⟩
  intro n _
  rw [psetQuiet]
  simp [State.pset, live, State.reset, PSet.reset, mapGet, DictState.reset]

/-- StepRunsFront, QueueInOrder: a queue with a command at its front, and an empty one. -/
theorem test_queue : (live.withPending [.ppsOutRise, .ppsOutFall]).pending = .ppsOutRise :: [.ppsOutFall] ∧ live.pending = [] := by
  decide +kernel

/-- StepRunsFront, QueueInOrder, StepKeepsSettled: a step completes on both. -/
theorem test_step_completes : (∃ t, step (live.withPending [.ppsOutRise]) = .next t) ∧ ∃ t, step live = .next t := ⟨⟨_, rfl⟩, ⟨_, rfl⟩⟩

/-- WellFormedCompletes: terms of both kinds. -/
theorem test_both_kinds : wellFormed (.beaconFall 3) = true ∧ wellFormed (.beaconFall 4) = false := by decide +kernel

/-- HeldInReset: a held device, a command that is no pin's, an empty queue. -/
def heldState : State := bringSet (fun b => { b with holding := [0] }) live
theorem test_held : held heldState = true ∧ wellFormed .ppsOutRise = true ∧ pinCommand .ppsOutRise = false ∧ heldState.pending = [] := by
  decide +kernel

/-! ### Links -/

/-- Receive lane l in a state, enabled. -/
def rxAt (l st : Nat) (s : State) : State := setRxState l st (s.setF (lf Reg.LANE_CFG_RX_EN l) 1)

/-- WicksComplete: the first and last lanes, both training and ACTIVE, good and bad SYNC. -/
theorem test_wick_taken :
    held (rxAt 127 6 live) = false ∧ wickTaken 127 true 1023 (rxAt 127 6 live) ∧ wickTaken 0 false 0 (rxAt 0 3 live).draw.2 := by
  refine ⟨by decide +kernel, ⟨by decide +kernel, by decide +kernel, by decide +kernel, by decide +kernel, ?_⟩,
    ⟨by decide +kernel, by decide +kernel, by decide +kernel, by decide +kernel, ?_⟩⟩
  · have h : ((syncStep 127 true (rxAt 127 6 live)).rxLane 127).lastRaw = none := by decide +kernel
    intro q hq
    rw [h] at hq
    cases hq
  · have h : ((syncStep 0 false (rxAt 0 3 live).draw.2).rxLane 0).lastRaw = none := by decide +kernel
    intro q hq
    rw [h] at hq
    cases hq

/-- LanesComplete: a wick that an injection strikes, in each sense of its SYNC. -/
theorem test_wick_struck :
    (let s := { rxAt 127 6 live with flt := { live.flt with inj := some { src := lnkSrc 127, sub := 7, chk := 0, double := false } } };
      wickStruck 127 true s ∧ wickStruck 127 false s.draw.2) := by
  exact ⟨⟨by decide +kernel, by decide +kernel, by decide +kernel⟩, ⟨by decide +kernel, by decide +kernel, by decide +kernel⟩⟩

/-- LanesComplete: every state of a lane, its first TRAIN wick not seen, a clock acquired and not. -/
theorem test_lane_states :
    (rxFrames (rxAt 127 6 live) 127 = true ∧ rxFrames (syncStep 127 true (rxAt 127 6 live)) 127 = true) ∧
      ((List.range 12).map fun st => rxState (rxAt 127 st live) 127) = List.range 12 ∧
      ((rxAt 127 3 live).rxLane 127).trainSeen = false ∧
      clkAcquired (live.setF (Reg.LNK_GRP_STATUS_CLK_STATE 15) 6) 15 = true ∧ clkAcquired (rxAt 127 8 live) 15 = false ∧
      clkAcquired ((rxAt 127 9 live).setF (Reg.LNK_GRP_STATUS_CLK_STATE 15) 6) 15 = true ∧
      live.flag (Reg.LNK_GRP_STATUS_CLK_ACTIVITY 15) = false := by decide +kernel
def creditLane : State := updRx 127 (fun r => { r with trainLeft := true, rxGot := 3, rxReleased := 3 }) (rxAt 127 5 live)
theorem test_credit_reset :
    rxState creditLane 127 = 5 ∧ (creditLane.rxLane 127).rxGot = (creditLane.rxLane 127).rxReleased ∧ (creditLane.rxLane 127).trainLeft = true ∧
      (creditLane.rxLane 127).creditReset = false := by decide +kernel
theorem test_prbs_lane (code : Nat) (h : code = 1 ∨ code = 4) :
    let s := (rxAt 127 10 live).setF (lf Reg.LANE_CFG_PRBS_CHK 127) code
    rxState s 127 = 10 ∧ 1 ≤ s.f (lf Reg.LANE_CFG_PRBS_CHK 127) ∧ s.f (lf Reg.LANE_CFG_PRBS_CHK 127) ≤ 4 ∧
      s.f (lf Reg.LANE_CFG_LOOP 127) = 0 ∧ s.flag (Reg.LNK_GRP_CTRL_FAR_LOOP 15) = false := by
  rcases h with rfl | rfl <;> decide +kernel
/-- LanesComplete: a lane in both loops. -/
theorem test_both_loops :
    let s := ((rxAt 127 10 live).setF (lf Reg.LANE_CFG_LOOP 127) 1).setF (Reg.LNK_GRP_CTRL_FAR_LOOP 15) 1
    s.f (lf Reg.LANE_CFG_LOOP 127) ≠ 0 ∧ s.flag (Reg.LNK_GRP_CTRL_FAR_LOOP 15) = true ∧ rxEn s 127 = true := by decide +kernel

/-- LinksComplete: retraining and the commits. -/
theorem test_link_commits :
    rxEn (requested (rxAt 127 6 live)) 127 = true ∧ laneTest (requested (rxAt 127 6 live)) 127 = false ∧
      groupHeld (requested live) (16 * (0x20 + 15)) = false ∧ groupHeld (requested live) 0x130 = false ∧
      (lnkErr ((requested live).commitRange (0x200000 + 15 * 0x10000) (0x210000 + 15 * 0x10000)) 15).1 = 0 ∧
      lnkUserErr ((requested live).commitRange (0x200000 + 15 * 0x10000) (0x210000 + 15 * 0x10000)) 15
        ((requested live).setF (Reg.LNK_GRP_STATUS_COMMIT_ERR 15) 1) = none ∧
      egrErr ((requested live).commitRange 0x130000 0x140000) = none := by decide +kernel

/-- A transmit lane of an ACTIVE pair. -/
def txAt (l st : Nat) (f : TxLane → TxLane) (s : State) : State :=
  updTx l f ((rxAt l st s).setF (lf Reg.LANE_CFG_TX_EN l) 1)
def reverseLane (st : Nat) : State := (txAt 127 st id live).setF (lf Reg.LANE_CFG_REVERSE 127) 1
/-- LinksComplete: each thing a transmit lane may send. -/
theorem test_transmit :
    let sync (x : State) : Bool := (x.txLane 127).syncDue && rxState x 127 == 6 && pairCredited x 127 && !(x.txLane 127).training
    let request (x : State) : Bool := (x.txLane 127).retrainReq && !x.snuffed
    let both (s : State) : State := (s.setF (lf Reg.LANE_CFG_RX_MODE 127) 1).setF (lf Reg.LANE_CFG_TX_MODE 127) 1
    (let s := (txAt 127 6 id live).setF (lf Reg.LANE_CFG_PRBS_GEN 127) 4;
      txEn s 127 = true ∧ s.flag (Reg.LNK_GRP_CTRL_FAR_LOOP 15) = false ∧ s.f (lf Reg.LANE_CFG_PRBS_GEN 127) ≠ 0) ∧
    (txEn (reverseLane 3) 127 = true ∧ (reverseLane 3).f (lf Reg.LANE_CFG_PRBS_GEN 127) = 0 ∧
      (let x := txUpdate 127 (reverseLane 3); (x.txLane 127).training = true ∧ sync x = false ∧ request x = false)) ∧
    ([true, false] : List Bool).all (fun b =>
      let x := txUpdate 127 (updRx 127 (fun r => { r with creditReset := b }) (reverseLane 5));
      !request x && !(x.txLane 127).training && rxState x 127 == 5 && (x.rxLane 127).creditReset == b) = true ∧
    sync (txUpdate 127 (both (updTx 127 (fun t => { t with syncDue := true }) (reverseLane 6)))) = true ∧
    (let x := txUpdate 127 (updTx 127 (fun t => { t with retrainReq := true }) (reverseLane 6)); request x = true ∧ sync x = false) ∧
    (let x := txUpdate 127 (txAt 127 6 id live);
      sync x = false ∧ request x = false ∧ (x.txLane 127).training = false ∧ rxState x 127 ≠ 5) := by
  decide +kernel

/-- An F device whose map entry 255 sends one channel of one input. -/
def egrState : State :=
  let s := (((((pers 0 live).setF Reg.EGR_CTRL_EN 1).setF (Reg.EGR_ENT0_EN 255) 1).setF (Reg.EGR_ENT3_TPP 255) 1).setF (Reg.EGR_ENT3_CPP 255) 1).setF
    (Reg.EGR_ENT2_CHAN_COUNT 255) 1
  ((s.setF (Reg.EGR_ENT0_LOCAL_COUNT 255) 1).setF (Reg.LENS_IN_CFG_EN 0) 1)
def egrPart0 : LampPart := { count := 7, domain := 0, first := 0, chans := 1, inputs := 1, marks := [0], elems := [(3, -4)] }
/-- LinksComplete: an entry with its packet's parts, and one whose parts have all passed. -/
theorem test_egress :
    (let s := { egrState with lmp := { egrState.lmp with egrParts := [egrPart0] } };
      egrBlock (egrRebase 255 s) 255 = some 7 ∧ egrOn (egrRebase 255 s) 255 7 = true ∧ egrElems (egrRebase 255 s) 255 7 = some [((3, -4), 0)] ∧
        gateDrops (s.setF Reg.PAIR_STATUS_STATE 3) (egrUnit (egrRebase 255 s) 255 7) = false ∧
        gateDrops (s.setF Reg.PAIR_STATUS_STATE 1) (egrUnit (egrRebase 255 s) 255 7) = true) ∧
    (let s := { egrState with lmp := { egrState.lmp with lensPassed := some 8 },
                              links := { egrState.links with egr := [(255, { nextLane := 0, block := some 7, nextGroup := 0, old := false })] } };
      egrBlock (egrRebase 255 s) 255 = some 7 ∧ egrOn (egrRebase 255 s) 255 7 = true ∧ egrElems (egrRebase 255 s) 255 7 = none ∧
        (egrRebase 255 s).lmp.lensPassed = some 8 ∧ egrBlockEnd (egrRebase 255 s) 255 7 ≤ 8 + 1) := by decide +kernel

/-! ### The Lens -/

/-- LensCompletes: the commit, the coefficient port, sealing and swapping on an F device. -/
theorem test_lens_port :
    (let s := ((pers 0 live).setStg Reg.LENS_CHAN_COUNT.key (2 ^ Reg.LENS_CHAN_COUNT.lo)).setStg Reg.LENS_OUT_LAMP_COUNT.key (2 ^ Reg.LENS_OUT_LAMP_COUNT.lo);
      groupHeld (requested s) 0xE0 = false ∧ lensErr (requested s) ((requested s).commitRange 0xE0000 0xF0000) = 0) ∧ pageGated (pers 0 live) 0x0E = false ∧
      (requested (pers 0 live)).flag Reg.LENS_COEF_STATUS_SEALED = false ∧ (pers 0 live).lens.ptr < 1048576 ∧
      (let s := pers 0 live;
        let n := lensTaps (requested s) * lensF (requested s);
        (requested (s.setF Reg.LENS_COEF_STATUS_WR_COUNT n)).f Reg.LENS_COEF_STATUS_WR_COUNT =
          lensTaps (requested (s.setF Reg.LENS_COEF_STATUS_WR_COUNT n)) * lensF (requested (s.setF Reg.LENS_COEF_STATUS_WR_COUNT n))) ∧
      (requested (pers 0 live)).flag Reg.LENS_CTRL_EN = false ∧
      (requested ((pers 0 live).setF Reg.LENS_COEF_STATUS_SEALED 1)).flag Reg.LENS_COEF_STATUS_SEALED = true := by decide +kernel

/-- LensCompletes, LanternCompletes, MantleCompletes, CandelabraCompletes: blocks that the personality gates, with staged values that their
commit takes and with others that it refuses. -/
theorem test_gated :
    (pageGated (pers 1 live) 0x0E = true ∧ groupHeld (requested (pers 1 live)) 0xE0 = false ∧ (stagedFail 0xE0 (requested (pers 1 live))).isNone = true ∧
      (stagedFail 0xE0 (requested ((pers 1 live).setStg Reg.LENS_CTRL_EN.key (2 ^ Reg.LENS_CTRL_EN.lo)))).isSome = true) ∧
    (pers 0 live).actsF = true ∧ groupHeld (requested (pers 0 live)) 0x100 = false ∧ groupHeld (requested (pers 0 live)) 0x110 = false ∧
    groupHeld (requested (pers 0 live)) 0x120 = false ∧
    ([0x100, 0x120] : List Nat).all (fun g => (stagedFail g (requested (pers 0 live))).isNone) = true ∧
    (stagedFail 0x100 (requested ((pers 0 live).setStg Reg.LAN_CTRL_EN.key (2 ^ Reg.LAN_CTRL_EN.lo)))).isSome = true ∧
    (stagedFail 0x110 (requested (pers 0 live))).isSome = true ∧
    (stagedFail 0x120 (requested ((pers 0 live).setStg Reg.CAN_CTRL_EN.key (2 ^ Reg.CAN_CTRL_EN.lo)))).isSome = true := by decide +kernel

/-- LensCompletes: an input whose data has passed the next output count. -/
theorem test_lens_output :
    (let s := setFrontier 0 5 (((pers 0 live).setF Reg.LENS_CTRL_EN 1).setF (Reg.LENS_IN_CFG_EN 0) 1);
      lensMay (delaysDue (s.lens.nextOut.getD 0) s) (s.lens.nextOut.getD 0) = true) := by decide +kernel

/-! ### Boot, MRAM, sensors, updates -/

def imageHead : List Byte :=
  leBytes 4 0x5A4C4649 ++ leBytes 4 1 ++ leBytes 4 0x30400 ++ leBytes 4 7 ++ leBytes 4 16 ++ leBytes 4 16 ++ rep 8 ++ sha384 (rep 16) ++ rep 96
/-- A slot with an image of 16 zero bytes. -/
def imageSlot (n : Nat) (s : State) : State :=
  nvmPut (slotBase n + 0x3FFFF0) (commitRecord 1 []) (nvmPut (slotBase n) imageHead s)
def imageState : State := imageSlot 0 live
/-- Everything an image is checked for but its signature. -/
theorem test_image_checks :
    (slotCommitted imageState 0 = true ∧ bodyLenOk (imageBody imageState 0) = true ∧ headerOk imageState 0 = true) ∧
      (sha384 (nvmPeek imageState (slotBase 0 + 256) (imageBody imageState 0)) = ((imageHeader imageState 0).drop 32).take 48 ∧
        (revokedNow imageState).testBit (imageKey imageState 0) = false ∧ ¬ imageRollback imageState 0 < rollbackNow imageState) := by
  decide +kernel
/-- BootCompletes, UpdateCompletes: a slot passes wherever its signature verifies, which no one without the keys can say. -/
theorem test_slot_passes
    (h : signatureOk (imageKey imageState 0) (imageHeader imageState 0) = true) :
    slotPasses imageState 0 = true ∧ imageErr imageState 0 = 0 := by
  have e : imageErr imageState 0 = 0 := by simp [imageErr, test_image_checks, h]
  exact ⟨by simp [slotPasses, e, test_image_checks], e⟩

/-- BootCompletes: no slot passes, or one does not; the firmware starts. -/
theorem test_boot :
    slotPasses live 0 = false ∧ slotPasses live 1 = false ∧ (bootOrder (ucrNow live)).2 = 0 ∧
      slotPasses (nvmFound [4] imageState) 0 = false ∧ imageState.flag Reg.TOP_REMAP_SWAP = false ∧ imageState.f Reg.TOP_STATUS_STAGE = 0 ∧
      (bootOrder (ucrNow imageState)).2 = 0 ∧ (live.setF Reg.TOP_STATUS_STAGE 2).f Reg.TOP_STATUS_STAGE = 2 ∧
      (live.setF Reg.TOP_STATUS_STAGE 2).mgmt.bootSteps = 0 := by decide +kernel

/-- ManagementCompletes: a word the boot master may write, a write in progress, an eye measurement. -/
theorem test_management :
    nvmRefused 1 (live.f Reg.NVM_WADDR * 8) false ((requested live).setF Reg.NVM_WDATA_HI 5) = false ∧
      (mgmtSet (fun g => { g with nvmWrite := some (0xFFFFF8, 5) }) live).mgmt.nvmWrite = some (0xFFFFF8, 5) ∧
      (let s := mgmtSet (fun g => { g with eye := some (127, false) }) (rxAt 127 6 live);
        s.mgmt.eye = some (127, false) ∧ rxState s 127 = 6) := by decide +kernel

/-- A device whose firmware serves every origin. -/
def served : State := mgmtSet (fun m => { m with bootSteps := 5, zmpOn := true }) (live.setF Reg.TOP_STATUS_STAGE 3)
def updating (st : Nat) : State := { served with mgmt := { served.mgmt with updState := st } }
/-- UpdateCompletes: the states, each origin served, and all that a commit asks for but the signature. -/
theorem test_update :
    ((List.range 6).map fun st => (updating st).mgmt.updState) = List.range 6 ∧ takesOrigin (updating 1) 0 = true ∧
      takesOrigin (updating 1) 1 = true ∧ takesOrigin (updating 1) 2 = true ∧
      (let s := dictSet (fun d => { d with updPtr := 272 }) ({ imageState with mgmt := (updating 1).mgmt }.setF Reg.NVM_STATUS_RUN_SLOT 1);
        s.mgmt.updState = 1 ∧ takesOrigin s 2 = true ∧ s.nvm = imageState.nvm ∧ s.dict.updPtr = 256 + imageBody s (inactiveSlot s)) := by
  decide +kernel

/-! ### Registers, counters, faults, resets -/

/-- RegistersComplete: a register, one that no host may write, an undefined offset, a page of no block, a plain memory address. -/
theorem test_registers :
    (pageExists (0x10008 / 0x10000) = true ∧ isBroadcast (0x10008 / 0x10000) = false ∧ (rowAt 0x10008).isSome = true ∧
      refusedWrite 0x10008 2 (requested live) = false) ∧
    ((rowAt 0x100).isSome = true ∧ refusedWrite 0x100 2 (requested live) = true ∧ pageExists 0 = true) ∧
    (rowAt 0x7FFFFC = none ∧ pageExists (0x7FFFFC / 0x10000) = true) ∧
    routeTo 0x1000000000 256 ≠ some 4 ∧ pageExists (0x7F0000 / 0x10000) = true ∧
    (0x7FFFFD % 4 ≠ 0 ∧ pageExists (0x7FFFFD / 0x10000) = true ∧ isBroadcast (0x800001 / 0x10000) = true) ∧
    anyMaster 3 = true ∧ regMaster 3 = false := by decide +kernel

/-- CountersComplete. -/
theorem test_counters :
    snapBusy (requested live) = false ∧ groupHeld (requested live) 0x40 = false ∧ pmrBadWord (requested live) = none ∧
      ({ live with pmr := { live.pmr with collecting := some (Snapshot.mk 1 0 0 0 0 0 0 0 []) } }).pmr.collecting =
        some (Snapshot.mk 1 0 0 0 0 0 0 0 []) := by decide +kernel

/-- A snuffed device, with the snuff's recoveries at n of 3. -/
def snuffedAt (n : Nat) : State :=
  (((live.setF Reg.FLT_STATUS_SNUFFED 1).setF Reg.FLT_CFG_AUTO 1).setF Reg.FLT_CFG_RECOV_LIMIT 3).setF Reg.FLT_STATUS_RECOVERIES n
def armedTest : State :=
  ((setObj 0x800010 [1] live).setF Reg.FLT_INJ_CFG_SRC 0x7F).setF Reg.FLT_INJ_CFG_CHK 1
/-- FaultsComplete, QuietPeriodEnds: each clause. -/
theorem test_faults :
    isFaultKind FK.BMX_ACCESS = true ∧ (live.setF Reg.FLT_STATUS_IN_PIN 1).flag Reg.FLT_STATUS_IN_PIN = true ∧
      live.flag Reg.FLT_STATUS_IN_PIN = false ∧ (quietRuns (snuffedAt 2) = true ∧ (snuffedAt 2).f Reg.FLT_STATUS_RECOVERIES < (snuffedAt 2).f Reg.FLT_CFG_RECOV_LIMIT) ∧
      (quietRuns (snuffedAt 3) = true ∧ (snuffedAt 3).f Reg.FLT_STATUS_RECOVERIES = (snuffedAt 3).f Reg.FLT_CFG_RECOV_LIMIT) ∧
      groupHeld (requested live) 0x30 = false ∧ fltErr (requested live) = 0 ∧ testEnable armedTest = true ∧
      injectable (armedTest.f Reg.FLT_INJ_CFG_SRC) (armedTest.f Reg.FLT_INJ_CFG_SUB) (armedTest.f Reg.FLT_INJ_CFG_CHK) = true ∧
      (let s := { live with flt := { live.flt with c4Pending := 4, notifyQueue := [7] } };
        s.flt.c4Pending = 4 ∧ s.flt.notifyQueue = 7 :: []) ∧
      served.mgmt.zmpOn = true := by decide +kernel

/-- ResetsComplete, ResetLeaves: one cause that holds the device, of each kind. -/
theorem test_resets :
    ([0, 3, 6] : List Nat).all (fun c =>
      let s := bringSet (fun b => { b with holding := [c] }) live
      s.bring.holding == [c] && held s && !s.snuffed && classOf s FK.FLT_SNUFF_IN == 2) = true ∧ live.flt.c4Pending = 0 := by decide +kernel

/-- BringupComplete. -/
theorem test_bringup :
    live.f Reg.TOP_STRAP_PERS = 3 ∧ live.flag Reg.TOP_PERS_SEL_DONE = false ∧
      (live.setF Reg.HIF_STATUS_LINK_UP 1).flag Reg.HIF_STATUS_LINK_UP = true ∧
      (bringSet (fun b => { b with watchdogOn := true }) live).bring.watchdogOn = true ∧
      (bringSet (fun b => { b with trstN := true, tapState := 13 }) live).bring.trstN = true ∧
      (bringSet (fun b => { b with trstN := true, tapState := 13 }) live).bring.tapState = 13 := by decide +kernel

/-! ### The pair -/

def pairAt (st : Nat) : State := (live.setF Reg.PAIR_STATUS_STATE st).setF Reg.PAIR_CFG_EN 1
/-- PairClaimCompletes, DualClaimSnuffs: each clause. -/
theorem test_pair_claim :
    ((List.range 5).map fun st => pairState (pairAt st)) = List.range 5 ∧ (pairAt 1).flag Reg.PAIR_CFG_EN = true ∧ (pairAt 1).snuffed = false ∧
      (pairAt 1).flag Reg.PAIR_CTRL_HOLD = false ∧ (pairAt 1).flag Reg.PAIR_STATUS_SENSE = false ∧ (pairAt 2).pair.trimHold = false ∧
      (pairAt 2).pair.claimedBefore = false ∧ (pairAt 2).pair.heard = false ∧
      ((pairAt 3).setF Reg.PAIR_STATUS_SENSE 1).flag Reg.PAIR_STATUS_SENSE = true ∧ laneBusy (pairAt 3) = false ∧
      classOf (pairAt 3) FK.PAIR_DUAL_CLAIM = 2 ∧ groupHeld (requested live) 0x50 = false ∧
      pairErr (requested live) ((requested live).commitRange 0x50000 0x60000) = 0 ∧
      (let s := pairSet (fun p => { p with releasing := true, trimHold := true }) (pairAt 3); s.pair.releasing = true ∧ s.pair.trimHold = true) ∧
      pairState ((pairSet (fun p => { p with releasing := true }) (pairAt 3))) = 3 ∧
      (pairSet (fun p => { p with releasing := true }) (pairAt 3)).pair.trimHold = false ∧
      (let s := (pairSet (fun p => { p with trimHold := true }) (pairAt 1)).setF Reg.PAIR_STATUS_SENSE 1;
        s.pair.trimHold = true ∧ pairState s ≠ 2 ∧ s.flag Reg.PAIR_STATUS_SENSE = true) := by decide +kernel

/-- PilotCompletes: each clause. -/
theorem test_pilot :
    ((leAt ([0, 1] ++ rep 14) 1 1).testBit 0 = true ∧ live.pair.own.find? (sameDigest (beamDigestOf ([0, 1] ++ rep 14))) = none) ∧
      ((leAt ([0, 1] ++ rep 22) 1 1).testBit 0 = true ∧ live.pair.own.find? (sameDigest (dumpDigestOf ([0, 1] ++ rep 22))) = none) ∧
      (live.setF Reg.PAIR_STATUS_PILOT_UP 1).flag Reg.PAIR_STATUS_PILOT_UP = true ∧
      (let d : Digest := { cause := 1, unit := 3, key := 5, value := 9, packets := 0, eligible := false };
        let s := pairSet (fun p => { p with own := [d], sendQueue := [d] }) live;
        s.pair.own = [d] ∧ s.pair.sendQueue = d :: [] ∧ d.eligible = false) := by decide +kernel

/-! ### The scheduler and its actions -/

/-- Slot 255 with the staged words of a target and a time in domain 0. -/
def slotWith (target ns : Nat) : State :=
  ((((pers 2 live).setF Reg.SCHED_CTRL_EN 1).setStg (Reg.SLOT_TARGET_TARGET 255).key (BitVec.ofNat 32 target)).setStg
    (Reg.SLOT_TRIG_NS 255).key (BitVec.ofNat 32 ns))
def armedWords (act target ns : Nat) : State :=
  ((requested (slotWith target ns)).setReg (Reg.SLOT_CTRL_ACTION 255).key (BitVec.ofNat 32 (getBits (BitVec.ofNat 32 act) 12 0))).commitRange
    (0x21000 + 32 * 255) (0x21020 + 32 * 255)
/-- A slot in a state, with an action, a target, a domain and a trigger. -/
def slotIn (st act target dom trig : Nat) : State :=
  let s := setSlotState 255 st ((pers 2 live).setF (Reg.SLOT_CTRL_ACTION 255) act)
  (((s.setF (Reg.SLOT_TARGET_TARGET 255) target).setF (Reg.SLOT_CTRL_DOMAIN 255) dom).setF (Reg.SLOT_TRIG_LO 255) trig)
/-- SlotsComplete: arming with lead and without, failing the check, cancelling. -/
theorem test_slot_arm :
    slotState (requested (slotWith 0x6000 0)) 255 = 0 ∧ (armOk (armedWords 7 0x6000 64000) 255 = true ∧ leadShort (armedWords 7 0x6000 64000) 255 = false) ∧
      (armOk (armedWords 7 0x6000 63999) 255 = true ∧ leadShort (armedWords 7 0x6000 63999) 255 = true) ∧
      armOk (armedWords 7 0x6001 0) 255 = false ∧ slotState (requested (slotIn 1 7 0x6000 0 0)) 255 ≠ 0 ∧
      (7 : Word).getLsbD 25 = false := by decide +kernel
/-- SlotsComplete: delivering in time, with no count yet, and late; starving. -/
def passedJob (k : Nat) : State :=
  putJobRun 3 { jobRun (slotIn 1 1 3 1 5) 3 with next := some k } (setJobState 3 2 (slotIn 1 1 3 1 5))
def untaken (s : State) : Bool := slotState s 255 == 1 && slotAct s 255 != 2 && !(slotAct s 255 == 1 && jobState s (slotTarget s 255 % 4) == 0)
theorem test_slot_deliver :
    (slotState (slotIn 1 1 3 1 5) 255 = 1 ∧ slotAct (slotIn 1 1 3 1 5) 255 = 1 ∧
      jobState (slotIn 1 1 3 1 5) (slotTarget (slotIn 1 1 3 1 5) 255 % 4) = 0 ∧ targetP (slotIn 1 1 3 1 5) 255 = none) ∧
      (untaken (slotIn 1 4 0x3000 1 5) = true ∧ targetP (slotIn 1 4 0x3000 1 5) 255 = none) ∧
      untaken (passedJob 0) = true ∧ untaken (passedJob 9) = true ∧
      ((targetP (passedJob 0) 255).map fun p => decide (p ≤ slotTrig (passedJob 0) 255)) = some true ∧
      ((targetP (passedJob 9) 255).map fun p => decide (slotTrig (passedJob 9) 255 < p)) = some true ∧
      starves (({ exampleDomain with time := { exampleDomain.time with sec := 1800000001 }}).setReg (Reg.SLOT_CTRL_ACTION 255).key
        ((slotIn 2 1 0 1 0).reg (Reg.SLOT_CTRL_ACTION 255).key)) 255 = true := by decide +kernel

/-- ActionsComplete: each action delivered and due at its targets, in TB0 and at a count that its target has come to. -/
theorem test_actions :
    ([(1, 3, 0), (1, 3, 1), (2, 0x1100, 0), (2, 0x1000, 0), (2, 0x123F, 0), (3, 0x2003, 0), (4, 0x30FF, 0), (6, 0x5000, 0), (7, 0x6000, 0),
       (8, 0x70FF, 0), (9, 0x7000, 0), (0xA, 0x8000, 0), (0xB, 0x903F, 0)] : List (Nat × Nat × Nat)).all (fun p =>
      let s := slotIn 2 p.1 p.2.1 p.2.2 0
      slotState s 255 == 2 && actDue s 255 && firstOf (actDue s) s 255 && slotAct s 255 == p.1 && slotTarget s 255 == p.2.1 &&
        (p.1 == 1 || p.2.1 < 0x1200 || (p.2.1 >= 0x2000 && p.1 != 0xB) || lampAt s 255 63)) = true ∧
    ([(tgtLensIn, 2, 0x1100), (tgtCan, 2, 0x1000), (tgtDelay 7, 4, 0x30FF), (tgtCapture, 6, 0x5000), (tgtIngest, 7, 0x6000), (tgtIngest, 3, 0x2003),
       (tgtCan, 8, 0x70FF), (tgtCan, 9, 0x7000), (tgtPair, 0xA, 0x8000)] : List (Nat × Nat × Nat)).all (fun p =>
      let s := slotIn 2 p.2.1 p.2.2 1 5
      let at5 := reach p.1 0 5 (pers 1 s)
      !actDue (pers 1 s) 255 && actDue at5 255 && firstOf (actDue at5) at5 255) = true ∧
    (let s := (slotIn 2 5 0x4003 0 0).setF (Reg.BEACON_CFG_EN 3) 1;
      actDue s 255 = true ∧ slotAct s 255 = 5 ∧ s.flag (Reg.BEACON_CFG_EN (slotTarget s 255 % 4)) = true ∧ s.snuffed = false) ∧
    ((slotIn 2 3 0x2003 0 0).pset (0x2003 % 4)).state ≠ 2 ∧ pairState ((slotIn 2 0xA 0x8000 1 0).setF Reg.PAIR_STATUS_STATE 3) = 3 := by
  decide +kernel
/-- ActionsComplete: a parameter set ARMED for its slot, which passes the group checks and which fails them. -/
def armedSet (sh : List (Nat × Word × Word)) : State :=
  (slotIn 2 3 0x2003 0 0).putPset 3 { PSet.reset with state := 2, slot := 255, shadow := sh }
theorem test_apply_set :
    ((armedSet []).pset 3).state = 2 ∧ ((armedSet []).pset 3).slot = 255 ∧ actDue (armedSet []) 255 = true ∧
      applyFail ((armedSet []).pset 3).shadow none (armedSet []) = none ∧
      applyFail ((armedSet [(Reg.LENS_CHAN_COUNT.key, 0xFFFFFFFF, 0)]).pset 3).shadow none (armedSet [(Reg.LENS_CHAN_COUNT.key, 0xFFFFFFFF, 0)]) ≠ none := by decide +kernel

/-! ### Time and the management ports -/

/-- TimeRegistersComplete, TimeEventsComplete: each clause. -/
theorem test_time :
    (stepValue live).2 ≤ 999999999 ∧ (stepValue (live.setStg 0x1002C 999999999)).2 = 999999999 ∧
      999999999 < (stepValue (live.setStg 0x1002C 1000000000)).2 ∧ groupHeld (requested live) 19 = false ∧
      (true ≠ live.flag Reg.TIME_CTRL_PPS_EDGE) ∧ (live.setF Reg.TIME_CTRL_SRC 2).f Reg.TIME_CTRL_SRC = 2 ∧ live.time.stepAtPps = none ∧
      (timeSet (fun t => { t with stepAtPps := some (1, 2) }) (live.setF Reg.TIME_CTRL_SRC 1)).time.stepAtPps = some (1, 2) ∧
      (live.setF Reg.TIME_STATUS_QUALITY 1).f Reg.TIME_STATUS_QUALITY = 1 ∧ (live.setF Reg.TIME_STATUS_QUALITY 2).f Reg.TIME_STATUS_QUALITY = 2 ∧
      2 ≤ (live.setF Reg.TIME_CTRL_SRC 2).f Reg.TIME_CTRL_SRC ∧ live.time.ppsLostRaised = false ∧
      (live.setF Reg.PPS_OUT_CFG_EN 1).flag Reg.PPS_OUT_CFG_EN = true ∧ live.time.ns ≤ 4 := by decide +kernel

/-- A PTP message of a type: version 2, domain 0. -/
def ptpOf (type n : Nat) : List Byte := [BitVec.ofNat 8 type, 2] ++ rep (n - 2)
def portState : State :=
  ((((live.setF (Reg.MNET_PORT_CFG_EN 0) 1).setF (Reg.MNET_PORT_CFG_EN 1) 1).setF (Reg.MNET_PORT_STATUS_LINK 0) 1).setF Reg.PTP_CFG_TRANSPORT 3)
def tcState : State := portState.setF Reg.PTP_CFG_TC_EN 1
/-- PtpCompletes: an Announce and a Sync on the last port and mapping, a Sync forwarded. -/
theorem test_ptp :
    (portState.flag (Reg.MNET_PORT_CFG_EN (3 % 2)) = true ∧ ptpTaken 3 (ptpOf 11 64) portState = true ∧ ptpType (ptpOf 11 64) = 11 ∧
      beAt (ptpOf 11 64) 61 2 < 255) ∧
    (let s := timeSet (fun t => { t with ptpMaster := some (3, ptpSource (ptpOf 0 44)) }) portState;
      ptpTaken 3 (ptpOf 0 44) s = true ∧ ptpType (ptpOf 0 44) = 0 ∧ ptpTwoStep (ptpOf 0 44) = false ∧
        s.time.ptpMaster = some (3, ptpSource (ptpOf 0 44))) ∧
    (portForwards 1 tcState = true ∧ tcState.flag Reg.PTP_CFG_TC_EN = true ∧ 34 ≤ (ptpOf 0 44).length ∧ ptpType (ptpOf 0 44) = 0) ∧
    (ptpType ((rep 90).drop (udpAt (rep 90) + 8)) = 0 ∧ ptpTwoStep ((rep 90).drop (udpAt (rep 90) + 8)) = false) := by decide +kernel

/-- PortsComplete: an address leased, and none; a selected time transmitter. -/
theorem test_ports :
    portForwards 1 portState = true ∧ objNat portState 0x100001 1 = 1 ∧ objNat portState 0x100007 0 = 0 ∧
      (timeSet (fun t => { t with ptpMaster := some (1, rep 10) }) portState).time.ptpMaster = some (1, rep 10) := by decide +kernel

/-! ### Lamps -/

def lampIn (st : Nat) (f : Lamp → Lamp) : State := updLamp 63 f (live.setF (Reg.LMP_STATE_STATE 63) st)
def bankedLamp : State := ((lampIn 0 id).setF (Reg.LMP_PORT_CFG_COEF_BANKED 63) 1).setF (Reg.LMP_COEF_STATUS_SEALED 63) 1
/-- LampControlCompletes: each clause. -/
theorem test_lamp_control :
    lampState (requested (lampIn 0 id)) 63 = 0 ∧ (requested bankedLamp).flag (Reg.LMP_PORT_CFG_COEF_BANKED 63) = true ∧
      (requested bankedLamp).flag (Reg.LMP_COEF_STATUS_SEALED 63) = true ∧ lampState (requested (lampIn 1 id)) 63 = 1 ∧
      groupHeld (requested live) (16 * (0x40 + 63)) = false ∧
      (let s := lampIn 1 (fun l => { ((l.setStatus 0 0 1).setSp 0x44 2) with doorbell := true });
        let l := lampAtBoundary 63 s;
        lampRunning s 63 = true ∧ l.statusBit 0 = true ∧ l.intPend &&& l.sp 0x44 ≠ 0 ∧ l.interruptible = true ∧ l.afterReti = false) ∧
      ((lampIn 0 (fun l => l.setSp 0x56 5)).lamp 63).sp 0x56 ≠ 0 := by decide +kernel
def fetchOne : FetchJob := { bus := 0, row := 0, rows := 1, toBus := false, p9 := false }
theorem test_lamp_ports :
    ((lampIn 0 (fun l => { l with fetchJob := some fetchOne })).lamp 63).fetchJob = some fetchOne ∧
      ((lampIn 0 (fun l => { l with outbox := [[1]] })).lamp 63).outbox = [1] :: [] ∧ ((lampIn 0 id).lamp 63).outbox = [] ∧
      ((lampIn 0 (fun l => { l with soutPend := [({ kind := 2, lanes := [1] }, 0)] })).lamp 63).soutPend = ({ kind := 2, lanes := [1] }, 0) :: [] ∧
      lampRunning (lampIn 1 id) 63 = true ∧ decodeLamp 0xFFFFFFFF = none := by decide +kernel

def anyMem : MemOp := { aa := 7, mm := 7, pm := 3, off := 16383 }
/-- LampControlFlowCompletes, LampScalarCompletes, LampMemoryCompletes, LampVectorCompletes, LampComputesAlone, LaterResultIsKept: every
instruction is ready on a RUNNING lamp, with SPMODE as it asks. -/
theorem test_lamp_ready :
    ([.nop, .halt, .b 15 8191, .call 8191, .jr 15 15, .reti, .loop 2 8191 2047, .loopReg 2 3 15, .add 15 15 15, .sub 0 1 2, .cmp 3 4,
      .cmpImm 5 262143, .and 1 2 3, .or 1 2 3, .xor 1 2 3, .lsl 1 2 63, .asr 1 2 63, .lsr 1 2 63, .addImm 1 2 262143, .movImm 1 131072, .movh 1 5,
      .getl 1 2 15, .setl 1 2 15, .rsum 1 3 63 2, .geta 1 3 15 3, .obx 15, .addAImm 7 262143, .movAImm 7 1, .movAS 7 15, .movSA 7 15, .movMS 7 15,
      .movlM 7 4095, .movhM 7 4095, .mts 15 0x40, .mfs 15 0x54, .ld 15 anyMem, .ldS 15 anyMem, .ldw 15 anyMem, .ldc 15 anyMem, .ldcb 15 anyMem,
      .st 15 anyMem, .stS 15 anyMem, .stw 15 anyMem, .sin 15, .pass, .sout 15, .xmul 63 1 { anyMem with off := 0 }, .srch 15 { anyMem with pm := 1, off := 0 }, .srchi,
      .fetch 0 0 7 63 1 1, .vadd 15 15 15, .vsub 1 2 3, .vmin 1 2 3, .vmax 1 2 3, .vand 1 2 3, .vor 1 2 3, .vxor 1 2 3, .vasr 1 2 63 1, .vlsl 1 2 63,
      .bcast 1 2, .mul 1 2 3 63 1, .mpy 3 1 2 1, .mac 3 1 2 1, .msu 3 1 2 1, .pwr 3 1, .rnd 1 3 63] : List LampOp).all (fun op =>
        op.fits && lampRunning (lampIn 1 id) 63 &&
          !lampOpIllegal ((issueTick 63 (lampIn 1 id)).lamp 63) (lampPc (issueTick 63 (lampIn 1 id)) 63) op) = true ∧
    (let s := lampIn 1 (fun l => l.setStatus 2 2 1);
      lampReady 63 (.tap 3 15 { anyMem with off := 0 }) s) ∧
    (let l := (lampIssued 63 (lampIn 1 id)).lamp 63;
      l.s 15 < 2 ^ 36 ∧ l.s 0 % 4 = 0 ∧ l.fetchJob = none ∧ l.outbox.length < 256 ∧ l.haltReq = false ∧ l.flight = []) ∧
    specReadOnly 0x40 = false := by
  refine ⟨by decide +kernel, ⟨by decide +kernel, by decide +kernel⟩, by decide +kernel, by decide +kernel⟩

/-- StepKeepsSettled, LampComputesAlone, LaterResultIsKept: a RUNNING lamp in a settled state. -/
theorem test_lamp_settled : Settled (lampIn 1 id) := by
  refine ⟨by decide +kernel, by decide +kernel, ?_, by decide +kernel, by decide +kernel, by decide +kernel⟩
  intro n _
  have h : (lampIn 1 id).dict.psets = [] := by decide +kernel
  rw [psetQuiet]
  simp [State.pset, h, PSet.reset, mapGet]

/-! ### Staging, lanterns, mantle, Candelabra: an X device -/

def xLive : State := pers 1 live
def smallWin (st : Nat) : Win :=
  { k := 5, nin := 64, nch := 1, dlen := 256, fmt := 0, base := 0, posFirst := 0, state := st, cells := [], verdicts := [], inspected := [],
    valid := [] }
def staged (st : Nat) : State := putWins 3 [smallWin st] xLive
/-- StagingCompletes: each clause. -/
theorem test_staging :
    groupHeld (requested xLive) 0xF0 = false ∧ stgErr (requested xLive) ((requested xLive).commitRange 0xF0000 0x100000) none = 0 ∧
      (lanErr (requested xLive) ((requested xLive).commitRange 0xF0000 0x100000)).1 = 0 ∧
      ((findWin (staged 1) 3 5).map Win.state = some 1) ∧
      (findWin (staged 2) 3 5 = some (smallWin 2) ∧ inspects ((staged 2).setF (Reg.SET_CFG_LAMPS 3) 1) 3 = true) ∧
      (handable (staged 2) 3 = some (smallWin 2) ∧ mapGet [] (smallWin 2).valid 0 = [] ∧ inspects (staged 2) 3 = false) ∧
      (requested (xLive.setF Reg.CAP_SIZE 2)).f Reg.CAP_POST < (requested (xLive.setF Reg.CAP_SIZE 2)).f Reg.CAP_SIZE ∧
      capState (requested (xLive.setF Reg.CAP_STATUS_STATE 1)) = 1 ∧ (xLive.setF Reg.CAP_CTRL_TRIG_EN 1).flag Reg.CAP_CTRL_TRIG_EN = true ∧
      (xLive.setF Reg.CAP_CTRL_TRIG_EN 1).f Reg.CAP_CTRL_TRIG_EDGE = (if true then 0 else 1) := by decide +kernel

def handWin : HandWin :=
  { k := 5, nch := 1, handed := [0], begun := true, run := true, serial := 1, tag := 0, c := 0, i := 0, limit := 1, left := 0, accum := [], gone := false }
def task255 : Task := { exampleTask 0 255 with reseed := 0, lantern := 255 }
def jobWith (f : JobRun → JobRun) : State := putJobRun 3 (f JobRun.reset) xLive
def lanternWith (f : Lantern → Lantern) : State := putLantern 255 (f Lantern.reset) xLive
/-- LanternCompletes: each clause. -/
theorem test_lanterns :
    groupHeld (requested xLive) 0x100 = false ∧ (lanErr (requested xLive) ((requested xLive).commitRange 0x100000 0x110000)).1 = 0 ∧
      dumpErrs ((requested xLive).commitRange 0x100000 0x110000) = 0 ∧ xLive.actsF = false ∧
      (let s := jobWith (fun r => { r with wins := [handWin] });
        (s.lantern (((jobGeo s 3).lantOffset + (jobRun s 3).q) % 256)).queue.length < 64 ∧ (jobRun s 3).absent = [] ∧
          (jobRun s 3).wins.find? (fun v => !v.dispatched) = some handWin ∧ (jobRun s 3).wins.find? (fun v => v.k == handWin.k) = some handWin ∧
          handWin.c < handWin.limit ∧ handWin.handed.contains handWin.c = true) ∧
      (let s := lanternWith (fun l => { l with queue := [task255] });
        (s.lantern 255).queue = task255 :: [] ∧ (s.lantern 255).running = none ∧ (s.lantern 255).halted = false ∧
          ((s.lantern 255).plane (s.lantern 255).act).held = false ∧ task255.reseed = 0) ∧
      (let s := lanternWith (fun l => { l with running := some task255 });
        (s.lantern 255).running = some task255 ∧ (s.lantern 255).done = false ∧ debugMasked s 255 = false) := by decide +kernel
def noticeOf (all : Bool) : Notice := { job := 3, serial := 1, tag := 0, k := 5, c := 0, all := all, tasks := [task255] }
theorem test_stream :
    (let s := putLantern 255 { Lantern.reset with plane1 := { Plane.reset with task := some task255, held := true } }
        (jobWith (fun r => { r with stream := [.task task255] }));
      (jobRun s 3).stream = .task task255 :: [] ∧
        ((s.lantern task255.lantern).plane (1 - (s.lantern task255.lantern).act)).held = true ∧
        ((s.lantern task255.lantern).plane (1 - (s.lantern task255.lantern).act)).task = some task255) ∧
    ([true, false] : List Bool).all (fun b =>
      (jobRun (jobWith (fun r => { r with stream := [.notice (noticeOf b)] })) 3).stream == [.notice (noticeOf b)] && (noticeOf b).all == b) = true := by
  decide +kernel

def period1 (closed : Bool) : Period :=
  { job := 3, serial := 1, num := 0, geo := exampleGeo, first := 0, closed := closed, last := 0, starved := false, late := false, snuff := false,
    execSec := 0, execNs := 0, continued := false, comparing := false, accum := [], skip := [], skipDead := [], expMaxRaised := false,
    markerIn := true, slicesDone := [], drained := 0, flags := 0, expHist := [], img := [], vraw := false, copy := none, copyAt := 0, chans := [], lanes := false, seq := 0,
    lossMem := false, lossLane := false }
def mantleWith (f : MntJob → MntJob) : State := putMjob 3 (f MntJob.reset) xLive
def slotWaits (o : SlotOp) (s : State) : State := putSlot 8447 { MSlot.reset with queue := [o] } s
/-- MantleCompletes: each clause. -/
theorem test_mantle :
    (let s := mantleWith (fun m => { m with periods := [period1 true] });
      ((s.mjob 3).periods.find? (fun p => p.markerIn && mapGet 0 p.slicesDone 255 == 0)).isSome = true ∧
        drainTurn (slotWaits (.drain 1) s) 1 = true ∧ ((slotWaits (.drain 1) s).mslot 8447).queue = .drain 1 :: []) ∧
    (let s := slotWaits (.clear 3 2) (mantleWith (fun m => { m with periods := [period1 true] }));
      (s.mslot 8447).queue = .clear 3 2 :: [] ∧ ((s.mjob 3).periods.any fun p => decide (p.serial < 2) && p.drainAhead 8447) = false) ∧ ((slotWaits (.tagSet 1) xLive).mslot 8447).queue = .tagSet 1 :: [] ∧
    ((mantleWith (fun m => { m with ready := [(0, rep 256)], begun := 1 })).mjob 3).ready = (0, rep 256) :: [] ∧
    xLive.flag Reg.MNT_STATUS_INIT_DONE = false ∧ xLive.isF = false ∧ groupHeld (requested xLive) 0x110 = false ∧
    mntErr (requested xLive) ((requested xLive).commitRange 0x110000 0x120000) = 0 := by decide +kernel

/-- CandelabraCompletes: each clause. -/
theorem test_candelabra :
    groupHeld (requested xLive) 0x120 = false ∧ canErr (requested xLive) ((requested xLive).commitRange 0x120000 0x130000) none = 0 ∧
      canBusy (requested xLive) = false ∧ xLive.can.ptrEnd = false ∧ (requested xLive).flag Reg.CAN_W_STATUS_BUSY = false ∧
      retiring (requested xLive) = false ∧ (requested xLive).flag Reg.CAN_CTRL_EN = false ∧
      (requested (xLive.setF Reg.CAN_W_STATUS_SEALED 1)).flag Reg.CAN_W_STATUS_SEALED = true ∧
      (xLive.setF Reg.CAN_W_STATUS_BUSY 1).flag Reg.CAN_W_STATUS_BUSY = true := by decide +kernel

/-! ### DMA -/

def dmaLive : State := live.setF Reg.DMA_CTRL_EN 1
/-- A descriptor that copies 64 bytes of LPDDR6 (MODE 0), and one that compares them (MODE 2). -/
def copyDesc (mode : Nat) : List Byte :=
  leBytes 8 0x1000000000 ++ leBytes 8 0x1000001000 ++ leBytes 4 64 ++ leBytes 4 64 ++ rep 8 ++ leBytes 4 1 ++ leBytes 4 1 ++ rep 8 ++ leBytes 4 mode ++
    rep 12
def readyMem (s : State) : State := s.setF Reg.MEM_STATUS_READY 1
def chanWith (f : DmaChan → DmaChan) : State := setChState 15 1 (putChan 15 (f DmaChan.reset) (readyMem dmaLive))
/-- DmaRegistersComplete: each clause. -/
theorem test_dma_registers :
    dmaLive.flag Reg.DMA_CTRL_EN = true ∧ dmaLive.dma.resetDue = false ∧ chState dmaLive 15 = 0 ∧ chState (chanWith id) 15 ≠ 0 ∧ hasLast (dmaLive.setF (Reg.CH_LAST_LO 15) 64) 15 = true ∧
      (let s := chanWith (fun x => { x with desc := copyDesc 0 }); chState s 15 = 1 ∧ (s.chan 15).desc ≠ [] ∧ (s.chan 15).ending ≠ 2) := by
  decide +kernel

def readOne : DmaBurst := { pos := 0, n := 64, addr := 0x1000000000, dst := false, data := [], wrAt := 0 }
/-- DmaBurstsComplete: each clause. -/
theorem test_dma_bursts_clauses :
    (let s := dramPoke (atOffset 0 (copyDesc 0)) (chanWith (fun x => { x with fetch := some 0x1000000000 }));
      let x := updChan 15 (fun d => { clearDesc d with fetch := none, seq := d.seq + 1 })
        ((s.setF64 (Reg.CH_LAST_LO 15) (Reg.CH_LAST_HI 15) 0x1000000000).incF (Reg.CNT_DESC 15) 1);
      let r := memRead (dmaMaster 15) 4 0x1000000000 64 0 [] x;
      (s.chan 15).fetch = some 0x1000000000 ∧ s.flag Reg.DMA_CTRL_EN = true ∧ chState s 15 = 1 ∧ busHolds s 0x1000000000 64 = false ∧ r.1.1 = true ∧ descErr r.1.2 = 0 ∧
        hostClosed r.2 = false) ∧
    (let s := chanWith (fun x => { x with desc := copyDesc 0 });
      let x := s.chan 15;
      chState s 15 = 1 ∧ x.desc ≠ [] ∧ x.ending = 0 ∧ x.mismatch = none ∧ x.reads.length < 8 ∧ x.srcPos < (srcSide x.desc).len ∧
        descMode x.desc = 0 ∧ descPace x.desc = 0 ∧ dmaTurn s 15 = true) ∧
    (let x := (chanWith (fun x => { x with desc := copyDesc 2 })).chan 15;
      x.dstPos < (dstSide x.desc).len ∧ descMode x.desc = 2 ∧ descPace x.desc = 0 ∧
        dmaTurn (chanWith (fun x => { x with desc := copyDesc 2 })) 15 = true) ∧
    (let s := chanWith (fun x => { x with desc := copyDesc 0, srcBuf := (List.range 64).map fun i => (i, some 1) });
      let x := s.chan 15;
      descMode x.desc ≠ 2 ∧ dmaTurn s 15 = true ∧ x.writes.length < 8 ∧ x.wrPos < (dstSide x.desc).len ∧ hostClosed s = false ∧
        (formedBytes x x.wrPos ((dstSide x.desc).burst x.wrPos false)).isSome = true) ∧
    ((chanWith (fun x => { x with reads := [readOne], writes := [readOne] })).chan 15).reads[0]? = some readOne ∧ inPages readOne.addr = false ∧ busHolds dmaLive readOne.addr readOne.n = false ∧
    ((chanWith (fun x => { x with reads := [readOne], writes := [readOne] })).chan 15).writes[0]? = some readOne := by decide +kernel
def endingChan (next : Nat) : State :=
  dramPoke (atOffset 56 (leBytes 8 next)) ((chanWith (fun x => { x with desc := copyDesc 0, srcPos := 64, dstPos := 64, wrPos := 64, bytes := 64 })).setF64
    (Reg.CH_LAST_LO 15) (Reg.CH_LAST_HI 15) 0x1000000000)
theorem test_dma_end :
    ([0, 0x1000000040] : List Nat).all (fun next =>
      let s := endingChan next
      let r := memRead (dmaMaster 15) 4 ((chLast s 15 + 56) % 2 ^ 64) 8 0 [] s
      descReady s 15 && chState s 15 == 1 && (s.chan 15).ending == 0 && !busHolds s ((chLast s 15 + 56) % 2 ^ 64) 8 && r.1.1 && ofLe r.1.2 == next && next % 64 == 0) = true := by decide +kernel

/-! ### LPDDR6 -/

def reqOf (write : Bool) : MemReq :=
  { port := 6, master := 2, write := write, access := if write then 2 else 1, off := 0, n := 32, cells := if write then atOffset 0 (rep 32) else [],
    cls := 0, waited := 0 }
def queued (write : Bool) : State := memSet (fun y => { y with queue := [reqOf write] }) (readyMem live)
/-- MemoryControlCompletes: each clause. -/
theorem test_memory_control :
    (memReady live = false ∧ live.mem.initing = false ∧ (live.reg Reg.MEM_GEOM_CHANNELS.key).toNat = objNat live 0x000008 0xA) ∧
    (memSet (fun y => { y with initing := true }) live).mem.initing = true ∧
    (let s := readyMem live;
      memReady s = true ∧ 1 < memChannels s ∧ s.flag Reg.MEM_STATUS_SWITCHING = false ∧ s.flag (Reg.CH_TEMP_IN_SR 1) = false ∧
        s.flag Reg.MEM_TRAIN_STATUS_DEFERRED = false ∧ s.flag Reg.MEM_STATUS_TRAINING = false ∧ s.mem.periodic.testBit 1 = false ∧ s.mem.queue = []) ∧
    (memSet (fun y => { y with periodic := 2 }) live).mem.periodic = 2 ^ 1 ∧ 1 ≠ memActive live ∧
    (let s := live.setF Reg.MEM_STATUS_SWITCHING 1; s.flag Reg.MEM_STATUS_SWITCHING = true ∧ s.flag Reg.MEM_STATUS_TRAINING = false) ∧
    ((readyMem live).setF Reg.MEM_CTRL_SR_EN 1).flag Reg.MEM_CTRL_SR_EN = true ∧
    (let s := memSet (fun y => { y with queue := [reqOf true] }) ((readyMem live).setF (Reg.CH_TEMP_IN_SR 0) 1);
      s.flag (Reg.CH_TEMP_IN_SR 0) = true ∧ s.mem.srRetrain.testBit 0 = false ∧ reqOf true ∈ s.mem.queue ∧ reqChannel s (reqOf true) = 0) ∧
    groupHeld (requested live) 0xC0 = false ∧ memGroupErr ((requested live).commitRange 0xC0000 0xD0000) = 0 := by decide +kernel

/-- MemoryAccessCompletes: a request alone in the queue is the one that issues, whatever the row hits. -/
theorem test_memory_choice (write : Bool) (hits : Nat) : memChoose (queued write).draw.2 0 hits = some (reqOf write) := by
  have one : ∀ q : MemReq, rowHits hits [q] = [q] := fun _ => rfl
  have mode : (queued write).draw.2.flag Reg.MEM_STATUS_MODE = false := by cases write <;> decide +kernel
  have least : leastBy (fun q => (portTarget (queued write).draw.2 q.port : Int) - (q.waited : Nat))
      (leastBy (fun q => effClass (queued write).draw.2 q) (issuable (queued write).draw.2 0 [] (queued write).draw.2.mem.queue)) =
        [reqOf write] := by cases write <;> decide +kernel
  rw [memChoose]
  simp only [mode, Bool.false_eq_true, if_false, least, one]
  rfl
theorem test_memory_access :
    (let s := readyMem live; memReady s = true ∧ 0 + 256 ≤ dramBytes s) ∧ anyMaster 0x22 = true ∧ masterReach 1 4 false = true ∧
      ((readyMem live).setF Reg.MEM_CTRL_SCRUB_EN 1).flag Reg.MEM_CTRL_SCRUB_EN = true ∧ memFull (readyMem live) 0x22 = false ∧ chanHolds (queued true) 0 = false ∧
      live.flt.inj = none ∧ memHolds (readyMem live) 0 32 = false := by
  decide +kernel
/-- R458: a read that overlaps a queued write returns the written data, the write having been served first. -/
theorem test_memory_order :
    (let r := dramAccess 1 1 0 64 [] MemErrs.none (queued true);
      r.1 = (true, rep 32 ++ zeros 32) ∧ r.2.mem.queue = []) := by decide +kernel


/-- R377: stored bits that a promotion's errors put wrong stay so until they are read, and poison the entry then. -/
theorem test_mantle_upset :
    (let s := mntChecks ownRead 0 5 [0] [(8192 * 8 + 3, 2)] State.reset
     let u := mntChecks ownRead 0 7 [3] [] s
     (s.mslot 7).upsets = [(3, 2)] ∧ ((s.mslot 7).entry 3).poisoned = false ∧
       (u.mslot 7).upsets = [] ∧ ((u.mslot 7).entry 3).poisoned = true ∧ (u.mslot 7).clean = false) := by decide +kernel
/-! ### The host interface -/

def hostUp : State := (live.setF Reg.HIF_STATUS_LINK_UP 1).setF Reg.HIF_STATUS_CXL_MODE 1
def cxlUp : State := readyMem ((hifSet (fun h => { h with decoder := 0x200000000000 }) hostUp).setF Reg.HIF_STATUS_MEM_EN 1)
/-- HostLinkCompletes: each clause. -/
theorem test_host_link :
    (let s := bringSet (fun b => { b with hifPerstN := true }) live; s.bring.hifPerstN = true ∧ maxWidth s ≤ 2 ∧ maxRate s ≤ 3) ∧
      hostUp.flag Reg.HIF_STATUS_LINK_UP = true ∧ (hifSet (fun h => { h with cfgReady := true }) hostUp).hif.cfgReady = true ∧
      (CfgReq.read 4095).wf = true ∧ (CfgReq.write 4092 (2 ^ 32 - 1)).wf = true ∧ (CfgReq.control true true (2 ^ 52 - 2 ^ 28) true).wf = true := by
  decide +kernel

/-- HostAccessCompletes: each clause. -/
theorem test_host_access :
    (routeTo (apertureAddr (hostUp.setF Reg.HIF_APERTURE_HI 16) 0xFFFC0) 64 = some 8 ∧ 0xFFFC0 % 64 = 0) ∧
      cxlOffset cxlUp 0x200000001000 = some 0x1000 ∧ memHolds cxlUp 0x1000 64 = false ∧ memReady cxlUp = true ∧ 0x1000 + 64 ≤ dramBytes cxlUp ∧
      (cxlUp.setF Reg.HIF_CTRL_WPROT_EN 0).flag Reg.HIF_CTRL_WPROT_EN = false ∧ hostUp.flag Reg.HIF_STATUS_CXL_MODE = true ∧ live.flag Reg.MBX_STATUS_BUSY = false ∧
      (live.setF Reg.MBX_STATUS_BUSY 1).flag Reg.MBX_STATUS_BUSY = true ∧
      (let s := hifSet (fun h => { h with msixEn := true }) (hostUp.intPend 27);
        msixDue (hifSet (fun h => { h with msix := mapSet 1 h.msix 111 0 }) s) 27 = true) := by decide +kernel

def readMsg (session : Nat) : ZmpMsg :=
  { version := 1, opcode := 1, flags := 0, session := session, seq := 1, ix := 0, el := 1, count := 1, status := 0, reserved := 0, group := 0, payload := [] }
/-- HostAccessCompletes: a request in the mailbox. -/
def mailState : State := putWords (hifSet (fun h => { h with mbxTaken := true }) served) 0xB1000 6 (msgBytes (readMsg 0))
theorem test_mailbox :
    mailState.hif.mbxTaken = true ∧ mailboxServed mailState = true ∧ leAt (mbxRequest mailState) 16 2 ≤ 4072 ∧
      leAt (mbxRequest mailState) 0 2 = zmpMagic := by decide +kernel

/-! ### The dictionary and ZMP -/

/-- DictionaryCompletes, CommandObjectsComplete: each clause. -/
theorem test_dictionary :
    (([0, 1, 2, 3] : List Nat).all fun o => takesOrigin served o) = true ∧ served.flag Reg.NVM_STATUS_RECOVERY = false ∧ (served.pset 3).state ≠ 2 ∧
      (shadowGroups (setShadow (served.pset 3))).find? (groupHeld (logDrain served)) = none ∧
      applyFail (setShadow (served.pset 3)) none (logDrain served) = none := by decide +kernel

def zmpState : State := (setObj 0x102101 [1] served).setF (Reg.MNET_PORT_CFG_EN 1) 1
def datagram : List Byte := msgBytes (readMsg 1) ++ zmpTag zmpState 1 (msgBytes (readMsg 1))
/-- ZmpCompletes: a READ whose tag verifies. -/
theorem test_zmp_datagram :
    (let x := zmpCount 0 (zmpState.incF (Reg.MNET_CNT_RX 1) 1);
      let m := parseMsg datagram;
      datagram.length = 40 + leAt datagram 16 2 ∧ leAt datagram 0 2 = zmpMagic ∧ m.flags.testBit 0 = false ∧ m.flags.testBit 2 = false ∧
        sessionEnabled x m.session = true ∧ datagram.drop (datagram.length - 16) = zmpTag x m.session (datagram.take (datagram.length - 16))) := by
  decide +kernel
def subOne : Subscription := { index := 0, element := 1, count := 1, mode := 2, interval := 1, last := [], lastNs := 0 }
/-- ZmpCompletes: the other clauses. -/
theorem test_zmp :
    objNat served 0x100006 1 ≠ 0 ∧
      (let s := putSession 7 { sessionOf served 7 with peer := some (1, 2), subs := [subOne] } served;
        (sessionOf s 7).subs[0]? = some subOne ∧ (sessionOf s 7).peer ≠ none ∧ subOne.mode = 2 ∧ subOne.lastNs = 0) ∧
      ({ served.mgmt with journal := [(5, [1])] }).journal ≠ [] ∧
      (let s := dictSet (fun d => { d with logNext := 1 }) served; s.mgmt.bootSteps = 5 ∧ tailNext (logDrain s) < (logDrain s).dict.logNext) := by decide +kernel

/-! ### What is promised -/

/-- UndefinedOffsets: first and later accesses of the last page's undefined words; a reader that is no host. -/
theorem test_undefined :
    pageExists (0x7FFFFC / 0x10000) = true ∧ rowAt 0x7FFFFC = none ∧ live.once Reg.BMX_CNT_UNDEF.key = false ∧
      (live.setOnce Reg.BMX_CNT_UNDEF.key true).once Reg.BMX_CNT_UNDEF.key = true ∧ anyMaster 0x22 = true ∧ masterReach 0x20 4 false = true := by
  decide +kernel

/-- RefusedAccesses: a DMA channel at boot memory, and a short access to a register page. -/
theorem test_refused :
    (anyMaster 0x1F = true ∧ routeTo 0 4 = some 0 ∧ masterReach 0x1F 0 true = false) ∧
      (routeTo 0x407FFFFF 1 = some 4 ∧ masterReach 2 4 true = true ∧ pageExists ((0x407FFFFF - 0x40000000) / 0x10000) = true) := by decide +kernel

/-- StagedWrites: a register with staged fields, a slot that is not IDLE, the seed window. -/
theorem test_staged :
    (rwsMask 0x10104 ≠ 0 ∧ pageExists 1 = true ∧ (pageGated live 1 || (1 == 2 && slotState live ((0x10104 - 0x21000) / 32) != 0)) = false) ∧
      (rwsMask (0x21000 + 32 * 255 + 4) ≠ 0 ∧ slotState (setSlotState 255 1 live) ((0x21000 + 32 * 255 + 4 - 0x21000) / 32) ≠ 0) ∧
      (rwsMask 0x100208 ≠ 0 ∧ rwsMask 0x10020C ≠ 0 ∧ pageGated xLive 0x10 = false) ∧ (rwsMask 0xE0000 ≠ 0 ∧ pageGated xLive 0xE = true) := by
  decide +kernel

/-- CommandsAreWrites: the first and the last register of an array. -/
theorem test_as_write : asWrite live (.retrain 1 127) = some (1, 0x2F0488, 1, [], 0) ∧ wellFormed (.retrain 1 127) = true := by decide +kernel
theorem test_as_write_kept : asWrite (live.setReg 0xF0500 0x18) (.capStop 1) = some (1, 0xF0500, 0x1A, [], 0) := by decide +kernel

/-- MessagesKept: a kind of class 1 below FAULT_MIN, with room in the ring and without, before and after a drop. -/
def quietFaults : State :=
  ((live.setF (Reg.FLT_KIND_CNT FK.BMX_ACCESS) 0).setF Reg.PMR_CFG_FAULT_MIN 4)
theorem test_messages :
    classOf quietFaults FK.BMX_ACCESS ≤ 1 ∧ classOf quietFaults FK.FLT_RING_FULL ≤ 1 ∧
      classOf quietFaults FK.BMX_ACCESS < quietFaults.f Reg.PMR_CFG_FAULT_MIN ∧
      classOf quietFaults FK.FLT_RING_FULL < quietFaults.f Reg.PMR_CFG_FAULT_MIN ∧ fltRingFull quietFaults = false ∧
      fltRingFull (quietFaults.setF Reg.FLT_RING_WR 1024) = true ∧ quietFaults.once Reg.FLT_RING_WR.key = false ∧
      (quietFaults.setOnce Reg.FLT_RING_WR.key true).once Reg.FLT_RING_WR.key = true ∧ FK.BMX_ACCESS ≠ FK.FLT_RING_FULL := by decide +kernel

/-- SnuffEntered: kinds that act as C2, C3 acting as C2, and C4; SNUFF_IN's own class. -/
theorem test_snuffed :
    actingClass (classOf live FK.LMP_MEM_UE) 0x65 = 2 ∧ actingClass (classOf live FK.SNS_TSHUT) 9 = 4 ∧ actingClass 3 9 = 2 ∧
      classOf live FK.FLT_SNUFF_IN = 2 ∧ live.snuffed = false ∧ (snuffedAt 0).snuffed = true := by decide +kernel

/-- ClaimFollowsRole: a state in which role and claim agree, for an ACTIVE unit and another. -/
theorem test_claim_agrees :
    roleAndClaimAgree live = true ∧ roleAndClaimAgree ((live.setF Reg.PAIR_STATUS_STATE 3).setF Reg.PAIR_STATUS_CLAIM_OUT 1) = true := by
  decide +kernel

/-- LaterResultIsKept, LampComputesAlone: two results on their way to one register of a RUNNING lamp. -/
def twoResults : State :=
  lampIn 1 (fun l => { l with flight := [{ delay := 1, dest := .sreg 3 5, sat := false }, { delay := 1, dest := .sreg 3 6, sat := false },
    { delay := 2, dest := .vreg 4 (List.replicate 16 7), sat := false }] })
theorem test_two_results :
    lampReady 63 .nop twoResults ∧ (twoResults.lamp 63).haltReq = false ∧
      ((twoResults.lamp 63).flight.all fun f => match f.dest with | .vreg _ x => x.length == 16 | _ => true) = true ∧
      registerOp (.nop 63) = some (63, .nop) :=
  ⟨⟨by decide +kernel, by decide +kernel⟩, by decide +kernel, by decide +kernel, rfl⟩

/-- LampWordsRoundTrip: an instruction that fits, and a word that decodes. -/
theorem test_lamp_word_fits : LampOp.fits (.fetch 15 15 7 63 1 1) = true ∧ (decodeLamp 0xF0166800).isSome = true := by decide +kernel

/-- DramBytesWritten: the last bytes of LPDDR6. -/
theorem test_dram_written :
    (let s := readyMem live;
      anyMaster 2 = true ∧ masterReach 2 8 true = true ∧ memReady s = true ∧ s.mem.queue = [] ∧ s.flt.inj = none ∧ s.flag Reg.MEM_STATUS_SWITCHING = false ∧ s.mem.periodic = 0 ∧
        dramBytes s - 256 + 256 ≤ dramBytes s ∧ dramBytes s ≤ 0x1000000000) ∧ Memory.wf live = true := by decide +kernel

/-- ZmpMessagesRoundTrip: a message at the bounds. -/
theorem test_zmp_message :
    let m : ZmpMsg := { version := 255, opcode := 255, flags := 255, session := 255, seq := 2 ^ 32 - 1, ix := 65535, el := 255, count := 255,
                        status := 255, reserved := 0, group := 65535, payload := [1, 2, 3] };
    parseMsg (msgBytes m ++ [9]) = m := by decide +kernel

end Sys2Proof.Tests
end

/-! Proofs about refused accesses (01_instrument.md, 13_fabric.md): what raising FK_BMX_ACCESS and the end of its command can change. -/

namespace Sys2Proof.Machine

/-! ## What a collection leaves of the counts, the block resets and the snuff (R602, R606, R607, R617) -/

/-- The count of kind j stands, no block reset has become due, and a snuffed device is still snuffed. -/
structure CountKept (j : Nat) (s t : State) : Prop where
  resets : t.flt.blockResets = s.flt.blockResets
  count : t.reg (Reg.FLT_KIND_CNT j).key = s.reg (Reg.FLT_KIND_CNT j).key
  snuff : s.snuffed = true → t.snuffed = true

/-- A field outside the counts of kinds that is not FLT_STATUS.SNUFFED. -/
abbrev Field.uncounted (F : Field) : Prop := (F.key < 0x34000 ∨ 0x38000 ≤ F.key) ∧ F.apart Reg.FLT_STATUS_SNUFFED

/-- A block without a reset never acts as class 3 (R606). -/
theorem actingClass_ne_three {src : Nat} (sev : Nat) (h : hasBlockReset src = false) : actingClass sev src ≠ 3 := by
  unfold actingClass
  split
  · decide
  · rename_i hacts
    exact fun h3 => hacts ⟨h3, by rw [h]; rfl⟩

section Kept
variable {j : Nat}

theorem CountKept.refl (s : State) : CountKept j s s := ⟨rfl, rfl, id⟩

theorem CountKept.trans {s t u : State} (h : CountKept j s t) (g : CountKept j t u) : CountKept j s u :=
  ⟨g.resets.trans h.resets, g.count.trans h.count, g.snuff ∘ h.snuff⟩

theorem CountKept.of_regs {s t : State} (hr : t.regs = s.regs) (hf : t.flt.blockResets = s.flt.blockResets) : CountKept j s t :=
  ⟨hf, reg_congr hr _, fun h => by rw [State.snuffed, State.flag, f_congr hr]; exact h⟩

theorem CountKept.setPair (s : State) (p : PairState) : CountKept j s { s with pair := p } := .of_regs rfl rfl

theorem CountKept.setPmr (s : State) (c : PmrState) : CountKept j s { s with pmr := c } := .of_regs rfl rfl

theorem CountKept.f {s t : State} (h : CountKept j s t) : t.f (Reg.FLT_KIND_CNT j) = s.f (Reg.FLT_KIND_CNT j) := by
  rw [State.f, State.f, h.count]

theorem CountKept.setField {s : State} {F : Field} (v : Nat) (hc : F.key ≠ (Reg.FLT_KIND_CNT j).key)
    (hs : F.apart Reg.FLT_STATUS_SNUFFED) : CountKept j s (s.setF F v) :=
  ⟨rfl, reg_setF_ne s v hc.symm, fun h => by rw [State.snuffed, State.flag, f_setF_apart s v hs]; exact h⟩

/-- Another kind is counted. -/
theorem CountKept.incCount {k : Nat} (s : State) (h : k ≠ j) : CountKept j s (s.incF (Reg.FLT_KIND_CNT k) 1) :=
  .setField _ (by simp only [Reg.FLT_KIND_CNT]; omega) (.inl (by simp only [Reg.FLT_KIND_CNT, Reg.FLT_STATUS_SNUFFED]; omega))

theorem snuffed_setF_one (s : State) : (s.setF Reg.FLT_STATUS_SNUFFED 1).snuffed = true :=
  flag_setF_one s (by decide : Reg.FLT_STATUS_SNUFFED.fits)

variable (hj : j < 4096)
include hj

theorem CountKept.setF (s : State) {F : Field} (v : Nat) (h : F.uncounted) : CountKept j s (s.setF F v) :=
  .setField v (by have := h.1; simp only [Reg.FLT_KIND_CNT]; omega) h.2

theorem CountKept.setReg (s : State) {k : Nat} (w : Word) (h : k < 0x30010 ∨ 0x30010 < k ∧ k < 0x34000 ∨ 0x38000 ≤ k) :
    CountKept j s (s.setReg k w) := by
  refine ⟨rfl, reg_setReg_ne s w (by simp only [Reg.FLT_KIND_CNT]; omega), fun hs => ?_⟩
  rw [State.snuffed, State.flag, State.f, reg_setReg_ne s w (by simp only [Reg.FLT_STATUS_SNUFFED]; omega)]
  exact hs

theorem CountKept.intPend (s : State) (v : Nat) : CountKept j s (s.intPend v) := .setReg hj s _ (by decide)

theorem CountKept.setSnuffed (s : State) : CountKept j s (s.setF Reg.FLT_STATUS_SNUFFED 1) :=
  ⟨rfl, reg_setF_ne s 1 (by simp only [Reg.FLT_KIND_CNT, Reg.FLT_STATUS_SNUFFED]; omega), fun _ => snuffed_setF_one s⟩

/-! ## The steps of a collection -/

theorem putWords_countKept (n : Nat) : ∀ (s : State) (k : Nat) (l : List Byte), 0x30010 < k ∧ k + 4 * n ≤ 0x34000 ∨ 0x38000 ≤ k →
    CountKept j s (putWords s k n l) := by
  induction n with
  | zero => intro s k l _; exact .refl s
  | succ n ih =>
    intro s k l h
    exact (CountKept.setReg hj s _ (by omega)).trans (ih _ _ _ (by omega))

theorem keepMsg_countKept (e : FaultEv) (sev : Nat) (s : State) : CountKept j s (keepMsg e sev s) := by
  have hring : CountKept j s (putMsg s (Reg.FLT_RING0 (s.f Reg.FLT_RING_WR % 1024)).key (faultMsg s e sev s.flt.lost)) :=
    putWords_countKept hj 4 s _ _ (.inr (by simp only [Reg.FLT_RING0]; omega))
  have hinc : ∀ x : State, CountKept j x (x.incF Reg.FLT_RING_WR 1) := fun x => .setF hj x _ (by decide)
  unfold keepMsg
  dsimp only
  generalize hb : ({ (putMsg s _ _).incF Reg.FLT_RING_WR 1 with flt := _ } : State) = b
  have hkept : CountKept j s b := (hring.trans (hinc _)).trans (hb ▸ .of_regs rfl rfl)
  split
  · have hfirst : CountKept j b (putMsg b (Reg.FLT_FIRST_MSG 0).key (faultMsg s e sev s.flt.lost)) :=
      putWords_countKept hj 4 b _ _ (.inl (by decide))
    exact hkept.trans ((((hfirst.trans (.setF hj _ _ (by decide))).trans (.setF hj _ _ (by decide))).trans
      (.setF hj _ _ (by decide))).trans (.setF hj _ _ (by decide)))
  · exact hkept

theorem pairEnter_countKept (st : Nat) (s : State) : CountKept j s (pairEnter st s).1 := by
  unfold pairEnter
  split
  · exact .refl s
  · exact ((CountKept.setF hj s (F := Reg.PAIR_STATUS_STATE) st (by decide)).trans (.intPend hj _ 26)).trans (.setF hj _ _ (by decide))

theorem pairSnuff_countKept (s : State) : CountKept j s (pairSnuff s).1 := by
  unfold pairSnuff
  dsimp only
  split
  · refine CountKept.trans ?_ (pairEnter_countKept hj _ _)
    exact (CountKept.setPair s _).trans (.setF hj (F := Reg.PAIR_STATUS_TRIM_PENDING) _ 0 (by decide))
  · exact .refl s

theorem snuffEnter_countKept (s : State) : CountKept j s (snuffEnter s).1 := by
  unfold snuffEnter
  split
  · exact .refl s
  · dsimp only
    generalize ha : snuffDrains _ = a
    have h1 : CountKept j s a := by
      subst ha
      exact ((CountKept.setSnuffed hj s).trans (.setF hj _ _ (by decide))).trans (.of_regs rfl rfl)
    have h2 : CountKept j a (pairSnuff (((a.intPend 2).setF Reg.HIF_STATUS_SNUFFED 1).lifeAdd 12 1)).1 := by
      refine CountKept.trans ?_ (pairSnuff_countKept hj _)
      exact ((CountKept.intPend hj a 2).trans (.setF hj _ 1 (by decide))).trans (.of_regs rfl rfl)
    split
    · exact (h1.trans h2).trans (.setF hj _ 1 (by decide))
    · exact h1.trans h2

theorem snapTrigger_countKept (cause domain slot trigger kind : Nat) (freeze : Bool) (s : State) :
    CountKept j s (snapTrigger cause domain slot trigger kind freeze s).1 := by
  unfold snapTrigger
  dsimp only
  generalize ha : (if freeze then s.setF Reg.PMR_STATUS_FROZEN 1 else s) = a
  have h1 : CountKept j s a := by
    subst ha
    split
    · exact .setF hj s 1 (by decide)
    · exact .refl s
  refine h1.trans ?_
  split
  · exact .setPmr a _
  split
  · exact CountKept.trans (.setF hj a _ (by decide)) (.of_regs rfl rfl)
  · exact (CountKept.setPmr a _).trans (.setF hj (F := Reg.PMR_STATUS_COLLECTING) _ 1 (by decide))

theorem collectSnap_countKept (e : FaultEv) (sev : Nat) (s : State) : CountKept j s (collectSnap e sev s).1 := by
  unfold collectSnap
  split
  · exact snapTrigger_countKept hj _ _ _ _ _ _ s
  · exact .refl s

/-- Beside the count of its own kind. -/
theorem collectKeep_countKept (e : FaultEv) (sev : Nat) (s : State) :
    CountKept j (s.incF (Reg.FLT_KIND_CNT e.kind) 1) (collectKeep e sev s).1 := by
  unfold collectKeep
  dsimp only
  split
  · exact CountKept.trans (.setF hj (F := Reg.FLT_CNT_DROP) _ _ (by decide)) (.of_regs rfl rfl)
  · exact keepMsg_countKept hj e sev _

theorem collectReset_countKept (e : FaultEv) (sev : Nat) (lost : Bool) (s : State) (h : hasBlockReset e.src = false) :
    CountKept j s (collectReset e sev lost s) := by
  unfold collectReset
  dsimp only
  rw [if_neg (actingClass_ne_three sev h)]
  split
  · have hmsg : CountKept j s (putMsg s (Reg.FLT_LAST_C4_MSG 0).key (faultMsg s e sev lost)) :=
      putWords_countKept hj 4 s _ _ (.inl (by decide))
    exact hmsg.trans (.of_regs rfl rfl)
  · exact .refl s

/-- An event of a block that class 3 does not reset. -/
theorem collectOne_countKept (e : FaultEv) (s : State) (h : hasBlockReset e.src = false) :
    CountKept j (s.incF (Reg.FLT_KIND_CNT e.kind) 1) (collectOne e s).1 := by
  unfold collectOne
  dsimp only
  refine (collectKeep_countKept hj e (classOf s e.kind) s).trans (CountKept.trans ?_ (collectReset_countKept hj e _ _ _ h))
  generalize (collectKeep e (classOf s e.kind) s).1 = a
  have hpend : CountKept j a (if actingClass (classOf s e.kind) e.src ≥ 1 then a.intPend 1 else a) := by
    split
    · exact .intPend hj a 1
    · exact .refl a
  refine (hpend.trans (collectSnap_countKept hj e (classOf s e.kind) _)).trans ?_
  generalize (collectSnap e _ _).1 = b
  split
  · exact snuffEnter_countKept hj _
  · exact .refl _

end Kept

/-! ## The chain of a raised fault -/

/-- The kinds that a collection raises itself (R603, R614, R636, R663), and those of the packets that a snuff abandons (R151, R386). -/
def followingKinds : List Nat :=
  [FK.FLT_RING_FULL, FK.FLT_SNUFF_LATCHED, FK.PAIR_ISOLATED, FK.PMR_SNAP_OVERRUN, FK.MNT_DUMP_LOST]

/-- An event that follows from another one's collection, of a block that class 3 does not reset. -/
def FollowUp (e : FaultEv) : Prop := e.kind ∈ followingKinds ∧ hasBlockReset e.src = false

theorem pairEnter_raises (st : Nat) (s : State) : ∀ x ∈ (pairEnter st s).2, FollowUp x := by
  intro x hx
  unfold pairEnter at hx
  split at hx
  · simp at hx
  · dsimp only at hx
    split at hx
    · rw [List.mem_singleton.1 hx]; exact ⟨by decide, by decide⟩
    · simp at hx

theorem pairSnuff_raises (s : State) : ∀ x ∈ (pairSnuff s).2, FollowUp x := by
  intro x hx
  unfold pairSnuff at hx
  dsimp only at hx
  split at hx
  · exact pairEnter_raises _ _ x hx
  · simp at hx

theorem snuffEnter_raises (s : State) : ∀ x ∈ (snuffEnter s).2, FollowUp x := by
  intro x hx
  unfold snuffEnter at hx
  split at hx
  · simp at hx
  · dsimp only at hx
    split at hx
    · rcases List.mem_append.1 hx with hx | hx
      · exact pairSnuff_raises _ x hx
      · rw [List.mem_singleton.1 hx]; exact ⟨by decide, by decide⟩
    · exact pairSnuff_raises _ x hx

theorem collectKeep_raises (e : FaultEv) (sev : Nat) (s : State) : ∀ x ∈ (collectKeep e sev s).2, FollowUp x := by
  intro x hx
  unfold collectKeep at hx
  dsimp only at hx
  split at hx
  · dsimp only at hx
    split at hx
    · simp at hx
    · rw [List.mem_singleton.1 hx]; exact ⟨by decide, by decide⟩
  · simp at hx

theorem collectSnap_raises (e : FaultEv) (sev : Nat) (s : State) : ∀ x ∈ (collectSnap e sev s).2, FollowUp x := by
  intro x hx
  unfold collectSnap at hx
  split at hx
  · dsimp only at hx
    split at hx
    · rw [List.mem_singleton.1 hx]; exact ⟨by decide, by decide⟩
    · simp at hx
  · simp at hx

theorem collectOne_raises (e : FaultEv) (s : State) : ∀ x ∈ (collectOne e s).2, FollowUp x := by
  intro x hx
  unfold collectOne at hx
  rcases List.mem_append.1 hx with hx | hx
  · rcases List.mem_append.1 hx with hx | hx
    · exact collectKeep_raises _ _ _ x hx
    · exact collectSnap_raises _ _ _ x hx
  · split at hx
    · exact snuffEnter_raises _ x hx
    · simp at hx

section Chain
variable {j : Nat} (hj : j < 4096) (hc : j ∉ followingKinds)
include hj hc

theorem collect_countKept (n : Nat) : ∀ (l : List FaultEv) (s : State), (∀ x ∈ l, FollowUp x) → CountKept j s (collect n l s) := by
  induction n with
  | zero => intro l s _; exact .refl s
  | succ n ih =>
    intro l s h
    cases l with
    | nil => exact .refl s
    | cons e r =>
      obtain ⟨hkind, hsrc⟩ := h e (by simp)
      have hone : CountKept j s (collectOne e s).1 :=
        (CountKept.incCount s (ne_of_mem_of_not_mem hkind hc)).trans (collectOne_countKept hj e s hsrc)
      refine hone.trans (ih (r ++ (collectOne e s).2) _ fun x hx => ?_)
      rcases List.mem_append.1 hx with hx | hx
      · exact h x (List.mem_cons_of_mem e hx)
      · exact collectOne_raises e s x hx

/-- A fault raised is counted once: what follows from it is of other kinds. -/
theorem raise_countKept (e : FaultEv) (s : State) (h : hasBlockReset e.src = false) :
    CountKept j (s.incF (Reg.FLT_KIND_CNT e.kind) 1) (raise e s) :=
  (collectOne_countKept hj e s h).trans (collect_countKept hj hc 7 _ _ (collectOne_raises e s))

end Chain

/-! ## The end of a command that has nothing but a snuff to end (R151) -/

/-- What the end of such a command leaves: beside `CountKept`, the staged values, the response and the stores. -/
structure EndKept (j : Nat) (s t : State) : Prop extends CountKept j s t where
  staged : t.staged = s.staged
  resp : t.resp = s.resp
  same : Memory.same s t

theorem Memory.same.trans {s t u : State} (h : Memory.same s t) (g : Memory.same t u) : Memory.same s u := by
  obtain ⟨h1, h2, h3, h4, h5, h6, h7⟩ := h
  obtain ⟨g1, g2, g3, g4, g5, g6, g7⟩ := g
  exact ⟨g1.trans h1, g2.trans h2, g3.trans h3, g4.trans h4, g5.trans h5, g6.trans h6, g7.trans h7⟩

section Ends
variable {j : Nat}

theorem EndKept.refl (s : State) : EndKept j s s := ⟨.refl s, rfl, rfl, rfl, rfl, rfl, rfl, rfl, rfl, rfl⟩

theorem EndKept.trans {s t u : State} (h : EndKept j s t) (g : EndKept j t u) : EndKept j s u :=
  ⟨h.toCountKept.trans g.toCountKept, g.staged.trans h.staged, g.resp.trans h.resp, h.same.trans g.same⟩

theorem psetSettle_endKept (s : State) : EndKept j s (psetSettle s) :=
  ⟨.of_regs (psetSettle_regs s) (by rw [psetSettle_flt]), psetSettle_staged s, psetSettle_resp s, by simp [Memory.same]⟩

theorem EndKept.foldl {α : Type} {g : State → α → State} (hg : ∀ t x, EndKept j t (g t x)) :
    ∀ (l : List α) (s : State), EndKept j s (l.foldl g s) := by
  intro l
  induction l with
  | nil => exact .refl
  | cons x r ih => exact fun s => (hg s x).trans (ih _)

theorem flagLanes_endKept (s : State) : EndKept j s (flagLanes s) :=
  ⟨.of_regs rfl rfl, rfl, rfl, rfl, rfl, rfl, rfl, rfl, rfl, rfl⟩

theorem clearLost_clearCuts_endKept (s : State) : EndKept j s (clearLost (clearCuts s)) :=
  ⟨.of_regs rfl rfl, rfl, rfl, rfl, rfl, rfl, rfl, rfl, rfl, rfl⟩

theorem setBlockResets_endKept (s : State) (h : s.flt.blockResets = []) : EndKept j s (setBlockResets [] s) :=
  ⟨.of_regs rfl h.symm, rfl, rfl, rfl, rfl, rfl, rfl, rfl, rfl, rfl⟩

theorem putMjob_endKept (i : Nat) (m : MntJob) (s : State) : EndKept j s (putMjob i m s) :=
  ⟨.of_regs rfl rfl, rfl, rfl, rfl, rfl, rfl, rfl, rfl, rfl, rfl⟩

variable (hj : j < 4096)
include hj

theorem EndKept.setF (s : State) {F : Field} (v : Nat) (h : F.uncounted) : EndKept j s (s.setF F v) :=
  ⟨.setF hj s v h, rfl, rfl, rfl, rfl, rfl, rfl, rfl, rfl, rfl⟩

theorem stageSettle_endKept (s : State) : EndKept j s (stageSettle s) := by
  rcases stageSettle_eq_regs s with h | ⟨v, h⟩
  · rw [h]; exact .refl s
  · rw [h]; exact .setF hj s v (by decide)

variable (hc : j ∉ followingKinds)
include hc

theorem raise_endKept (e : FaultEv) (s : State) (h : FollowUp e) (hk : e.kind < 4096) : EndKept j s (raise e s) := by
  obtain ⟨hkind, hsrc⟩ := h
  have hf := raise_faults e s hk
  obtain ⟨_, hstaged, _, _, hresp, _⟩ := hf.rest
  exact ⟨(CountKept.incCount s (ne_of_mem_of_not_mem hkind hc)).trans (raise_countKept hj hc e s hsrc), hstaged, hresp, hf.same⟩

theorem dumpLost_endKept (i slot : Nat) (s : State) : EndKept j s (dumpLost i slot s) := by
  have hcount : (Reg.DUMP_LOST i).uncounted := by
    refine ⟨?_, .inl ?_⟩ <;> simp only [Reg.DUMP_LOST, Reg.FLT_STATUS_SNUFFED] <;> omega
  exact (EndKept.setF hj s _ hcount).trans
    (raise_endKept hj hc (mntEv FK.MNT_DUMP_LOST i slot false) _ ⟨(by decide : FK.MNT_DUMP_LOST ∈ followingKinds), rfl⟩
      (by decide : FK.MNT_DUMP_LOST < 4096))

theorem countAbandonTx_endKept (l : Nat) (p : TxPacket) (snuff : Bool) (s : State) : EndKept j s (countAbandonTx l p snuff s) := by
  have hlane : (lf Reg.CNT_PKT_ABANDON_TX l).uncounted := by
    refine ⟨?_, .inl ?_⟩ <;> simp only [lf, Reg.CNT_PKT_ABANDON_TX, Reg.FLT_STATUS_SNUFFED] <;> omega
  unfold countAbandonTx
  dsimp only
  generalize ha : (if snuff = true ∧ p.source = 2 then _ else _) = a
  have h1 : EndKept j s a := by
    subst ha
    split
    · exact (EndKept.setF hj s _ hlane).trans (.setF hj _ _ (by decide))
    · exact .setF hj s _ hlane
  split
  · split
    · exact h1
    · exact (h1.trans (putMjob_endKept _ _ a)).trans (dumpLost_endKept hj hc _ _ _)
  · exact h1

theorem snuffLanes_endKept (s : State) : EndKept j s (snuffLanes s) := by
  unfold snuffLanes
  split
  · exact .refl s
  · refine (EndKept.foldl (fun t x => ?_) _ s).trans (flagLanes_endKept _)
    split
    · split
      · exact .refl t
      · exact countAbandonTx_endKept hj hc _ _ _ t
    · exact .refl t

/-- Where no descriptor, no fetch and no block reset waits, the end of a command is a snuff's, the parameter sets' and the stage's. -/
theorem settle_endKept (s : State) (hl : s.links.lost = []) (hcut : s.lmp.cut = []) (hr : s.flt.blockResets = []) :
    EndKept j s (settle s) := by
  have hsnuff := snuffLanes_endKept hj hc s
  have hnone : (snuffLanes s).flt.blockResets = [] := hsnuff.resets.trans hr
  have hresets : settleResets 128 [] s = setBlockResets [] (snuffLanes s) := by
    rw [settleResets, hnone]; rfl
  unfold settle
  rw [settleLost_of_nil _ hl, settleCuts_of_nil hcut, hresets]
  exact (((hsnuff.trans (setBlockResets_endKept _ hnone)).trans (psetSettle_endKept _)).trans
    (clearLost_clearCuts_endKept _)).trans (stageSettle_endKept hj _)

end Ends

/-! ## The end of a command that finds nothing to end -/

/-- What the end of a command has to find as it was: descriptors, fetches and block resets, and what the boot stage is judged by. -/
structure EndsLike (s v : State) : Prop where
  links : v.links = s.links
  lmp : v.lmp = s.lmp
  resets : v.flt.blockResets = s.flt.blockResets
  bootSteps : v.mgmt.bootSteps = s.mgmt.bootSteps
  stageRegs : ∀ k, k / 0x10000 ∈ [0, 0xC, 0x11] → v.reg k = s.reg k

theorem stageQuiet_congr {s t : State} (hb : t.mgmt.bootSteps = s.mgmt.bootSteps)
    (hr : ∀ k, k / 0x10000 ∈ [0, 0xC, 0x11] → t.reg k = s.reg k) : stageQuiet t = stageQuiet s := by
  have hf : ∀ F : Field, F.key / 0x10000 ∈ [0, 0xC, 0x11] → t.f F = s.f F := fun F hF => by rw [State.f, State.f, hr _ hF]
  simp only [stageQuiet, stageWaits, bootReady, trainFailed, State.flag, State.isX, State.isFX, State.pers, hb,
    hf Reg.TOP_STATUS_STAGE (by decide), hf Reg.TOP_STATUS_PERSONALITY (by decide), hf Reg.MEM_STATUS_READY (by decide),
    hf Reg.MEM_TRAIN_STATUS_FAIL_CH (by decide), hf Reg.MNT_STATUS_INIT_DONE (by decide)]

theorem clearLost_clearCuts_regs (s : State) : (clearLost (clearCuts s)).regs = s.regs := rfl
theorem clearLost_clearCuts_mgmt (s : State) : (clearLost (clearCuts s)).mgmt = s.mgmt := rfl

theorem settle_regs {v : State} (hl : v.links.lost = []) (hcut : v.lmp.cut = []) (hr : v.flt.blockResets = [])
    (hq : lanesQuiet v = true) (hst : stageQuiet v = true) : (settle v).regs = v.regs := by
  have hregs : (clearLost (clearCuts (psetSettle v))).regs = v.regs := (clearLost_clearCuts_regs _).trans (psetSettle_regs v)
  have hmgmt : (clearLost (clearCuts (psetSettle v))).mgmt = v.mgmt := (clearLost_clearCuts_mgmt _).trans (psetSettle_mgmt v)
  have hstage : stageQuiet (clearLost (clearCuts (psetSettle v))) = true :=
    (stageQuiet_congr (congrArg Mgmt.bootSteps hmgmt) fun k _ => reg_congr hregs k).trans hst
  rw [settle, settleLost_of_nil _ hl, settleCuts_of_nil hcut, settleResets_of_nil _ _ hr hq, stageSettle_of_quiet hstage, hregs]

section Finish
variable {s v : State} (hs : Settled s) (hv : EndsLike s v)
include hs hv

theorem finish_endKept {j : Nat} (hj : j < 4096) (hc : j ∉ followingKinds) : EndKept j v (finish s v) := by
  have hset : EndKept j v (settle v) :=
    settle_endKept hj hc v (by rw [hv.links, hs.lost]) (by rw [hv.lmp, hs.cuts]) (hv.resets.trans hs.resets)
  exact hset.trans ⟨.of_regs rfl rfl, rfl, rfl, rfl, rfl, rfl, rfl, rfl, rfl, rfl⟩

/-- No register changes at the end of a command that has not snuffed the device. -/
theorem finish_reg (hsn : v.snuffed = true → s.snuffed = true) (k : Nat) : (finish s v).reg k = v.reg k := by
  have hlanes : lanesQuiet v = true := by
    have h := hs.lanes
    simp only [lanesQuiet, Bool.or_eq_true, Bool.not_eq_true', hv.links] at h ⊢
    exact h.imp_left fun h => Bool.eq_false_iff.2 fun hvs => by simp [hsn hvs] at h
  have hstage : stageQuiet v = true := (stageQuiet_congr hv.bootSteps hv.stageRegs).trans hs.stage
  exact reg_congr (settle_regs (by rw [hv.links, hs.lost]) (by rw [hv.lmp, hs.cuts]) (hv.resets.trans hs.resets) hlanes hstage) k

end Finish

/-! ## Accesses that the matrix or the page refuses (R8, R480) -/

section Access
variable {b : Writer} {write : Bool} {addr n : Nat}

theorem busRead_away {m t : Nat} (access err : Nat) (host : List Byte) (s : State) (hr : routeTo addr n = some t)
    (hm : masterReach m t false = false) :
    busRead m access addr n err host s = ((false, zeros n), bmxFault FK.BMX_ACCESS t addr access m s) := by
  by_cases h4 : t = 4
  · subst h4; simp [busRead, hr, hm]
  · simp [busRead, memRead, hr, hm, h4]

theorem busWrite_away {t : Nat} (cells : List (Nat × Byte)) (s : State) (hr : routeTo addr n = some t)
    (hm : masterReach b.master t true = false) :
    busWrite b addr n cells s = (false, bmxFault FK.BMX_ACCESS t addr 2 b.master s) := by
  by_cases h4 : t = 4
  · subst h4; simp [busWrite, hr, hm]
  · simp [busWrite, memWrite, hr, hm, h4]

variable (en : Nat) (data : List Byte) (s : State)

/-- A region that R479 does not give the master. -/
theorem busAccess_away {t : Nat} (hr : routeTo addr n = some t) (hm : masterReach b.master t write = false) :
    busAccess b write addr n en data s =
      (bmxFault FK.BMX_ACCESS t addr (if write then 2 else if b.master = 0 then 3 else 1) b.master s).respond false
        (if write then [] else zeros n) := by
  have hhold : (busHolds s addr n && masterReach b.master 8 write) = false := by
    by_cases h8 : t = 8
    · rw [← h8, hm, Bool.and_false]
    · simp [busHolds, hr, h8]
  cases write
  · simp [busAccess, hhold, busRead_away _ _ _ s hr hm]
  · simp [busAccess, hhold, busWrite_away _ s hr hm]

theorem pageBusRead_misshapen (m access : Nat) (s : State) (hp : pageAnswers (addr - 0x40000000) = true) (hw : n ≠ 4 ∨ addr % 4 ≠ 0) :
    pageBusRead m access addr n s = ((false, zeros n), s) := by
  unfold pageBusRead
  simp [hp, hw]

theorem pageBusWrite_misshapen (cells : List (Nat × Byte)) (s : State) (hp : pageAnswers (addr - 0x40000000) = true)
    (hw : n ≠ 4 ∨ addr % 4 ≠ 0) : pageBusWrite b addr n cells s = (false, s) := by
  unfold pageBusWrite
  simp [hp, hw]

/-- An access of a register page that is not an aligned word. -/
theorem busAccess_misshapen (hr : routeTo addr n = some 4) (hm : masterReach b.master 4 write = true)
    (hp : pageAnswers (addr - 0x40000000) = true) (hw : n ≠ 4 ∨ addr % 4 ≠ 0) :
    busAccess b write addr n en data s = (requested s).respond false (if write then [] else zeros n) := by
  have hhold : busHolds s addr n = false := by simp [busHolds, hr]
  cases write
  · simp [busAccess, hhold, busRead, hr, hm, pageBusRead_misshapen _ _ _ hp hw, requested]
  · simp [busAccess, hhold, busWrite, hr, hm, pageBusWrite_misshapen _ _ hp hw, requested]

theorem exec_busAccess_next {m len : Nat} (err : Nat) (host : List Byte) (hs : held s = false) (hm : anyMaster m = true)
    (ha : addr < 2 ^ 64) (h1 : 1 ≤ len) (h2 : len ≤ 256) :
    exec (.busAccess m write addr len en data err host) s =
      .next (finish s (busAccess { master := m, err := err, host := host } write addr len en data s)) := by
  have hok : (anyMaster m && decide (addr < 2 ^ 64) && decide (1 ≤ len) && decide (len ≤ 256)) = true := by
    simp only [hm, ha, h1, h2, decide_true, Bool.and_self]
  change execBusAccess m write addr len en data err host s = _
  rw [execBusAccess, hok, dev_next hs]

end Access

/-! ## The end of a refused access -/

theorem bmxFault_access (t addr access m : Nat) (s : State) : ∃ e : FaultEv, e.kind = FK.BMX_ACCESS ∧ hasBlockReset e.src = false ∧
    bmxFault FK.BMX_ACCESS t addr access m s = raise e (s.incF Reg.BMX_CNT_DECODE 1) :=
  ⟨_, rfl, rfl, rfl⟩

theorem SameButFaults.bootSteps {s t : State} (h : SameButFaults s t) : t.mgmt.bootSteps = s.mgmt.bootSteps := by
  obtain ⟨⟨r, o, f, p, c, b, l, j, rfl⟩, _⟩ := h
  rfl

/-- The fault of a refused access: counted once, with nothing changed but what a fault may change and the matrix's own count. -/
theorem bmxFault_access_effect (t addr access m : Nat) (s : State) :
    let u := bmxFault FK.BMX_ACCESS t addr access m s
    SameButFaults (s.incF Reg.BMX_CNT_DECODE 1) u ∧ u.flt.blockResets = s.flt.blockResets ∧
      u.f (Reg.FLT_KIND_CNT FK.BMX_ACCESS) = (s.f (Reg.FLT_KIND_CNT FK.BMX_ACCESS) + 1) % 2 ^ 32 := by
  obtain ⟨e, hkind, hsrc, he⟩ := bmxFault_access t addr access m s
  have hraise := raise_countKept (j := FK.BMX_ACCESS) (by decide) (by decide) e (s.incF Reg.BMX_CNT_DECODE 1) hsrc
  dsimp only
  rw [he]
  refine ⟨raise_faults e _ (by rw [hkind]; decide), hraise.resets, ?_⟩
  rw [hraise.f, hkind, State.incF, f_setF_same _ _ (by decide), State.incF, f_setF_apart _ _ (.inl (by decide))]
  rfl

/-- A refused access ends: what is answered, what is counted and what is left. -/
theorem finish_bmxAccess {s : State} (hs : Settled s) (t addr access m : Nat) (d : List Byte) :
    let r := finish s ((bmxFault FK.BMX_ACCESS t addr access m s).respond false d)
    r.resp.ok = false ∧ r.staged = s.staged ∧ Memory.same s r ∧
      r.f (Reg.FLT_KIND_CNT FK.BMX_ACCESS) = (s.f (Reg.FLT_KIND_CNT FK.BMX_ACCESS) + 1) % 2 ^ 32 ∧
      (r.snuffed = s.snuffed → ∀ k, k / 0x10000 ∉ [3, 4, 5, 7, 0xB] → r.reg k = s.reg k) := by
  obtain ⟨hfaults, hresets, hcount⟩ := bmxFault_access_effect t addr access m s
  generalize bmxFault FK.BMX_ACCESS t addr access m s = u at hfaults hresets hcount ⊢
  have hreg : ∀ k, k / 0x10000 ∉ [3, 4, 5, 7, 0xB] → u.reg k = s.reg k := by
    intro k hk
    simp only [List.mem_cons, List.not_mem_nil, or_false, not_or] at hk
    obtain ⟨h3, h4, h5, h7, hB⟩ := hk
    have hpage : ¬ faultPage k := by simp only [faultPage]; omega
    rw [hfaults.2 k hpage, State.incF, reg_setF_ne _ _ (by simp only [Reg.BMX_CNT_DECODE]; omega)]
  obtain ⟨-, hstaged, -, -, -, -, -, -, -, hlinks, -, hlmp, -⟩ := hfaults.rest
  have hends : EndsLike s (u.respond false d) := by
    refine ⟨hlinks, hlmp, hresets, hfaults.bootSteps, fun k hk => hreg k ?_⟩
    simp only [List.mem_cons, List.not_mem_nil, or_false] at hk ⊢
    omega
  have hend : EndKept FK.BMX_ACCESS (u.respond false d) (finish s (u.respond false d)) :=
    finish_endKept hs hends (by decide) (by decide)
  refine ⟨by rw [hend.resp]; rfl, hend.staged.trans hstaged, hfaults.same.trans hend.same, hend.f.trans hcount, fun hsn k hk => ?_⟩
  exact (finish_reg hs hends (fun h => hsn ▸ hend.snuff h) k).trans (hreg k hk)

/-- A misshapen access of a page ends: it is answered and counted as a request, and nothing else has changed. -/
theorem finish_requested {s : State} (hs : Settled s) (d : List Byte) :
    let r := finish s ((requested s).respond false d)
    r.resp.ok = false ∧ r.staged = s.staged ∧ Memory.same s r ∧ ∀ k, isCounter k = false → r.reg k = s.reg k := by
  have hends : EndsLike s ((requested s).respond false d) := by
    refine ⟨requested_links s, requested_lmp s, by simp, by simp, fun k hk => requested_reg s ?_⟩
    simp only [List.mem_cons, List.not_mem_nil, or_false] at hk
    omega
  have hend : EndKept FK.BMX_ACCESS ((requested s).respond false d) (finish s ((requested s).respond false d)) :=
    finish_endKept hs hends (by decide) (by decide)
  have hsame : Memory.same s ((requested s).respond false d) := by simp [Memory.same]
  have hsnuff : ((requested s).respond false d).snuffed = s.snuffed := requested_flag s (.inl (by decide))
  refine ⟨by rw [hend.resp]; rfl, hend.staged.trans (requested_staged s), hsame.trans hend.same, fun k hk => ?_⟩
  rw [finish_reg hs hends (fun h => hsnuff ▸ h) k]
  refine requested_reg s ?_
  simp only [isCounter, Bool.and_eq_false_iff, decide_eq_false_iff_not] at hk
  omega

end Sys2Proof.Machine

namespace Sys2Proof.Proofs
open Sys2Proof.Machine

/-- Settles O46: the matrix and the page answer before anything is written, a refused access raises one fault, whose collection counts no
other of its kind, and the end of the command adds at most what a new snuff abandons (R151). -/
theorem refusedAccesses : Obligations.RefusedAccesses := by
  unfold Obligations.RefusedAccesses
  intro s m addr len en err write data host hs hheld hm haddr hlen1 hlen2
  have hexec := exec_busAccess_next (write := write) en data s err host hheld hm haddr hlen1 hlen2
  refine ⟨fun target hroute hreach => ⟨_, hexec, ?_⟩, fun hroute hreach hpage hshape => ⟨_, hexec, ?_⟩⟩
  · rw [busAccess_away en data s hroute hreach]
    exact finish_bmxAccess hs _ _ _ _ _
  · rw [busAccess_misshapen en data s hroute hreach hpage hshape]
    exact finish_requested hs _

end Sys2Proof.Proofs

/-! Proofs about undefined offsets (13_fabric.md): what counting an access of one, raising its fault and the end of its command can change. -/

namespace Sys2Proof.Machine

/-! ## What the collection and the end of a command leave of BMX_CNT_UNDEF (R491) -/

/-- BMX_CNT_UNDEF, and whether its fault has been raised, are as they were. -/
structure UndefKept (s t : State) : Prop where
  reg : t.reg Reg.BMX_CNT_UNDEF.key = s.reg Reg.BMX_CNT_UNDEF.key
  once : t.once Reg.BMX_CNT_UNDEF.key = s.once Reg.BMX_CNT_UNDEF.key

theorem once_congr {s t : State} (h : t.onceRaised = s.onceRaised) (k : Nat) : t.once k = s.once k := by rw [State.once, State.once, h]

@[simp] theorem once_setOnce_same (s : State) (k : Nat) (b : Bool) : (s.setOnce k b).once k = b := by simp [State.once]

theorem once_setOnce_ne (s : State) {k j : Nat} (b : Bool) (h : j ≠ k) : (s.setOnce k b).once j = s.once j := by
  simp [State.once, mapGet_mapSet_ne _ _ _ h]

theorem UndefKept.refl (s : State) : UndefKept s s := ⟨rfl, rfl⟩

theorem UndefKept.trans {s t u : State} (h : UndefKept s t) (g : UndefKept t u) : UndefKept s u :=
  ⟨g.reg.trans h.reg, g.once.trans h.once⟩

theorem UndefKept.of_regs {s t : State} (hr : t.regs = s.regs) (ho : t.onceRaised = s.onceRaised) : UndefKept s t :=
  ⟨reg_congr hr _, once_congr ho _⟩

theorem UndefKept.setF (s : State) {F : Field} (v : Nat) (h : F.key ≠ Reg.BMX_CNT_UNDEF.key) : UndefKept s (s.setF F v) :=
  ⟨reg_setF_ne s v h.symm, rfl⟩

theorem UndefKept.foldl {α : Type} {g : State → α → State} (hg : ∀ t x, UndefKept t (g t x)) :
    ∀ (l : List α) (s : State), UndefKept s (l.foldl g s) := by
  intro l
  induction l with
  | nil => exact .refl
  | cons x r ih => exact fun s => (hg s x).trans (ih _)

/-! ### Raising -/

theorem UndefKept.setReg (s : State) {k : Nat} (w : Word) (h : k ≠ Reg.BMX_CNT_UNDEF.key) : UndefKept s (s.setReg k w) :=
  ⟨reg_setReg_ne s w h.symm, rfl⟩

theorem UndefKept.setOnce (s : State) {k : Nat} (b : Bool) (h : k ≠ Reg.BMX_CNT_UNDEF.key) : UndefKept s (s.setOnce k b) :=
  ⟨rfl, once_setOnce_ne s b h.symm⟩

theorem UndefKept.intPend (s : State) (v : Nat) : UndefKept s (s.intPend v) := .setReg s _ (by decide)

theorem UndefKept.lifeAdd (s : State) (o n : Nat) : UndefKept s (s.lifeAdd o n) := .of_regs rfl rfl

theorem UndefKept.setFlt (s : State) (f : FaultState) : UndefKept s { s with flt := f } := .of_regs rfl rfl

theorem UndefKept.setPair (s : State) (p : PairState) : UndefKept s { s with pair := p } := .of_regs rfl rfl

theorem UndefKept.setPmr (s : State) (c : PmrState) : UndefKept s { s with pmr := c } := .of_regs rfl rfl

theorem putWords_undefKept (n : Nat) : ∀ (s : State) (k : Nat) (l : List Byte), k + 4 * n ≤ Reg.BMX_CNT_UNDEF.key →
    UndefKept s (putWords s k n l) := by
  induction n with
  | zero => intro s k l _; exact .refl s
  | succ n ih =>
    intro s k l h
    exact (UndefKept.setReg s _ (by omega)).trans (ih _ _ _ (by omega))

theorem putMsg_undefKept (s : State) {k : Nat} (msg : Nat) (h : k + 16 ≤ Reg.BMX_CNT_UNDEF.key) : UndefKept s (putMsg s k msg) :=
  putWords_undefKept 4 s k _ h

theorem keepMsg_undefKept (e : FaultEv) (sev : Nat) (s : State) : UndefKept s (keepMsg e sev s) := by
  have hring : UndefKept s ((putMsg s (Reg.FLT_RING0 (s.f Reg.FLT_RING_WR % 1024)).key (faultMsg s e sev s.flt.lost)).incF Reg.FLT_RING_WR 1) :=
    (putMsg_undefKept s _ (by simp only [Reg.FLT_RING0, Reg.BMX_CNT_UNDEF]; omega)).trans (.setF _ _ (by decide))
  unfold keepMsg
  dsimp only
  generalize (putMsg s (Reg.FLT_RING0 (s.f Reg.FLT_RING_WR % 1024)).key (faultMsg s e sev s.flt.lost)).incF Reg.FLT_RING_WR 1 = a at hring ⊢
  generalize hb : ({ a with flt := _ } : State) = b
  have hkept : UndefKept s b := hring.trans (hb ▸ .setFlt a _)
  split
  · have hfirst : UndefKept b (putMsg b (Reg.FLT_FIRST_MSG 0).key (faultMsg s e sev s.flt.lost)) := putMsg_undefKept b _ (by decide)
    exact hkept.trans ((((hfirst.trans (.setF _ _ (by decide))).trans (.setF _ _ (by decide))).trans
      (.setF _ _ (by decide))).trans (.setF _ _ (by decide)))
  · exact hkept

theorem pairEnter_undefKept (st : Nat) (s : State) : UndefKept s (pairEnter st s).1 := by
  unfold pairEnter
  split
  · exact .refl s
  · exact ((UndefKept.setF s (F := Reg.PAIR_STATUS_STATE) st (by decide)).trans (.intPend _ 26)).trans (.setF _ _ (by decide))

theorem pairSnuff_undefKept (s : State) : UndefKept s (pairSnuff s).1 := by
  unfold pairSnuff
  dsimp only
  split
  · refine UndefKept.trans ?_ (pairEnter_undefKept _ _)
    exact (UndefKept.setPair s _).trans (.setF (F := Reg.PAIR_STATUS_TRIM_PENDING) _ 0 (by decide))
  · exact .refl s

theorem snuffEnter_undefKept (s : State) : UndefKept s (snuffEnter s).1 := by
  unfold snuffEnter
  split
  · exact .refl s
  · dsimp only
    have hcount : UndefKept s ((s.setF Reg.FLT_STATUS_SNUFFED 1).incF Reg.FLT_CNT_SNUFF 1) :=
      (UndefKept.setF s (F := Reg.FLT_STATUS_SNUFFED) 1 (by decide)).trans (.setF _ _ (by decide))
    generalize (s.setF Reg.FLT_STATUS_SNUFFED 1).incF Reg.FLT_CNT_SNUFF 1 = x at hcount ⊢
    generalize ha : snuffDrains _ = a
    have hentered : UndefKept s a := hcount.trans (ha ▸ .of_regs rfl rfl)
    have hmarked : UndefKept s (pairSnuff (((a.intPend 2).setF Reg.HIF_STATUS_SNUFFED 1).lifeAdd 12 1)).1 :=
      (((hentered.trans (.intPend a 2)).trans (.setF _ 1 (by decide))).trans (.lifeAdd _ 12 1)).trans (pairSnuff_undefKept _)
    split
    · exact hmarked.trans (.setF _ 1 (by decide))
    · exact hmarked

theorem snapTrigger_undefKept (cause domain slot trigger kind : Nat) (freeze : Bool) (s : State) :
    UndefKept s (snapTrigger cause domain slot trigger kind freeze s).1 := by
  unfold snapTrigger
  dsimp only
  generalize ha : (if freeze then s.setF Reg.PMR_STATUS_FROZEN 1 else s) = a
  have hfrozen : UndefKept s a := by
    subst ha
    split
    · exact .setF s 1 (by decide)
    · exact .refl s
  refine hfrozen.trans ?_
  split
  · exact .setPmr a _
  split
  · exact (UndefKept.setF a _ (by decide)).trans (.setOnce _ true (by decide))
  · exact (UndefKept.setPmr a _).trans (.setF (F := Reg.PMR_STATUS_COLLECTING) _ 1 (by decide))

theorem collectKeep_undefKept (e : FaultEv) (sev : Nat) (s : State) (h : e.kind < 4096) : UndefKept s (collectKeep e sev s).1 := by
  have hkind : UndefKept s (s.incF (Reg.FLT_KIND_CNT e.kind) 1) := .setF s _ (by simp only [Reg.FLT_KIND_CNT, Reg.BMX_CNT_UNDEF]; omega)
  unfold collectKeep
  dsimp only
  refine hkind.trans ?_
  generalize s.incF (Reg.FLT_KIND_CNT e.kind) 1 = a
  split
  · exact ((UndefKept.setF a (F := Reg.FLT_CNT_DROP) _ (by decide)).trans (.setOnce _ true (by decide))).trans (.setFlt _ _)
  · exact keepMsg_undefKept e sev a

theorem collectSnap_undefKept (e : FaultEv) (sev : Nat) (s : State) : UndefKept s (collectSnap e sev s).1 := by
  unfold collectSnap
  split
  · exact snapTrigger_undefKept _ _ _ _ _ _ s
  · exact .refl s

theorem collectReset_undefKept (e : FaultEv) (sev : Nat) (lost : Bool) (s : State) : UndefKept s (collectReset e sev lost s) := by
  unfold collectReset
  dsimp only
  split
  · exact .setFlt s _
  split
  · exact (putMsg_undefKept s (k := (Reg.FLT_LAST_C4_MSG 0).key) _ (by decide)).trans (.setFlt _ _)
  · exact .refl s

theorem collectOne_undefKept (e : FaultEv) (s : State) (h : e.kind < 4096) : UndefKept s (collectOne e s).1 := by
  unfold collectOne
  dsimp only
  refine (collectKeep_undefKept e (classOf s e.kind) s h).trans (UndefKept.trans ?_ (collectReset_undefKept e _ _ _))
  generalize (collectKeep e (classOf s e.kind) s).1 = a
  have hpend : UndefKept a (if actingClass (classOf s e.kind) e.src ≥ 1 then a.intPend 1 else a) := by
    split
    · exact .intPend a 1
    · exact .refl a
  refine (hpend.trans (collectSnap_undefKept e (classOf s e.kind) _)).trans ?_
  generalize (collectSnap e _ _).1 = b
  split
  · exact snuffEnter_undefKept _
  · exact .refl _

theorem collect_undefKept (n : Nat) : ∀ (l : List FaultEv) (s : State), (∀ x ∈ l, x.kind < 4096) → UndefKept s (collect n l s) := by
  induction n with
  | zero => intro l s _; exact .refl s
  | succ n ih =>
    intro l s h
    cases l with
    | nil => exact .refl s
    | cons e r =>
      refine (collectOne_undefKept e s (h e (by simp))).trans (ih (r ++ (collectOne e s).2) _ fun x hx => ?_)
      rcases List.mem_append.1 hx with hx | hx
      · exact h x (List.mem_cons_of_mem e hx)
      · exact collectOne_kinds e s x hx

theorem raise_undefKept (e : FaultEv) (s : State) (h : e.kind < 4096) : UndefKept s (raise e s) :=
  collect_undefKept 8 [e] s (by simpa using h)

/-! ### The end of a command -/

theorem countAbandonTx_undefKept (l : Nat) (p : TxPacket) (snuff : Bool) (s : State) : UndefKept s (countAbandonTx l p snuff s) := by
  have hlane : (lf Reg.CNT_PKT_ABANDON_TX l).key ≠ Reg.BMX_CNT_UNDEF.key := by
    simp only [lf, Reg.CNT_PKT_ABANDON_TX, Reg.BMX_CNT_UNDEF]; omega
  have hdump : ∀ i, (Reg.DUMP_LOST i).key ≠ Reg.BMX_CNT_UNDEF.key := fun i => by simp only [Reg.DUMP_LOST, Reg.BMX_CNT_UNDEF]; omega
  unfold countAbandonTx
  dsimp only
  generalize ha : (if snuff = true ∧ p.source = 2 then _ else _) = a
  have hcounted : UndefKept s a := by
    subst ha
    split
    · exact (UndefKept.setF s _ hlane).trans (.setF _ _ (by decide))
    · exact .setF s _ hlane
  refine hcounted.trans ?_
  split
  · split
    · exact .refl a
    · exact (UndefKept.of_regs rfl rfl : UndefKept a (putMjob _ _ a)).trans
        ((UndefKept.setF _ _ (hdump _)).trans (raise_undefKept _ _ (by decide : FK.MNT_DUMP_LOST < 4096)))
  · exact .refl a

theorem snuffLanes_undefKept (s : State) : UndefKept s (snuffLanes s) := by
  unfold snuffLanes
  split
  · exact .refl s
  · refine (UndefKept.foldl (fun t x => ?_) s.links.tx s).trans (.of_regs rfl rfl)
    split
    · split
      · exact .refl t
      · exact countAbandonTx_undefKept _ _ _ t
    · exact .refl t

theorem stageSettle_undefKept (s : State) : UndefKept s (stageSettle s) := by
  rcases stageSettle_eq_regs s with h | ⟨v, h⟩
  · rw [h]; exact .refl s
  · rw [h]; exact .setF s v (by decide)

/-- The end of a command that no descriptor, no fetch and no block reset waits for. -/
theorem settle_eq_of_nil {s : State} (hl : s.links.lost = []) (hcut : s.lmp.cut = []) (hr : (snuffLanes s).flt.blockResets = []) :
    settle s = stageSettle (clearLost (clearCuts (psetSettle (setBlockResets [] (snuffLanes s))))) := by
  have hresets : settleResets 128 [] s = setBlockResets [] (snuffLanes s) := by rw [settleResets, hr]; rfl
  rw [settle, settleLost_of_nil _ hl, settleCuts_of_nil hcut, hresets]

theorem finish_undefKept {s v : State} (hs : Settled s) (hv : EndsLike s v) : UndefKept v (finish s v) := by
  have hr : (snuffLanes v).flt.blockResets = [] :=
    (snuffLanes_endKept (j := FK.BMX_UNDEF_REG) (by decide) (by decide) v).resets.trans (hv.resets.trans hs.resets)
  have hset : UndefKept v (settle v) := by
    rw [settle_eq_of_nil (by rw [hv.links, hs.lost]) (by rw [hv.lmp, hs.cuts]) hr]
    have hpsets : ∀ a, UndefKept a (psetSettle (setBlockResets [] a)) := fun _ => .of_regs (psetSettle_regs _) (psetSettle_onceRaised _)
    have hclear : ∀ a, UndefKept a (clearLost (clearCuts a)) := fun _ => .of_regs rfl rfl
    exact (((snuffLanes_undefKept v).trans (hpsets _)).trans (hclear _)).trans (stageSettle_undefKept _)
  exact hset.trans (.of_regs rfl rfl)

/-! ## Counting an access of an undefined offset -/

/-- What R491 says of a state t in which a command that accesses an undefined offset in s has ended. -/
structure UndefCounted (s t : State) : Prop where
  count : t.f Reg.BMX_CNT_UNDEF = min (s.f Reg.BMX_CNT_UNDEF + 1) (2 ^ 32 - 1)
  once : t.once Reg.BMX_CNT_UNDEF.key = true
  kind : t.f (Reg.FLT_KIND_CNT FK.BMX_UNDEF_REG) =
    (s.f (Reg.FLT_KIND_CNT FK.BMX_UNDEF_REG) + (if s.once Reg.BMX_CNT_UNDEF.key then 0 else 1)) % 2 ^ 32
  staged : t.staged = s.staged
  same : Memory.same s t

theorem undefAccess_again {s : State} (key access m : Nat) (h : s.once Reg.BMX_CNT_UNDEF.key = true) :
    undefAccess key access m s = s.satF Reg.BMX_CNT_UNDEF 1 := by
  have h' : (s.satF Reg.BMX_CNT_UNDEF 1).once Reg.BMX_CNT_UNDEF.key = true := h
  rw [undefAccess, raiseOnce, if_pos h']

theorem undefAccess_first {s : State} (key access m : Nat) (h : s.once Reg.BMX_CNT_UNDEF.key = false) :
    ∃ e : FaultEv, e.kind = FK.BMX_UNDEF_REG ∧ hasBlockReset e.src = false ∧
      undefAccess key access m s = raise e ((s.satF Reg.BMX_CNT_UNDEF 1).setOnce Reg.BMX_CNT_UNDEF.key true) := by
  have h' : ¬ (s.satF Reg.BMX_CNT_UNDEF 1).once Reg.BMX_CNT_UNDEF.key = true := by
    rw [once_congr (State.satF_onceRaised _ _ _), h]; decide
  refine ⟨_, rfl, ?_, by rw [undefAccess, raiseOnce, if_neg h']⟩
  rfl

theorem f_satF_undef (s : State) : (s.satF Reg.BMX_CNT_UNDEF 1).f Reg.BMX_CNT_UNDEF = min (s.f Reg.BMX_CNT_UNDEF + 1) (2 ^ 32 - 1) := by
  rw [State.satF, f_setF_same _ _ (by decide)]
  simp only [Reg.BMX_CNT_UNDEF]
  omega

/-- An access counts, and the first one is a fault, which changes nothing but what a fault may change. -/
theorem undefAccess_effect (key access m : Nat) (s : State) :
    UndefCounted s (undefAccess key access m s) ∧ (undefAccess key access m s).flt.blockResets = s.flt.blockResets ∧
      SameButFaults (s.satF Reg.BMX_CNT_UNDEF 1) (undefAccess key access m s) := by
  have hkind : (s.satF Reg.BMX_CNT_UNDEF 1).f (Reg.FLT_KIND_CNT FK.BMX_UNDEF_REG) = s.f (Reg.FLT_KIND_CNT FK.BMX_UNDEF_REG) :=
    f_setF_apart _ _ (.inl (by decide))
  cases honce : s.once Reg.BMX_CNT_UNDEF.key with
  | true =>
    rw [undefAccess_again _ _ _ honce]
    refine ⟨⟨f_satF_undef s, honce, ?_, rfl, rfl, rfl, rfl, rfl, rfl, rfl, rfl⟩, rfl, .refl _⟩
    rw [hkind, honce, if_pos rfl, Nat.add_zero]
    exact (Nat.mod_eq_of_lt (f_lt s (Reg.FLT_KIND_CNT FK.BMX_UNDEF_REG))).symm
  | false =>
    obtain ⟨e, hk, hsrc, he⟩ := undefAccess_first key access m honce
    generalize hx : (s.satF Reg.BMX_CNT_UNDEF 1).setOnce Reg.BMX_CNT_UNDEF.key true = x at he
    have hfaults : SameButFaults (s.satF Reg.BMX_CNT_UNDEF 1) (raise e x) :=
      (hx ▸ SameButFaults.setOnce _ _ true).trans (raise_faults e x (by rw [hk]; decide))
    have hkept : UndefKept x (raise e x) := raise_undefKept e x (by rw [hk]; decide)
    have hcount : CountKept FK.BMX_UNDEF_REG (x.incF (Reg.FLT_KIND_CNT e.kind) 1) (raise e x) :=
      raise_countKept (by decide) (by decide) e x hsrc
    obtain ⟨-, hstaged, -⟩ := hfaults.rest
    rw [he]
    refine ⟨⟨?_, ?_, ?_, hstaged, ?_⟩, ?_, hfaults⟩
    · rw [State.f, hkept.reg, ← hx]; exact f_satF_undef s
    · rw [hkept.once, ← hx, once_setOnce_same]
    · rw [hcount.f, hk, State.incF, f_setF_same _ _ (by decide), honce, ← hkind, ← hx]; rfl
    · exact Memory.same.trans (by simp [Memory.same]) hfaults.same
    · rw [hcount.resets, ← hx]; rfl

/-! ## The bus's way to a word of a page -/

theorem lt_or_ge_of_not_isCounter {k : Nat} (h : isCounter k = false) : k < 0x4C000 ∨ 0x4F200 ≤ k := by
  simp only [isCounter, Bool.and_eq_false_iff, decide_eq_false_iff_not] at h
  omega

theorem requested_memory (s : State) : Memory.same s (requested s) := by simp [Memory.same]

theorem requested_once (s : State) (k : Nat) : (requested s).once k = s.once k := once_congr (requested_onceRaised s) k

theorem requested_snuffed (s : State) : (requested s).snuffed = s.snuffed := requested_flag s (.inl (by decide))

theorem isBroadcast_of_pageExists {page : Nat} (h : pageExists page = true) : isBroadcast page = false := by
  simp only [pageExists, Bool.or_eq_true, Bool.and_eq_true, decide_eq_true_eq] at h
  simp only [isBroadcast, Bool.and_eq_false_iff, decide_eq_false_iff_not]
  omega

theorem exec_registerWrite_next {m off : Nat} {w : Word} {s t : State} {ok : Bool} (hs : held s = false) (hm : regMaster m = true)
    (ho : off < 2 ^ 28) (ha : off % 4 = 0) (hp : pageExists (off / 0x10000) = true)
    (hw : pageWrite { master := m, err := 0, host := [] } off w (requested s) = (ok, t)) :
    exec (.registerWrite m off w [] 0) s = .next (finish s (t.respond ok [])) := by
  change execRegisterWrite m off w [] 0 s = _
  rw [execRegisterWrite, anyMaster_of_regMaster hm, decide_eq_true ho, Bool.and_self, dev_next hs,
    busAccess_writeWord { master := m, err := 0, host := [] } w s hm ho ha (by simp [hp]) _ rfl, isBroadcast_of_pageExists hp,
    if_neg Bool.false_ne_true, hw]

section Read
variable {m access off : Nat} {w : Word} {s t : State}

theorem pageBusRead_page (ha : off % 4 = 0) (hp : pageExists (off / 0x10000) = true) (hr : readReg off access m s = (w, t)) :
    pageBusRead m access (0x40000000 + off) 4 s = ((true, leBytes 4 w.toNat), t) := by
  have hkey : 0x40000000 + off - 0x40000000 = off := by omega
  have haligned : ¬ ((4 : Nat) ≠ 4 ∨ (0x40000000 + off) % 4 ≠ 0) := by omega
  rw [pageBusRead, hkey, if_neg (by simp [hp]), if_neg haligned, if_neg (by simp [isBroadcast_of_pageExists hp]), hr]

/-- A bus read of a whole word of a page that exists. -/
theorem busAccess_readPage {b : Writer} (en : Nat) (data : List Byte) (hm : masterReach b.master 4 false = true)
    (ho : off < 2 ^ 28) (ha : off % 4 = 0) (hp : pageExists (off / 0x10000) = true)
    (hr : readReg off (if b.master = 0 then 3 else 1) b.master (requested s) = (w, t)) :
    busAccess b false (0x40000000 + off) 4 en data s = t.respond true (leBytes 4 w.toNat) := by
  have hroute := routeTo_page ho ha
  have hhold : busHolds s (0x40000000 + off) 4 = false := by simp [busHolds, hroute]
  have hread := pageBusRead_page ha hp hr
  rw [requested] at hread
  simp [busAccess, hhold, busRead, hroute, hm, hread]

end Read

theorem masterReach_read_of_regMaster {m : Nat} (h : regMaster m = true) : masterReach m 4 false = true :=
  masterReach_page_read (anyMaster_of_regMaster h) fun h3 => by subst h3; exact absurd h (by decide)

/-! ## The end of a counted access -/

/-- A change of the counters and of the matrix's page has nothing for the end of a command. -/
theorem EndsLike.of_regs {s v : State} (hl : v.links = s.links) (hp : v.lmp = s.lmp) (hr : v.flt.blockResets = s.flt.blockResets)
    (hb : v.mgmt.bootSteps = s.mgmt.bootSteps) (hreg : ∀ k, k / 0x10000 ≠ 7 → isCounter k = false → v.reg k = s.reg k) : EndsLike s v := by
  refine ⟨hl, hp, hr, hb, fun k hk => hreg k ?_ ?_⟩
  · simp only [List.mem_cons, List.not_mem_nil, or_false] at hk
    omega
  · simp only [List.mem_cons, List.not_mem_nil, or_false] at hk
    simp only [isCounter, Bool.and_eq_false_iff, decide_eq_false_iff_not]
    omega

theorem UndefCounted.of_requested {s t : State} (h : UndefCounted (requested s) t) : UndefCounted s t where
  count := by rw [h.count, requested_f s (.inr (by decide))]
  once := h.once
  kind := by rw [h.kind, requested_f s (.inl (by decide)), requested_once]
  staged := h.staged.trans (requested_staged s)
  same := (requested_memory s).trans h.same

theorem UndefCounted.kept {s u t : State} (h : UndefCounted s u) (hk : UndefKept u t) (he : EndKept FK.BMX_UNDEF_REG u t) :
    UndefCounted s t where
  count := by rw [State.f, hk.reg]; exact h.count
  once := hk.once.trans h.once
  kind := he.f.trans h.kind
  staged := he.staged.trans h.staged
  same := h.same.trans he.same

theorem snuffed_satF_undef (s : State) : (s.satF Reg.BMX_CNT_UNDEF 1).snuffed = s.snuffed := by
  rw [State.snuffed, State.snuffed, State.flag, State.flag, State.satF, f_setF_apart _ _ (.inl (by decide))]

/-- An access of an undefined offset ends: what is answered, what is counted, and what a later one leaves. -/
theorem finish_undefAccess {s : State} (hs : Settled s) (key access m : Nat) (d : List Byte) :
    let r := finish s ((undefAccess key access m (requested s)).respond true d)
    r.resp = { ok := true, data := d } ∧ UndefCounted s r ∧
      (s.once Reg.BMX_CNT_UNDEF.key = true → ∀ k, k ≠ Reg.BMX_CNT_UNDEF.key → isCounter k = false → r.reg k = s.reg k) := by
  obtain ⟨hcounted, hresets, hfaults⟩ := undefAccess_effect key access m (requested s)
  have hagain := undefAccess_again (s := requested s) key access m
  generalize undefAccess key access m (requested s) = u at hcounted hresets hfaults hagain ⊢
  obtain ⟨-, -, -, -, -, -, -, -, -, hlinks, -, hlmp, -⟩ := hfaults.rest
  have hends : EndsLike s (u.respond true d) := by
    refine ⟨hlinks.trans (requested_links s), hlmp.trans (requested_lmp s), hresets.trans (by rw [requested_flt]),
      hfaults.bootSteps.trans ?_, fun k hk => ?_⟩
    · rw [State.satF_mgmt, requested_mgmt]
    · simp only [List.mem_cons, List.not_mem_nil, or_false] at hk
      have hpage : ¬ faultPage k := by simp only [faultPage]; omega
      refine (hfaults.2 k hpage).trans ?_
      rw [State.satF, reg_setF_ne _ _ (by simp only [Reg.BMX_CNT_UNDEF]; omega), requested_reg s (by omega)]
  have hend : EndKept FK.BMX_UNDEF_REG (u.respond true d) (finish s (u.respond true d)) := finish_endKept hs hends (by decide) (by decide)
  have hcount : UndefCounted s (u.respond true d) := ⟨hcounted.of_requested.count, hcounted.once, hcounted.of_requested.kind,
    hcounted.of_requested.staged, hcounted.of_requested.same⟩
  refine ⟨by rw [hend.resp]; rfl, hcount.kept (finish_undefKept hs hends) hend, fun honce k hk hctr => ?_⟩
  rw [requested_once] at hagain
  have hu := hagain honce
  have hsn : (u.respond true d).snuffed = s.snuffed := by
    change u.snuffed = s.snuffed
    rw [hu, snuffed_satF_undef, requested_snuffed]
  rw [finish_reg hs hends (fun h => hsn ▸ h) k]
  change u.reg k = s.reg k
  rw [hu]
  exact (reg_setF_ne _ _ hk).trans (requested_reg s (lt_or_ge_of_not_isCounter hctr))

/-! ## The read that arms the fault again -/

theorem rowAt_undef : rowAt Reg.BMX_CNT_UNDEF.key = some ⟨"BMX_CNT_UNDEF", 0x10, [], [⟨31, 0, .rc, 0⟩]⟩ := by decide

theorem readReg_undef (access m : Nat) (s : State) : ∃ w v, readReg Reg.BMX_CNT_UNDEF.key access m s =
    (w, (s.setReg Reg.BMX_CNT_UNDEF.key v).setOnce Reg.BMX_CNT_UNDEF.key false) := by
  have hgate : pageGated s (Reg.BMX_CNT_UNDEF.key / 0x10000) = false := pageGated_of_page (by decide)
  refine ⟨shownWord s Reg.BMX_CNT_UNDEF.key, s.reg Reg.BMX_CNT_UNDEF.key &&& ~~~0xFFFFFFFF#32, ?_⟩
  have hbelow : rowAt (Reg.BMX_CNT_UNDEF.key - 4) = some ⟨"BMX_CNT_RETIRE", 0xC, [], [⟨31, 0, .ro, 0⟩]⟩ := by decide
  rw [readReg, rowAt_undef]
  dsimp only
  generalize shownWord s Reg.BMX_CNT_UNDEF.key = w
  rw [hgate, hbelow]
  simp [latchesHi, setCounterKey, rearmedByRead, accMask, fieldMask, Reg.BMX_CNT_UNDEF]

/-- After the read the fault can be raised again. -/
theorem finish_readUndef {s : State} (hs : Settled s) (v : Word) (d : List Byte) :
    (finish s ((((requested s).setReg Reg.BMX_CNT_UNDEF.key v).setOnce Reg.BMX_CNT_UNDEF.key false).respond true d)).once
      Reg.BMX_CNT_UNDEF.key = false := by
  generalize hu : ((requested s).setReg Reg.BMX_CNT_UNDEF.key v).setOnce Reg.BMX_CNT_UNDEF.key false = u
  have hends : EndsLike s (u.respond true d) := by
    subst hu
    refine .of_regs (requested_links s) (requested_lmp s) (by simp) (by simp) fun k hk hctr => ?_
    have hne : k ≠ Reg.BMX_CNT_UNDEF.key := fun h => hk (by rw [h]; decide)
    exact (reg_setReg_ne _ _ hne).trans (requested_reg s (lt_or_ge_of_not_isCounter hctr))
  rw [(finish_undefKept hs hends).once, once_congr (State.respond_onceRaised u true d), ← hu, once_setOnce_same]

theorem exec_bmxCntUndefRead_once {m : Nat} {s : State} (hs : Settled s) (hheld : held s = false) (hm : regMaster m = true) :
    ∃ t, exec (.bmxCntUndefRead m) s = .next t ∧ t.once Reg.BMX_CNT_UNDEF.key = false := by
  obtain ⟨w, v, hread⟩ := readReg_undef (if m = 0 then 3 else 1) m (requested s)
  refine ⟨_, ?_, finish_readUndef hs v (leBytes 4 w.toNat)⟩
  change execBmxCntUndefRead m s = _
  rw [execBmxCntUndefRead, anyMaster_of_regMaster hm, dev_next hheld, regRead,
    busAccess_readPage (b := { master := m, err := 0, host := [] }) 15 [] (masterReach_read_of_regMaster hm) (by decide) (by decide)
      (by decide) hread]

end Sys2Proof.Machine

namespace Sys2Proof.Proofs
open Sys2Proof.Machine

/-- Settles O45: an access of an undefined offset is `undefAccess`, whose one fault touches neither the count nor what arms the fault
again, nor does the end of the command, with what a new snuff abandons (R151). -/
theorem undefinedOffsets : Obligations.UndefinedOffsets := by
  unfold Obligations.UndefinedOffsets
  intro s m off w hs hheld hm hoff halign hpage hrow counted
  have hends : ∀ access reader d, let t := finish s ((undefAccess off access reader (requested s)).respond true d)
      t.resp = { ok := true, data := d } ∧ counted t := by
    intro access reader d
    obtain ⟨hresp, ⟨hcount, honce, hkind, hstaged, hsame⟩, hlater⟩ := finish_undefAccess hs off access reader d
    exact ⟨hresp, hcount, honce, hkind, hstaged, hsame, hlater⟩
  refine ⟨⟨_, exec_registerWrite_next hheld hm hoff halign hpage ?_, hends 2 m []⟩,
    fun reader en hreader hreach => ⟨_, ?_, hends (if reader = 0 then 3 else 1) reader (zeros 4)⟩,
    exec_bmxCntUndefRead_once hs hheld hm⟩
  · simp [pageWrite, hrow]
  · have hread : readReg off (if reader = 0 then 3 else 1) reader (requested s) =
        (0, undefAccess off (if reader = 0 then 3 else 1) reader (requested s)) := by
      rw [readReg, hrow]
    rw [exec_busAccess_next (write := false) en [] s 0 [] hheld hreader (by omega) (by decide) (by decide),
      busAccess_readPage (b := { master := reader, err := 0, host := [] }) en [] hreach hoff halign hpage hread]
    rfl

end Sys2Proof.Proofs

/-! Proofs about staged writes (01_instrument.md, 13_fabric.md): where the register tables have RWS fields, what a write of such a register
does, and the end of its command. -/

namespace Sys2Proof.Machine

/-! ## Where the register tables have RWS fields -/

/-- The bits of a row's RWS fields. -/
def RegRow.rws (r : RegRow) : Word := accMask r (· == .rws)

/-- The row defines offset `off` of its page. -/
def RegRow.covers (r : RegRow) (off : Nat) : Bool :=
  decide (r.off ≤ off) && (match r.dims with
    | [] => decide (off = r.off)
    | ds => dimsMatch ds (off - r.off))

/-- A row of the table with RWS fields defines offset `off`. -/
abbrev StagedAt (rows : List RegRow) (off : Nat) : Prop := ∃ r ∈ rows, r.rws ≠ 0 ∧ r.covers off = true

/-- How far the last register of an array lies behind its first one. -/
def dimsSpan : List (Nat × Nat) → Nat
  | [] => 0
  | (st, c) :: r => st * (c - 1) + dimsSpan r

theorem rowAt_eq_find (key : Nat) : rowAt key = (pageRows (key / 0x10000)).find? (·.covers (key % 0x10000)) := rfl

theorem rwsMask_of_rowAt {key : Nat} {r : RegRow} (h : rowAt key = some r) : rwsMask key = r.rws := by rw [rwsMask, h]; rfl

theorem rowAt_of_rwsMask {key : Nat} (h : rwsMask key ≠ 0) :
    ∃ r, rowAt key = some r ∧ r ∈ pageRows (key / 0x10000) ∧ r.rws ≠ 0 ∧ r.covers (key % 0x10000) = true := by
  cases hrow : rowAt key with
  | none => exact absurd (by rw [rwsMask, hrow]) h
  | some r =>
    rw [rwsMask_of_rowAt hrow] at h
    rw [rowAt_eq_find] at hrow
    exact ⟨r, rfl, List.mem_of_find?_eq_some hrow, h, (List.find?_eq_some_iff_append.1 hrow).1⟩

theorem stagedAt_of_rwsMask {key : Nat} (h : rwsMask key ≠ 0) : StagedAt (pageRows (key / 0x10000)) (key % 0x10000) := by
  obtain ⟨r, -, hmem, hrws, hcov⟩ := rowAt_of_rwsMask h
  exact ⟨r, hmem, hrws, hcov⟩

theorem le_dimsSpan_of_dimsMatch : ∀ (ds : List (Nat × Nat)) (d : Nat), dimsMatch ds d = true → d ≤ dimsSpan ds := by
  intro ds
  induction ds with
  | nil => intro d h; exact (of_decide_eq_true h).le
  | cons p r ih =>
    intro d h
    obtain ⟨st, c⟩ := p
    simp only [dimsMatch, Bool.and_eq_true, decide_eq_true_eq] at h
    obtain ⟨hindex, hrest⟩ := h
    calc d = st * (d / st) + d % st := (Nat.div_add_mod d st).symm
      _ ≤ st * (c - 1) + dimsSpan r := Nat.add_le_add (Nat.mul_le_mul_left st (by omega)) (ih _ hrest)

theorem dvd_of_dimsMatch {n : Nat} : ∀ (ds : List (Nat × Nat)) (d : Nat), (∀ p ∈ ds, n ∣ p.1) → dimsMatch ds d = true → n ∣ d := by
  intro ds
  induction ds with
  | nil => intro d _ h; rw [of_decide_eq_true h]; exact dvd_zero n
  | cons p r ih =>
    intro d hn h
    obtain ⟨st, c⟩ := p
    simp only [dimsMatch, Bool.and_eq_true, decide_eq_true_eq] at h
    have hst : n ∣ st := hn (st, c) (by simp)
    have hrest : n ∣ d % st := ih _ (fun q hq => hn q (List.mem_cons_of_mem _ hq)) h.2
    exact (Nat.dvd_mod_iff hst).1 hrest

theorem RegRow.covers_iff (r : RegRow) (off : Nat) : r.covers off = true ↔ r.off ≤ off ∧ dimsMatch r.dims (off - r.off) = true := by
  unfold RegRow.covers
  split
  · rename_i h
    simp only [h, dimsMatch, Bool.and_eq_true, decide_eq_true_eq]
    omega
  · simp only [Bool.and_eq_true, decide_eq_true_eq]

section StagedAt
variable {rows : List RegRow} {off : Nat} (h : StagedAt rows off)
include h

theorem StagedAt.ne {o : Nat} (ho : ¬ StagedAt rows o) : off ≠ o := fun e => ho (e ▸ h)

theorem StagedAt.bounds {lo hi : Nat} (hr : ∀ r ∈ rows, r.rws ≠ 0 → lo ≤ r.off ∧ r.off + dimsSpan r.dims ≤ hi) : lo ≤ off ∧ off ≤ hi := by
  obtain ⟨r, hmem, hrws, hcov⟩ := h
  obtain ⟨hlo, hhi⟩ := hr r hmem hrws
  obtain ⟨hoff, hdims⟩ := (r.covers_iff off).1 hcov
  have hspan := le_dimsSpan_of_dimsMatch _ _ hdims
  omega

theorem StagedAt.residue {n k : Nat} (hr : ∀ r ∈ rows, r.rws ≠ 0 → (∀ p ∈ r.dims, n ∣ p.1) ∧ r.off % n ≠ k) : off % n ≠ k := by
  obtain ⟨r, hmem, hrws, hcov⟩ := h
  obtain ⟨hn, hk⟩ := hr r hmem hrws
  obtain ⟨hoff, hdims⟩ := (r.covers_iff off).1 hcov
  have hmod : off % n = r.off % n := ((Nat.modEq_iff_dvd' hoff).2 (dvd_of_dimsMatch _ _ hn hdims)).symm
  rwa [hmod]

end StagedAt

/-! ## The pages with RWS fields -/

theorem pageRows_lnk {page : Nat} (h1 : 0x20 ≤ page) (h2 : page < 0x30) : pageRows page = regTableLnk := by
  unfold pageRows
  simp (disch := omega) only [if_neg, if_pos]

theorem pageRows_lmp {page : Nat} (h1 : 0x40 ≤ page) (h2 : page < 0x80) : pageRows page = regTableLmp := by
  unfold pageRows
  simp (disch := omega) only [if_neg, if_pos]

theorem page_cases {page : Nat} (h : pageExists page = true) : page < 0x14 ∨ (0x20 ≤ page ∧ page < 0x30) ∨ (0x40 ≤ page ∧ page < 0x80) := by
  simp only [pageExists, Bool.or_eq_true, Bool.and_eq_true, decide_eq_true_eq] at h
  omega

/-- A row with RWS fields has no other field that a write changes. -/
def RegRow.rwsAlone (r : RegRow) : Prop :=
  r.rws ≠ 0 → accMask r (· == .rw) = 0 ∧ accMask r (· == .w1c) = 0 ∧ accMask r (· == .w1s) = 0

theorem rwsAlone_of_mem {page : Nat} (h : pageExists page = true) : ∀ r ∈ pageRows page, r.rwsAlone := by
  unfold RegRow.rwsAlone
  rcases page_cases h with h | ⟨h1, h2⟩ | ⟨h1, h2⟩
  · exact (by decide : ∀ p < 0x14, ∀ r ∈ pageRows p, r.rws ≠ 0 →
      accMask r (· == .rw) = 0 ∧ accMask r (· == .w1c) = 0 ∧ accMask r (· == .w1s) = 0) page h
  · rw [pageRows_lnk h1 h2]; decide
  · rw [pageRows_lmp h1 h2]; decide

/-- The pages below the link groups' that have RWS fields. -/
theorem StagedAt.page {page off : Nat} (h : StagedAt (pageRows page) off) (hp : page < 0x14) :
    page ∈ [1, 2, 3, 4, 5, 0xC, 0xE, 0xF, 0x10, 0x11, 0x12, 0x13] := by
  obtain ⟨r, hmem, hrws, -⟩ := h
  exact (by decide : ∀ p < 0x14, ∀ r ∈ pageRows p, r.rws ≠ 0 → p ∈ [1, 2, 3, 4, 5, 0xC, 0xE, 0xF, 0x10, 0x11, 0x12, 0x13]) page hp r hmem hrws

/-! ## What a write of such a register does -/

/-- The fields' own rules change the staged values of the register's RWS fields alone. -/
theorem plainWrite_of_rws {key : Nat} (w : Word) (s : State) (hp : pageExists (key / 0x10000) = true) (h : rwsMask key ≠ 0) :
    plainWrite key w s = s.setStg key ((s.stgd key &&& ~~~rwsMask key) ||| (w &&& rwsMask key)) := by
  obtain ⟨r, hrow, hmem, hrws, -⟩ := rowAt_of_rwsMask h
  obtain ⟨hrw, hw1c, hw1s⟩ := rwsAlone_of_mem hp r hmem hrws
  have hmask : rwsMask key = accMask r (· == .rws) := rwsMask_of_rowAt hrow
  have hold : s.reg key &&& 0xFFFFFFFF#32 = s.reg key := BitVec.and_allOnes
  rw [hmask] at h ⊢
  have hsome : ¬ accMask r (· == .rws) = 0#32 := h
  simp [plainWrite, hrow, hrw, hw1c, hw1s, hold, hsome]

section Pages
variable {off : Nat} (b : Writer) (w : Word) (s : State)

theorem schedPage_staged (h : StagedAt regTableSched off) :
    schedPage off w s = if slotState s ((off - 0x1000) / 32) ≠ 0 then s else plainWrite (0x20000 + off) w s := by
  have hrange : 0x1004 ≤ off ∧ off ≤ 0x2FFC := h.bounds (by decide)
  have hctrl : off % 32 ≠ 0 := h.residue (by decide)
  have hring : off ≠ 8 := by omega
  have hslots : ¬ (off < 0x1000 ∨ 0x3000 ≤ off) := by omega
  simp only [schedPage, hring, hslots, hctrl, if_false]

theorem fltPage_staged (h : StagedAt regTableFlt off) : fltPage off w s = plainWrite (0x30000 + off) (maskClassWord (0x30000 + off) w) s := by
  have hrange : 0x2000 ≤ off ∧ off ≤ 0x27FC := h.bounds (by decide)
  have hclass : 0x2000 ≤ off ∧ off < 0x2800 := by omega
  have h0 : off ≠ 0 := by omega
  have h14 : off ≠ 0x14 := by omega
  have h1C : off ≠ 0x1C := by omega
  have h84 : off ≠ 0x84 := by omega
  simp only [fltPage, h0, h14, h1C, h84, hclass, and_self, if_false, if_true]

theorem lensPage_staged (h : StagedAt regTableLens off) : lensPage off w s = plainWrite (0xE0000 + off) w s := by
  have h4 : off ≠ 0x04 := h.ne (by decide)
  have h20 : off ≠ 0x20 := h.ne (by decide)
  have h28 : off ≠ 0x28 := h.ne (by decide)
  simp only [lensPage, h4, h20, h28, if_false]

theorem stgPage_staged (h : StagedAt regTableStg off) : stgPage off w s = plainWrite (0xF0000 + off) w s := by
  have h4 : off ≠ 0x04 := h.ne (by decide)
  have h500 : off ≠ 0x500 := h.ne (by decide)
  simp only [stgPage, h4, h500, if_false]

/-- The seed window holds the seeds' staged values (R341). -/
theorem lanPage_staged (h : StagedAt regTableLan off) (h208 : off ≠ 0x208) (h20C : off ≠ 0x20C) :
    lanPage off w s = plainWrite (0x100000 + off) w s := by
  have hrange : 0 ≤ off ∧ off ≤ 0x20C := h.bounds (by decide)
  have h4 : off ≠ 0x04 := h.ne (by decide)
  have hdebug : ¬ (0x300 ≤ off ∧ off < 0x400) := by omega
  have hseed : ¬ (off = 0x208 ∨ off = 0x20C) := by omega
  simp only [lanPage, h4, hseed, hdebug, if_false]

theorem canPage_staged (h : StagedAt regTableCan off) : canPage off w s = plainWrite (0x120000 + off) w s := by
  have h4 : off ≠ 0x04 := h.ne (by decide)
  have h10 : off ≠ 0x10 := h.ne (by decide)
  have h18 : off ≠ 0x18 := h.ne (by decide)
  have h1C : off ≠ 0x1C := h.ne (by decide)
  simp only [canPage, h4, h10, h18, h1C, if_false]

theorem linkPage_staged (g : Nat) (h : StagedAt regTableLnk off) : linkPage g off w s = plainWrite (0x200000 + g * 0x10000 + off) w s := by
  have h4 : off ≠ 0x04 := h.ne (by decide)
  have hcmd : off % 128 ≠ 8 := h.residue (by decide)
  simp only [linkPage, h4, hcmd, and_false, if_false]

theorem lampPage_staged (n : Nat) (h : StagedAt regTableLmp off) : lampPage n off b w s = plainWrite (0x400000 + n * 0x10000 + off) w s := by
  have hport : 0x14 ≤ off ∧ off ≤ 0x14 := h.bounds (by decide)
  obtain rfl : off = 0x14 := by omega
  rfl

end Pages

/-- A write of such a register to a power-gated page (R166) or to a slot that is not IDLE (R60) is discarded. -/
def writeDiscarded (s : State) (key : Nat) : Bool :=
  pageGated s (key / 0x10000) || (key / 0x10000 == 2 && slotState s ((key - 0x21000) / 32) != 0)

theorem writeDiscarded_eq_false {s : State} {key : Nat} : writeDiscarded s key = false ↔
    pageGated s (key / 0x10000) = false ∧ (key / 0x10000 = 2 → slotState s ((key - 0x21000) / 32) = 0) := by
  simp [writeDiscarded]

theorem pageGated_requested (s : State) (page : Nat) : pageGated (requested s) page = pageGated s page := by
  have hpers : (requested s).pers = s.pers := requested_f s (.inl (by decide))
  simp only [pageGated, State.isX, State.noPers, State.actsF, State.isF, hpers]

theorem slotState_requested {n : Nat} (s : State) (h : n < 0x1000) : slotState (requested s) n = slotState s n :=
  requested_f s (.inl (by simp only [Reg.SLOT_CTRL_STATE]; omega))

theorem writeDiscarded_requested (s : State) (key : Nat) : writeDiscarded (requested s) key = writeDiscarded s key := by
  rw [writeDiscarded, writeDiscarded, pageGated_requested]
  by_cases hp : key / 0x10000 = 2
  · rw [slotState_requested s (by omega)]
  · rw [beq_eq_false_iff_ne.2 hp, Bool.false_and, Bool.false_and]

section Write
variable {key : Nat} (b : Writer) (w : Word) (s : State) (hrws : rwsMask key ≠ 0)
include hrws

/-- A gated page keeps its commit register alone, which has no RWS field (R166). -/
theorem writeReg_gated (h : pageGated s (key / 0x10000) = true) : writeReg b key w s = s := by
  have hne : ∀ k, rwsMask k = 0 → key ≠ k := fun k hk e => hrws (e ▸ hk)
  have hlens : key ≠ 0xE0004 := hne _ (by decide)
  have hlan : key ≠ 0x100004 := hne _ (by decide)
  have hmnt : key ≠ 0x110000 := hne _ (by decide)
  have hcan : key ≠ 0x120004 := hne _ (by decide)
  simp only [writeReg, h, if_true]
  rw [if_neg (by omega), if_neg (by omega), if_neg (by omega), if_neg (by omega)]

theorem writeReg_discarded (h : writeDiscarded s key = true) : writeReg b key w s = s := by
  cases hg : pageGated s (key / 0x10000) with
  | true => exact writeReg_gated b w s hrws hg
  | false =>
    simp only [writeDiscarded, hg, Bool.false_or, Bool.and_eq_true, beq_iff_eq, bne_iff_ne] at h
    obtain ⟨hp, hbusy⟩ := h
    have hat := stagedAt_of_rwsMask hrws
    have hslot : (key % 0x10000 - 0x1000) / 32 = (key - 0x21000) / 32 := by omega
    rw [hp] at hg hat
    simp [writeReg, hp, hg, schedPage_staged _ _ hat, hslot, hbusy]

/-- Any other write of a register with RWS fields follows the fields' own rules, but for the seed window's. -/
theorem writeReg_plain (hp : pageExists (key / 0x10000) = true) (hd : writeDiscarded s key = false) (hlo : key ≠ 0x100208) (hhi : key ≠ 0x10020C) :
    writeReg b key w s = plainWrite key (if key / 0x10000 = 3 then maskClassWord key w else w) s := by
  obtain ⟨hg, hslot⟩ := writeDiscarded_eq_false.1 hd
  have hat := stagedAt_of_rwsMask hrws
  have hkey : key / 0x10000 * 0x10000 + key % 0x10000 = key := Nat.div_add_mod' key 0x10000
  have hoff : key % 0x10000 < 0x10000 := Nat.mod_lt _ (by decide)
  rcases page_cases hp with hp | ⟨h1, h2⟩ | ⟨h1, h2⟩
  · have hpage := hat.page hp
    simp only [List.mem_cons, List.not_mem_nil, or_false] at hpage
    rcases hpage with h | h | h | h | h | h | h | h | h | h | h | h <;> rw [h] at hat hg hkey
    -- in the order of the list: TIME, SCHED, FLT, PMR, PAIR, MEM, LENS, STG, LAN, MNT, CAN, EGR
    · have h0 : key % 0x10000 ≠ 0 := hat.ne (by decide)
      have h10 : key % 0x10000 ≠ 0x10 := hat.ne (by decide)
      have h30 : key % 0x10000 ≠ 0x30 := hat.ne (by decide)
      simp [writeReg, h, hg, h0, h10, h30]
    · have hidle : slotState s ((key % 0x10000 - 0x1000) / 32) = 0 := by
        rw [show (key % 0x10000 - 0x1000) / 32 = (key - 0x21000) / 32 by omega, hslot h]
      simp [writeReg, h, hg, schedPage_staged _ _ hat, hidle, hkey]
    · simp [writeReg, h, hg, fltPage_staged _ _ hat, hkey]
    · have h0 : key % 0x10000 ≠ 0 := hat.ne (by decide)
      have h4 : key % 0x10000 ≠ 4 := hat.ne (by decide)
      simp [writeReg, h, hg, h0, h4]
    · have h4 : key % 0x10000 ≠ 4 := hat.ne (by decide)
      have h8 : key % 0x10000 ≠ 8 := hat.ne (by decide)
      simp [writeReg, h, hg, h4, h8]
    · have hgeom : 4 ≤ key % 0x10000 ∧ key % 0x10000 ≤ 4 := hat.bounds (by decide)
      have h4 : key % 0x10000 = 4 := by omega
      simp [writeReg, h, hg, h4]
    · simp [writeReg, h, hg, lensPage_staged _ _ hat, hkey]
    · simp [writeReg, h, hg, stgPage_staged _ _ hat, hkey]
    · simp [writeReg, h, hg, lanPage_staged _ _ hat (by omega) (by omega), hkey]
    · have h0 : key % 0x10000 ≠ 0 := hat.ne (by decide)
      simp [writeReg, h, hg, h0]
    · simp [writeReg, h, hg, canPage_staged _ _ hat, hkey]
    · have h4 : key % 0x10000 ≠ 4 := hat.ne (by decide)
      simp [writeReg, h, hg, h4]
  · rw [pageRows_lnk h1 h2] at hat
    have hne : key / 0x10000 ≠ 3 := by omega
    have hpage : 0x200000 + (key / 0x10000 - 0x20) * 0x10000 + key % 0x10000 = key := by omega
    simp (disch := omega) only [writeReg, hg, hne, h1, h2, and_self, Bool.false_eq_true, if_false, if_true, if_neg, linkPage_staged _ _ _ hat, hpage]
  · rw [pageRows_lmp h1 h2] at hat
    have hne : key / 0x10000 ≠ 3 := by omega
    have hpage : 0x400000 + (key / 0x10000 - 0x40) * 0x10000 + key % 0x10000 = key := by omega
    simp (disch := omega) only [writeReg, hg, hne, h1, h2, and_self, Bool.false_eq_true, if_false, if_true, if_neg, lampPage_staged _ _ _ _ hat, hpage]

theorem writeReg_staged (hp : pageExists (key / 0x10000) = true) (hd : writeDiscarded s key = false) (hlo : key ≠ 0x100208)
    (hhi : key ≠ 0x10020C) :
    writeReg b key w s = s.setStg key ((s.stgd key &&& ~~~rwsMask key) |||
      ((if key / 0x10000 = 3 then maskClassWord key w else w) &&& rwsMask key)) := by
  rw [writeReg_plain b w s hrws hp hd hlo hhi, plainWrite_of_rws _ _ hp hrws]

end Write

/-- The seed after a write of one of its words (R341). -/
def seedWritten (key v : Nat) (w : Word) : Nat :=
  if key = 0x100208 then v / 2 ^ 32 * 2 ^ 32 + w.toNat else v % 2 ^ 32 + w.toNat * 2 ^ 32

/-- A write of the seed window stages the seed of the lantern selected. -/
def stageSeed (key : Nat) (w : Word) (s : State) : State :=
  let l := s.f Reg.LAN_WIN_SEL_LANTERN
  { s with lan := { s.lan with seedsStg := mapSet 0 s.lan.seedsStg l (seedWritten key (mapGet 0 s.lan.seedsStg l) w) } }

theorem writeReg_seed {key : Nat} (b : Writer) (w : Word) (s : State) (hd : writeDiscarded s key = false)
    (h : key = 0x100208 ∨ key = 0x10020C) : writeReg b key w s = stageSeed key w s := by
  obtain ⟨hg, -⟩ := writeDiscarded_eq_false.1 hd
  rcases h with rfl | rfl
  · simp [writeReg, hg, lanPage, stageSeed, seedWritten]
  · simp [writeReg, hg, lanPage, stageSeed, seedWritten]

/-! ## What a write leaves (R495, R501 to R504) -/

/-- Two states differ in what the bus counts, in the log, in staged values and in the lanterns' seeds alone. -/
def Written (s t : State) : Prop :=
  (∃ r d f g l, t = { s with regs := r, dict := d, fresh := f, staged := g, lan := l }) ∧
    ∀ k, k ≠ Reg.BMX_CNT_LOG_HOLD.key → isCounter k = false → t.reg k = s.reg k

theorem Written.refl (s : State) : Written s s := ⟨⟨_, _, _, _, _, rfl⟩, fun _ _ _ => rfl⟩

theorem Written.trans {s t u : State} (h : Written s t) (g : Written t u) : Written s u := by
  obtain ⟨⟨_, _, _, _, _, rfl⟩, hreg⟩ := h
  obtain ⟨⟨_, _, _, _, _, rfl⟩, greg⟩ := g
  exact ⟨⟨_, _, _, _, _, rfl⟩, fun k hk hc => (greg k hk hc).trans (hreg k hk hc)⟩

theorem Written.setStg (s : State) (k : Nat) (w : Word) : Written s (s.setStg k w) := ⟨⟨_, _, _, _, _, rfl⟩, fun _ _ _ => rfl⟩

theorem Written.setLan (s : State) (l : LanState) : Written s { s with lan := l } := ⟨⟨_, _, _, _, _, rfl⟩, fun _ _ _ => rfl⟩

theorem requested_written (s : State) : Written s (requested s) := by
  obtain ⟨r, h, hreg⟩ := requested_same s
  exact ⟨⟨r, _, _, _, _, h⟩, fun k _ hc => hreg k (lt_or_ge_of_not_isCounter hc)⟩

theorem Written.rest {s t : State} (h : Written s t) :
    t.links = s.links ∧ t.lmp = s.lmp ∧ t.flt = s.flt ∧ t.mgmt = s.mgmt := by
  obtain ⟨⟨_, _, _, _, _, rfl⟩, -⟩ := h
  exact ⟨rfl, rfl, rfl, rfl⟩

theorem Written.same {s t : State} (h : Written s t) : Memory.same s t := by
  obtain ⟨⟨_, _, _, _, _, rfl⟩, -⟩ := h
  exact ⟨rfl, rfl, rfl, rfl, rfl, rfl, rfl⟩

/-! ### Logging -/

/-- Logging changes neither staged values nor seeds. -/
structure Logged (s t : State) : Prop where
  written : Written s t
  staged : t.staged = s.staged
  lan : t.lan = s.lan

theorem Logged.trans {s t u : State} (h : Logged s t) (g : Logged t u) : Logged s u :=
  ⟨h.written.trans g.written, g.staged.trans h.staged, g.lan.trans h.lan⟩

theorem Logged.refl (s : State) : Logged s s := ⟨.refl s, rfl, rfl⟩

theorem dictSet_logged (f : DictState → DictState) (s : State) : Logged s (dictSet f s) := ⟨⟨⟨_, _, _, _, _, rfl⟩, fun _ _ _ => rfl⟩, rfl, rfl⟩

theorem draw_logged (s : State) : Logged s s.draw.2 := ⟨⟨⟨_, _, _, _, _, rfl⟩, fun _ _ _ => rfl⟩, rfl, rfl⟩

theorem logHold_logged (s : State) (n : Nat) : Logged s (s.satF Reg.BMX_CNT_LOG_HOLD n) :=
  ⟨⟨⟨_, _, _, _, _, rfl⟩, fun _ hk _ => reg_setF_ne s _ hk⟩, rfl, rfl⟩

theorem logDrain_logged (s : State) : Logged s (logDrain s) := by
  obtain ⟨_, _, _, _, h⟩ := logDrain_same s
  rw [h]
  exact dictSet_logged (fun _ => _) s

theorem logWrite_logged (origin key : Nat) (old new : Word) (s : State) : Logged s (logWrite origin key old new s) := by
  unfold logWrite
  dsimp only
  refine Logged.trans ?_ (dictSet_logged _ _)
  split
  · exact .refl s
  · exact ((draw_logged s).trans (logDrain_logged _)).trans (logHold_logged _ _)

theorem logAfter_logged (m key : Nat) (old w : Word) (s : State) : Logged s (logAfter m key old w s) := by
  unfold logAfter
  split
  · exact logWrite_logged _ _ _ _ s
  · split
    · exact logWrite_logged _ _ _ _ s
    · exact .refl s

/-! ## The end of a write -/

/-- Where nothing has been snuffed, the end of the command has parameter sets at most to settle. -/
theorem finish_eq_psetSettle {s v : State} (hs : Settled s) (hv : EndsLike s v) (hsn : v.snuffed = true → s.snuffed = true) :
    finish s v = { psetSettle v with pending := s.pending } := by
  have hlanes : lanesQuiet v = true := by
    have h := hs.lanes
    simp only [lanesQuiet, Bool.or_eq_true, Bool.not_eq_true', hv.links] at h ⊢
    exact h.imp_left fun h => Bool.eq_false_iff.2 fun hvs => by simp [hsn hvs] at h
  have hstage : stageQuiet (psetSettle v) = true := by
    refine (stageQuiet_congr (s := s) ?_ fun k hk => ?_).trans hs.stage
    · rw [psetSettle_mgmt, hv.bootSteps]
    · rw [reg_congr (psetSettle_regs v), hv.stageRegs k hk]
  have hlost : v.links.lost = [] := by rw [hv.links, hs.lost]
  have hcut : v.lmp.cut = [] := by rw [hv.lmp, hs.cuts]
  rw [finish, settle, settleLost_of_nil _ hlost, settleCuts_of_nil hcut, settleResets_of_nil _ _ (hv.resets.trans hs.resets) hlanes,
    clearCuts_of_nil (by rw [psetSettle_lmp, hcut]), clearLost_of_nil (by rw [psetSettle_links, hlost]), stageSettle_of_quiet hstage]

/-- What R495 leaves of a state s in which a write has led to u and ended in t. -/
structure WriteEnds (s u t : State) : Prop where
  resp : t.resp = { ok := true, data := [] }
  staged : t.staged = u.staged
  lan : t.lan = u.lan
  reg : ∀ k, k ≠ Reg.BMX_CNT_LOG_HOLD.key → isCounter k = false → t.reg k = s.reg k
  same : Memory.same s t

theorem WriteEnds.withPending {s u t : State} (h : WriteEnds s u t) (q : List Instr) : WriteEnds s u { t with pending := q } :=
  ⟨h.resp, h.staged, h.lan, h.reg, h.same⟩

/-- The parameter sets' settling leaves what the write has led to. -/
theorem WriteEnds.psetSettle {s u v : State} (h : WriteEnds s u v) : WriteEnds s u (psetSettle v) where
  resp := (psetSettle_resp v).trans h.resp
  staged := (psetSettle_staged v).trans h.staged
  lan := (psetSettle_lan v).trans h.lan
  reg k hk hc := (reg_congr (psetSettle_regs v) k).trans (h.reg k hk hc)
  same := h.same.trans (by simp [Memory.same])

theorem Written.respond {s u : State} (h : Written s u) : WriteEnds s u (u.respond true []) :=
  ⟨rfl, rfl, rfl, h.2, h.same⟩

theorem finish_written {s u : State} (hs : Settled s) (hu : Written s u) : WriteEnds s u (finish s (u.respond true [])) := by
  obtain ⟨hlinks, hlmp, hflt, hmgmt⟩ := hu.rest
  have hends : EndsLike s (u.respond true []) :=
    .of_regs hlinks hlmp (congrArg FaultState.blockResets hflt) (congrArg Mgmt.bootSteps hmgmt)
      fun k hk hc => hu.2 k (fun h => hk (by rw [h]; decide)) hc
  have hsnuff : u.snuffed = s.snuffed := by
    rw [State.snuffed, State.snuffed, State.flag, State.flag, State.f, State.f, hu.2 _ (by decide) (by decide)]
  rw [finish_eq_psetSettle hs hends fun h => hsnuff ▸ h]
  exact hu.respond.psetSettle.withPending _

/-- A write of a register with RWS fields is neither undefined nor refused: it acts and is logged. -/
theorem pageWrite_of_rws {off : Nat} (b : Writer) (w : Word) (s : State) (h : rwsMask off ≠ 0) :
    pageWrite b off w s = (true, writeLogged b off w s) := by
  obtain ⟨r, hrow, -⟩ := rowAt_of_rwsMask h
  have hne : ∀ k, rwsMask k = 0 → off ≠ k := fun k hk e => h (e ▸ hk)
  have hsel : off ≠ 0x18 := hne _ (by decide)
  have hdog : off ≠ 0x1C := hne _ (by decide)
  have hremap : off ≠ 0x100 := hne _ (by decide)
  simp [pageWrite, hrow, refusedWrite, hsel, hdog, hremap]

theorem registerWrite_of_rws {s u : State} {m off : Nat} {w : Word} (hs : Settled s) (hheld : held s = false) (hm : regMaster m = true)
    (hoff : off < 2 ^ 28) (ha : off % 4 = 0) (hp : pageExists (off / 0x10000) = true) (h : rwsMask off ≠ 0)
    (hw : writeReg { master := m, err := 0, host := [] } off w (requested s) = u) (hu : Written (requested s) u) :
    ∃ t, exec (.registerWrite m off w [] 0) s = .next t ∧ WriteEnds s u t := by
  have hlog := logAfter_logged m off (shownWord (requested s) off) w u
  have hexec := exec_registerWrite_next hheld hm hoff ha hp (pageWrite_of_rws _ w (requested s) h)
  rw [writeLogged, hw] at hexec
  obtain ⟨hresp, hstaged, hlan, hreg, hsame⟩ := finish_written hs (((requested_written s).trans hu).trans hlog.written)
  exact ⟨_, hexec, hresp, hstaged.trans hlog.staged, hlan.trans hlog.lan, hreg, hsame⟩

/-- The RWS bits of the word that a write stages. -/
theorem masked_of_merge (old new mask : Word) : ((old &&& ~~~mask) ||| (new &&& mask)) &&& mask = new &&& mask := by
  ext i hi
  simp only [BitVec.getElem_and, BitVec.getElem_or, BitVec.getElem_not]
  cases mask[i] <;> simp

/-! ## The registers that count and hold are no others -/

theorem not_isCounter_of_rws {off : Nat} (h : rwsMask off ≠ 0) : isCounter off = false := by
  by_cases hp : off / 0x10000 = 4
  · have hat := stagedAt_of_rwsMask h
    rw [hp] at hat
    have hcfg : 0x1000 ≤ off % 0x10000 ∧ off % 0x10000 ≤ 0x28FC := hat.bounds (by decide)
    simp only [isCounter, Bool.and_eq_false_iff, decide_eq_false_iff_not]
    omega
  · simp only [isCounter, Bool.and_eq_false_iff, decide_eq_false_iff_not]
    omega

theorem ne_logHold_of_rws {off : Nat} (h : rwsMask off ≠ 0) : off ≠ Reg.BMX_CNT_LOG_HOLD.key := fun e => h (by rw [e]; decide)

theorem stgd_congr {s t : State} (h : t.staged = s.staged) (k : Nat) : t.stgd k = s.stgd k := by rw [State.stgd, State.stgd, h]

end Sys2Proof.Machine

namespace Sys2Proof.Proofs
open Sys2Proof.Machine

/-- Settles O47: a register with RWS fields has no other field that a write changes, the pages' own rules reach none but those of the
class table, the slots and the seed window, and the log and the end of the command touch no staged value. -/
theorem stagedWrites : Obligations.StagedWrites := by
  unfold Obligations.StagedWrites
  intro s m off w hs hheld hm hoff halign hpage hrws discards
  have hwrite := fun u => registerWrite_of_rws (u := u) (w := w) hs hheld hm hoff halign hpage hrws
  have hdisc : writeDiscarded (requested s) off = discards := writeDiscarded_requested s off
  have hstg := stgd_congr (requested_staged s)
  refine ⟨fun hd => ?_, fun hd hlo hhi => ?_, fun hd hseed => ?_⟩
  · obtain ⟨t, hexec, hresp, hstaged, -, hreg, hsame⟩ := hwrite _ (writeReg_discarded _ w _ hrws (hdisc.trans hd)) (.refl _)
    exact ⟨t, hexec, hresp, hstaged.trans (requested_staged s), hreg, hsame⟩
  · obtain ⟨t, hexec, hresp, hstaged, -, hreg, hsame⟩ :=
      hwrite _ (writeReg_staged _ w _ hrws hpage (hdisc.trans hd) hlo hhi) (.setStg _ _ _)
    refine ⟨t, hexec, hresp, ?_, ?_, fun k hk => ?_, fun k _ hk hc => hreg k hk hc, hsame⟩
    · rw [stgd_congr hstaged, stgd_setStg_same, masked_of_merge]
    · rw [hreg off (ne_logHold_of_rws hrws) (not_isCounter_of_rws hrws)]
    · rw [stgd_congr hstaged, stgd_setStg_ne _ _ hk, hstg]
  · obtain ⟨t, hexec, hresp, hstaged, hlan, hreg, -⟩ :=
      hwrite _ (writeReg_seed _ w _ (hdisc.trans hd) hseed) (.setLan _ _)
    have hsel : (requested s).f Reg.LAN_WIN_SEL_LANTERN = s.f Reg.LAN_WIN_SEL_LANTERN := requested_f s (.inr (by decide))
    have hseeds : t.lan.seedsStg = mapSet 0 s.lan.seedsStg (s.f Reg.LAN_WIN_SEL_LANTERN)
        (seedWritten off (mapGet 0 s.lan.seedsStg (s.f Reg.LAN_WIN_SEL_LANTERN)) w) := by
      rw [hlan, stageSeed, hsel, requested_lan]
    refine ⟨t, hexec, hresp, hstaged.trans (requested_staged s), ?_, fun k hk => ?_, hreg⟩
    · rw [hseeds, mapGet_mapSet_same]; rfl
    · rw [hseeds, mapGet_mapSet_ne _ _ _ hk]

end Sys2Proof.Proofs

/-! Proofs about the snuffed state (17_faults.md): what leaves a snuff as it is, what its entry does, and the end of the
command that snuffs. -/

namespace Sys2Proof.Machine

/-! ## What leaves the snuff as it is (R612, R613) -/

theorem flag_congr {s t : State} {F : Field} (h : t.f F = s.f F) : t.flag F = s.flag F := by rw [State.flag, State.flag, h]

/-- FLT_STATUS and the counts of snuffs stand, with what the entry of a snuff does: its interrupt, its pin and the end of the beacon. No
block reset has become due. -/
structure SnuffLeft (s t : State) : Prop where
  status : t.reg Reg.FLT_STATUS_SNUFFED.key = s.reg Reg.FLT_STATUS_SNUFFED.key
  count : t.reg Reg.FLT_CNT_SNUFF.key = s.reg Reg.FLT_CNT_SNUFF.key
  pend : (s.reg Reg.HIF_INT_PEND.key).getLsbD 2 = true → (t.reg Reg.HIF_INT_PEND.key).getLsbD 2 = true
  life : t.mgmt.life = s.mgmt.life
  out : t.flt.snuffOut = s.flt.snuffOut
  beacon : t.time.beaconActive = s.time.beaconActive
  resets : t.flt.blockResets = s.flt.blockResets

/-- The words that `SnuffLeft` speaks of. -/
abbrev snuffWord (k : Nat) : Prop := k = Reg.FLT_STATUS_SNUFFED.key ∨ k = Reg.FLT_CNT_SNUFF.key ∨ k = Reg.HIF_INT_PEND.key

theorem not_snuffWord {k : Nat} (h : 0x3002C < k ∧ k < 0xB0010 ∨ 0xB0010 < k) : ¬ snuffWord k := by
  simp only [snuffWord, Reg.FLT_STATUS_SNUFFED, Reg.FLT_CNT_SNUFF, Reg.HIF_INT_PEND]
  omega

theorem getLsbD_intPend_same (s : State) {v : Nat} (h : v < 32) : ((s.intPend v).reg Reg.HIF_INT_PEND.key).getLsbD v = true := by
  rw [State.intPend, reg_setReg_same, BitVec.getLsbD_or, BitVec.getLsbD_ofNat, Nat.testBit_two_pow_self, decide_eq_true h, Bool.and_self,
    Bool.or_true]

namespace SnuffLeft
variable {s t u : State}

theorem trans (h : SnuffLeft s t) (g : SnuffLeft t u) : SnuffLeft s u where
  status := g.status.trans h.status
  count := g.count.trans h.count
  pend := g.pend ∘ h.pend
  life := g.life.trans h.life
  out := g.out.trans h.out
  beacon := g.beacon.trans h.beacon
  resets := g.resets.trans h.resets

theorem of_reg (hreg : ∀ k, snuffWord k → t.reg k = s.reg k) (hm : t.mgmt = s.mgmt) (ht : t.time = s.time)
    (ho : t.flt.snuffOut = s.flt.snuffOut) (hr : t.flt.blockResets = s.flt.blockResets) : SnuffLeft s t where
  status := hreg _ (by decide)
  count := hreg _ (by decide)
  pend h := by rw [hreg _ (by decide)]; exact h
  life := by rw [hm]
  out := ho
  beacon := by rw [ht]
  resets := hr

theorem refl (s : State) : SnuffLeft s s := of_reg (fun _ _ => rfl) rfl rfl rfl rfl

theorem setReg (s : State) {k : Nat} (w : Word) (h : ¬ snuffWord k) : SnuffLeft s (s.setReg k w) :=
  of_reg (fun _ hj => reg_setReg_ne s w fun e => h (e ▸ hj)) rfl rfl rfl rfl

theorem setF (s : State) {F : Field} (v : Nat) (h : ¬ snuffWord F.key) : SnuffLeft s (s.setF F v) := setReg s _ h

theorem incF (s : State) {F : Field} (n : Nat) (h : ¬ snuffWord F.key) : SnuffLeft s (s.incF F n) := setF s _ h

theorem setFlt (s : State) {f : FaultState} (ho : f.snuffOut = s.flt.snuffOut) (hr : f.blockResets = s.flt.blockResets) :
    SnuffLeft s { s with flt := f } := of_reg (fun _ _ => rfl) rfl rfl ho hr

theorem setPair (s : State) (p : PairState) : SnuffLeft s { s with pair := p } := of_reg (fun _ _ => rfl) rfl rfl rfl rfl

theorem setPmr (s : State) (c : PmrState) : SnuffLeft s { s with pmr := c } := of_reg (fun _ _ => rfl) rfl rfl rfl rfl

theorem setOnce (s : State) (k : Nat) (b : Bool) : SnuffLeft s (s.setOnce k b) := of_reg (fun _ _ => rfl) rfl rfl rfl rfl

/-- Interrupts are set, none is cleared. -/
theorem intPend (s : State) (v : Nat) : SnuffLeft s (s.intPend v) where
  status := reg_setReg_ne s _ (by decide)
  count := reg_setReg_ne s _ (by decide)
  pend h := by rw [State.intPend, reg_setReg_same, BitVec.getLsbD_or, h, Bool.true_or]
  life := rfl
  out := rfl
  beacon := rfl
  resets := rfl

theorem of_written (h : Written s t) : SnuffLeft s t := by
  obtain ⟨⟨_, _, _, _, _, rfl⟩, hreg⟩ := h
  refine of_reg (fun k hk => hreg k ?_ ?_) rfl rfl rfl rfl
  · rintro rfl; exact absurd hk (by decide)
  · rcases hk with rfl | rfl | rfl <;> rfl

theorem f (h : SnuffLeft s t) {F : Field} (hF : F.key = Reg.FLT_STATUS_SNUFFED.key) : t.f F = s.f F := by rw [State.f, State.f, hF, h.status]

theorem flag (h : SnuffLeft s t) {F : Field} (hF : F.key = Reg.FLT_STATUS_SNUFFED.key) : t.flag F = s.flag F := flag_congr (h.f hF)

theorem snuffed (h : SnuffLeft s t) : t.snuffed = s.snuffed := h.flag rfl

theorem f_count (h : SnuffLeft s t) : t.f Reg.FLT_CNT_SNUFF = s.f Reg.FLT_CNT_SNUFF := by rw [State.f, State.f, h.count]

end SnuffLeft

/-! ## Collecting an event beside the snuff it may call for (R602 to R607) -/

theorem putWords_snuffLeft (n : Nat) : ∀ (s : State) (k : Nat) (l : List Byte),
    0x3002C < k ∧ k + 4 * n ≤ 0xB0010 → SnuffLeft s (putWords s k n l) := by
  induction n with
  | zero => intro s k l _; exact .refl s
  | succ n ih =>
    intro s k l h
    exact (SnuffLeft.setReg s _ (not_snuffWord (by omega))).trans (ih _ _ _ (by omega))

theorem keepMsg_snuffLeft (e : FaultEv) (sev : Nat) (s : State) : SnuffLeft s (keepMsg e sev s) := by
  have hring : SnuffLeft s (putMsg s (Reg.FLT_RING0 (s.f Reg.FLT_RING_WR % 1024)).key (faultMsg s e sev s.flt.lost)) :=
    putWords_snuffLeft 4 s _ _ (by simp only [Reg.FLT_RING0]; omega)
  have hwr : ∀ x : State, SnuffLeft x (x.incF Reg.FLT_RING_WR 1) := fun x => .incF x 1 (by decide)
  have hfirst : ∀ x : State, SnuffLeft x (putMsg x (Reg.FLT_FIRST_MSG 0).key (faultMsg s e sev s.flt.lost)) :=
    fun x => putWords_snuffLeft 4 x _ _ (by decide)
  unfold keepMsg
  dsimp only
  generalize hb : ({ (putMsg s _ _).incF Reg.FLT_RING_WR 1 with flt := _ } : State) = b
  have hkept : SnuffLeft s b := (hring.trans (hwr _)).trans (hb ▸ .setFlt _ rfl rfl)
  split
  · exact hkept.trans (((((hfirst b).trans (.setF _ _ (by decide))).trans (.setF _ _ (by decide))).trans
      (.setF _ _ (by decide))).trans (.setF _ _ (by decide)))
  · exact hkept

theorem collectKeep_snuffLeft (e : FaultEv) (sev : Nat) (s : State) (h : e.kind < 4096) : SnuffLeft s (collectKeep e sev s).1 := by
  have hkind : SnuffLeft s (s.incF (Reg.FLT_KIND_CNT e.kind) 1) :=
    .incF s 1 (not_snuffWord (by simp only [Reg.FLT_KIND_CNT]; omega))
  unfold collectKeep
  dsimp only
  split
  · exact hkind.trans (((SnuffLeft.incF _ (F := Reg.FLT_CNT_DROP) 1 (by decide)).trans (.setOnce _ _ true)).trans (.setFlt _ rfl rfl))
  · exact hkind.trans (keepMsg_snuffLeft e sev _)

theorem snapTrigger_snuffLeft (cause domain slot trigger kind : Nat) (freeze : Bool) (s : State) :
    SnuffLeft s (snapTrigger cause domain slot trigger kind freeze s).1 := by
  unfold snapTrigger
  dsimp only
  generalize ha : (if freeze then s.setF Reg.PMR_STATUS_FROZEN 1 else s) = a
  have hfrozen : SnuffLeft s a := by
    subst ha
    split
    · exact .setF s 1 (by decide)
    · exact .refl s
  refine hfrozen.trans ?_
  split
  · exact .setPmr a _
  split
  · exact (SnuffLeft.setF a (F := Reg.PMR_CNT_SNAP_LOST) _ (by decide)).trans (.setOnce _ _ true)
  · exact (SnuffLeft.setPmr a _).trans (.setF _ (F := Reg.PMR_STATUS_COLLECTING) 1 (by decide))

theorem collectSnap_snuffLeft (e : FaultEv) (sev : Nat) (s : State) : SnuffLeft s (collectSnap e sev s).1 := by
  unfold collectSnap
  split
  · exact snapTrigger_snuffLeft _ _ _ _ _ _ s
  · exact .refl s

theorem collectReset_snuffLeft (e : FaultEv) (sev : Nat) (lost : Bool) (s : State) (h : actingClass sev e.src ≠ 3) :
    SnuffLeft s (collectReset e sev lost s) := by
  unfold collectReset
  dsimp only
  rw [if_neg h]
  split
  · exact (putWords_snuffLeft 4 s (Reg.FLT_LAST_C4_MSG 0).key _ (by decide)).trans (.setFlt _ rfl rfl)
  · exact .refl s

/-- The state in which the collection of an event comes to its snuff. -/
def collectNoted (e : FaultEv) (s : State) : State :=
  let a := (collectKeep e (classOf s e.kind) s).1
  (collectSnap e (classOf s e.kind) (if actingClass (classOf s e.kind) e.src ≥ 1 then a.intPend 1 else a)).1

theorem collectNoted_snuffLeft (e : FaultEv) (s : State) (h : e.kind < 4096) : SnuffLeft s (collectNoted e s) := by
  unfold collectNoted
  dsimp only
  refine ((collectKeep_snuffLeft e (classOf s e.kind) s h).trans ?_).trans (collectSnap_snuffLeft e _ _)
  split
  · exact .intPend _ 1
  · exact .refl _

theorem collectOne_state (e : FaultEv) (s : State) : (collectOne e s).1 = collectReset e (classOf s e.kind) s.flt.lost
    (if actingClass (classOf s e.kind) e.src = 2 ∨ actingClass (classOf s e.kind) e.src = 4 then (snuffEnter (collectNoted e s)).1
      else collectNoted e s) := by
  unfold collectOne collectNoted
  dsimp only
  split <;> rfl

/-! ## A snuffed device is not snuffed again (R612) -/

theorem snuffEnter_of_snuffed {s : State} (h : s.snuffed = true) : snuffEnter s = (s, []) := by rw [snuffEnter, if_pos h]

theorem collectOne_snuffLeft {e : FaultEv} {s : State} (hs : s.snuffed = true) (hk : e.kind < 4096)
    (hact : actingClass (classOf s e.kind) e.src ≠ 3) : SnuffLeft s (collectOne e s).1 := by
  have hnoted := collectNoted_snuffLeft e s hk
  rw [collectOne_state, snuffEnter_of_snuffed (hnoted.snuffed.trans hs), ite_self]
  exact hnoted.trans (collectReset_snuffLeft e _ _ _ hact)

theorem collect_snuffLeft (n : Nat) : ∀ (l : List FaultEv) (s : State), s.snuffed = true → (∀ x ∈ l, FollowUp x ∧ x.kind < 4096) →
    SnuffLeft s (collect n l s) := by
  induction n with
  | zero => intro l s _ _; exact .refl s
  | succ n ih =>
    intro l s hs h
    cases l with
    | nil => exact .refl s
    | cons e r =>
      obtain ⟨⟨-, hsrc⟩, hk⟩ := h e (by simp)
      have hone : SnuffLeft s (collectOne e s).1 := collectOne_snuffLeft hs hk (actingClass_ne_three _ hsrc)
      refine hone.trans (ih (r ++ (collectOne e s).2) _ (hone.snuffed.trans hs) fun x hx => ?_)
      rcases List.mem_append.1 hx with hx | hx
      · exact h x (List.mem_cons_of_mem e hx)
      · exact ⟨collectOne_raises e s x hx, collectOne_kinds e s x hx⟩

/-- What follows from an event that has left the device snuffed. -/
theorem raise_after {e : FaultEv} {s : State} (h : (collectOne e s).1.snuffed = true) : SnuffLeft (collectOne e s).1 (raise e s) :=
  collect_snuffLeft 7 _ _ h fun x hx => ⟨collectOne_raises e s x hx, collectOne_kinds e s x hx⟩

theorem raise_snuffLeft {e : FaultEv} {s : State} (hs : s.snuffed = true) (hk : e.kind < 4096)
    (hact : actingClass (classOf s e.kind) e.src ≠ 3) : SnuffLeft s (raise e s) := by
  have hone := collectOne_snuffLeft hs hk hact
  exact hone.trans (raise_after (hone.snuffed.trans hs))

/-! ## The entry (R612, R613) -/

/-- R612 of a state t that something which snuffs the device has led to from s. -/
def SnuffedOnce (s t : State) : Prop :=
  t.snuffed = true ∧
    (s.snuffed = false → t.f Reg.FLT_CNT_SNUFF = (s.f Reg.FLT_CNT_SNUFF + 1) % 2 ^ 32 ∧
      mapGet 0 t.mgmt.life 12 = min (2 ^ 32 - 1) (mapGet 0 s.mgmt.life 12 + 1) ∧
      (t.reg Reg.HIF_INT_PEND.key).getLsbD 2 = true ∧ t.flt.snuffOut = true ∧ t.time.beaconActive = 0) ∧
    (s.snuffed = true → t.f Reg.FLT_CNT_SNUFF = s.f Reg.FLT_CNT_SNUFF ∧ mapGet 0 t.mgmt.life 12 = mapGet 0 s.mgmt.life 12)

namespace SnuffedOnce
variable {s t u : State}

theorem of_eq (hsn : t.snuffed = s.snuffed) (hc : t.f Reg.FLT_CNT_SNUFF = s.f Reg.FLT_CNT_SNUFF) (hl : t.mgmt.life = s.mgmt.life)
    (h : SnuffedOnce t u) : SnuffedOnce s u := by
  rw [SnuffedOnce, hsn, hc, hl] at h
  exact h

theorem of_left (h : SnuffLeft s t) (g : SnuffedOnce t u) : SnuffedOnce s u := g.of_eq h.snuffed h.f_count h.life

theorem left (h : SnuffedOnce s t) (g : SnuffLeft t u) : SnuffedOnce s u := by
  obtain ⟨hsn, hfirst, hagain⟩ := h
  rw [SnuffedOnce, g.snuffed, g.f_count, g.life, g.out, g.beacon]
  refine ⟨hsn, fun h => ?_, hagain⟩
  obtain ⟨hcount, hlife, hpend, hpin, hbeacon⟩ := hfirst h
  exact ⟨hcount, hlife, g.pend hpend, hpin, hbeacon⟩

/-- Another bit of FLT_STATUS is set. -/
theorem setF (h : SnuffedOnce s t) {F : Field} (v : Nat) (hF : F.apart Reg.FLT_STATUS_SNUFFED) (hc : F.key ≠ Reg.FLT_CNT_SNUFF.key)
    (hp : F.key ≠ Reg.HIF_INT_PEND.key) : SnuffedOnce s (t.setF F v) := by
  have hsn : (t.setF F v).snuffed = t.snuffed := flag_congr (f_setF_apart t v hF)
  rw [SnuffedOnce, hsn, f_setF_apart t v (.inl hc), reg_setF_ne t v hp.symm]
  exact h

end SnuffedOnce

theorem pairEnter_snuffLeft (st : Nat) (s : State) : SnuffLeft s (pairEnter st s).1 := by
  unfold pairEnter
  split
  · exact .refl s
  · exact ((SnuffLeft.setF s (F := Reg.PAIR_STATUS_STATE) st (by decide)).trans (.intPend _ 26)).trans
      (.setF _ (F := Reg.PAIR_STATUS_CLAIM_OUT) _ (by decide))

theorem pairSnuff_snuffLeft (s : State) : SnuffLeft s (pairSnuff s).1 := by
  unfold pairSnuff
  dsimp only
  split
  · exact ((SnuffLeft.setPair s _).trans (.setF _ (F := Reg.PAIR_STATUS_TRIM_PENDING) 0 (by decide))).trans (pairEnter_snuffLeft _ _)
  · exact .refl s

/-- The device as an entry marks it, before the pair unit and the latch follow. -/
def snuffMarked (s : State) : State :=
  let s := (s.setF Reg.FLT_STATUS_SNUFFED 1).incF Reg.FLT_CNT_SNUFF 1
  let s := snuffDrains { s with flt := { s.flt with snuffOut := true }, time := { s.time with beaconActive := 0 } }
  ((s.intPend 2).setF Reg.HIF_STATUS_SNUFFED 1).lifeAdd 12 1

theorem snuffEnter_of_unsnuffed {s : State} (h : s.snuffed = false) : snuffEnter s =
    let p := pairSnuff (snuffMarked s)
    if p.1.f Reg.FLT_CFG_AUTO = 0 then (p.1.setF Reg.FLT_STATUS_LATCHED 1, p.2 ++ [fev FK.FLT_SNUFF_LATCHED 0x03 0 0]) else p := by
  rw [snuffEnter, if_neg (by simp [h])]
  rfl

theorem snuffMarked_once {s : State} (h : s.snuffed = false) : SnuffedOnce s (snuffMarked s) := by
  generalize hx : (s.setF Reg.FLT_STATUS_SNUFFED 1).incF Reg.FLT_CNT_SNUFF 1 = x
  have hsn : x.snuffed = true := hx ▸ (flag_congr (f_setF_apart _ _ (.inl (by decide)))).trans (snuffed_setF_one s)
  have hcount : x.f Reg.FLT_CNT_SNUFF = (s.f Reg.FLT_CNT_SNUFF + 1) % 2 ^ 32 := by
    rw [← hx, State.incF, f_setF_same _ _ (by decide), f_setF_apart _ _ (.inl (by decide))]
    rfl
  have hlife : x.mgmt = s.mgmt := by rw [← hx]; rfl
  generalize hy : snuffDrains { x with flt := { x.flt with snuffOut := true }, time := { x.time with beaconActive := 0 } } = y
  have hreg : y.regs = x.regs := by rw [← hy]; rfl
  have hmarked : snuffMarked s = ((y.intPend 2).setF Reg.HIF_STATUS_SNUFFED 1).lifeAdd 12 1 := by rw [← hy, ← hx]; rfl
  have hwords : SnuffLeft y ((y.intPend 2).setF Reg.HIF_STATUS_SNUFFED 1) :=
    (SnuffLeft.intPend y 2).trans (.setF _ (F := Reg.HIF_STATUS_SNUFFED) 1 (by decide))
  have hpend : (((y.intPend 2).setF Reg.HIF_STATUS_SNUFFED 1).reg Reg.HIF_INT_PEND.key).getLsbD 2 = true := by
    rw [reg_setF_ne _ _ (by decide)]
    exact getLsbD_intPend_same y (by decide)
  rw [hmarked]
  refine ⟨?_, fun _ => ⟨?_, ?_, hpend, ?_, ?_⟩, fun hs => absurd hs (by simp [h])⟩
  · exact hwords.snuffed.trans ((flag_congr (f_congr hreg _)).trans hsn)
  · exact hwords.f_count.trans ((f_congr hreg _).trans hcount)
  · have hy : y.mgmt = s.mgmt := by rw [← hy]; exact hlife
    rw [← hy]
    exact mapGet_mapSet_same _ _ _ _
  · rw [← hy]; rfl
  · rw [← hy]; rfl

theorem snuffEnter_once (s : State) : SnuffedOnce s (snuffEnter s).1 := by
  cases h : s.snuffed with
  | true =>
    rw [snuffEnter_of_snuffed h]
    exact ⟨h, fun hs => absurd (h.symm.trans hs) (by decide), fun _ => ⟨rfl, rfl⟩⟩
  | false =>
    have hpair : SnuffedOnce s (pairSnuff (snuffMarked s)).1 := (snuffMarked_once h).left (pairSnuff_snuffLeft _)
    rw [snuffEnter_of_unsnuffed h]
    dsimp only
    split
    · exact hpair.setF 1 (by decide) (by decide) (by decide)
    · exact hpair

theorem snuffEnter_resets (s : State) : (snuffEnter s).1.flt.blockResets = s.flt.blockResets :=
  (snuffEnter_countKept (j := FK.FLT_SNUFF_IN) (by decide) s).resets

/-- An event of class C2, of C3 acting as C2 or of C4 is raised: it snuffs the device, and nothing that follows from it does. -/
theorem raise_once {e : FaultEv} {s : State} (hk : e.kind < 4096)
    (hact : actingClass (classOf s e.kind) e.src = 2 ∨ actingClass (classOf s e.kind) e.src = 4) :
    SnuffedOnce s (raise e s) ∧ (raise e s).flt.blockResets = s.flt.blockResets := by
  have hnoted := collectNoted_snuffLeft e s hk
  have hreset : SnuffLeft (snuffEnter (collectNoted e s)).1 (collectOne e s).1 := by
    rw [collectOne_state, if_pos hact]
    exact collectReset_snuffLeft e _ _ _ (by omega)
  have hone : SnuffedOnce s (collectOne e s).1 := ((snuffEnter_once _).left hreset).of_left hnoted
  have hafter := raise_after hone.1
  exact ⟨hone.left hafter, hafter.resets.trans (hreset.resets.trans ((snuffEnter_resets _).trans hnoted.resets))⟩

/-! ## The end of a command on a snuffed device (R151) -/

theorem putMjob_snuffLeft (i : Nat) (m : MntJob) (s : State) : SnuffLeft s (putMjob i m s) := .of_reg (fun _ _ => rfl) rfl rfl rfl rfl

theorem dumpLost_snuffLeft (i slot : Nat) {s : State} (hs : s.snuffed = true) : SnuffLeft s (dumpLost i slot s) := by
  have hcount : SnuffLeft s (s.incF (Reg.DUMP_LOST i) 1) := .incF s 1 (not_snuffWord (by simp only [Reg.DUMP_LOST]; omega))
  exact hcount.trans (raise_snuffLeft (hcount.snuffed.trans hs) (by decide : FK.MNT_DUMP_LOST < 4096) (actingClass_ne_three _ rfl))

theorem countAbandonTx_snuffLeft (l : Nat) (p : TxPacket) (snuff : Bool) {s : State} (hs : s.snuffed = true) :
    SnuffLeft s (countAbandonTx l p snuff s) := by
  have hlane : ¬ snuffWord (lf Reg.CNT_PKT_ABANDON_TX l).key := not_snuffWord (by simp only [lf, Reg.CNT_PKT_ABANDON_TX]; omega)
  unfold countAbandonTx
  dsimp only
  generalize ha : (if snuff = true ∧ p.source = 2 then _ else _) = a
  have hcounted : SnuffLeft s a := by
    subst ha
    split
    · exact (SnuffLeft.incF s 1 hlane).trans (.incF _ 1 (by decide))
    · exact .incF s 1 hlane
  split
  · split
    · exact hcounted
    · exact hcounted.trans ((putMjob_snuffLeft _ _ a).trans (dumpLost_snuffLeft _ _
        ((putMjob_snuffLeft _ _ a).snuffed.trans (hcounted.snuffed.trans hs))))
  · exact hcounted

theorem foldl_snuffLeft {α : Type} {g : State → α → State} (hg : ∀ t x, t.snuffed = true → SnuffLeft t (g t x)) :
    ∀ (l : List α) (s : State), s.snuffed = true → SnuffLeft s (l.foldl g s) := by
  intro l
  induction l with
  | nil => exact fun s _ => .refl s
  | cons x r ih => exact fun s hs => (hg s x hs).trans (ih _ ((hg s x hs).snuffed.trans hs))

theorem snuffLanes_snuffLeft {s : State} (hs : s.snuffed = true) : SnuffLeft s (snuffLanes s) := by
  unfold snuffLanes
  split
  · exact .refl s
  · refine (foldl_snuffLeft (fun t x ht => ?_) s.links.tx s hs).trans (.of_reg (fun _ _ => rfl) rfl rfl rfl rfl)
    split
    · split
      · exact .refl t
      · exact countAbandonTx_snuffLeft _ _ _ ht
    · exact .refl t

theorem stageSettle_snuffLeft (s : State) : SnuffLeft s (stageSettle s) := by
  rcases stageSettle_eq_regs s with h | ⟨v, h⟩
  · rw [h]; exact .refl s
  · rw [h]; exact .setF s v (by decide)

theorem setBlockResets_snuffLeft {s : State} (h : s.flt.blockResets = []) : SnuffLeft s (setBlockResets [] s) := .setFlt s rfl h.symm

theorem psetSettle_snuffLeft (s : State) : SnuffLeft s (psetSettle s) :=
  .of_reg (fun k _ => reg_congr (psetSettle_regs s) k) (psetSettle_mgmt s) (psetSettle_time s) (by rw [psetSettle_flt])
    (by rw [psetSettle_flt])

theorem clearLost_clearCuts_snuffLeft (s : State) : SnuffLeft s (clearLost (clearCuts s)) := .of_reg (fun _ _ => rfl) rfl rfl rfl rfl

theorem finish_snuffLeft {s v : State} (hs : Settled s) (hv : EndsLike s v) (hsn : v.snuffed = true) : SnuffLeft v (finish s v) := by
  have hlanes := snuffLanes_snuffLeft hsn
  have hr : (snuffLanes v).flt.blockResets = [] := hlanes.resets.trans (hv.resets.trans hs.resets)
  have hset : SnuffLeft v (settle v) := by
    rw [settle_eq_of_nil (by rw [hv.links, hs.lost]) (by rw [hv.lmp, hs.cuts]) hr]
    exact (((hlanes.trans (setBlockResets_snuffLeft hr)).trans (psetSettle_snuffLeft _)).trans
      (clearLost_clearCuts_snuffLeft _)).trans (stageSettle_snuffLeft _)
  exact hset.trans (.of_reg (fun _ _ => rfl) rfl rfl rfl rfl)

/-! ## What a raised fault leaves for the end of its command -/

theorem EndsLike.refl (s : State) : EndsLike s s := ⟨rfl, rfl, rfl, rfl, fun _ _ => rfl⟩

theorem EndsLike.trans {s t u : State} (h : EndsLike s t) (g : EndsLike t u) : EndsLike s u where
  links := g.links.trans h.links
  lmp := g.lmp.trans h.lmp
  resets := g.resets.trans h.resets
  bootSteps := g.bootSteps.trans h.bootSteps
  stageRegs k hk := (g.stageRegs k hk).trans (h.stageRegs k hk)

theorem EndsLike.of_faults {s t : State} (h : SameButFaults s t) (hr : t.flt.blockResets = s.flt.blockResets) : EndsLike s t := by
  obtain ⟨-, -, -, -, -, -, -, -, -, hlinks, -, hlmp, -⟩ := h.rest
  refine ⟨hlinks, hlmp, hr, h.bootSteps, fun k hk => h.2 k ?_⟩
  simp only [List.mem_cons, List.not_mem_nil, or_false] at hk
  simp only [faultPage]
  omega

theorem EndsLike.of_written {s t : State} (h : Written s t) : EndsLike s t := by
  obtain ⟨hlinks, hlmp, hflt, hmgmt⟩ := h.rest
  exact .of_regs hlinks hlmp (congrArg FaultState.blockResets hflt) (congrArg Mgmt.bootSteps hmgmt)
    fun k hk hc => h.2 k (fun e => hk (by rw [e]; decide)) hc

theorem EndsLike.respond (s : State) (ok : Bool) (d : List Byte) : EndsLike s (s.respond ok d) := ⟨rfl, rfl, rfl, rfl, fun _ _ => rfl⟩

theorem SnuffLeft.respond (s : State) (ok : Bool) (d : List Byte) : SnuffLeft s (s.respond ok d) := of_reg (fun _ _ => rfl) rfl rfl rfl rfl

/-- A command that snuffs the device ends. -/
theorem finish_raise_once {s x v : State} {e : FaultEv} (hs : Settled s) (hx : EndsLike s x) (hk : e.kind < 4096)
    (hact : actingClass (classOf x e.kind) e.src = 2 ∨ actingClass (classOf x e.kind) e.src = 4) (hv : EndsLike (raise e x) v)
    (hleft : SnuffLeft (raise e x) v) : SnuffedOnce x (finish s v) := by
  obtain ⟨honce, hresets⟩ := raise_once hk hact
  have hends : EndsLike s v := (hx.trans (.of_faults (raise_faults e x hk) hresets)).trans hv
  have hlater := honce.left hleft
  exact hlater.left (finish_snuffLeft hs hends hlater.1)

/-- FK_FLT_SNUFF_IN, whose class C2 is fixed (R609). -/
theorem finish_snuffIn {s x v : State} {sub : Nat} (hs : Settled s) (hx : EndsLike s x) (hclass : classOf x FK.FLT_SNUFF_IN = 2)
    (hv : EndsLike (raise (fev FK.FLT_SNUFF_IN 0x03 sub 0) x) v) (hleft : SnuffLeft (raise (fev FK.FLT_SNUFF_IN 0x03 sub 0) x) v) :
    SnuffedOnce x (finish s v) := by
  have hact : actingClass (classOf x FK.FLT_SNUFF_IN) 0x03 = 2 := by rw [hclass]; rfl
  exact finish_raise_once (e := fev FK.FLT_SNUFF_IN 0x03 sub 0) hs hx (by decide : FK.FLT_SNUFF_IN < 4096) (.inl hact) hv hleft

/-! ## The commands (R612, R615) -/

theorem lt_of_isFaultKind {kind : Nat} (h : isFaultKind kind = true) : kind < 4096 := by
  obtain ⟨p, hp, hkind⟩ := List.any_eq_true.1 h
  rw [← of_decide_eq_true hkind]
  exact (by decide : ∀ p ∈ faultKinds, p.1 < 4096) p hp

theorem classOf_congr {s t : State} {kind : Nat} (h : t.reg (0x32000 + 4 * (kind / 8)) = s.reg (0x32000 + 4 * (kind / 8))) :
    classOf t kind = classOf s kind := by rw [classOf, classOf, h]

section Commands
variable {s : State} (hheld : held s = false)
include hheld

theorem exec_faultEvent_next {kind src sub addr access master : Nat} (hkind : isFaultKind kind = true) (hsrc : src < 256) (hsub : sub < 256)
    (haddr : addr < 2 ^ 48) (haccess : access ≤ 8) (hmaster : master < 256) :
    exec (.faultEvent kind src sub addr access master) s = .next (finish s (raise
      { kind := kind, src := src, sub := sub, addr := addr, access := access, master := master, injected := false } s)) := by
  change execFaultEvent kind src sub addr access master s = _
  simp only [execFaultEvent, hkind, hsrc, hsub, haddr, haccess, hmaster, decide_true, Bool.and_self, dev_next hheld]

theorem exec_snuffInAssert_next :
    exec .snuffInAssert s = .next (finish s (raise (fev FK.FLT_SNUFF_IN 0x03 0 0) (s.setF Reg.FLT_STATUS_IN_PIN 1))) := by
  change execSnuffInAssert s = _
  have hout : (!s.bring.holding.isEmpty) = false := hheld
  rw [execSnuffInAssert, pin_next, snuffInAssert, hout, if_neg Bool.false_ne_true]

theorem exec_snuffNow_next {m : Nat} (hm : regMaster m = true) :
    exec (.snuffNow m) s = .next (finish s (taken m 0x30000 1 (raise (fev FK.FLT_SNUFF_IN 0x03 1 0)) (requested s))) := by
  change execSnuffNow m s = _
  rw [execSnuffNow, anyMaster_of_regMaster hm, dev_next hheld, regCmd_plain hm (by decide) (by decide)]
  rfl

theorem exec_quietPeriodEnd_next : exec .quietPeriodEnd s = .next (finish s (quietEnd s)) := by
  change execQuietPeriodEnd s = _
  rw [execQuietPeriodEnd, dev_next hheld]

theorem exec_recoveryWindowEnd_next : exec .recoveryWindowEnd s = .next (finish s (s.setF Reg.FLT_STATUS_RECOVERIES 0)) := by
  change execRecoveryWindowEnd s = _
  rw [execRecoveryWindowEnd, dev_next hheld]

end Commands

end Sys2Proof.Machine

namespace Sys2Proof.Proofs
open Sys2Proof.Machine

/-- Settles O50: the first event of the chain enters the snuff, before what follows from it is collected; a snuffed device enters none
again, and the end of the command leaves the entry's counts, its interrupt and its pin. -/
theorem snuffEntered : Obligations.SnuffEntered := by
  unfold Obligations.SnuffEntered
  intro s m kind src sub addr access master hs hheld hm hkind hsrc hsub haddr haccess hmaster once
  refine ⟨fun hact => ⟨_, exec_faultEvent_next hheld hkind hsrc hsub haddr haccess hmaster, ?_⟩, fun hclass =>
    ⟨⟨_, exec_snuffInAssert_next hheld, rfl, ?_⟩, ⟨_, exec_snuffNow_next hheld hm, rfl, ?_⟩⟩⟩
  · exact finish_raise_once (e := ⟨kind, src, sub, addr, access, master, false⟩) hs (.refl s) (lt_of_isFaultKind hkind) hact
      (.refl _) (.refl _)
  · have hpin : EndsLike s (s.setF Reg.FLT_STATUS_IN_PIN 1) := .of_faults (.setF s 1 (.inl (by decide))) rfl
    have hsn : (s.setF Reg.FLT_STATUS_IN_PIN 1).snuffed = s.snuffed := flag_congr (f_setF_apart s 1 (by decide))
    have hc := (classOf_congr (kind := FK.FLT_SNUFF_IN) (reg_setF_ne s (F := Reg.FLT_STATUS_IN_PIN) 1 (by decide))).trans hclass
    exact (finish_snuffIn hs hpin hc (.refl _) (.refl _)).of_eq hsn (f_setF_apart s 1 (.inl (by decide))) rfl
  · have hreq := requested_written s
    have hc := (classOf_congr (kind := FK.FLT_SNUFF_IN) (requested_reg s (by decide))).trans hclass
    have hlog := (logAfter_logged m 0x30000 (shownWord (requested s) 0x30000) 1 (raise (fev FK.FLT_SNUFF_IN 0x03 1 0) (requested s))).written
    exact (finish_snuffIn hs (.of_written hreq) hc ((EndsLike.of_written hlog).trans (.respond _ true []))
      ((SnuffLeft.of_written hlog).trans (.respond _ true []))).of_left (.of_written hreq)

end Sys2Proof.Proofs

/-! Proofs about quiet periods (17_faults.md): leaving the snuff, and the event that latches it. -/

namespace Sys2Proof.Machine

/-! ## Leaving the snuff (R615, R617) -/

/-- R617 of a state t in which a device that was snuffed in s has left the snuff; no other bit of FLT_STATUS has changed. -/
structure SnuffEnded (s t : State) : Prop where
  snuffed : t.snuffed = false
  out : t.flt.snuffOut = false
  pend : (t.reg Reg.HIF_INT_PEND.key).getLsbD 2 = true
  status : ∀ F : Field, F.key = Reg.FLT_STATUS_SNUFFED.key → Reg.FLT_STATUS_SNUFFED.apart F → t.f F = s.f F
  reg : ∀ k, k ≠ Reg.FLT_STATUS_SNUFFED.key → k ≠ Reg.HIF_STATUS_SNUFFED.key → k ≠ Reg.HIF_INT_PEND.key → t.reg k = s.reg k
  resets : t.flt.blockResets = s.flt.blockResets
  faults : SameButFaults s t

theorem snuffLeave_ended {s : State} (h : s.snuffed = true) : SnuffEnded s (snuffLeave s) := by
  generalize hx : ((s.setF Reg.FLT_STATUS_SNUFFED 0).setF Reg.HIF_STATUS_SNUFFED 0).intPend 2 = x
  have hleave : snuffLeave s = { x with flt := { x.flt with snuffOut := false } } := by rw [snuffLeave, if_pos h, ← hx]
  have hstatus : ∀ F : Field, F.key = Reg.FLT_STATUS_SNUFFED.key → x.f F = (s.setF Reg.FLT_STATUS_SNUFFED 0).f F := fun F hF => by
    rw [State.f, State.f, ← hx, State.intPend, hF, reg_setReg_ne _ _ (by decide), reg_setF_ne _ _ (by decide)]
  have hpend : (x.reg Reg.HIF_INT_PEND.key).getLsbD 2 = true := hx ▸ getLsbD_intPend_same _ (by decide)
  have hfaults : SameButFaults s x := hx ▸ ((SameButFaults.setF s 0 (faultPage_flt (by decide))).trans
    (.setF _ 0 (faultPage_hif (by decide)))).trans (.intPend _ 2)
  rw [hleave]
  refine ⟨?_, rfl, hpend, fun F hF hapart => (hstatus F hF).trans (f_setF_apart s 0 hapart), fun k h1 h2 h3 => ?_, ?_,
    hfaults.trans (.setFlt x _)⟩
  · exact (flag_congr (hstatus _ rfl)).trans (flag_setF_zero s (by decide))
  · change x.reg k = s.reg k
    rw [← hx, State.intPend, reg_setReg_ne _ _ h3, reg_setF_ne _ _ h2, reg_setF_ne _ _ h1]
  · rw [← hx]; rfl

/-! ## What follows from an event on a snuffed device (R614) -/

theorem collectKeep_kind {e x : FaultEv} {sev : Nat} {s : State} (hx : x ∈ (collectKeep e sev s).2) : x.kind = FK.FLT_RING_FULL := by
  unfold collectKeep at hx
  dsimp only at hx
  split at hx
  · dsimp only at hx
    split at hx
    · simp at hx
    · rw [List.mem_singleton.1 hx]; rfl
  · simp at hx

theorem collectSnap_kind {e x : FaultEv} {sev : Nat} {s : State} (hx : x ∈ (collectSnap e sev s).2) : x.kind = FK.PMR_SNAP_OVERRUN := by
  unfold collectSnap at hx
  split at hx
  · dsimp only at hx
    split at hx
    · rw [List.mem_singleton.1 hx]; rfl
    · simp at hx
  · simp at hx

/-- Only an entry latches. -/
theorem collectOne_kind_ne_latched {e x : FaultEv} {s : State} (hs : s.snuffed = true) (hk : e.kind < 4096) (hx : x ∈ (collectOne e s).2) :
    x.kind ≠ FK.FLT_SNUFF_LATCHED := by
  have hnoted : (collectNoted e s).snuffed = true := (collectNoted_snuffLeft e s hk).snuffed.trans hs
  unfold collectNoted at hnoted
  unfold collectOne at hx
  dsimp only at hnoted hx
  rw [snuffEnter_of_snuffed hnoted, ite_self, List.append_nil] at hx
  rcases List.mem_append.1 hx with hx | hx
  · rw [collectKeep_kind hx]; decide
  · rw [collectSnap_kind hx]; decide

theorem collect_countKept_of_snuffed (n : Nat) : ∀ (l : List FaultEv) (s : State), s.snuffed = true →
    (∀ x ∈ l, FollowUp x ∧ x.kind < 4096 ∧ x.kind ≠ FK.FLT_SNUFF_LATCHED) → CountKept FK.FLT_SNUFF_LATCHED s (collect n l s) := by
  induction n with
  | zero => intro l s _ _; exact .refl s
  | succ n ih =>
    intro l s hs h
    cases l with
    | nil => exact .refl s
    | cons e r =>
      obtain ⟨⟨-, hsrc⟩, hk, hne⟩ := h e (by simp)
      have hone : CountKept FK.FLT_SNUFF_LATCHED s (collectOne e s).1 :=
        (CountKept.incCount s hne).trans (collectOne_countKept (by decide) e s hsrc)
      refine hone.trans (ih (r ++ (collectOne e s).2) _ (hone.snuff hs) fun x hx => ?_)
      rcases List.mem_append.1 hx with hx | hx
      · exact h x (List.mem_cons_of_mem e hx)
      · exact ⟨collectOne_raises e s x hx, collectOne_kinds e s x hx, collectOne_kind_ne_latched hs hk hx⟩

/-- On a snuffed device an event that snuffs nothing is counted once, FK_FLT_SNUFF_LATCHED too. -/
theorem raise_countKept_of_snuffed {e : FaultEv} {s : State} (hs : s.snuffed = true) (hk : e.kind < 4096) (hsrc : hasBlockReset e.src = false) :
    CountKept FK.FLT_SNUFF_LATCHED (s.incF (Reg.FLT_KIND_CNT e.kind) 1) (raise e s) := by
  have hone : (collectOne e s).1.snuffed = true := (collectOne_snuffLeft hs hk (actingClass_ne_three _ hsrc)).snuffed.trans hs
  exact (collectOne_countKept (by decide) e s hsrc).trans (collect_countKept_of_snuffed 7 _ _ hone fun x hx =>
    ⟨collectOne_raises e s x hx, collectOne_kinds e s x hx, collectOne_kind_ne_latched hs hk hx⟩)

/-! ## The end of a quiet period (R615) -/

theorem quietRuns_iff {s : State} : quietRuns s = true ↔ s.snuffed = true ∧ s.flag Reg.FLT_CFG_AUTO = true ∧
    s.flag Reg.FLT_STATUS_LATCHED = false ∧ s.flag Reg.FLT_STATUS_IN_PIN = false := by
  simp [quietRuns, and_assoc]

theorem quietEnd_of_lt {s : State} (h : quietRuns s = true) (hlt : s.f Reg.FLT_STATUS_RECOVERIES < s.f Reg.FLT_CFG_RECOV_LIMIT) :
    quietEnd s = (snuffLeave s).incF Reg.FLT_STATUS_RECOVERIES 1 := by
  rw [quietEnd, if_pos h, if_pos hlt]

theorem quietEnd_of_eq {s : State} (h : quietRuns s = true) (heq : s.f Reg.FLT_STATUS_RECOVERIES = s.f Reg.FLT_CFG_RECOV_LIMIT) :
    quietEnd s = raise (fev FK.FLT_SNUFF_LATCHED 0x03 0 0) (s.setF Reg.FLT_STATUS_LATCHED 1) := by
  rw [quietEnd, if_pos h, if_neg (by omega)]

/-- The end of a command that snuffs nothing. -/
theorem finish_unsnuffed {s v : State} (hs : Settled s) (hv : EndsLike s v) (hsn : v.snuffed = true → s.snuffed = true) :
    (finish s v).regs = v.regs ∧ (finish s v).flt = v.flt ∧ (finish s v).staged = v.staged ∧ Memory.same v (finish s v) := by
  rw [finish_eq_psetSettle hs hv hsn]
  simp [Memory.same]

/-- A snuff is left, and the recovery counted. -/
theorem finish_recovery {s : State} (hs : Settled s) (h : quietRuns s = true)
    (hlt : s.f Reg.FLT_STATUS_RECOVERIES < s.f Reg.FLT_CFG_RECOV_LIMIT) :
    let t := finish s (quietEnd s)
    t.snuffed = false ∧ t.flt.snuffOut = false ∧ t.f Reg.FLT_STATUS_RECOVERIES = s.f Reg.FLT_STATUS_RECOVERIES + 1 ∧
      t.flag Reg.FLT_STATUS_LATCHED = false ∧ (t.reg Reg.HIF_INT_PEND.key).getLsbD 2 = true ∧ t.staged = s.staged ∧ Memory.same s t ∧
      ∀ k, k ≠ Reg.FLT_STATUS_SNUFFED.key → k ≠ Reg.HIF_STATUS_SNUFFED.key → k ≠ Reg.HIF_INT_PEND.key → t.reg k = s.reg k := by
  obtain ⟨hsn, -, hlatched, -⟩ := quietRuns_iff.1 h
  have hended := snuffLeave_ended hsn
  rw [quietEnd_of_lt h hlt]
  generalize snuffLeave s = x at hended ⊢
  have hfaults : SameButFaults s (x.incF Reg.FLT_STATUS_RECOVERIES 1) := hended.faults.trans (.setF x _ (faultPage_flt (by decide)))
  have hout : (x.incF Reg.FLT_STATUS_RECOVERIES 1).snuffed = false := (flag_congr (f_setF_apart x _ (by decide))).trans hended.snuffed
  have hcount : (x.incF Reg.FLT_STATUS_RECOVERIES 1).f Reg.FLT_STATUS_RECOVERIES = s.f Reg.FLT_STATUS_RECOVERIES + 1 := by
    have hlimit : s.f Reg.FLT_CFG_RECOV_LIMIT < 2 ^ 8 := f_lt s _
    rw [State.incF, f_setF_same _ _ (by decide), hended.status Reg.FLT_STATUS_RECOVERIES rfl (by decide)]
    exact Nat.mod_eq_of_lt (lt_of_le_of_lt hlt hlimit)
  have hlatch : (x.incF Reg.FLT_STATUS_RECOVERIES 1).flag Reg.FLT_STATUS_LATCHED = false :=
    (flag_congr ((f_setF_apart x _ (by decide)).trans (hended.status Reg.FLT_STATUS_LATCHED rfl (by decide)))).trans hlatched
  obtain ⟨hregs, hflt, hstaged, hsame⟩ := finish_unsnuffed hs (.of_faults hfaults hended.resets) fun hv => absurd hv (by simp [hout])
  obtain ⟨-, hkept, -⟩ := hfaults.rest
  refine ⟨(flag_congr (f_congr hregs _)).trans hout, by rw [hflt]; exact hended.out, (f_congr hregs _).trans hcount,
    (flag_congr (f_congr hregs _)).trans hlatch, ?_, hstaged.trans hkept, hfaults.same.trans hsame, fun k h1 h2 h3 => ?_⟩
  · rw [reg_congr hregs, State.incF, reg_setF_ne _ _ (by decide)]; exact hended.pend
  · rw [reg_congr hregs, State.incF, reg_setF_ne (F := Reg.FLT_STATUS_RECOVERIES) _ _ h1]; exact hended.reg k h1 h2 h3

/-- The snuff is latched, and the latching raised as an event. -/
theorem finish_latch {s : State} (hs : Settled s) (h : quietRuns s = true)
    (heq : s.f Reg.FLT_STATUS_RECOVERIES = s.f Reg.FLT_CFG_RECOV_LIMIT) :
    let t := finish s (quietEnd s)
    t.snuffed = true ∧ t.flag Reg.FLT_STATUS_LATCHED = true ∧ t.f Reg.FLT_STATUS_RECOVERIES = s.f Reg.FLT_STATUS_RECOVERIES ∧
      t.f (Reg.FLT_KIND_CNT FK.FLT_SNUFF_LATCHED) = (s.f (Reg.FLT_KIND_CNT FK.FLT_SNUFF_LATCHED) + 1) % 2 ^ 32 := by
  obtain ⟨hsn, -⟩ := quietRuns_iff.1 h
  have hlatched : (s.setF Reg.FLT_STATUS_LATCHED 1).snuffed = true := (flag_congr (f_setF_apart s 1 (by decide))).trans hsn
  have hleft : SnuffLeft (s.setF Reg.FLT_STATUS_LATCHED 1) (quietEnd s) := by
    rw [quietEnd_of_eq h heq]
    exact raise_snuffLeft hlatched (by decide : FK.FLT_SNUFF_LATCHED < 4096) (actingClass_ne_three _ rfl)
  have hcount : (quietEnd s).f (Reg.FLT_KIND_CNT FK.FLT_SNUFF_LATCHED) = (s.f (Reg.FLT_KIND_CNT FK.FLT_SNUFF_LATCHED) + 1) % 2 ^ 32 := by
    have hkept := raise_countKept_of_snuffed (e := fev FK.FLT_SNUFF_LATCHED 0x03 0 0) hlatched (by decide : FK.FLT_SNUFF_LATCHED < 4096) rfl
    rw [quietEnd_of_eq h heq, hkept.f, ← f_setF_apart s (F := Reg.FLT_STATUS_LATCHED) 1 (.inl (by decide))]
    exact f_setF_same _ _ (by decide : (Reg.FLT_KIND_CNT FK.FLT_SNUFF_LATCHED).fits)
  have hfaults : SameButFaults s (quietEnd s) := by
    rw [quietEnd_of_eq h heq]
    exact (SameButFaults.setF s 1 (faultPage_flt (by decide))).trans (raise_faults _ _ (by decide : FK.FLT_SNUFF_LATCHED < 4096))
  obtain ⟨hregs, -⟩ := finish_unsnuffed hs (.of_faults hfaults hleft.resets) fun _ => hsn
  refine ⟨(flag_congr (f_congr hregs _)).trans (hleft.snuffed.trans hlatched),
    (flag_congr (f_congr hregs _)).trans ((hleft.flag (F := Reg.FLT_STATUS_LATCHED) rfl).trans (flag_setF_one s (by decide))),
    (f_congr hregs _).trans ((hleft.f (F := Reg.FLT_STATUS_RECOVERIES) rfl).trans (f_setF_apart s 1 (by decide))),
    (f_congr hregs _).trans hcount⟩

/-- No recovery is counted any longer. -/
theorem finish_windowEnd {s : State} (hs : Settled s) :
    let t := finish s (s.setF Reg.FLT_STATUS_RECOVERIES 0)
    t.f Reg.FLT_STATUS_RECOVERIES = 0 ∧ t.snuffed = s.snuffed ∧ t.staged = s.staged ∧ Memory.same s t ∧
      ∀ k, k ≠ Reg.FLT_STATUS_RECOVERIES.key → t.reg k = s.reg k := by
  have hfaults : SameButFaults s (s.setF Reg.FLT_STATUS_RECOVERIES 0) := .setF s 0 (faultPage_flt (by decide))
  have hsn : (s.setF Reg.FLT_STATUS_RECOVERIES 0).snuffed = s.snuffed := flag_congr (f_setF_apart s 0 (by decide))
  obtain ⟨hregs, -, hstaged, hsame⟩ := finish_unsnuffed hs (.of_faults hfaults rfl) fun h => hsn ▸ h
  exact ⟨(f_congr hregs _).trans (f_setF_same s 0 (by decide)), (flag_congr (f_congr hregs _)).trans hsn, hstaged,
    hfaults.same.trans hsame, fun k hk => (reg_congr hregs k).trans (reg_setF_ne s 0 hk)⟩

end Sys2Proof.Machine

namespace Sys2Proof.Proofs
open Sys2Proof.Machine

/-- Settles O51: leaving the snuff changes its bits alone; the event that latches a snuffed device enters no second snuff, so that it is
raised once and leaves FLT_STATUS. -/
theorem quietPeriodEnds : Obligations.QuietPeriodEnds := by
  unfold Obligations.QuietPeriodEnds
  intro s hs hheld
  exact ⟨fun hruns hlt => ⟨_, exec_quietPeriodEnd_next hheld, finish_recovery hs hruns hlt⟩,
    fun hruns heq => ⟨_, exec_quietPeriodEnd_next hheld, finish_latch hs hruns heq⟩,
    ⟨_, exec_recoveryWindowEnd_next hheld, finish_windowEnd hs⟩⟩

end Sys2Proof.Proofs

/-! Proofs about two active units (18_pairs.md): which words of the pair unit a fault and the end of its command leave, and the claim that a
snuff releases. -/

namespace Sys2Proof.Machine

/-! ## Words of the pair unit beside a collection (R602 to R607) -/

theorem reg_putWords_ne (n : Nat) : ∀ (s : State) {j k : Nat} (l : List Byte), k < j ∨ j + 4 * n ≤ k → (putWords s j n l).reg k = s.reg k := by
  induction n with
  | zero => intro s j k l _; rfl
  | succ n ih =>
    intro s j k l h
    exact (ih _ _ (by omega)).trans (reg_setReg_ne s _ (by omega))

theorem f_of_reg {s t : State} {F : Field} (h : t.reg F.key = s.reg F.key) : t.f F = s.f F := by rw [State.f, State.f, h]

/-- The collector's own state is beside the registers. -/
theorem reg_withFlt (s : State) (f : FaultState) (k : Nat) : ({ s with flt := f } : State).reg k = s.reg k := rfl

section PairWords
variable {k : Nat} (hk : k / 0x10000 = 5)
include hk

theorem pairReg_setReg (s : State) {j : Nat} (w : Word) (hj : j / 0x10000 ≠ 5) : (s.setReg j w).reg k = s.reg k :=
  reg_setReg_ne s w fun e => hj (e ▸ hk)

theorem pairReg_setF (s : State) {F : Field} (v : Nat) (hF : F.key / 0x10000 ≠ 5) : (s.setF F v).reg k = s.reg k := pairReg_setReg hk s _ hF

theorem pairReg_intPend (s : State) (v : Nat) : (s.intPend v).reg k = s.reg k := pairReg_setReg hk s _ (by decide)

/-- Fault messages lie on page FLT. -/
theorem pairReg_putMsg (s : State) {j : Nat} (msg : Nat) (hj : j + 16 ≤ 0x50000) : (putMsg s j msg).reg k = s.reg k :=
  reg_putWords_ne 4 s _ (by omega)

theorem pairReg_keepMsg (e : FaultEv) (sev : Nat) (s : State) : (keepMsg e sev s).reg k = s.reg k := by
  have hring : ((putMsg s (Reg.FLT_RING0 (s.f Reg.FLT_RING_WR % 1024)).key (faultMsg s e sev s.flt.lost)).incF Reg.FLT_RING_WR 1).reg k = s.reg k :=
    (pairReg_setF hk _ _ (by decide)).trans (pairReg_putMsg hk s _ (by simp only [Reg.FLT_RING0]; omega))
  unfold keepMsg
  dsimp only
  generalize hb : ({ (putMsg s _ _).incF Reg.FLT_RING_WR 1 with flt := _ } : State) = b
  have hkept : b.reg k = s.reg k := by rw [← hb]; exact (reg_withFlt _ _ k).trans hring
  split
  · have hfirst : (putMsg b (Reg.FLT_FIRST_MSG 0).key (faultMsg s e sev s.flt.lost)).reg k = b.reg k := pairReg_putMsg hk b _ (by decide)
    simp (disch := decide) only [State.setF64, pairReg_setF hk, hfirst, hkept]
  · exact hkept

theorem pairReg_collectKeep {e : FaultEv} (sev : Nat) (s : State) (he : e.kind < 4096) : (collectKeep e sev s).1.reg k = s.reg k := by
  have hkind : (s.incF (Reg.FLT_KIND_CNT e.kind) 1).reg k = s.reg k := pairReg_setF hk s _ (by simp only [Reg.FLT_KIND_CNT]; omega)
  unfold collectKeep
  dsimp only
  split
  · exact (pairReg_setF hk (F := Reg.FLT_CNT_DROP) _ _ (by decide)).trans hkind
  · exact (pairReg_keepMsg hk e sev _).trans hkind

theorem pairReg_snapTrigger (cause domain slot trigger kind : Nat) (freeze : Bool) (s : State) :
    (snapTrigger cause domain slot trigger kind freeze s).1.reg k = s.reg k := by
  unfold snapTrigger
  dsimp only
  generalize ha : (if freeze then s.setF Reg.PMR_STATUS_FROZEN 1 else s) = a
  have hfrozen : a.reg k = s.reg k := by
    subst ha
    split
    · exact pairReg_setF hk s 1 (by decide)
    · rfl
  split
  · exact hfrozen
  split
  · exact (pairReg_setF hk (F := Reg.PMR_CNT_SNAP_LOST) a _ (by decide)).trans hfrozen
  · exact (pairReg_setF hk (F := Reg.PMR_STATUS_COLLECTING) _ 1 (by decide)).trans hfrozen

theorem pairReg_collectSnap (e : FaultEv) (sev : Nat) (s : State) : (collectSnap e sev s).1.reg k = s.reg k := by
  unfold collectSnap
  split
  · exact pairReg_snapTrigger hk _ _ _ _ _ _ s
  · rfl

/-- What a collection does before it comes to its snuff. -/
theorem pairReg_collectNoted {e : FaultEv} (s : State) (he : e.kind < 4096) : (collectNoted e s).reg k = s.reg k := by
  unfold collectNoted
  dsimp only
  refine (pairReg_collectSnap hk e _ _).trans (Eq.trans ?_ (pairReg_collectKeep hk (classOf s e.kind) s he))
  split
  · exact pairReg_intPend hk _ 1
  · rfl

theorem pairReg_collectReset (e : FaultEv) (sev : Nat) (lost : Bool) (s : State) : (collectReset e sev lost s).reg k = s.reg k := by
  unfold collectReset
  dsimp only
  split
  · exact reg_withFlt s _ k
  split
  · exact (reg_withFlt _ _ k).trans (pairReg_putMsg hk s _ (by decide))
  · rfl

theorem pairReg_snuffMarked (s : State) : (snuffMarked s).reg k = s.reg k := by
  have hentered : ((s.setF Reg.FLT_STATUS_SNUFFED 1).incF Reg.FLT_CNT_SNUFF 1).reg k = s.reg k :=
    (pairReg_setF hk _ _ (by decide)).trans (pairReg_setF hk s 1 (by decide))
  unfold snuffMarked
  dsimp only
  exact (pairReg_setF hk (F := Reg.HIF_STATUS_SNUFFED) _ 1 (by decide)).trans ((pairReg_intPend hk _ 2).trans hentered)

end PairWords

/-! ## The claim that a snuff releases (R628, R632) -/

theorem pairState_congr {s t : State} (h : t.reg Reg.PAIR_STATUS_STATE.key = s.reg Reg.PAIR_STATUS_STATE.key) : pairState t = pairState s :=
  f_of_reg h

/-- The unit shows no claim, and is neither CLAIMING nor ACTIVE. -/
structure ClaimReleased (s : State) : Prop where
  out : s.flag Reg.PAIR_STATUS_CLAIM_OUT = false
  active : pairState s ≠ 3
  claiming : pairState s ≠ 2

theorem ClaimReleased.of_status {s t : State} (h : ClaimReleased s) (hr : t.reg Reg.PAIR_STATUS_STATE.key = s.reg Reg.PAIR_STATUS_STATE.key) :
    ClaimReleased t := by
  have hstate := pairState_congr hr
  exact ⟨(flag_congr (f_of_reg (F := Reg.PAIR_STATUS_CLAIM_OUT) hr)).trans h.out, hstate ▸ h.active, hstate ▸ h.claiming⟩

theorem pairIdle_mem (s : State) : pairIdle s ∈ [0, 1, 4] := by
  unfold pairIdle
  split
  · decide
  split <;> decide

/-- A unit leaves ACTIVE or CLAIMING for a state that does not claim. -/
theorem pairEnter_released {st : Nat} {s : State} (hst : st ∈ [0, 1, 4]) (hs : pairState s = 2 ∨ pairState s = 3) :
    ClaimReleased (pairEnter st s).1 := by
  simp only [List.mem_cons, List.not_mem_nil, or_false] at hst
  have hne : ¬ s.f Reg.PAIR_STATUS_STATE = st := fun h => by rw [pairState, h] at hs; omega
  have hclaim : (st == 2 || st == 3) = false := by rcases hst with rfl | rfl | rfl <;> rfl
  rw [pairEnter, if_neg hne]
  dsimp only
  rw [hclaim]
  have hstate : pairState (((s.setF Reg.PAIR_STATUS_STATE st).intPend 26).setFlag Reg.PAIR_STATUS_CLAIM_OUT false) = st := by
    rw [pairState, State.setFlag, f_setF_apart _ _ (by decide), State.f, State.intPend, reg_setReg_ne _ _ (by decide)]
    exact (f_setF_same s (F := Reg.PAIR_STATUS_STATE) st (by decide)).trans (Nat.mod_eq_of_lt (by simp only [Reg.PAIR_STATUS_STATE]; omega))
  exact ⟨flag_setF_zero _ (by decide), by rw [hstate]; omega, by rw [hstate]; omega⟩

theorem pairSnuff_released {s : State} (hs : pairState s = 2 ∨ pairState s = 3) : ClaimReleased (pairSnuff s).1 := by
  unfold pairSnuff
  dsimp only
  rw [if_pos (show s.f Reg.PAIR_STATUS_STATE = 2 ∨ s.f Reg.PAIR_STATUS_STATE = 3 from hs)]
  refine pairEnter_released (pairIdle_mem _) ?_
  rw [pairState, f_setF_apart _ _ (by decide)]
  exact hs

/-- The entry of a snuff releases a claim. -/
theorem snuffEnter_released {s : State} (h : s.snuffed = false) (hs : pairState s = 2 ∨ pairState s = 3) : ClaimReleased (snuffEnter s).1 := by
  have hmarked : pairState (snuffMarked s) = pairState s := pairState_congr (pairReg_snuffMarked (by decide) s)
  have hpair := pairSnuff_released (hmarked.symm ▸ hs)
  rw [snuffEnter_of_unsnuffed h]
  dsimp only
  split
  · exact hpair.of_status (reg_setF_ne _ _ (by decide))
  · exact hpair

/-! ## Words of the pair unit that a raised fault leaves -/

/-- Word k of the pair unit stands through faults: all words of a snuffed device do, and PAIR_STATUS alone follows a snuff. -/
def PairWordStands (k : Nat) (s : State) : Prop := k / 0x10000 = 5 ∧ (s.snuffed = true ∨ k ≠ Reg.PAIR_STATUS_STATE.key)

/-- Entering a pair state writes PAIR_STATUS alone. -/
theorem reg_pairEnter_ne (st : Nat) (s : State) {k : Nat} (hk : k / 0x10000 = 5) (hne : k ≠ Reg.PAIR_STATUS_STATE.key) :
    (pairEnter st s).1.reg k = s.reg k := by
  unfold pairEnter
  split
  · rfl
  · exact (reg_setF_ne (F := Reg.PAIR_STATUS_CLAIM_OUT) _ _ hne).trans
      ((pairReg_intPend hk _ 26).trans (reg_setF_ne (F := Reg.PAIR_STATUS_STATE) s st hne))

theorem reg_pairSnuff_ne (s : State) {k : Nat} (hk : k / 0x10000 = 5) (hne : k ≠ Reg.PAIR_STATUS_STATE.key) :
    (pairSnuff s).1.reg k = s.reg k := by
  unfold pairSnuff
  dsimp only
  split
  · exact (reg_pairEnter_ne _ _ hk hne).trans (reg_setF_ne (F := Reg.PAIR_STATUS_TRIM_PENDING) _ 0 hne)
  · rfl

section Stands
variable {k : Nat} {s : State} (h : PairWordStands k s)

theorem PairWordStands.of_snuffed {t : State} (h : PairWordStands k s) (hsn : s.snuffed = true → t.snuffed = true) : PairWordStands k t :=
  ⟨h.1, h.2.imp_left hsn⟩

include h

theorem snuffEnter_pairWord : (snuffEnter s).1.reg k = s.reg k := by
  obtain ⟨hk, hsn⟩ := h
  cases hs : s.snuffed with
  | true => rw [snuffEnter_of_snuffed hs]
  | false =>
    have hne : k ≠ Reg.PAIR_STATUS_STATE.key := hsn.resolve_left (by simp [hs])
    have hpair := (reg_pairSnuff_ne (snuffMarked s) hk hne).trans (pairReg_snuffMarked hk s)
    rw [snuffEnter_of_unsnuffed hs]
    dsimp only
    split
    · exact (pairReg_setF hk _ 1 (by decide)).trans hpair
    · exact hpair

theorem collectOne_pairWord {e : FaultEv} (he : e.kind < 4096) : (collectOne e s).1.reg k = s.reg k := by
  have hnoted := pairReg_collectNoted h.1 s he
  have hstands : PairWordStands k (collectNoted e s) := h.of_snuffed (collectNoted_snuffLeft e s he).snuffed.trans
  rw [collectOne_state, pairReg_collectReset h.1]
  split
  · exact (snuffEnter_pairWord hstands).trans hnoted
  · exact hnoted

end Stands

theorem collect_pairWord {k : Nat} (n : Nat) : ∀ (l : List FaultEv) (s : State), PairWordStands k s →
    (∀ x ∈ l, hasBlockReset x.src = false ∧ x.kind < 4096) → (collect n l s).reg k = s.reg k := by
  induction n with
  | zero => intro l s _ _; rfl
  | succ n ih =>
    intro l s hs h
    cases l with
    | nil => rfl
    | cons e r =>
      obtain ⟨hsrc, he⟩ := h e (by simp)
      have hsn : s.snuffed = true → (collectOne e s).1.snuffed = true := fun hsn =>
        (collectOne_snuffLeft hsn he (actingClass_ne_three _ hsrc)).snuffed.trans hsn
      refine (ih (r ++ (collectOne e s).2) _ (hs.of_snuffed hsn) fun x hx => ?_).trans (collectOne_pairWord hs he)
      rcases List.mem_append.1 hx with hx | hx
      · exact h x (List.mem_cons_of_mem e hx)
      · exact ⟨(collectOne_raises e s x hx).2, collectOne_kinds e s x hx⟩

theorem raise_pairWord {k : Nat} {e : FaultEv} {s : State} (h : PairWordStands k s) (hsrc : hasBlockReset e.src = false) (he : e.kind < 4096) :
    (raise e s).reg k = s.reg k :=
  collect_pairWord 8 [e] s h (by simpa using ⟨hsrc, he⟩)

/-- An event of class C2 or C4 raised on an ACTIVE or CLAIMING unit releases its claim, and nothing that follows from it claims. -/
theorem raise_released {e : FaultEv} {s : State} (he : e.kind < 4096)
    (hact : actingClass (classOf s e.kind) e.src = 2 ∨ actingClass (classOf s e.kind) e.src = 4) (hsn : s.snuffed = false)
    (hs : pairState s = 2 ∨ pairState s = 3) : ClaimReleased (raise e s) := by
  have hnoted : pairState (collectNoted e s) = pairState s := pairState_congr (pairReg_collectNoted (by decide) s he)
  have hentered := snuffEnter_released ((collectNoted_snuffLeft e s he).snuffed.trans hsn) (hnoted.symm ▸ hs)
  have hone : ClaimReleased (collectOne e s).1 := by
    rw [collectOne_state, if_pos hact]
    exact hentered.of_status (pairReg_collectReset (by decide) e _ _ _)
  have hsnuffed : (collectOne e s).1.snuffed = true := by
    rw [collectOne_state, if_pos hact]
    exact (collectReset_snuffLeft e _ _ _ (by omega)).snuffed.trans (snuffEnter_once _).1
  exact hone.of_status (collect_pairWord 7 _ _ ⟨by decide, .inl hsnuffed⟩ fun x hx =>
    ⟨(collectOne_raises e s x hx).2, collectOne_kinds e s x hx⟩)

/-! ## Words of the pair unit at the end of a command (R151) -/

theorem dumpLost_pairWord {k : Nat} {s : State} (h : PairWordStands k s) (i slot : Nat) : (dumpLost i slot s).reg k = s.reg k := by
  have hcount : (s.incF (Reg.DUMP_LOST i) 1).snuffed = s.snuffed :=
    flag_congr (f_setF_apart s _ (.inl (by simp only [Reg.DUMP_LOST, Reg.FLT_STATUS_SNUFFED]; omega)))
  exact (raise_pairWord (h.of_snuffed hcount.trans) rfl (by decide : FK.MNT_DUMP_LOST < 4096)).trans
    (reg_setF_ne s _ (by have := h.1; simp only [Reg.DUMP_LOST]; omega))

theorem reg_putMjob (i : Nat) (m : MntJob) (s : State) (k : Nat) : (putMjob i m s).reg k = s.reg k := rfl

theorem countAbandonTx_pairWord {k : Nat} {s : State} (h : PairWordStands k s) (l : Nat) (p : TxPacket) (snuff : Bool) :
    (countAbandonTx l p snuff s).reg k = s.reg k := by
  have hlane : k ≠ (lf Reg.CNT_PKT_ABANDON_TX l).key := by have := h.1; simp only [lf, Reg.CNT_PKT_ABANDON_TX]; omega
  have hsn : (s.incF (lf Reg.CNT_PKT_ABANDON_TX l) 1).snuffed = s.snuffed :=
    flag_congr (f_setF_apart s _ (.inl (by simp only [lf, Reg.CNT_PKT_ABANDON_TX, Reg.FLT_STATUS_SNUFFED]; omega)))
  unfold countAbandonTx
  dsimp only
  generalize ha : (if snuff = true ∧ p.source = 2 then _ else _) = a
  have hcounted : a.reg k = s.reg k ∧ a.snuffed = s.snuffed := by
    subst ha
    split
    · exact ⟨(pairReg_setF h.1 (F := Reg.CAN_PKT_SNUFFED) _ _ (by decide)).trans (reg_setF_ne s _ hlane),
        (flag_congr (f_setF_apart _ _ (by decide))).trans hsn⟩
    · exact ⟨reg_setF_ne s _ hlane, hsn⟩
  obtain ⟨hreg, hsnuffed⟩ := hcounted
  split
  · split
    · exact hreg
    · have hjob : ∀ i m, (putMjob i m a).snuffed = a.snuffed := fun i m => (putMjob_snuffLeft i m a).snuffed
      exact (dumpLost_pairWord (h.of_snuffed ((hjob _ _).trans hsnuffed).trans) _ _).trans ((reg_putMjob _ _ a k).trans hreg)
  · exact hreg

theorem foldl_pairWord {α : Type} {g : State → α → State} {k : Nat}
    (hg : ∀ t x, PairWordStands k t → (g t x).reg k = t.reg k ∧ PairWordStands k (g t x)) :
    ∀ (l : List α) (s : State), PairWordStands k s → (l.foldl g s).reg k = s.reg k := by
  intro l
  induction l with
  | nil => exact fun s _ => rfl
  | cons x r ih =>
    intro s h
    obtain ⟨hreg, hstands⟩ := hg s x h
    exact (ih _ hstands).trans hreg

theorem reg_flagLanes (s : State) (k : Nat) : (flagLanes s).reg k = s.reg k := rfl

theorem snuffLanes_pairWord {k : Nat} {s : State} (h : PairWordStands k s) : (snuffLanes s).reg k = s.reg k := by
  unfold snuffLanes
  split
  · rfl
  · refine (reg_flagLanes _ k).trans (foldl_pairWord (fun t x ht => ?_) s.links.tx s h)
    split
    · split
      · exact ⟨rfl, ht⟩
      · exact ⟨countAbandonTx_pairWord ht _ _ _,
          ht.of_snuffed (countAbandonTx_endKept (j := FK.PAIR_DUAL_CLAIM) (by decide) (by decide) _ _ _ t).snuff⟩
    · exact ⟨rfl, ht⟩

theorem stageSettle_pairReg {k : Nat} (hk : k / 0x10000 = 5) (s : State) : (stageSettle s).reg k = s.reg k := by
  rcases stageSettle_eq_regs s with h | ⟨v, h⟩
  · rw [h]
  · rw [h]; exact pairReg_setF hk s v (by decide)

theorem finish_pairWord {k : Nat} {s v : State} (hs : Settled s) (hv : EndsLike s v) (h : PairWordStands k v) :
    (finish s v).reg k = v.reg k := by
  have hr : (snuffLanes v).flt.blockResets = [] :=
    (snuffLanes_endKept (j := FK.PAIR_DUAL_CLAIM) (by decide) (by decide) v).resets.trans (hv.resets.trans hs.resets)
  have hset : (settle v).reg k = v.reg k := by
    rw [settle_eq_of_nil (by rw [hv.links, hs.lost]) (by rw [hv.lmp, hs.cuts]) hr, stageSettle_pairReg h.1,
      reg_congr (clearLost_clearCuts_regs _), reg_congr (psetSettle_regs _)]
    exact snuffLanes_pairWord h
  exact hset

/-! ## DUAL_CLAIM (R633) -/

theorem exec_dualClaim_next {s : State} (hheld : held s = false) : exec .dualClaim s = .next (finish s (dualClaim s)) := by
  change execDualClaim s = _
  rw [execDualClaim, dev_next hheld]

/-- The event that DUAL_CLAIM raises. -/
def dualClaimEvent : FaultEv := fev FK.PAIR_DUAL_CLAIM 0x05 0 0

/-- The state that it is raised in. -/
def dualClaimCounted (s : State) : State := s.incF Reg.PAIR_CNT_DUAL 1

theorem dualClaim_active {s : State} (h3 : pairState s = 3) (hsense : s.flag Reg.PAIR_STATUS_SENSE = true) :
    dualClaim s = raise dualClaimEvent (dualClaimCounted s) := by
  rw [dualClaim, if_pos ⟨h3, hsense⟩]
  rfl

theorem dualClaimCounted_ends (s : State) : EndsLike s (dualClaimCounted s) := .of_faults (.setF s _ (faultPage_pair (by decide))) rfl

theorem raise_dualClaim_countKept (s : State) :
    CountKept FK.PAIR_DUAL_CLAIM ((dualClaimCounted s).incF (Reg.FLT_KIND_CNT FK.PAIR_DUAL_CLAIM) 1) (raise dualClaimEvent (dualClaimCounted s)) :=
  raise_countKept (by decide) (by decide) dualClaimEvent _ rfl

theorem raise_dualClaim_ends (s : State) : EndsLike s (raise dualClaimEvent (dualClaimCounted s)) :=
  (dualClaimCounted_ends s).trans (.of_faults (raise_faults dualClaimEvent _ (by decide)) (raise_dualClaim_countKept s).resets)

/-- In whatever class, the pair unit and the kind each count the event once. -/
theorem finish_dualClaim_counts {s : State} (hs : Settled s) :
    let t := finish s (raise dualClaimEvent (dualClaimCounted s))
    t.f Reg.PAIR_CNT_DUAL = (s.f Reg.PAIR_CNT_DUAL + 1) % 2 ^ 32 ∧
      t.f (Reg.FLT_KIND_CNT FK.PAIR_DUAL_CLAIM) = (s.f (Reg.FLT_KIND_CNT FK.PAIR_DUAL_CLAIM) + 1) % 2 ^ 32 := by
  have hends := raise_dualClaim_ends s
  have hstands : ∀ x, PairWordStands Reg.PAIR_CNT_DUAL.key x := fun _ => ⟨by decide, .inr (by decide)⟩
  have hword := (finish_pairWord hs hends (hstands _)).trans (raise_pairWord (e := dualClaimEvent) (hstands (dualClaimCounted s)) rfl (by decide))
  have hkind := (raise_dualClaim_countKept s).trans (finish_endKept hs hends (by decide) (by decide)).toCountKept
  refine ⟨(f_of_reg hword).trans (f_setF_same s (F := Reg.PAIR_CNT_DUAL) _ (by decide)), hkind.f.trans ?_⟩
  rw [State.incF, f_setF_same _ _ (by decide), dualClaimCounted, State.incF, f_setF_apart _ _ (.inl (by decide))]
  rfl

/-- In class C2 the event snuffs the unit, which releases its claim. -/
theorem finish_dualClaim_released {s : State} (hs : Settled s) (h3 : pairState s = 3) (hclass : classOf s FK.PAIR_DUAL_CLAIM = 2)
    (hsn : s.snuffed = false) :
    let t := finish s (raise dualClaimEvent (dualClaimCounted s))
    t.snuffed = true ∧ ClaimReleased t := by
  have hk : dualClaimEvent.kind < 4096 := by decide
  have hact : actingClass (classOf (dualClaimCounted s) FK.PAIR_DUAL_CLAIM) dualClaimEvent.src = 2 := by
    have hc : classOf (dualClaimCounted s) FK.PAIR_DUAL_CLAIM = 2 :=
      (classOf_congr (reg_setF_ne s (F := Reg.PAIR_CNT_DUAL) _ (by decide))).trans hclass
    rw [hc]; rfl
  have hsnuffed : (dualClaimCounted s).snuffed = false := (flag_congr (f_setF_apart s _ (by decide))).trans hsn
  have hactive : pairState (dualClaimCounted s) = 3 := (pairState_congr (reg_setF_ne s (F := Reg.PAIR_CNT_DUAL) _ (by decide))).trans h3
  have hreleased : ClaimReleased (raise dualClaimEvent (dualClaimCounted s)) := raise_released hk (.inl hact) hsnuffed (.inr hactive)
  have honce : SnuffedOnce (dualClaimCounted s) (raise dualClaimEvent (dualClaimCounted s)) := (raise_once hk (.inl hact)).1
  have hends := raise_dualClaim_ends s
  exact ⟨(finish_snuffLeft hs hends honce.1).snuffed.trans honce.1,
    hreleased.of_status (finish_pairWord hs hends ⟨by decide, .inl honce.1⟩)⟩

end Sys2Proof.Machine

namespace Sys2Proof.Proofs
open Sys2Proof.Machine

/-- Settles O53: beside PAIR_STATUS no word of the pair unit follows a fault, so the count stands; the entry of the snuff leaves ACTIVE, and a
snuffed device's PAIR_STATUS is changed neither by what follows from the event nor by the end of the command. -/
theorem dualClaimSnuffs : Obligations.DualClaimSnuffs := by
  unfold Obligations.DualClaimSnuffs
  refine ⟨by decide, fun s hs hheld h3 hsense => ?_⟩
  obtain ⟨hdual, hkind⟩ := finish_dualClaim_counts hs
  refine ⟨_, exec_dualClaim_next hheld, ?_⟩
  rw [dualClaim_active h3 hsense]
  refine ⟨hdual, hkind, fun hclass hsn => ?_⟩
  obtain ⟨hsnuffed, hout, hactive, hclaiming⟩ := finish_dualClaim_released hs h3 hclass hsn
  exact ⟨hsnuffed, hout, hactive, hclaiming⟩

end Sys2Proof.Proofs

/-! Proofs about lamp instruction words (06_lamp_isa.md): a word is its opcode and the fields of its instruction, each in its place. -/

namespace Sys2Proof.Machine

/-! ## Fields of a word -/

/-- A field of a word: its high bit, its low bit and its value. -/
structure WordField where
  hi : Nat
  lo : Nat
  val : Nat

/-- The mask of the bits of a list of fields. -/
def fieldsMask : List WordField → Nat
  | [] => 0
  | f :: r => 2 ^ f.lo * (2 ^ (f.hi - f.lo + 1) - 1) + fieldsMask r

@[simp] theorem fieldsMask_nil : fieldsMask [] = 0 := by rw [fieldsMask]

@[simp] theorem fieldsMask_cons (hi lo v : Nat) (r : List WordField) :
    fieldsMask (⟨hi, lo, v⟩ :: r) = 2 ^ lo * (2 ^ (hi - lo + 1) - 1) + fieldsMask r := by rw [fieldsMask]

/-- What a word holds where the fields stand, each in its place. -/
def fieldsHeld (w : Nat) : List WordField → Nat
  | [] => 0
  | f :: r => natBits w f.hi f.lo * 2 ^ f.lo + fieldsHeld w r

/-- The fields' values, each in its place. -/
def fieldsWord : List WordField → Nat
  | [] => 0
  | f :: r => f.val * 2 ^ f.lo + fieldsWord r

@[simp] theorem fieldsHeld_nil (w : Nat) : fieldsHeld w [] = 0 := by rw [fieldsHeld]

@[simp] theorem fieldsHeld_cons (w hi lo v : Nat) (r : List WordField) :
    fieldsHeld w (⟨hi, lo, v⟩ :: r) = natBits w hi lo * 2 ^ lo + fieldsHeld w r := by rw [fieldsHeld]

@[simp] theorem fieldsWord_nil : fieldsWord [] = 0 := by rw [fieldsWord]

@[simp] theorem fieldsWord_cons (hi lo v : Nat) (r : List WordField) : fieldsWord (⟨hi, lo, v⟩ :: r) = v * 2 ^ lo + fieldsWord r := by rw [fieldsWord]

/-- The fields lie below bit `top`, each below the one before it. -/
def fieldsFall (top : Nat) : List WordField → Bool
  | [] => true
  | f :: r => decide (f.lo ≤ f.hi) && decide (f.hi < top) && fieldsFall f.lo r

/-- Every value lies in its field. -/
def fieldsFit (l : List WordField) : Prop := ∀ f ∈ l, f.val < 2 ^ (f.hi - f.lo + 1)

theorem natBits_eq (n hi lo : Nat) : natBits n hi lo = n / 2 ^ lo % 2 ^ (hi - lo + 1) := by
  rw [natBits, Nat.shiftRight_eq_div_pow]

theorem natBits_lt (n hi lo : Nat) : natBits n hi lo < 2 ^ (hi - lo + 1) := Nat.mod_lt _ (Nat.two_pow_pos _)

theorem natBits_lt_of_le {n hi lo k : Nat} (h : 2 ^ (hi - lo + 1) ≤ k) : natBits n hi lo < k := (natBits_lt n hi lo).trans_le h

theorem natBits_le_one (n i : Nat) : natBits n i i ≤ 1 := by
  have := natBits_lt n i i
  rw [Nat.sub_self] at this
  omega

theorem fieldsFall_cons {top : Nat} {f : WordField} {r : List WordField} (h : fieldsFall top (f :: r) = true) :
    f.lo ≤ f.hi ∧ f.hi < top ∧ fieldsFall f.lo r = true := by
  simpa [fieldsFall, and_assoc] using h

/-- A field's value, or its mask, in its place and what lies below it stay below the bit above the field. -/
theorem field_add_lt {top hi lo v x : Nat} (hle : lo ≤ hi) (hhi : hi < top) (hv : v < 2 ^ (hi - lo + 1)) (hx : x < 2 ^ lo) :
    v * 2 ^ lo + x < 2 ^ top := by
  calc v * 2 ^ lo + x < (v + 1) * 2 ^ lo := by rw [Nat.add_mul]; omega
    _ ≤ 2 ^ (hi - lo + 1) * 2 ^ lo := Nat.mul_le_mul_right _ hv
    _ = 2 ^ (hi + 1) := by rw [← Nat.pow_add]; congr 1; omega
    _ ≤ 2 ^ top := Nat.pow_le_pow_right (by decide) hhi

theorem fieldsMask_lt : ∀ (l : List WordField) (top : Nat), fieldsFall top l = true → fieldsMask l < 2 ^ top
  | [], top, _ => Nat.two_pow_pos top
  | f :: r, top, h => by
    obtain ⟨hle, hhi, hr⟩ := fieldsFall_cons h
    rw [fieldsMask, Nat.mul_comm]
    exact field_add_lt hle hhi (Nat.sub_lt (Nat.two_pow_pos _) (by decide)) (fieldsMask_lt r f.lo hr)

theorem fieldsWord_lt : ∀ (l : List WordField) (top : Nat), fieldsFall top l = true → fieldsFit l → fieldsWord l < 2 ^ top
  | [], top, _, _ => Nat.two_pow_pos top
  | f :: r, top, h, hv => by
    obtain ⟨hle, hhi, hr⟩ := fieldsFall_cons h
    exact field_add_lt hle hhi (hv f (by simp)) (fieldsWord_lt r f.lo hr fun g hg => hv g (by simp [hg]))

/-- The bits of a word under one field's mask are what it holds there. -/
theorem and_fieldMask (w hi lo : Nat) : w &&& 2 ^ lo * (2 ^ (hi - lo + 1) - 1) = 2 ^ lo * natBits w hi lo := by
  apply Nat.eq_of_testBit_eq
  intro i
  rw [Nat.testBit_and, Nat.testBit_two_pow_mul, Nat.testBit_two_pow_mul, natBits, Nat.testBit_mod_two_pow, Nat.testBit_shiftRight,
    Nat.testBit_two_pow_sub_one]
  by_cases h : lo ≤ i
  · rw [Nat.add_sub_cancel' h]; simp [h, Bool.and_comm]
  · simp [h]

theorem and_fieldsMask (w : Nat) : ∀ (l : List WordField) (top : Nat), fieldsFall top l = true → w &&& fieldsMask l = fieldsHeld w l
  | [], _, _ => Nat.and_zero w
  | f :: r, top, h => by
    obtain ⟨-, -, hf⟩ := fieldsFall_cons h
    have hr := and_fieldsMask w r f.lo hf
    have hlt : fieldsHeld w r < 2 ^ f.lo := hr ▸ Nat.and_lt_two_pow w (fieldsMask_lt r f.lo hf)
    rw [fieldsMask, fieldsHeld, Nat.two_pow_add_eq_or_of_lt (fieldsMask_lt r f.lo hf), Nat.and_or_distrib_left, and_fieldMask, hr,
      ← Nat.two_pow_add_eq_or_of_lt hlt, Nat.mul_comm]

/-- Fields that fit are read back from the word they make, whatever stands above them. -/
theorem natBits_fieldsWord : ∀ (l : List WordField) (top c : Nat), fieldsFall top l = true → fieldsFit l →
    ∀ f ∈ l, natBits (c * 2 ^ top + fieldsWord l) f.hi f.lo = f.val
  | [], _, _, _, _, f, hf => by simp at hf
  | g :: r, top, c, h, hv, f, hf => by
    obtain ⟨hle, hhi, hr⟩ := fieldsFall_cons h
    have hvr : fieldsFit r := fun x hx => hv x (by simp [hx])
    have hlow := fieldsWord_lt r g.lo hr hvr
    have htop : c * 2 ^ top = c * 2 ^ (top - g.hi - 1) * 2 ^ (g.hi - g.lo + 1) * 2 ^ g.lo := by
      rw [Nat.mul_assoc, Nat.mul_assoc, ← Nat.pow_add, ← Nat.pow_add]
      congr 2
      omega
    rw [fieldsWord, ← Nat.add_assoc, htop, ← Nat.add_mul]
    rcases List.mem_cons.1 hf with rfl | hf
    · rw [natBits_eq, Nat.mul_comm, Nat.mul_add_div (Nat.two_pow_pos _), Nat.div_eq_of_lt hlow, Nat.add_zero, Nat.mul_add_mod',
        Nat.mod_eq_of_lt (hv _ (by simp))]
    · exact natBits_fieldsWord r g.lo _ hr hvr f hf

theorem fieldsHeld_eq_fieldsWord {w : Nat} : ∀ {l : List WordField}, (∀ f ∈ l, natBits w f.hi f.lo = f.val) → fieldsHeld w l = fieldsWord l
  | [], _ => rfl
  | f :: r, h => by
    rw [fieldsHeld, fieldsWord, h f (by simp), fieldsHeld_eq_fieldsWord fun g hg => h g (by simp [hg])]

/-- A word of `n` bits has no bit outside a mask exactly when the mask keeps it whole. -/
theorem and_xor_ones_eq_zero_iff {n x u : Nat} (hx : x < 2 ^ n) : x &&& (u ^^^ (2 ^ n - 1)) = 0 ↔ x &&& u = x := by
  have hout : ∀ i, (x &&& (u ^^^ (2 ^ n - 1))).testBit i = (x.testBit i && !u.testBit i) := by
    intro i
    rw [Nat.testBit_and, Nat.testBit_xor, Nat.testBit_two_pow_sub_one]
    by_cases hi : i < n
    · simp [hi]
    · have : x.testBit i = false := Nat.testBit_lt_two_pow (hx.trans_le (Nat.pow_le_pow_right (by decide) (by omega)))
      simp [this]
  have hkept : x &&& u = x ↔ ∀ i, (x.testBit i && u.testBit i) = x.testBit i :=
    ⟨fun h i => by rw [← Nat.testBit_and, h], fun h => Nat.eq_of_testBit_eq fun i => by rw [Nat.testBit_and, h]⟩
  have hnone : x &&& (u ^^^ (2 ^ n - 1)) = 0 ↔ ∀ i, (x.testBit i && !u.testBit i) = false :=
    ⟨fun h i => by rw [← hout, h, Nat.zero_testBit], fun h => Nat.eq_of_testBit_eq fun i => by rw [hout, h, Nat.zero_testBit]⟩
  rw [hkept, hnone]
  exact forall_congr' fun i => by cases x.testBit i <;> cases u.testBit i <;> simp

/-! ## The fields of an instruction (R249, R250, R274 to R279) -/

/-- The opcode of an instruction. -/
def LampOp.opcode : LampOp → Nat
  | .nop => 0x00 | .halt => 0x01 | .b .. => 0x02 | .call .. => 0x03 | .jr .. => 0x04 | .reti => 0x05 | .loop .. => 0x06 | .loopReg .. => 0x07
  | .add .. => 0x08 | .sub .. => 0x09 | .and .. => 0x0A | .or .. => 0x0B | .xor .. => 0x0C | .lsl .. | .asr .. | .lsr .. => 0x0D
  | .addImm .. => 0x0E | .movImm .. => 0x0F | .movh .. => 0x10 | .cmp .. => 0x11 | .cmpImm .. => 0x12 | .getl .. => 0x13 | .setl .. => 0x14
  | .rsum .. => 0x15 | .geta .. => 0x16 | .obx .. => 0x17 | .addAImm .. => 0x18 | .movAS .. => 0x19 | .movSA .. => 0x1A | .movMS .. => 0x1B
  | .movAImm .. => 0x1C | .movlM .. | .movhM .. => 0x1D | .mts .. => 0x1E | .mfs .. => 0x1F | .ld .. => 0x20 | .st .. => 0x21 | .ldc .. => 0x22
  | .ldcb .. => 0x23 | .ldS .. => 0x24 | .stS .. => 0x25 | .ldw .. => 0x26 | .stw .. => 0x27 | .sin .. => 0x28 | .sout .. => 0x29
  | .pass => 0x2A | .xmul .. => 0x2B | .tap .. => 0x2C | .srch .. => 0x2D | .srchi => 0x2E | .fetch .. => 0x2F | .vadd .. => 0x30
  | .vsub .. => 0x31 | .vmin .. => 0x32 | .vmax .. => 0x33 | .vand .. => 0x34 | .vor .. => 0x35 | .vxor .. => 0x36 | .vasr .. => 0x37
  | .vlsl .. => 0x38 | .bcast .. => 0x39 | .mul .. => 0x3A | .mpy .. => 0x3B | .mac .. => 0x3C | .msu .. => 0x3D | .pwr .. => 0x3E
  | .rnd .. => 0x3F

/-- The fields of an instruction beside its opcode, from the top. The shifts of opcode 0x0D and MOVH carry a fixed field that tells them from
another instruction of their opcode. -/
def LampOp.fields : LampOp → List WordField
  | .nop | .halt | .reti | .pass | .srchi => []
  | .b cnd tgt => [⟨25, 22, cnd⟩, ⟨12, 0, tgt⟩]
  | .call tgt => [⟨12, 0, tgt⟩]
  | .jr d a | .bcast d a => [⟨25, 22, d⟩, ⟨21, 18, a⟩]
  | .loop k e n => [⟨25, 24, k⟩, ⟨23, 11, e⟩, ⟨10, 0, n⟩]
  | .loopReg k e a => [⟨25, 24, k⟩, ⟨23, 11, e⟩, ⟨10, 7, a⟩]
  | .add d a c | .sub d a c | .and d a c | .or d a c | .xor d a c | .getl d a c | .setl d a c | .vadd d a c | .vsub d a c | .vmin d a c
  | .vmax d a c | .vand d a c | .vor d a c | .vxor d a c => [⟨25, 22, d⟩, ⟨21, 18, a⟩, ⟨17, 14, c⟩]
  | .lsl d a n | .vlsl d a n => [⟨25, 22, d⟩, ⟨21, 18, a⟩, ⟨10, 5, n⟩]
  | .asr d a n => [⟨25, 22, d⟩, ⟨21, 18, a⟩, ⟨10, 5, n⟩, ⟨4, 3, 1⟩]
  | .lsr d a n => [⟨25, 22, d⟩, ⟨21, 18, a⟩, ⟨10, 5, n⟩, ⟨4, 3, 2⟩]
  | .addImm d a imm => [⟨25, 22, d⟩, ⟨21, 18, a⟩, ⟨17, 0, imm⟩]
  | .movImm d imm | .movh d imm => [⟨25, 22, d⟩, ⟨17, 0, imm⟩]
  | .cmp a c => [⟨21, 18, a⟩, ⟨17, 14, c⟩]
  | .cmpImm a imm => [⟨21, 18, a⟩, ⟨17, 0, imm⟩]
  | .rsum d ac sh x => [⟨25, 22, d⟩, ⟨13, 12, ac⟩, ⟨10, 5, sh⟩, ⟨4, 3, x⟩]
  | .geta d ac k x => [⟨25, 22, d⟩, ⟨17, 14, k⟩, ⟨13, 12, ac⟩, ⟨4, 3, x⟩]
  | .obx a | .sout a => [⟨21, 18, a⟩]
  | .sin d => [⟨25, 22, d⟩]
  | .addAImm p imm | .movAImm p imm => [⟨25, 23, p⟩, ⟨17, 0, imm⟩]
  | .movAS p q | .movSA p q | .movMS p q => [⟨25, 23, p⟩, ⟨22, 19, q⟩]
  | .movlM p imm => [⟨25, 23, p⟩, ⟨11, 0, imm⟩]
  | .movhM p imm => [⟨25, 23, p⟩, ⟨18, 18, 1⟩, ⟨11, 0, imm⟩]
  | .mts d sp | .mfs d sp => [⟨25, 22, d⟩, ⟨21, 15, sp⟩]
  | .ld d m | .st d m | .ldc d m | .ldcb d m | .ldS d m | .stS d m | .ldw d m | .stw d m | .srch d m =>
    [⟨25, 22, d⟩, ⟨21, 19, m.aa⟩, ⟨18, 16, m.mm⟩, ⟨15, 14, m.pm⟩, ⟨13, 0, m.off⟩]
  | .xmul sh cj m => [⟨25, 20, sh⟩, ⟨19, 19, cj⟩, ⟨18, 16, m.aa⟩, ⟨15, 13, m.mm⟩, ⟨12, 11, m.pm⟩]
  | .tap ac d m => [⟨25, 22, d⟩, ⟨21, 19, m.aa⟩, ⟨18, 16, m.mm⟩, ⟨15, 14, m.pm⟩, ⟨13, 12, ac⟩, ⟨11, 0, m.off⟩]
  | .fetch a c aa rows dir pk => [⟨25, 22, a⟩, ⟨21, 18, c⟩, ⟨17, 15, aa⟩, ⟨14, 9, rows⟩, ⟨8, 8, dir⟩, ⟨7, 7, pk⟩]
  | .vasr d a sh r => [⟨25, 22, d⟩, ⟨21, 18, a⟩, ⟨10, 5, sh⟩, ⟨3, 3, r⟩]
  | .mul d a c sh cj => [⟨25, 22, d⟩, ⟨21, 18, a⟩, ⟨17, 14, c⟩, ⟨11, 11, cj⟩, ⟨10, 5, sh⟩]
  | .mpy ac a c cj | .mac ac a c cj | .msu ac a c cj => [⟨21, 18, a⟩, ⟨17, 14, c⟩, ⟨13, 12, ac⟩, ⟨11, 11, cj⟩]
  | .pwr ac a => [⟨21, 18, a⟩, ⟨13, 12, ac⟩]
  | .rnd d ac sh => [⟨25, 22, d⟩, ⟨13, 12, ac⟩, ⟨10, 5, sh⟩]

theorem LampOp.fieldsFall_fields (op : LampOp) : fieldsFall 26 op.fields = true := by cases op <;> rfl

theorem LampOp.opcode_lt (op : LampOp) : op.opcode < 64 := by cases op <;> simp [LampOp.opcode]

theorem LampOp.fieldsFit_fields {op : LampOp} (h : op.fits = true) : fieldsFit op.fields := by
  cases op <;> simp_all [LampOp.fits, MemOp.fits, fieldsFit, LampOp.fields]

/-- The word of an instruction is its opcode and its fields. -/
theorem encodeLamp_eq (op : LampOp) : encodeLamp op = op.opcode * 2 ^ 26 + fieldsWord op.fields := by
  cases op
  case nop | halt | reti | pass | srchi => rfl
  all_goals
    simp only [encodeLamp, LampOp.opcode, LampOp.fields, fieldsWord_nil, fieldsWord_cons, wordR, wordM]
    omega

theorem encodeLamp_rest_lt {op : LampOp} (h : op.fits = true) : fieldsWord op.fields < 2 ^ 26 :=
  fieldsWord_lt _ 26 op.fieldsFall_fields (LampOp.fieldsFit_fields h)

theorem encodeLamp_lt {op : LampOp} (h : op.fits = true) : encodeLamp op < 2 ^ 32 := by
  have h1 := encodeLamp_rest_lt h
  have h2 := op.opcode_lt
  rw [encodeLamp_eq]
  omega

/-! ## Decoding -/

/-- The bits outside an instruction's fields are zero exactly when the word is its opcode and what it holds in the fields. -/
theorem unused_eq_zero_iff {w u : Nat} (op : LampOp) (hu : u = fieldsMask op.fields) :
    w % 2 ^ 26 &&& (u ^^^ (2 ^ 26 - 1)) = 0 ↔ w % 2 ^ 26 = fieldsHeld w op.fields := by
  subst hu
  have hf := op.fieldsFall_fields
  have hlow : w % 2 ^ 26 &&& fieldsMask op.fields = w &&& fieldsMask op.fields := by
    rw [← Nat.and_two_pow_sub_one_eq_mod, Nat.and_assoc, Nat.and_comm (2 ^ 26 - 1), Nat.and_two_pow_sub_one_eq_mod,
      Nat.mod_eq_of_lt (fieldsMask_lt _ 26 hf)]
  rw [and_xor_ones_eq_zero_iff (Nat.mod_lt w (Nat.two_pow_pos 26)), hlow, and_fieldsMask w _ 26 hf, eq_comm]

/-- What is decoded under a check of the unused bits passed the check. -/
theorem used_some {w u : Nat} {o op : LampOp}
    (h : (if w % 2 ^ 26 &&& (u ^^^ (2 ^ 26 - 1)) = 0 then some o else none) = some op) (hu : u = fieldsMask o.fields) :
    o = op ∧ w % 2 ^ 26 = fieldsHeld w o.fields := by
  split at h
  · next hz => exact ⟨Option.some.inj h, (unused_eq_zero_iff o hu).1 hz⟩
  · cases h

/-- A word that holds an opcode, an instruction's fields and nothing else is the instruction's. -/
theorem encodeLamp_of_fields {w : Nat} {op : LampOp} (hw : w < 2 ^ 32) (hop : natBits w 31 26 = op.opcode)
    (hrest : w % 2 ^ 26 = fieldsHeld w op.fields) (hheld : fieldsHeld w op.fields = fieldsWord op.fields) : encodeLamp op = w := by
  rw [natBits_eq] at hop
  rw [encodeLamp_eq, ← hheld, ← hrest]
  omega

/-- A word that decodes is the word of the instruction, whose fields lie in their bits. -/
theorem decodeLamp_some {w : Nat} {op : LampOp} (hw : w < 2 ^ 32) (h : decodeLamp w = some op) : op.fits = true ∧ encodeLamp op = w := by
  unfold decodeLamp at h
  dsimp only at h
  split at h
  case h_65 => cases h
  case' h_14 => split at h; rotate_left; split at h; rotate_left; split at h; rotate_left; cases h
  case' h_30 => split at h; rotate_left; have hhigh : natBits w 18 18 = 1 := by have := natBits_le_one w 18; omega
  all_goals
    rename natBits w 31 26 = _ => hop
    obtain ⟨rfl, hrest⟩ := used_some h (by simp [LampOp.fields])
    refine ⟨?_, encodeLamp_of_fields hw hop hrest ?_⟩
    · simp [LampOp.fits, MemOp.fits, natBits_lt_of_le, natBits_le_one]
    · simp only [LampOp.fields, fieldsHeld_nil, fieldsHeld_cons, fieldsWord_nil, fieldsWord_cons, *]


/-- An instruction whose fields fit their bits is read back from its word. -/
theorem decodeLamp_encodeLamp {op : LampOp} (h : op.fits = true) : decodeLamp (encodeLamp op) = some op := by
  have hread := natBits_fieldsWord op.fields 26 op.opcode op.fieldsFall_fields (LampOp.fieldsFit_fields h)
  rw [← encodeLamp_eq] at hread
  have hop : natBits (encodeLamp op) 31 26 = op.opcode := by
    have h1 := encodeLamp_rest_lt h
    have h2 := op.opcode_lt
    rw [natBits_eq, encodeLamp_eq]
    omega
  have hrest : encodeLamp op % 2 ^ 26 = fieldsHeld (encodeLamp op) op.fields := by
    rw [fieldsHeld_eq_fieldsWord hread, encodeLamp_eq, Nat.mul_add_mod_self_right, Nat.mod_eq_of_lt (encodeLamp_rest_lt h)]
  generalize encodeLamp op = w at hread hop hrest ⊢
  have hused : ∀ {u : Nat}, u = fieldsMask op.fields → w % 2 ^ 26 &&& (u ^^^ (2 ^ 26 - 1)) = 0 :=
    fun hu => (unused_eq_zero_iff op hu).2 hrest
  unfold decodeLamp
  dsimp only
  rw [hop]
  cases op
  all_goals
    dsimp only [LampOp.opcode]
    simp only [LampOp.fields, List.forall_mem_cons] at hread
  case' lsl | asr | lsr => change (if natBits w 4 3 = 0 then _ else _) = _
  case' movlM | movhM => change (if natBits w 18 18 = 0 then _ else _) = _
  case' lsl =>
    have hx : natBits w 4 3 = 0 := by
      simp only [LampOp.fields, fieldsHeld_nil, fieldsHeld_cons, natBits_eq] at hrest ⊢
      omega
    rw [if_pos hx]
  case' asr => rw [hread.2.2.2.1, if_neg (by decide), if_pos rfl]
  case' lsr => rw [hread.2.2.2.1, if_neg (by decide), if_neg (by decide), if_pos rfl]
  case' movlM =>
    have hhalf : natBits w 18 18 = 0 := by
      simp only [LampOp.fields, fieldsHeld_nil, fieldsHeld_cons, natBits_eq] at hrest ⊢
      omega
    rw [if_pos hhalf]
  case' movhM => rw [hread.2.1, if_neg (by decide)]
  all_goals refine (if_pos (hused (by simp [LampOp.fields]))).trans ?_
  case xmul sh cj m =>
    simp only [LampOp.fits, Bool.and_eq_true, decide_eq_true_eq] at h
    simp only [hread, ← h.2]
  case tap ac d m => simp only [hread]
  all_goals simp only [hread]

end Sys2Proof.Machine

namespace Sys2Proof.Proofs
open Sys2Proof.Machine

/-- Settles O58: the fields of an instruction, opcode included, make its word and are read back from it, and the check of unused bits says that
a word is nothing else. -/
theorem lampWordsRoundTrip : Obligations.LampWordsRoundTrip := by
  unfold Obligations.LampWordsRoundTrip
  exact ⟨fun _ h => ⟨encodeLamp_lt h, decodeLamp_encodeLamp h⟩, fun _ _ hw h => decodeLamp_some hw h⟩

end Sys2Proof.Proofs

/-! Proofs about the machine (01_instrument.md, 17_faults.md, 20_bringup.md): the step, the queue, the settled state and the device held in
reset. -/

namespace Sys2Proof.Machine

/-! ## What a step can do -/

theorem step_of_cons {s : State} {c : Instr} {rest : List Instr} (h : s.pending = c :: rest) : step s = exec c (s.withPending rest) := by
  rw [step, h]

theorem step_of_nil {s : State} (h : s.pending = []) : step s = .next (tick s) := by
  rw [step, h]

/-- A command that answers a next state leaves the state it found, or the settled end of what it did. -/
theorem exec_cases {c : Instr} {s t : State} (h : exec c s = .next t) : t = s ∨ ∃ u, t = finish s u := by
  obtain ⟨f, ⟨hf, -⟩ | ⟨hf, -⟩⟩ := exec_form c
  · rw [hf] at h
    exact (dev_cases h).imp id fun h => ⟨_, h⟩
  · rw [hf] at h
    exact .inr ⟨_, pin_cases h⟩

theorem tick_cases (s : State) : tick s = s ∨ ∃ u, tick s = finish s u := by
  unfold tick
  split
  · exact .inl rfl
  · exact .inr ⟨_, rfl⟩

/-- A step changes the queue's front alone, or ends what it did with the queue's rest. -/
theorem step_cases {s t : State} (h : step s = .next t) :
    t = s.withPending s.pending.tail ∨ ∃ u, t = finish (s.withPending s.pending.tail) u := by
  cases hq : s.pending with
  | nil =>
    have hs : s.withPending [] = s := by rw [← hq]; rfl
    rw [step_of_nil hq] at h
    rw [← Host.Outcome.next.inj h, List.tail_nil, hs]
    exact tick_cases s
  | cons c rest =>
    rw [step_of_cons hq] at h
    exact exec_cases h

/-! ## The settled state (R246, R548, R607, R685) -/

theorem settled_withPending {s : State} (h : Settled s) (q : List Instr) : Settled (s.withPending q) := (settled_pending q).2 h

theorem settled_reset : Settled State.reset where
  resets := rfl
  cuts := rfl
  psets := by decide
  stage := by decide
  lost := rfl
  lanes := by decide

end Sys2Proof.Machine

namespace Sys2Proof.Proofs
open Sys2Proof.Machine

/-- Settles O6: the end of every command is settled whatever the command did, and a step that does nothing found a settled state. -/
theorem stepKeepsSettled : Obligations.StepKeepsSettled := by
  unfold Obligations.StepKeepsSettled
  intro s t hs h
  obtain rfl | ⟨u, rfl⟩ := step_cases h
  · exact settled_withPending hs _
  · exact settled_finish _ u

/-- Settles O5. -/
theorem resetSettled : Obligations.ResetSettled := settled_reset

/-- Settles O1: the two forms of the queue. -/
theorem stepRunsFront : Obligations.StepRunsFront := by
  unfold Obligations.StepRunsFront
  exact ⟨fun _ _ _ h => step_of_cons h, fun _ h => step_of_nil h⟩

/-- Settles O2: every meaning is one of two forms, with the well-formedness of its command as its condition. -/
theorem wellFormedCompletes : Obligations.WellFormedCompletes := by
  unfold Obligations.WellFormedCompletes
  intro c s
  obtain ⟨f, ⟨hf, -⟩ | ⟨hf, -⟩⟩ := exec_form c
  · refine ⟨fun h => ?_, fun h => by rw [hf, h, dev_illFormed]⟩
    rw [hf, h]
    cases hs : held s with
    | true => exact ⟨s, dev_held hs, rfl⟩
    | false => exact ⟨_, dev_next hs, finish_pending _ _⟩
  · refine ⟨fun h => ?_, fun h => by rw [hf, h, pin_illFormed]⟩
    rw [hf, h]
    exact ⟨_, pin_next, finish_pending _ _⟩

/-- Settles O3: what a step does ends with the queue it was given, the found queue's tail. -/
theorem queueInOrder : Obligations.QueueInOrder := by
  unfold Obligations.QueueInOrder
  intro s t h
  obtain rfl | ⟨u, rfl⟩ := step_cases h
  · rfl
  · rfl

/-- Settles O4: only the commands of pins and clocks take the form that acts in reset. -/
theorem heldInReset : Obligations.HeldInReset := by
  unfold Obligations.HeldInReset
  refine fun s hs => ⟨fun c hc hpin => ?_, fun hq => ?_⟩
  · obtain ⟨f, ⟨hf, -⟩ | ⟨-, hf⟩⟩ := exec_form c
    · rw [hf, hc, dev_held hs]
    · rw [hpin] at hf; cases hf
  · rw [step_of_nil hq, tick, if_pos hs]

end Sys2Proof.Proofs

/-! The forms of the commands' meanings: what a command answers once its operands are in range and its condition is known. -/

namespace Sys2Proof.Machine

section Forms

variable {c : Instr} {s t : State} {ok : Bool} {f g : State → State} {m key b : Nat} {w : Word}

/-! ## Device commands and pins -/

theorem dev_runs (hc : exec c = dev ok f) (hheld : held s = false) (hok : ok = true) (hf : f s = t) :
    exec c s = .next (finish s t) := by
  rw [hc, hok, dev_next hheld, hf]

theorem pin_runs (hc : exec c = pin ok f) (hok : ok = true) (hf : f s = t) : exec c s = .next (finish s t) := by
  rw [hc, hok, pin_next, hf]

/-- Two accounts of what one device command leaves agree. -/
theorem dev_ends (hc : exec c = dev ok f) (hheld : held s = false) (hok : ok = true) (h : exec c s = .next (finish s t)) :
    finish s (f s) = finish s t :=
  Host.Outcome.next.inj ((dev_runs hc hheld hok rfl).symm.trans h)

/-! ## Register commands (R8, R480) -/

/-- A register command that no restriction and no gate turns away. -/
theorem reg_runs_of_open (hc : exec c = dev ok (regCmd m key w f)) (hheld : held s = false) (hok : ok = true)
    (hm : regMaster m = true) (hr : refusedWrite key m (requested s) = false) (hg : pageGated (requested s) (key / 0x10000) = false)
    (hf : f (requested s) = g (requested s)) : exec c s = .next (finish s (taken m key w g (requested s))) :=
  dev_runs hc hheld hok ((regCmd_taken hm hr hg).trans (taken_congr hf))

/-- A register command of a page that is never gated. -/
theorem reg_runs (hc : exec c = dev ok (regCmd m key w f)) (hheld : held s = false) (hok : ok = true) (hm : regMaster m = true)
    (hk : 0x101 ≤ key) (hp : key / 0x10000 ≠ 0x0E ∧ key / 0x10000 ≠ 0x10 ∧ key / 0x10000 ≠ 0x11 ∧ key / 0x10000 ≠ 0x12)
    (hf : f (requested s) = g (requested s)) : exec c s = .next (finish s (taken m key w g (requested s))) :=
  reg_runs_of_open hc hheld hok hm (refusedWrite_of_ge m _ hk) (pageGated_of_page hp) hf

/-- A register command of a page that its personality gates changes nothing (R166, R315, R349, R390). -/
theorem reg_runs_gated (hc : exec c = dev ok (regCmd m key w f)) (hheld : held s = false) (hok : ok = true) (hm : regMaster m = true)
    (hk : 0x101 ≤ key) (hg : pageGated (requested s) (key / 0x10000) = true) :
    exec c s = .next (finish s (taken m key w id (requested s))) := by
  refine dev_runs hc hheld hok ?_
  simp only [regCmd, writeCmd, masterReach_page hm, Bool.not_true, refusedWrite_of_ge m _ hk, Bool.false_eq_true, if_false]
  exact taken_congr (by simp [hg])

/-- A commit bit, which no gate turns away. -/
theorem commit_runs (hc : exec c = dev ok (commitCmd m key w f)) (hheld : held s = false) (hok : ok = true) (hm : regMaster m = true)
    (hk : 0x101 ≤ key) (hf : f (requested s) = g (requested s)) : exec c s = .next (finish s (taken m key w g (requested s))) :=
  dev_runs hc hheld hok ((commitCmd_plain hm hk).trans (taken_congr hf))

/-! ## Groups (R496) -/

/-- The commit of a group that no armed set holds and no personality gates. -/
theorem groupCommit_of_free {p : Nat} (hh : groupHeld s p = false) (hg : pageGated s (p / 16) = false) :
    groupCommit p s =
      (let b := p / 16
       if b = 0x01 then sdCommit (p % 16) s
       else if b = 0x03 then fltCommit s else if b = 0x04 then pmrCommit s else if b = 0x05 then pairCommit s
       else if b = 0x0C then memCommit s else if b = 0x0E then lensCommit s else if b = 0x0F then stgCommit s
       else if b = 0x10 then lanCommit s else if b = 0x11 then mntCommit s else if b = 0x12 then canCommit s
       else if b = 0x13 then egrCommit s
       else if 0x20 ≤ b ∧ b ≤ 0x2F then lnkCommit (b - 0x20) s
       else if 0x40 ≤ b ∧ b ≤ 0x7F then lmpCommit (b - 0x40) s
       else s) := by
  simp only [groupCommit, hh, hg, Bool.false_eq_true, if_false]

theorem groupCommit_of_gated {p : Nat} (hh : groupHeld s p = false) (hg : pageGated s (p / 16) = true) :
    groupCommit p s = gatedCommit p s := by
  simp only [groupCommit, hh, hg, Bool.false_eq_true, if_false, if_true]

/-! ## Reads of register words -/

/-- A command that reads a register word answers it. -/
theorem read_runs (hc : exec c = dev ok (regRead m key)) (hheld : held s = false) (hok : ok = true)
    (hm : masterReach m 4 false = true) (ho : key < 2 ^ 28) (ha : key % 4 = 0) (hp : pageExists (key / 0x10000) = true) :
    exec c s = .next (finish s ((readReg key (if m = 0 then 3 else 1) m (requested s)).2.respond true
      (leBytes 4 (readReg key (if m = 0 then 3 else 1) m (requested s)).1.toNat))) :=
  dev_runs hc hheld hok (busAccess_readPage (b := { master := m, err := 0, host := [] }) 15 [] hm ho ha hp rfl)

end Forms

/-! ## What an unrelated write leaves -/

section Frames

variable {s : State} {F G : Field}

theorem flag_setF_apart (s : State) (v : Nat) (h : F.apart G) : (s.setF F v).flag G = s.flag G := flag_congr (f_setF_apart s v h)

theorem f_incF_apart (s : State) (n : Nat) (h : F.apart G) : (s.incF F n).f G = s.f G := f_setF_apart s _ h

theorem flag_incF_apart (s : State) (n : Nat) (h : F.apart G) : (s.incF F n).flag G = s.flag G := flag_setF_apart s _ h

/-- A commit changes active values alone. -/
theorem commitRange_eq_regs (s : State) (lo hi : Nat) : ∃ r, s.commitRange lo hi = { s with regs := r } := by
  have h : ∀ (l : List Nat) (s : State), ∃ r, l.foldl State.commitReg s = { s with regs := r } := by
    intro l
    induction l with
    | nil => exact fun s => ⟨s.regs, rfl⟩
    | cons k l ih =>
      intro s
      obtain ⟨r, hr⟩ := ih (s.commitReg k)
      exact ⟨r, hr⟩
  exact h _ s

@[simp] theorem commitRange_time (s : State) (lo hi : Nat) : (s.commitRange lo hi).time = s.time := by
  obtain ⟨r, hr⟩ := commitRange_eq_regs s lo hi
  rw [hr]

theorem held_requested (s : State) : held (requested s) = held s := by simp [held]

end Frames

theorem ne_zero_of_regMaster {m : Nat} (h : regMaster m = true) : m ≠ 0 := by
  rintro rfl
  exact absurd h (by decide)

end Sys2Proof.Machine

/-! Proofs about the performance counters, the fault collector and bring-up (17_faults.md, 19_counters.md, 20_bringup.md): what their
commands do. -/

namespace Sys2Proof.Machine

/-! ## Snapshots (R661, R663) -/

/-- A snapshot that finds the collector idle is not lost. -/
theorem snapTrigger_kept {s : State} (cause dom slot trig kind : Nat) (h : snapBusy s = false) :
    (snapTrigger cause dom slot trig kind false s).2 = false := by
  unfold snapTrigger
  dsimp only
  split
  · rfl
  · next => simp [h]

theorem snapNow_of_idle {s : State} (h : snapBusy s = false) : snapNow s = (snapTrigger 1 0 0 0 0 false s).1 := by
  simp [snapNow, snapTrigger_kept 1 0 0 0 0 h]

theorem pmrCommit_of_none {s : State} (h : pmrBadWord s = none) : pmrCommit s = s.commitRange 0x41000 0x42900 := by
  simp [pmrCommit, h]

/-! ## Faults -/

theorem snuffInAssert_of_live {s : State} (h : held s = false) :
    snuffInAssert s = raise (fev FK.FLT_SNUFF_IN 0x03 0 0) (s.setF Reg.FLT_STATUS_IN_PIN 1) := by
  have : s.bring.holding.isEmpty = true := by simpa [held] using h
  simp [snuffInAssert, this]

theorem fltCommit_of_ok {s : State} (h : fltErr s = 0) : fltCommit s = s.commitRange 0x32000 0x32800 := by
  simp [fltCommit, h]

theorem faultNotify_of_cons {s : State} {msg : Nat} {r : List Nat} (h : s.flt.notifyQueue = msg :: r) (hz : s.mgmt.zmpOn = true) :
    faultNotify s = (List.range 8).foldl (fun s n => faultNotifyOne msg n s) { s with flt := { s.flt with notifyQueue := r } } := by
  simp [faultNotify, h, hz]

theorem flag_snuffClear_regs (s : State) :
    ((s.setF Reg.FLT_STATUS_RECOVERIES 0).setF Reg.FLT_STATUS_LATCHED 0).flag Reg.FLT_STATUS_IN_PIN = s.flag Reg.FLT_STATUS_IN_PIN := by
  rw [flag_setF_apart _ _ (.inr (by decide)), flag_setF_apart _ _ (.inr (by decide))]

theorem snuffClear_of_pin {s : State} (h : s.flag Reg.FLT_STATUS_IN_PIN = true) :
    snuffClear s = (s.setF Reg.FLT_STATUS_RECOVERIES 0).setF Reg.FLT_STATUS_LATCHED 0 := by
  unfold snuffClear
  exact if_pos ((flag_snuffClear_regs s).trans h)

theorem snuffClear_of_noPin {s : State} (h : s.flag Reg.FLT_STATUS_IN_PIN = false) :
    snuffClear s = snuffLeave ((s.setF Reg.FLT_STATUS_RECOVERIES 0).setF Reg.FLT_STATUS_LATCHED 0) := by
  unfold snuffClear
  exact if_neg (by rw [flag_snuffClear_regs, h]; decide)

/-- Arming an injection that the checks accept (R619, R620). -/
theorem injectArm_of_ok {s : State} (ht : testEnable s = true)
    (hi : injectable (s.f Reg.FLT_INJ_CFG_SRC) (s.f Reg.FLT_INJ_CFG_SUB) (s.f Reg.FLT_INJ_CFG_CHK) = true) :
    injectArm s =
      (let i : Injection := { src := s.f Reg.FLT_INJ_CFG_SRC, sub := s.f Reg.FLT_INJ_CFG_SUB, chk := s.f Reg.FLT_INJ_CFG_CHK,
                              double := s.flag Reg.FLT_INJ_CFG_DOUBLE }
       (({ s with flt := { s.flt with inj := some i } }).setF Reg.FLT_INJ_STATUS_ACTIVE 1).setF Reg.FLT_INJ_STATUS_REMAINING
         (max 1 (s.f Reg.FLT_INJ_CFG_COUNT))) := by
  unfold injectArm
  exact if_neg (by simp [ht, hi])

theorem testEnable_requested (s : State) : testEnable (requested s) = testEnable s := by simp [testEnable]

/-! ## Clocks and test pins -/

theorem flag_retire {s : State} {F : Field} (n : Nat) (h : F.key ≠ Reg.BMX_CNT_RETIRE.key) : (retire n s).flag F = s.flag F :=
  flag_incF_apart _ _ (.inl h.symm)

theorem hifLinkDown_of_linkUp {s : State} (h : s.flag Reg.HIF_STATUS_LINK_UP = true) :
    hifLinkDown s = raise (fev FK.HIF_LINK_DOWN 0x0B 0 0) ((linkGone s).incF Reg.HIF_CNT_LINK_DOWN 1) := by
  simp [hifLinkDown, h]

/-- The host link goes down; how many requests retire with it is free (R507). -/
theorem linkLost_of_linkUp {s : State} (h : s.flag Reg.HIF_STATUS_LINK_UP = true) :
    linkLost s = raise (fev FK.HIF_LINK_DOWN 0x0B 0 0) ((linkGone (retire (s.draw.1 % 65) s.draw.2)).incF Reg.HIF_CNT_LINK_DOWN 1) := by
  refine (if_pos h).trans (hifLinkDown_of_linkUp ?_)
  exact (flag_retire _ (by decide)).trans h

theorem persSel_of_free {s : State} (v : Nat) (h3 : s.f Reg.TOP_STRAP_PERS = 3) (hd : s.flag Reg.TOP_PERS_SEL_DONE = false) :
    persSel v s = ((s.setF Reg.TOP_PERS_SEL_VALUE v).setF Reg.TOP_PERS_SEL_DONE 1).setF Reg.TOP_STATUS_PERSONALITY v := by
  simp [persSel, h3, hd]

theorem tck_rise {s : State} (tms tdi : Bool) (h : s.bring.trstN = true) : tck true tms tdi s = bringSet (tapRise tms tdi) s := by
  simp [tck, h]

/-- A falling TCK in Update-IR takes the instruction and shifts nothing out (R710). -/
theorem tck_fall_updateIr {s : State} (tms tdi : Bool) (h : s.bring.trstN = true) (ht : s.bring.tapState = 13) :
    tck false tms tdi s = bringSet (fun b => { b with tapIr := b.tapIn }) s := by
  simp [tck, h, bringSet, tapFall, ht]

theorem hifClockLoss_of_linkUp {s : State} (h : s.flag Reg.HIF_STATUS_LINK_UP = true) :
    hifClockLoss s =
      (let x := (s.setF Reg.TOP_PLL_STATUS_REF_HIF_OK 0).draw
       raise (fev FK.HIF_LINK_DOWN 0x0B 0 0) ((linkGone (retire (x.1 % 65) x.2)).incF Reg.HIF_CNT_LINK_DOWN 1)) := by
  have hup : (s.setF Reg.TOP_PLL_STATUS_REF_HIF_OK 0).flag Reg.HIF_STATUS_LINK_UP = true :=
    (flag_setF_apart _ _ (.inl (by decide))).trans h
  rw [hifClockLoss, linkLost_of_linkUp hup]

end Sys2Proof.Machine

namespace Sys2Proof.Proofs
open Sys2Proof.Machine

/-- Settles O15. -/
theorem countersComplete : Obligations.CountersComplete := by
  unfold Obligations.CountersComplete
  intro s m hheld hm
  have hany := anyMaster_of_regMaster hm
  refine ⟨fun hbusy => ?_, ?_, ?_, ?_, fun hh hbad => ?_, fun sn hsn => ?_, ?_⟩
  · exact reg_runs rfl hheld hany hm (by decide) (by decide) (snapNow_of_idle hbusy)
  · exact reg_runs rfl hheld hany hm (by decide) (by decide) rfl
  · exact reg_runs rfl hheld hany hm (by decide) (by decide) rfl
  · exact reg_runs rfl hheld hany hm (by decide) (by decide) rfl
  · refine commit_runs rfl hheld hany hm (by decide) ?_
    exact (groupCommit_of_free hh (pageGated_of_page (by decide))).trans (pmrCommit_of_none hbad)
  · exact dev_runs rfl hheld rfl rfl
  · have h := read_runs (key := Reg.PMR_CNT_SNAP_LOST.key) (c := .snapLostRead m) rfl hheld hany (masterReach_read_of_regMaster hm)
      (by decide) (by decide) (by decide)
    rwa [if_neg (ne_zero_of_regMaster hm)] at h

/-- Settles O16. -/
theorem faultsComplete : Obligations.FaultsComplete := by
  unfold Obligations.FaultsComplete
  intro s m hheld hm
  have hany := anyMaster_of_regMaster hm
  refine ⟨fun kind src sub addr access master hkind hsrc hsub haddr hacc hmas => ?_, fun msg r hq hz => ?_, ?_, ?_, ?_, fun hp => ?_,
    fun hp => ?_, fun hq hlt => ?_, fun hq heq => ?_, ?_, ?_, fun hh herr => ?_, fun ht hi => ?_, ?_, fun k hk hk34 => ?_⟩
  · exact dev_runs rfl hheld (by simp only [hkind, hsrc, hsub, haddr, hacc, hmas, decide_true, Bool.and_self]) rfl
  · exact dev_runs rfl hheld rfl (faultNotify_of_cons hq hz)
  · exact pin_runs rfl rfl (snuffInAssert_of_live hheld)
  · exact pin_runs rfl rfl rfl
  · exact reg_runs rfl hheld hany hm (by decide) (by decide) rfl
  · exact reg_runs rfl hheld hany hm (by decide) (by decide) (snuffClear_of_noPin ((requested_flag s (by decide)).trans hp))
  · exact reg_runs rfl hheld hany hm (by decide) (by decide) (snuffClear_of_pin ((requested_flag s (by decide)).trans hp))
  · exact dev_runs rfl hheld rfl (quietEnd_of_lt hq hlt)
  · exact dev_runs rfl hheld rfl (quietEnd_of_eq hq heq)
  · exact dev_runs rfl hheld rfl rfl
  · exact reg_runs rfl hheld hany hm (by decide) (by decide) rfl
  · refine commit_runs rfl hheld hany hm (by decide) ?_
    exact (groupCommit_of_free hh (pageGated_of_page (by decide))).trans (fltCommit_of_ok herr)
  · refine commit_runs rfl hheld hany hm (by decide) (injectArm_of_ok ((testEnable_requested s).trans ht) ?_)
    rwa [requested_f s (by decide), requested_f s (by decide), requested_f s (by decide)]
  · exact reg_runs rfl hheld hany hm (by decide) (by decide) rfl
  · refine pin_runs rfl rfl ?_
    rw [c4Hold, hk, if_neg (by omega)]

/-- Settles O17. -/
theorem resetsComplete : Obligations.ResetsComplete := by
  unfold Obligations.ResetsComplete
  intro s
  refine ⟨pin_runs rfl rfl rfl, pin_runs rfl rfl rfl, pin_runs rfl rfl rfl, pin_runs rfl rfl rfl, fun _ => pin_runs rfl rfl rfl,
    fun cause pers prio hcause h3 h4 hpers _ => ?_, fun m hm hheld => ?_⟩
  · exact pin_runs rfl (by simp [hcause, hpers]) (if_neg (by omega))
  · exact reg_runs_of_open rfl hheld (anyMaster_of_regMaster hm) hm rfl (pageGated_of_page (by decide)) (if_pos rfl)

/-- Settles O18. -/
theorem bringupComplete : Obligations.BringupComplete := by
  unfold Obligations.BringupComplete
  intro s
  refine ⟨pin_runs rfl rfl rfl, pin_runs rfl rfl rfl, pin_runs rfl rfl rfl, pin_runs rfl rfl rfl,
    ⟨pin_runs rfl rfl rfl, pin_runs rfl rfl rfl, pin_runs rfl rfl rfl⟩, fun hup => pin_runs rfl rfl (hifClockLoss_of_linkUp hup),
    fun hheld v hv hstrap hdone => ?_, fun hheld => ⟨?_, ?_⟩, fun hheld hon => ?_, fun r hr => ⟨?_, ?_⟩, fun _ => pin_runs rfl rfl rfl,
    fun tms tdi hn => ⟨?_, fun htap => ?_⟩⟩
  · have h3 : (requested s).f Reg.TOP_STRAP_PERS = 3 := (requested_f s (by decide)).trans hstrap
    have hd : (requested s).flag Reg.TOP_PERS_SEL_DONE = false := (requested_flag s (by decide)).trans hdone
    exact reg_runs_of_open rfl hheld (by simp [hv, anyMaster]) rfl (by simp [refusedWrite, h3, hd]) (pageGated_of_page (by decide))
      (persSel_of_free v h3 hd)
  · exact reg_runs_of_open rfl hheld rfl rfl rfl (pageGated_of_page (by decide)) rfl
  · exact reg_runs_of_open (f := watchdogKick) rfl hheld rfl rfl rfl (pageGated_of_page (by decide)) rfl
  · exact dev_runs rfl hheld rfl (if_neg (by simp [hon]))
  · exact pin_runs rfl (by simp [hr]) rfl
  · exact pin_runs rfl (by simp [hr]) rfl
  · exact pin_runs rfl rfl (tck_rise tms tdi hn)
  · exact pin_runs rfl rfl (tck_fall_updateIr tms tdi hn htap)

end Sys2Proof.Proofs

/-! Proofs about the time unit and the management ports (02_time.md, 15_dictionary.md): register commands, events, PTP and the ports. -/

namespace Sys2Proof.Machine

/-! ## The time unit's registers (R49, R54) -/

theorem stepValue_requested (s : State) : stepValue (requested s) = stepValue s := by
  simp [stepValue, State.sf64, State.sf, State.stgd]

theorem stepNowSched_of_ok {s : State} (h : (stepValue s).2 ≤ 999999999) :
    stepNowSched s = stepLate s.tb0 (loadTb0 (stepValue s) (s.commitRange 0x10024 0x10030)) := by
  rw [stepNowSched, stepNow, if_neg (by omega), commitStep]

theorem stepAtPps_of_ok {s : State} (h : (stepValue s).2 ≤ 999999999) :
    stepAtPps s = timeSet (fun t => { t with stepAtPps := some (stepValue s) }) (s.commitRange 0x10024 0x10030) := by
  rw [stepAtPps, if_neg (by omega), timeSet, commitStep, commitRange_time]

theorem stepAtPps_refused {s : State} (h : 999999999 < (stepValue s).2) : stepAtPps s = s.setF Reg.TIME_STATUS_STEP_REFUSED 1 := by
  rw [stepAtPps, if_pos h]

/-! ## Holdover (R53) -/

/-- A device that follows PPS_IN with QUALITY 1, 5 ns after its last holdover began. -/
def followingState : State :=
  let s := (State.reset.setF Reg.TIME_CTRL_SRC 2).setF Reg.TIME_STATUS_QUALITY 1
  { s with time := { s.time with holdNs := 5 } }

/-- What the statement says of a source that is lost in `followingState`. -/
def holdoverStated : State :=
  raise (fev FK.TIME_HOLDOVER 0x01 0 0) (timeSet (fun t => { t with goodUpdates := 0 }) (setQuality 3 followingState))

/-- The model keeps the nanoseconds of the second that TIME_HOLD_SEC counts. -/
theorem holdNs_holdoverTimeout : (finish followingState (holdoverTimeout followingState)).time.holdNs = 5 := by decide +kernel

theorem holdNs_holdoverStated : (finish followingState holdoverStated).time.holdNs = 0 := by decide +kernel

/-! ## PTP and the ports (R84, R86, R568) -/

/-- A frame received on a management port is counted before it is looked at. -/
abbrev portCounted (port : Nat) (s : State) : State := s.incF (Reg.MNET_CNT_RX port) 1

/-- MNET_CNT_RX is no word of a port's configuration or status, of PTP's, or of the time unit's. -/
theorem f_portCounted {F : Field} (port : Nat) (s : State) (h : (Reg.MNET_CNT_RX port).apart F) : (portCounted port s).f F = s.f F :=
  f_incF_apart s 1 h

theorem ptpTaken_portCounted (port via : Nat) (l : List Byte) (s : State) : ptpTaken via l (portCounted port s) = ptpTaken via l s := by
  have h : ∀ F : Field, F.key = 0x10040 → (portCounted port s).f F = s.f F := fun F hF =>
    f_portCounted port s (.inl (by simp only [hF, Reg.MNET_CNT_RX]; omega))
  simp only [ptpTaken, h Reg.PTP_CFG_DOMAIN_NUM rfl, h Reg.PTP_CFG_TRANSPORT rfl]

theorem ptpMessage_announce {s : State} {via : Nat} {l : List Byte} (hen : s.flag (Reg.MNET_PORT_CFG_EN (via % 2)) = true)
    (ht : ptpTaken via l s = true) (h11 : ptpType l = 11) : ptpMessage via l s = ptpAnnounce via l (portCounted (via % 2) s) := by
  have ht' := (ptpTaken_portCounted (via % 2) via l s).trans ht
  simp [ptpMessage, hen, ht', h11]

theorem ptpMessage_oneStep {s : State} {via : Nat} {l : List Byte} (hen : s.flag (Reg.MNET_PORT_CFG_EN (via % 2)) = true)
    (ht : ptpTaken via l s = true) (h0 : ptpType l = 0) (h1 : ptpTwoStep l = false) (hm : s.time.ptpMaster = some (via, ptpSource l)) :
    ptpMessage via l s = ptpSyncDone (timeSet (fun t => { t with
      ptpT2 := some (((portCounted (via % 2) s).tb0 : Int) - ptpCorrection l / 65536), ptpSyncSeq := ptpSeq l,
      ptpT1 := some (ptpStamp l) }) (portCounted (via % 2) s)) := by
  have ht' := (ptpTaken_portCounted (via % 2) via l s).trans ht
  simp [ptpMessage, hen, ht', h0, h1, hm]

/-- The transparent clock adds its residence to a one-step event message (R86). -/
theorem ptpForward_oneStep {s : State} {via residence : Nat} {l : List Byte} (hen : s.flag (Reg.MNET_PORT_CFG_EN (via % 2)) = true)
    (hf : portForwards (via % 2) s = true) (htc : s.flag Reg.PTP_CFG_TC_EN = true) (h0 : ptpType (l.drop (ptpAt via l)) = 0)
    (h1 : ptpTwoStep (l.drop (ptpAt via l)) = false) :
    ptpForward via residence l s =
      (portCounted (via % 2) s).emit (.ptp (1 - via % 2 + 2 * (via / 2)) (ptpAddTime via residence l)) := by
  have htc' : (portCounted (via % 2) s).flag Reg.PTP_CFG_TC_EN = true :=
    (flag_congr (f_portCounted _ s (.inl (by simp only [Reg.MNET_CNT_RX, Reg.PTP_CFG_TC_EN]; omega)))).trans htc
  simp [ptpForward, hen, hf, htc', h0, h1]

theorem managementPortLink_up {s : State} {port : Nat} (hen : s.flag (Reg.MNET_PORT_CFG_EN port) = true) :
    managementPortLink port true s =
      (s.setF (Reg.MNET_PORT_STATUS_LINK port) 1).setF (Reg.MNET_PORT_STATUS_SPEED port) (s.f (Reg.MNET_PORT_CFG_SPEED port)) := by
  simp [managementPortLink, hen]

theorem managementFrame_onward {s : State} {port : Nat} (inward : Bool) (l : List Byte)
    (hen : s.flag (Reg.MNET_PORT_CFG_EN port) = true) (hf : portForwards port s = true) :
    managementFrame port inward true l s = (portCounted port s).emit (.frame (1 - port) l) := by
  simp [managementFrame, hen, hf]

theorem dhcpMessage_lease {s : State} {port addr : Nat} (hen : s.flag (Reg.MNET_PORT_CFG_EN port) = true) (h0 : 0 < addr)
    (hon : objNat s 0x100001 1 = 1) : dhcpMessage port 5 addr s = setObj 0x100007 (leBytes 4 addr) (portCounted port s) := by
  have hon' : objNat (portCounted port s) 0x100001 1 = 1 := hon
  simp [dhcpMessage, hen, hon', Nat.pos_iff_ne_zero.1 h0]

theorem linkLocalFallback_free {s : State} (hon : objNat s 0x100001 1 = 1) (hno : objNat s 0x100007 0 = 0) :
    linkLocalFallback s = setObj 0x100007 (leBytes 4 (0xA9FE0100 + s.draw.1 % (254 * 256))) s.draw.2 := by
  simp [linkLocalFallback, hon, hno]

theorem announceTimeout_of_some {s : State} {via : Nat} {src : List Byte} (hm : s.time.ptpMaster = some (via, src)) :
    announceTimeout s =
      (timeSet (fun t => { t with ptpForeign := t.ptpForeign.filter (fun x => !(x.1 == via && x.2.2.2 == src)), ptpMaster := none,
                                  ptpT1 := none, ptpT2 := none, ptpT3 := none, ptpPathDelay := 0 }) s).setF
        Reg.TIME_STATUS_MASTER_SEEN 0 := by
  simp [announceTimeout, hm]

end Sys2Proof.Machine

namespace Sys2Proof.Proofs
open Sys2Proof.Machine

/-- Settles O23. -/
theorem timeRegistersComplete : Obligations.TimeRegistersComplete := by
  unfold Obligations.TimeRegistersComplete
  intro s m hheld hm
  have hany := anyMaster_of_regMaster hm
  have hv := stepValue_requested s
  refine ⟨fun w => ?_, ?_, fun hok => ⟨?_, ?_⟩, fun hbad => ?_, fun d hd hh => ?_⟩
  · exact reg_runs rfl hheld hany hm (by decide) (by decide) rfl
  · exact reg_runs rfl hheld hany hm (by decide) (by decide) rfl
  · exact commit_runs rfl hheld hany hm (by decide) (stepNowSched_of_ok (hv ▸ hok))
  · exact commit_runs rfl hheld hany hm (by decide) (stepAtPps_of_ok (hv ▸ hok))
  · exact commit_runs rfl hheld hany hm (by decide) (stepAtPps_refused (hv ▸ hbad))
  · have hblock : (16 + d) / 16 = 1 := by omega
    refine commit_runs rfl hheld (by simp [hany, hd]) hm (by decide) ?_
    rw [groupCommit_of_free hh (pageGated_of_page (by omega))]
    simp [hblock, Nat.mod_eq_of_lt (show d < 16 by omega)]

/-- Refutes O24 by its clause on the loss of a source: the change of QUALITY clears the nanoseconds that lead to the next count of
TIME_HOLD_SEC, and the statement keeps that; HOLDOVER_TIMEOUT of the model puts back what they were. -/
theorem not_timeEventsComplete : ¬ Obligations.TimeEventsComplete := by
  unfold Obligations.TimeEventsComplete
  intro h
  obtain ⟨-, -, hholdover, -⟩ := h followingState (by decide)
  have hstated : exec .holdoverTimeout followingState = .next (finish followingState holdoverStated) :=
    hholdover (by decide) (by decide)
  have hsame := congrArg (fun t => t.time.holdNs) (dev_ends rfl (by decide) rfl hstated)
  rw [holdNs_holdoverTimeout, holdNs_holdoverStated] at hsame
  exact absurd hsame (by decide)

/-- Settles O25. -/
theorem ptpCompletes : Obligations.PtpCompletes := by
  unfold Obligations.PtpCompletes
  intro s via l hheld hvia hlen hen
  refine ⟨fun ht h11 _ => ?_, fun ht h0 h1 hm => ?_, fun residence hres hmin hf htc => ⟨fun h2 h0 h1 => ?_, fun h2 h0 h1 => ?_⟩⟩
  · exact dev_runs rfl hheld (by simp [hvia, hlen]) (ptpMessage_announce hen ht h11)
  · exact dev_runs rfl hheld (by simp [hvia, hlen]) (ptpMessage_oneStep hen ht h0 h1 hm)
  · have hvia2 : via % 2 = via ∧ via / 2 = 0 := by omega
    have hat : ptpAt via l = 0 := by simp [ptpAt, hvia2]
    refine dev_runs rfl hheld (by simp only [hvia, hlen, hmin, hres, decide_true, Bool.and_self]) ?_
    rw [ptpForward_oneStep hen hf htc (by simpa [hat] using h0) (by simpa [hat] using h1)]
    simp [ptpAddTime, hat, hvia2]
  · have hvia2 : via / 2 = 1 ∧ 1 - via % 2 + 2 = 5 - via := by omega
    have hat : ptpAt via l = udpAt l + 8 := by simp [ptpAt, hvia2]
    refine dev_runs rfl hheld (by simp only [hvia, hlen, hmin, hres, decide_true, Bool.and_self]) ?_
    rw [ptpForward_oneStep hen hf htc (by simpa [hat] using h0) (by simpa [hat] using h1)]
    simp [ptpAddTime, hat, hvia2]

/-- Settles O26. -/
theorem portsComplete : Obligations.PortsComplete := by
  unfold Obligations.PortsComplete
  intro s port hheld hport hen
  refine ⟨?_, ?_, fun l inward hlen hf => ?_, fun addr h0 haddr hon => ?_, fun hon hno => ?_, fun via src hm => ⟨?_, ?_⟩⟩
  · exact dev_runs rfl hheld (by simp [hport]) (managementPortLink_up hen)
  · exact dev_runs rfl hheld (by simp [hport]) rfl
  · exact dev_runs rfl hheld (by simp [hport, hlen]) (managementFrame_onward inward l hen hf)
  · exact dev_runs rfl hheld (by simp only [hport, haddr, show 5 < 256 by decide, decide_true, Bool.and_self]) (dhcpMessage_lease hen h0 hon)
  · exact dev_runs rfl hheld rfl (linkLocalFallback_free hon hno)
  · exact dev_runs rfl hheld rfl rfl
  · exact dev_runs rfl hheld rfl (announceTimeout_of_some hm)

end Sys2Proof.Proofs

/-! Proofs about the pilot and the action scheduler (02_time.md, 18_pairs.md): what their commands do. -/

namespace Sys2Proof.Machine

/-! ## Digests that cross (R643) -/

/-- A beam's digest that takes no part in a comparison. -/
def quietDigest : Digest := { cause := 2, unit := 0, key := 0, value := 0, packets := 0, eligible := false }

/-- The partner's digest of the same interval has arrived before the unit's own is sent. -/
def crossedState : State :=
  { State.reset with pair := { State.reset.pair with sendQueue := [quietDigest], partner := [quietDigest] } }

/-- What the statement says of DIGEST_SEND in `crossedState`. -/
def digestSendStated : State :=
  sendPilot 3 (digestPayload quietDigest) (pairSet (fun p => { p with sendQueue := [] }) crossedState)

/-- Sending meets the partner's digest, which waits no longer. -/
theorem partner_digestSend : (finish crossedState (digestSend crossedState)).pair.partner = [] := by decide +kernel

theorem partner_digestSendStated : (finish crossedState digestSendStated).pair.partner = [quietDigest] := by decide +kernel

/-! ## Registers of a slot -/

theorem reg_raise_of_page {k : Nat} (e : FaultEv) (s : State) (he : e.kind < 4096) (hk : k / 0x10000 = 2 ∨ 0xC0000 ≤ k) : (raise e s).reg k = s.reg k :=
  (raise_faults e s he).2 k (by unfold faultPage; omega)

theorem reg_raiseOnce_of_page {k : Nat} (key : Nat) (e : FaultEv) (s : State) (he : e.kind < 4096) (hk : k / 0x10000 = 2 ∨ 0xC0000 ≤ k) :
    (raiseOnce key e s).reg k = s.reg k := by
  unfold raiseOnce
  split
  · rfl
  · exact reg_raise_of_page e _ he hk

/-- A completion record is written to the ring and to the block's own registers, never to a slot's or to a page above the host's. -/
theorem reg_writeRecord {k : Nat} (n status : Nat) (lead late : Bool) (executed : Nat) (s : State)
    (hk : 0x21000 ≤ k ∧ k < 0x28000 ∨ 0xC0000 ≤ k) :
    (writeRecord n status lead late executed s).reg k = s.reg k := by
  have hcount : ∀ (F : Field) (x : State) (v : Nat), F.key < 0x21000 → (x.setF F v).reg k = x.reg k := fun F x v hF =>
    reg_setF_ne x v (by omega)
  have hfill : ∀ x : State, (schedFill x).reg k = x.reg k := fun x =>
    (hcount Reg.SCHED_RING_STATUS_FULL _ _ (by decide)).trans (hcount Reg.SCHED_RING_STATUS_FILL _ _ (by decide))
  have hdone : (if status < 0x10 then s.incF Reg.SCHED_CNT_DONE 1 else s.incF Reg.SCHED_CNT_REJ 1).reg k = s.reg k := by
    split
    · exact hcount Reg.SCHED_CNT_DONE _ _ (by decide)
    · exact hcount Reg.SCHED_CNT_REJ _ _ (by decide)
  unfold writeRecord
  generalize (if status < 0x10 then s.incF Reg.SCHED_CNT_DONE 1 else s.incF Reg.SCHED_CNT_REJ 1) = x at hdone
  dsimp only
  split
  · refine (reg_raiseOnce_of_page _ _ _ (by decide : FK.SCHED_RING_FULL < 4096) (by omega)).trans ?_
    exact (hcount Reg.SCHED_RING_STATUS_LOST _ _ (by decide)).trans ((hcount Reg.SCHED_CNT_LOST _ _ (by decide)).trans hdone)
  · refine (hfill _).trans ?_
    refine (reg_setReg_ne _ _ (by simp only [Reg.HIF_INT_PEND]; omega)).trans ?_
    refine (hcount Reg.SCHED_RING_WR_WR _ _ (by decide)).trans ?_
    exact (reg_putWords_ne 8 _ _ (by simp only [Reg.SCHED_RING]; omega)).trans hdone

/-- Writing STATE leaves every other field. -/
theorem f_setSlotState {F : Field} (n st : Nat) (s : State) (h : (Reg.SLOT_CTRL_STATE n).apart F) : (setSlotState n st s).f F = s.f F :=
  f_setF_apart s st h

@[simp] theorem slotState_setSlotState {n st : Nat} (s : State) (h : st < 4) : slotState (setSlotState n st s) n = st := by
  change (s.setF (Reg.SLOT_CTRL_STATE n) st).f (Reg.SLOT_CTRL_STATE n) = st
  rw [f_setF_same s st (by simp only [Field.fits, Reg.SLOT_CTRL_STATE]; omega)]
  exact Nat.mod_eq_of_lt h

@[simp] theorem slotAct_setSlotState (n st m : Nat) (s : State) : slotAct (setSlotState n st s) m = slotAct s m :=
  f_setSlotState n st s (by simp only [Field.apart, Reg.SLOT_CTRL_STATE, Reg.SLOT_CTRL_ACTION]; omega)

@[simp] theorem slotTarget_setSlotState (n st m : Nat) (s : State) : slotTarget (setSlotState n st s) m = slotTarget s m :=
  f_setSlotState n st s (by simp only [Field.apart, Reg.SLOT_CTRL_STATE, Reg.SLOT_TARGET_TARGET]; omega)

/-- Jobs' states stand in another page than a slot of the scheduler. -/
theorem jobState_setSlotState {n : Nat} (st j : Nat) (s : State) (_hn : n < 256) : jobState (setSlotState n st s) j = jobState s j :=
  f_setSlotState n st s (by simp only [Field.apart, Reg.SLOT_CTRL_STATE, Reg.JOB_STATE_STATE]; omega)

/-- An occurrence that ends leaves its slot IDLE or ARMED, for the same action. -/
theorem endOccurrence_slot {n : Nat} (status executed : Nat) (s : State) (hn : n < 256) :
    slotState (endOccurrence n status executed s) n ≠ 2 ∧ slotAct (endOccurrence n status executed s) n = slotAct s n := by
  have hact : ∀ (st : Nat) (lead late : Bool) (r : SlotRun),
      slotAct (setSlotRun n r (setSlotState n st (writeRecord n status lead late executed s))) n = slotAct s n := fun st lead late r =>
    (slotAct_setSlotState n st n _).trans
      (f_of_reg (reg_writeRecord n status lead late executed s (by simp only [Reg.SLOT_CTRL_ACTION]; omega)))
  have hstate : ∀ (st : Nat) (r : SlotRun) (x : State), st < 2 → slotState (setSlotRun n r (setSlotState n st x)) n ≠ 2 := fun st r x h => by
    change slotState (setSlotState n st x) n ≠ 2
    rw [slotState_setSlotState x (by omega)]
    omega
  unfold endOccurrence
  dsimp only
  split
  · exact ⟨hstate 1 _ _ (by decide), hact _ _ _ _⟩
  · exact ⟨hstate 0 _ _ (by decide), hact _ _ _ _⟩

theorem slot_raise {n : Nat} (e : FaultEv) (s : State) (he : e.kind < 4096) (hn : n < 256) :
    slotState (raise e s) n = slotState s n ∧ slotAct (raise e s) n = slotAct s n :=
  ⟨f_of_reg (reg_raise_of_page e s he (by simp only [Reg.SLOT_CTRL_STATE]; omega)),
   f_of_reg (reg_raise_of_page e s he (by simp only [Reg.SLOT_CTRL_ACTION]; omega))⟩

/-! ## Delivery (R66, R71) -/

/-- What delivery does to an ARMED slot, when the action is neither a swap of the Candelabra's weights nor a boundary of an idle job. -/
theorem deliverNow_of_armed {s : State} {n : Nat} (hact : slotAct (slotDeliver n s) n ≠ 2)
    (hjob : ¬ (slotAct (slotDeliver n s) n = 1 ∧ slotState (slotDeliver n s) n = 2 ∧
      jobState (slotDeliver n s) (slotTarget (slotDeliver n s) n % 4) = 0)) :
    deliverNow n s = slotDeliver n s := by
  unfold deliverNow
  dsimp only
  rw [if_neg (by tauto), if_neg (by tauto)]

theorem slotDeliver_of_none {s : State} {n : Nat} (h1 : slotState s n = 1) (hp : targetP s n = none) :
    slotDeliver n s = setSlotState n 2 s := by
  simp [slotDeliver, h1, hp]

theorem slotDeliver_of_le {s : State} {n p : Nat} (h1 : slotState s n = 1) (hp : targetP s n = some p) (hle : p ≤ slotTrig s n) :
    slotDeliver n s = setSlotState n 2 s := by
  simp [slotDeliver, h1, hp, Nat.not_lt.2 hle]

theorem slotDeliver_of_late {s : State} {n p : Nat} (h1 : slotState s n = 1) (hp : targetP s n = some p) (hlt : slotTrig s n < p) :
    slotDeliver n s = slotTooLate n p s := by
  simp [slotDeliver, h1, hp, hlt]

/-- A slot becomes PENDING and awaits its count or time. -/
theorem deliverNow_pending {s : State} {n : Nat} (hn : n < 256) (hact : slotAct s n ≠ 2)
    (hjob : ¬ (slotAct s n = 1 ∧ jobState s (slotTarget s n % 4) = 0)) (hd : slotDeliver n s = setSlotState n 2 s) :
    deliverNow n s = setSlotState n 2 s := by
  rw [← hd]
  refine deliverNow_of_armed ?_ ?_ <;> rw [hd]
  · rwa [slotAct_setSlotState]
  · rw [slotAct_setSlotState, slotTarget_setSlotState, jobState_setSlotState _ _ _ hn]
    tauto

/-- A late occurrence keeps its slot's action, and leaves the slot not PENDING or its job as it was. -/
theorem slotTooLate_slot {n : Nat} (p : Nat) (s : State) (hn : n < 256) :
    slotAct (slotTooLate n p s) n = slotAct s n ∧ (slotState (slotTooLate n p s) n ≠ 2 ∨
      jobState (slotTooLate n p s) (slotTarget (slotTooLate n p s) n % 4) = jobState s (slotTarget s n % 4)) := by
  unfold slotTooLate
  split
  · obtain ⟨hstate, hact⟩ := endOccurrence_slot 0x10 0 s hn
    obtain ⟨hrs, hra⟩ := slot_raise (fev FK.SCHED_LATE 0x02 n (slotTrig s n)) (endOccurrence n 0x10 0 s) (by decide : FK.SCHED_LATE < 4096) hn
    exact ⟨hra.trans hact, .inl fun h => hstate (hrs.symm.trans h)⟩
  · refine ⟨slotAct_setSlotState n 2 n s, .inr ?_⟩
    change jobState (setSlotState n 2 s) (slotTarget (setSlotState n 2 s) n % 4) = _
    rw [slotTarget_setSlotState, jobState_setSlotState _ _ _ hn]

/-- A late occurrence is skipped, or moved to its next count (R65, R67). -/
theorem deliverNow_late {s : State} {n p : Nat} (hn : n < 256) (hact : slotAct s n ≠ 2)
    (hjob : ¬ (slotAct s n = 1 ∧ jobState s (slotTarget s n % 4) = 0)) (hd : slotDeliver n s = slotTooLate n p s) :
    deliverNow n s = slotTooLate n p s := by
  obtain ⟨hact', hstate'⟩ := slotTooLate_slot p s hn
  rw [← hd] at hact' hstate' ⊢
  refine deliverNow_of_armed (by rwa [hact']) ?_
  rintro ⟨h1, h2, h0⟩
  rcases hstate' with h | h
  · exact h h2
  · exact hjob ⟨hact'.symm.trans h1, h.symm.trans h0⟩

/-- A boundary of an idle job executes with its delivery. -/
theorem deliverNow_boundary {s : State} {n : Nat} (hn : n < 256) (h1 : slotState s n = 1) (hact : slotAct s n = 1)
    (hjob : jobState s (slotTarget s n % 4) = 0) (hp : targetP s n = none) :
    deliverNow n s = boundaryExec n false (setSlotState n 2 s) := by
  unfold deliverNow
  rw [slotDeliver_of_none h1 hp]
  simp [h1, hact, hjob, jobState_setSlotState _ _ _ hn]

/-! ## Arming and cancelling (R60, R61, R75) -/

/-- The slot with its written action and its committed words. -/
def slotFormed (n : Nat) (w : Word) (s : State) : State :=
  (s.setReg (Reg.SLOT_CTRL_ACTION n).key (BitVec.ofNat 32 (getBits w 12 0))).commitRange (0x21000 + 32 * n) (0x21020 + 32 * n)

/-- The slot ARMED. -/
def slotArmed (n : Nat) (short : Bool) (s : State) : State :=
  setSlotRun n { occ := 0, moved := none, leadShort := short, units := 0 } (setSlotState n 1 s)

theorem slotArm_of_long {s : State} {n : Nat} {w : Word} (h0 : slotState s n = 0) (hok : armOk (slotFormed n w s) n = true)
    (hlead : leadShort (slotFormed n w s) n = false) : slotArm n w s = slotArmed n false (slotFormed n w s) := by
  unfold slotArm
  rw [if_neg (by omega)]
  refine (if_pos hok).trans ?_
  change (if leadShort (slotFormed n w s) n then _ else slotArmed n (leadShort (slotFormed n w s) n) (slotFormed n w s)) = _
  rw [hlead]
  exact if_neg Bool.false_ne_true

theorem slotArm_of_short {s : State} {n : Nat} {w : Word} (h0 : slotState s n = 0) (hok : armOk (slotFormed n w s) n = true)
    (hlead : leadShort (slotFormed n w s) n = true) :
    slotArm n w s = raise (fev FK.SCHED_LEAD_SHORT 0x02 n (slotTrig0 (slotArmed n true (slotFormed n w s)) n))
      (slotArmed n true (slotFormed n w s)) := by
  unfold slotArm
  rw [if_neg (by omega)]
  refine (if_pos hok).trans ?_
  change (if leadShort (slotFormed n w s) n then
    raise (fev FK.SCHED_LEAD_SHORT 0x02 n (slotTrig0 (slotArmed n (leadShort (slotFormed n w s) n) (slotFormed n w s)) n))
      (slotArmed n (leadShort (slotFormed n w s) n) (slotFormed n w s)) else _) = _
  rw [hlead]
  exact if_pos rfl

theorem slotArm_of_bad {s : State} {n : Nat} {w : Word} (h0 : slotState s n = 0) (hbad : armOk (slotFormed n w s) n = false) :
    slotArm n w s = endInvalid n (slotFormed n w s) := by
  unfold slotArm
  rw [if_neg (by omega)]
  exact if_neg (by change ¬ armOk (slotFormed n w s) n = true; simp [hbad])

end Sys2Proof.Machine

namespace Sys2Proof.Proofs
open Sys2Proof.Machine

/-- Refutes O20 by its clause on DIGEST_SEND, which says nothing of the partner's digest of the same interval: where that waits, the model
takes it away, and the statement keeps it. -/
theorem not_pilotCompletes : ¬ Obligations.PilotCompletes := by
  unfold Obligations.PilotCompletes
  intro h
  obtain ⟨-, -, -, hsend, -⟩ := h crossedState (by decide)
  have hstated : exec .digestSend crossedState = .next (finish crossedState digestSendStated) := hsend quietDigest [] rfl rfl
  have hsame := congrArg (fun t => t.pair.partner) (dev_ends rfl (by decide) rfl hstated)
  rw [partner_digestSend, partner_digestSendStated] at hsame
  exact absurd hsame (by decide)

/-- Settles O21. -/
theorem slotsComplete : Obligations.SlotsComplete := by
  unfold Obligations.SlotsComplete
  intro s m n hheld hm hn
  have hok : (anyMaster m && decide (n < 256)) = true := by simp [anyMaster_of_regMaster hm, hn]
  have hkey : 0x101 ≤ 0x21000 + 32 * n := by omega
  have hpage : (0x21000 + 32 * n) / 0x10000 ≠ 0x0E ∧ (0x21000 + 32 * n) / 0x10000 ≠ 0x10 ∧ (0x21000 + 32 * n) / 0x10000 ≠ 0x11 ∧
      (0x21000 + 32 * n) / 0x10000 ≠ 0x12 := by omega
  refine ⟨fun w hw h0 => ?_, fun h0 => ?_, fun h1 hact hjob hp => ?_, fun h1 hact hjob => ⟨fun hp => ?_, fun p hp hle => ?_, fun p hp hlt => ?_⟩,
    fun hs => ?_, ?_⟩
  · have harm : (fun x : State => if w.getLsbD 25 then x else slotArm n w x) (requested s) = slotArm n w (requested s) :=
      if_neg (by rw [hw]; decide)
    refine ⟨fun harmed hlong => ?_, fun harmed hshort => ?_, fun hbad => ?_⟩
    · exact reg_runs rfl hheld hok hm hkey hpage (harm.trans (slotArm_of_long h0 harmed hlong))
    · exact reg_runs rfl hheld hok hm hkey hpage (harm.trans (slotArm_of_short h0 harmed hshort))
    · exact reg_runs rfl hheld hok hm hkey hpage (harm.trans (slotArm_of_bad h0 hbad))
  · exact reg_runs rfl hheld hok hm hkey hpage (if_neg h0)
  · exact dev_runs rfl hheld (by simp [hn]) (deliverNow_boundary hn h1 hact hjob hp)
  · exact dev_runs rfl hheld (by simp [hn]) (deliverNow_pending hn hact hjob (slotDeliver_of_none h1 hp))
  · exact dev_runs rfl hheld (by simp [hn]) (deliverNow_pending hn hact hjob (slotDeliver_of_le h1 hp hle))
  · exact dev_runs rfl hheld (by simp [hn]) (deliverNow_late hn hact hjob (slotDeliver_of_late h1 hp hlt))
  · exact dev_runs rfl hheld (by simp [hn]) (if_pos hs)
  · exact dev_runs rfl hheld rfl rfl

end Sys2Proof.Proofs

/-! Proofs about the actions of the scheduler (02_time.md): what a delivered occurrence does at its target. -/

namespace Sys2Proof.Machine

/-- A delivered occurrence that is due and first executes (R70, R76). -/
theorem actNow_of_due {act n : Nat} {f : State → State} {s : State} (h2 : slotState s n = 2) (ha : slotAct s n = act)
    (hd : actDue s n = true) (hf : firstOf (actDue s) s n = true) : actNow act n f s = f s :=
  if_pos ⟨h2, ha, hd, hf⟩

/-- An action at one lamp ends its occurrence there (R236, R242). -/
theorem lampActAt_of_single {k n : Nat} {s : State} (hat : lampAt s n k = true) (h1 : slotTarget s n ≠ 0x12FF) (h2 : slotTarget s n ≠ 0x90FF) :
    lampActAt k n s =
      endDone n false (if slotAct s n = 0x02 then lampSwapAtRead k s else lampEventIn k (slotArg s n) s) := by
  have hunit : (slotRun s n).units.testBit k = false := by
    unfold lampAt at hat
    simp only [Bool.and_eq_true, Bool.not_eq_true'] at hat
    exact hat.1.2
  have hall : (slotTarget s n == 0x12FF || slotTarget s n == 0x90FF) = false := by simp [h1, h2]
  simp [lampActAt, hat, lampActBy, hunit, hall]

theorem weightSwapSlot_of_delivered {n : Nat} {s : State} (h2 : slotState s n = 2) :
    weightSwapSlot n s = endDone n false (canSwapAt (slotDom s n - 1) (ceilDiv (slotWhen s n) (chanF s)) s) :=
  if_neg (by omega)

/-! ## Parameter sets (R547) -/

/-- The domain and the count at which an occurrence executes. -/
def occurrenceAt (s : State) (n : Nat) : Option (Nat × Nat) := if slotDom s n = 0 then none else some (slotDom s n - 1, slotWhen s n)

/-- The set of an occurrence is not ARMED. -/
theorem applySlot_of_unarmed {n : Nat} {s : State} (h2 : slotState s n = 2) (hp : (s.pset (slotTarget s n % 4)).state ≠ 2) :
    applySlot n false s = endDone n false s := by
  simp [applySlot, h2, hp]

theorem applySlot_of_pass {n : Nat} {s : State} (h2 : slotState s n = 2) (hp : (s.pset (slotTarget s n % 4)).state = 2)
    (hs : (s.pset (slotTarget s n % 4)).slot = n) (hok : applyFail (s.pset (slotTarget s n % 4)).shadow (occurrenceAt s n) s = none) :
    applySlot n false s = endDone n false (applySet (slotTarget s n % 4) (s.pset (slotTarget s n % 4)).shadow (occurrenceAt s n) n
      (slotWhen s n) true 2 0 s) := by
  unfold occurrenceAt at hok ⊢
  simp [applySlot, h2, hp, hs, hok]

theorem applySlot_of_fail {n : Nat} {s : State} {why : ApplyFail} (h2 : slotState s n = 2)
    (hp : (s.pset (slotTarget s n % 4)).state = 2) (hs : (s.pset (slotTarget s n % 4)).slot = n)
    (hbad : applyFail (s.pset (slotTarget s n % 4)).shadow (occurrenceAt s n) s = some why) :
    applySlot n false s = endDone n false (applyReject (slotTarget s n % 4) why n (slotWhen s n) true 2 0) := by
  unfold occurrenceAt at hbad
  simp [applySlot, h2, hp, hs, hbad]

/-! ## Delays, beacons and trims (R80, R179, R645) -/

theorem delayStep_all {n : Nat} {s : State} (ht : slotTarget s n = 0x30FF) :
    delayStep n false s = endDone n false ((lensIns s).foldl (fun x i => stepDelay (slotArg x n) (slotWhen s n) i x) s) := by
  simp [delayStep, ht]

theorem beaconSlot_of_enabled {n : Nat} {s : State} (hen : s.flag (Reg.BEACON_CFG_EN (slotTarget s n % 4)) = true)
    (hs : s.snuffed = false) :
    beaconSlot n false s = endDone n false
      { s with time := { s.time with beaconActive := s.time.beaconActive ||| 2 ^ (slotTarget s n % 4) } } := by
  simp [beaconSlot, hen, hs]

theorem trimSlot_of_active {n : Nat} {s : State} (hp : pairState s = 3) :
    trimSlot n false s = endDone n false (pairSet (fun p =>
      { p with trimAt := some (ceilDiv (slotWhen s n) (chanF s)), trimDomain := slotDom s n - 1, trimHold := false })
      (s.setF Reg.PAIR_STATUS_TRIM_PENDING 1)) := by
  simp [trimSlot, hp]

end Sys2Proof.Machine

namespace Sys2Proof.Proofs
open Sys2Proof.Machine

/-- Settles O22: each command's action runs where it is due, and each action ends its occurrence. -/
theorem actionsComplete : Obligations.ActionsComplete := by
  unfold Obligations.ActionsComplete
  intro s n hheld hn h2 hd hf
  have hok : decide (n < 256) = true := by simp [hn]
  refine ⟨fun ha => ?_, fun ha ht => ?_, fun ha ht => ?_, fun k hk ha ht hat => ?_, fun ha hp => ?_, ?_, fun ha ht => ?_,
    fun ha hen hs => ?_, fun ha => ?_, fun ha => ?_, fun ha => ?_, fun ha => ?_, fun ha hp => ?_, fun k hk ha ht hat => ?_⟩
  · exact dev_runs rfl hheld hok (actNow_of_due h2 ha hd hf)
  · exact dev_runs rfl hheld hok ((actNow_of_due h2 ha hd hf).trans (if_pos ht))
  · exact dev_runs rfl hheld hok ((actNow_of_due h2 ha hd hf).trans ((if_pos ht).trans (weightSwapSlot_of_delivered h2)))
  · refine dev_runs rfl hheld (by simp [hn, hk]) ((actNow_of_due h2 ha hd hf).trans ?_)
    exact (lampActAt_of_single hat (by omega) (by omega)).trans (congrArg _ (if_pos ha))
  · exact dev_runs rfl hheld hok ((actNow_of_due h2 ha hd hf).trans (applySlot_of_unarmed h2 hp))
  · intro k count ha hp hs
    refine ⟨fun hpass => ?_, fun why hfail => ?_⟩
    · exact dev_runs rfl hheld hok ((actNow_of_due h2 ha hd hf).trans (applySlot_of_pass h2 hp hs hpass))
    · exact dev_runs rfl hheld hok ((actNow_of_due h2 ha hd hf).trans (applySlot_of_fail h2 hp hs hfail))
  · exact dev_runs rfl hheld hok ((actNow_of_due h2 ha hd hf).trans (delayStep_all ht))
  · exact dev_runs rfl hheld hok ((actNow_of_due h2 ha hd hf).trans (beaconSlot_of_enabled hen hs))
  · exact dev_runs rfl hheld hok (actNow_of_due h2 ha hd hf)
  · exact dev_runs rfl hheld hok (actNow_of_due h2 ha hd hf)
  · exact dev_runs rfl hheld hok (actNow_of_due h2 ha hd hf)
  · exact dev_runs rfl hheld hok (actNow_of_due h2 ha hd hf)
  · exact dev_runs rfl hheld hok ((actNow_of_due h2 ha hd hf).trans (trimSlot_of_active hp))
  · refine dev_runs rfl hheld (by simp [hn, hk]) ((actNow_of_due h2 ha hd hf).trans ?_)
    exact (lampActAt_of_single hat (by omega) (by omega)).trans (congrArg _ (if_neg (by omega)))

end Sys2Proof.Proofs

/-! Proofs about the lamps' instructions (05_lamps.md, 06_lamp_isa.md): what each instruction puts in flight or changes at once. -/

namespace Sys2Proof.Machine

/-! ## Issue -/

/-- An instruction other than halt, issued on a RUNNING lamp where it is legal. -/
theorem lamp_runs {c : Instr} {ok : Bool} {n err : Nat} {op : LampOp} {tgt : Option Nat} {s t : State}
    (hc : exec c = dev ok (lampIssue n op err)) (hheld : held s = false) (hh : op ≠ .halt)
    (htgt : branchTarget ((lampIssued n s).lamp n) (lampPc (lampIssued n s) n) op = tgt)
    (hx : lampExec n op err (lampIssued n s) = t) (hok : ok = true := by simp only [*, decide_true, Bool.and_self]) :
    lampReady n op s → exec c s = .next (finish s (lampGoesOn n op tgt (lampIssued n s) t)) := fun hr =>
  dev_runs hc hheld hok (by rw [lampIssue_ready hr hh, htgt, hx])

/-! ## Halting (R245) -/

theorem lampState_apart_cause (n : Nat) : (Reg.LMP_STATE_CAUSE n).apart (Reg.LMP_STATE_STATE n) := by
  simp only [Field.apart, Reg.LMP_STATE_STATE, Reg.LMP_STATE_CAUSE]
  omega

theorem lampState_setLampState (n cause : Nat) (s : State) : lampState (setLampState n 0 cause s) n = 0 := by
  rw [lampState, setLampState, f_setF_apart _ _ (lampState_apart_cause n),
    f_setF_same _ _ (by simp only [Field.fits, Reg.LMP_STATE_STATE]; omega), Nat.zero_mod]

theorem lampState_setLamp (n m : Nat) (l : Lamp) (s : State) : lampState (s.setLamp n l) m = lampState s m :=
  f_congr (State.setLamp_regs s n l) _

/-- A lamp that has halted stands HALTED whatever its cause. -/
theorem lampRunning_lampHaltNow (n cause : Nat) (s : State) : lampRunning (lampHaltNow n cause s) n = false := by
  rw [lampRunning, lampHaltNow, lampState_setLamp, lampState_setLampState]
  rfl

theorem haltCheck_of_halted {n : Nat} {s : State} (h : lampRunning s n = false) : haltCheck n s = s :=
  if_neg (by simp [h])

/-- A HALT instruction halts its lamp at the next address (R217). -/
theorem lampIssue_halt {n : Nat} {s : State} (h : lampReady n .halt s) :
    lampIssue n .halt 0 s = (lampHaltNow n 3 (lampIssued n s)).setF (Reg.LMP_PC n) (lampPc (lampIssued n s) n + 1) := by
  obtain ⟨hrun, hlegal⟩ := h
  have hcore : issueCore n .halt 0 s = (lampHaltNow n 3 (lampIssued n s)).setF (Reg.LMP_PC n) (lampPc (lampIssued n s) n + 1) := by
    rw [issueCore, lampIssued_pc]
    exact (if_neg (by rw [hlegal]; decide)).trans (if_pos rfl)
  rw [lampIssue, if_pos hrun, hcore]
  refine haltCheck_of_halted ?_
  have hstate : lampState ((lampHaltNow n 3 (lampIssued n s)).setF (Reg.LMP_PC n) (lampPc (lampIssued n s) n + 1)) n =
      lampState (lampHaltNow n 3 (lampIssued n s)) n :=
    f_setF_apart _ _ (by simp only [Field.apart, Reg.LMP_STATE_STATE, Reg.LMP_PC]; omega)
  rw [lampRunning, hstate]
  exact lampRunning_lampHaltNow n 3 _

/-! ## Results in flight -/

theorem putS_eq_flies {n d v : Nat} (s : State) (h : v < 2 ^ 36) :
    putS n d v s = lampFlies n [{ delay := 1, dest := .sreg d v, sat := false }] s := by
  rw [putS, Nat.mod_eq_of_lt h, updLamp_fly]

/-- The flags that a scalar result sets (R255). -/
def flagFlight (v : Nat) (c o : Bool) : Flight :=
  { delay := 1, dest := .flags (b2n (v == 0) + 2 * b2n (v.testBit 35) + 4 * b2n c + 8 * b2n o), sat := false }

/-- A scalar result of 36 bits with its flags. -/
def resultFlights (d v : Nat) (c o : Bool) : List Flight := [{ delay := 1, dest := .sreg d v, sat := false }, flagFlight v c o]

theorem putFlags_eq_flies {n v : Nat} (c o : Bool) (s : State) (h : v < 2 ^ 36) :
    putFlags n v c o s = lampFlies n [flagFlight v c o] s := by
  rw [putFlags, Nat.mod_eq_of_lt h, updLamp_fly, flagFlight]

theorem putResult_eq_flies {n d v : Nat} (c o : Bool) (s : State) (h : v < 2 ^ 36) :
    putFlags n v c o (putS n d v s) = lampFlies n (resultFlights d v c o) s := by
  rw [putFlags_eq_flies c o _ h, putS_eq_flies s h, lampFlies_lampFlies _ _ _ _ (by simp) (by simp)]
  rfl

theorem addFlags_eq_flies (n d p q : Nat) (s : State) :
    addFlags n d p q s =
      lampFlies n (resultFlights d ((p + q) % 2 ^ 36) (decide (2 ^ 36 ≤ p + q)) (outS 36 (sext 36 p + sext 36 q))) s :=
  putResult_eq_flies _ _ s (Nat.mod_lt _ (by decide))

theorem subFlags_some_eq_flies (n d p q : Nat) (s : State) :
    subFlags n (some d) p q s =
      lampFlies n (resultFlights d ((p + 2 ^ 36 - q) % 2 ^ 36) (decide (q ≤ p)) (outS 36 (sext 36 p - sext 36 q))) s :=
  putResult_eq_flies _ _ s (Nat.mod_lt _ (by decide))

theorem subFlags_none_eq_flies (n p q : Nat) (s : State) :
    subFlags n none p q s = lampFlies n [flagFlight ((p + 2 ^ 36 - q) % 2 ^ 36) (decide (q ≤ p)) (outS 36 (sext 36 p - sext 36 q))] s :=
  putFlags_eq_flies _ _ s (Nat.mod_lt _ (by decide))

theorem wrap_lt (w : Nat) (i : Int) : wrap w i < 2 ^ w := (BitVec.ofInt w i).isLt

end Sys2Proof.Machine

namespace Sys2Proof.Proofs
open Sys2Proof.Machine

/-- Settles O28. -/
theorem lampControlFlowCompletes : Obligations.LampControlFlowCompletes := by
  unfold Obligations.LampControlFlowCompletes
  intro s n hheld hn
  have hn' : decide (n < 64) = true := by simp [hn]
  refine ⟨?_, fun hr => ?_, fun cnd tgt hcnd htgt => ?_, fun tgt htgt => ?_, fun cnd a hcnd ha => ?_, ?_, fun k e c hk he hc => ?_,
    fun k e a hk he ha => ?_⟩
  · exact lamp_runs rfl hheld (by decide) rfl rfl
  · exact dev_runs rfl hheld hn' (lampIssue_halt hr)
  · exact lamp_runs rfl hheld nofun rfl rfl
  · exact lamp_runs rfl hheld nofun rfl (putS_eq_flies _ (by omega))
  · exact lamp_runs rfl hheld nofun rfl rfl
  · exact lamp_runs rfl hheld nofun rfl rfl
  · exact lamp_runs rfl hheld nofun rfl rfl
  · exact lamp_runs rfl hheld nofun rfl rfl

/-- Settles O29: each instruction's results are below 2^36, so what is put in flight is what is stated. -/
theorem lampScalarCompletes : Obligations.LampScalarCompletes := by
  unfold Obligations.LampScalarCompletes
  intro s n hheld hn
  have h36 : ∀ v : Nat, v % 2 ^ 36 < 2 ^ 36 := fun v => Nat.mod_lt v (by decide)
  refine ⟨fun d a b hd ha hb => ⟨?_, ?_⟩, fun a b ha hb => ?_, fun a imm ha himm => ?_, fun d a b hd ha hb hsa hsb => ⟨?_, ?_, ?_⟩,
    fun d a k hd ha hk hsa => ⟨?_, ?_, ?_⟩, fun d a imm hd ha himm => ⟨?_, ?_, ?_⟩, fun d a k hd ha hk => ⟨?_, ?_⟩,
    fun d ac sh f hd hac hsh hf => ?_, fun d ac k f hd hac hk hf => ?_, fun a ha hroom => ?_, fun p imm hp himm => ⟨?_, ?_⟩,
    fun p q hp hq => ⟨?_, ?_, ?_⟩, fun p imm hp himm => ⟨?_, ?_⟩, fun d sp hd hsp hro => ?_, fun d sp hd hsp => ?_⟩
  · exact lamp_runs rfl hheld nofun rfl (addFlags_eq_flies n d _ _ _)
  · exact lamp_runs rfl hheld nofun rfl (subFlags_some_eq_flies n d _ _ _)
  · exact lamp_runs rfl hheld nofun rfl (subFlags_none_eq_flies n _ _ _)
  · exact lamp_runs rfl hheld nofun rfl (subFlags_none_eq_flies n _ _ _)
  · exact lamp_runs rfl hheld nofun rfl
      (putResult_eq_flies _ _ _ (Nat.and_lt_two_pow _ hsb))
  · exact lamp_runs rfl hheld nofun rfl
      (putResult_eq_flies _ _ _ (Nat.or_lt_two_pow hsa hsb))
  · exact lamp_runs rfl hheld nofun rfl
      (putResult_eq_flies _ _ _ (Nat.xor_lt_two_pow hsa hsb))
  · exact lamp_runs rfl hheld nofun rfl
      (putResult_eq_flies _ _ _ (h36 _))
  · exact lamp_runs rfl hheld nofun rfl
      (putResult_eq_flies _ _ _ (wrap_lt 36 _))
  · exact lamp_runs rfl hheld nofun rfl
      (putResult_eq_flies _ _ _ (lt_of_le_of_lt (Nat.div_le_self _ _) hsa))
  · exact lamp_runs rfl hheld nofun rfl (addFlags_eq_flies n d _ _ _)
  · exact lamp_runs rfl hheld nofun rfl (putS_eq_flies _ (wrap_lt 36 _))
  · exact lamp_runs rfl hheld nofun rfl (putS_eq_flies _ (by omega))
  · exact lamp_runs rfl hheld nofun rfl (putS_eq_flies _ (wrap_lt 36 _))
  · exact lamp_runs rfl hheld nofun rfl rfl
  · exact lamp_runs rfl hheld nofun rfl rfl
  · exact lamp_runs rfl hheld nofun rfl rfl
  · exact lamp_runs rfl hheld nofun rfl (if_pos hroom)
  · exact lamp_runs rfl hheld nofun rfl rfl
  · exact lamp_runs rfl hheld nofun rfl rfl
  · exact lamp_runs rfl hheld nofun rfl rfl
  · exact lamp_runs rfl hheld nofun rfl rfl
  · exact lamp_runs rfl hheld nofun rfl rfl
  · exact lamp_runs rfl hheld nofun rfl rfl
  · exact lamp_runs rfl hheld nofun rfl rfl
  · exact lamp_runs rfl hheld nofun rfl (if_neg (by simp [hro]))
  · exact lamp_runs rfl hheld nofun rfl rfl

end Sys2Proof.Proofs

/-! Proofs about the lamps' memory and vector instructions (05_lamps.md, 06_lamp_isa.md). -/

namespace Sys2Proof.Machine

/-- A fetch that is aligned and finds the fetch unit free starts its job (R273). -/
theorem fetchStart_free {n a b aa rows dir pk : Nat} {s : State} (ha : (s.lamp n).s a % 4 = 0) (hf : (s.lamp n).fetchJob = none) :
    fetchStart n a b aa rows dir pk s =
      s.setLamp n { (s.lamp n).setSp 0x5A 0 with
        fetchJob := some { bus := (s.lamp n).s b % 2 ^ 12 * 2 ^ 36 + (s.lamp n).s a, row := (s.lamp n).a aa % 2 ^ 17 / 16,
                           rows := if rows = 0 then 64 else rows, toBus := dir == 1, p9 := pk == 1 } } := by
  have halign : ¬ ((((s.lamp n).s b % 2 ^ 12 * 2 ^ 36 + (s.lamp n).s a) % 4 ≠ 0) ∨ (s.lamp n).fetchJob.isSome = true) := by
    simp only [hf, Option.isSome_none, Bool.false_eq_true, or_false, ne_eq, not_not]
    omega
  exact if_neg halign

/-! ## Vectors in flight (R252 to R254, R261) -/

/-- Lanes of 18 bits, saturated. -/
def laneFlight (delay d : Nat) (v : List Int) : Flight :=
  { delay := delay, dest := .vreg d (v.map fun y => wrap 18 (satS 18 y)), sat := v.any (outS 18) }

/-- Accumulator lanes of 48 bits, saturated. -/
def accFlight (ac : Nat) (v : List Int) : Flight :=
  { delay := 2, dest := .acc ac (v.map fun y => wrap 48 (satS 48 y)), sat := v.any (outS 48) }

theorem putV_eq_flies (n d : Nat) (v : List Int) (s : State) : putV n d v s = lampFlies n [laneFlight 1 d v] s := rfl

theorem lampExec_mul (n err d a b sh cj : Nat) (s : State) :
    lampExec n (.mul d a b sh cj) err s = lampFlies n [laneFlight 2 d
      ((productLanes (s.lamp n).cmplx cj ((s.lamp n).vInts a) ((s.lamp n).vInts b)).map fun y => roundEven y sh)] s := rfl

theorem lampExec_rnd (n err d ac sh : Nat) (s : State) :
    lampExec n (.rnd d ac sh) err s =
      lampFlies n [laneFlight 1 d (((s.lamp n).accLanes ac).map fun v => roundEven (sext 48 v) sh)] s := rfl

theorem lampExec_mpy (n err ac a b cj : Nat) (s : State) :
    lampExec n (.mpy ac a b cj) err s =
      lampFlies n [accFlight ac (productLanes (s.lamp n).cmplx cj ((s.lamp n).vInts a) ((s.lamp n).vInts b))] s := rfl

/-- What an accumulator holds, as far as the results in flight have reached it, with terms added (R261). -/
def accPlus (l : Lamp) (ac : Nat) (terms : List Int) : List Int := (List.range 16).map fun j => (l.accIn ac).getD j 0 + terms.getD j 0

theorem lampExec_mac (n err ac a b cj : Nat) (s : State) :
    lampExec n (.mac ac a b cj) err s =
      lampFlies n [accFlight ac (accPlus (s.lamp n) ac (productLanes (s.lamp n).cmplx cj ((s.lamp n).vInts a) ((s.lamp n).vInts b)))] s := rfl

theorem lampExec_msu (n err ac a b cj : Nat) (s : State) :
    lampExec n (.msu ac a b cj) err s =
      lampFlies n [accFlight ac (accPlus (s.lamp n) ac
        ((productLanes (s.lamp n).cmplx cj ((s.lamp n).vInts a) ((s.lamp n).vInts b)).map fun y => -y))] s := rfl

theorem lampExec_pwr (n err ac a : Nat) (s : State) :
    lampExec n (.pwr ac a) err s = lampFlies n [accFlight ac (accPlus (s.lamp n) ac (pwrTerms (s.lamp n) a))] s := rfl

/-! ## The memory check of an access (R214) -/

theorem SameButFaults.lmp {s t : State} (h : SameButFaults s t) : t.lmp = s.lmp := by
  obtain ⟨⟨_, _, _, _, _, _, _, _, rfl⟩, -⟩ := h
  rfl

theorem injectCheck_lmp (src sub chk : Nat) (s : State) : (injectCheck src sub chk s).2.lmp = s.lmp := by
  unfold injectCheck
  split
  · rfl
  · split
    · dsimp only
      split <;> rfl
    · rfl

/-- An access that does not halt its lamp leaves the lamps as they are. -/
theorem lampGroupEcc_lmp {n chk w err : Nat} {s : State} (h : (lampGroupEcc n chk w err s).1 = false) :
    (lampGroupEcc n chk w err s).2.lmp = s.lmp := by
  have hcheck : (lampCheck n chk err s).2.lmp = s.lmp := injectCheck_lmp _ _ _ s
  unfold lampGroupEcc at h ⊢
  generalize lampCheck n chk err s = r at h hcheck ⊢
  obtain ⟨⟨e, inj⟩, x⟩ := r
  dsimp only at h hcheck ⊢
  split at h
  · next h1 =>
    rw [if_pos h1]
    exact (raise_faults _ _ (by decide : FK.LMP_MEM_CE < 4096)).lmp.trans hcheck
  · next h1 =>
    split at h
    · exact Bool.noConfusion h
    · next h2 =>
      rw [if_neg h1, if_neg h2]
      exact hcheck

theorem lampEcc_lmp {n chk w err : Nat} {row : Bool} {s : State} (h : (lampEcc n chk row w err s).1 = false) :
    (lampEcc n chk row w err s).2.lmp = s.lmp := by
  let step (a : Bool × State) (g : Nat × Nat) : Bool × State :=
    (a.1 || (lampGroupEcc n chk g.1 (errDigit err g.2) a.2).1, (lampGroupEcc n chk g.1 (errDigit err g.2) a.2).2)
  have hfold : ∀ (l : List (Nat × Nat)) (a : Bool × State), (l.foldl step a).1 = false →
      a.1 = false ∧ (l.foldl step a).2.lmp = a.2.lmp := by
    intro l
    induction l with
    | nil => exact fun a ha => ⟨ha, rfl⟩
    | cons g l ih =>
      intro a ha
      obtain ⟨hor, hrest⟩ := ih (step a g) ha
      obtain ⟨ha1, hg⟩ := Bool.or_eq_false_iff.1 hor
      exact ⟨ha1, hrest.trans (lampGroupEcc_lmp hg)⟩
  exact (hfold _ (false, s) h).2

/-- What follows a check sees the lamps as they were before it. -/
theorem withCheck_congr {n chk w err : Nat} {row : Bool} {f g : State → State} {s : State} (h : ∀ y : State, y.lmp = s.lmp → f y = g y) :
    withCheck n chk row w err f s = withCheck n chk row w err g s := by
  unfold withCheck
  cases hr : (lampEcc n chk row w err s).1 with
  | true => simp only [hr, if_true]
  | false => simpa only [hr, Bool.false_eq_true, if_false] using h _ (lampEcc_lmp hr)

/-- TAP multiplies the row it reads, and writes it one row on (R261). -/
theorem lampExec_tap (n err ac d : Nat) (o : MemOp) (s : State) :
    lampExec n (.tap ac d o) err s =
      withCheck n 0 true ((s.lamp n).ea o % 2 ^ 17) err (fun y =>
        y.setLamp n ((((y.lamp n).accumulate ac (productLanes (s.lamp n).cmplx 0 ((dataRow y n ((s.lamp n).ea o)).map fun v => sext 18 v)
          ((s.lamp n).vInts d))).fly 2
          (.words ((dataRow y n ((s.lamp n).ea o)).mapIdx fun j v => (((s.lamp n).ea o + 16) % 2 ^ 17 / 16 * 16 + j, v))) false).modify o)) s := by
  rw [lampExec]
  refine withCheck_congr fun y hy => ?_
  have hl : s.lamp n = y.lamp n := by rw [State.lamp, State.lamp, hy]
  rw [hl, updLamp]

end Sys2Proof.Machine

namespace Sys2Proof.Proofs
open Sys2Proof.Machine

/-- Settles O30. -/
theorem lampMemoryCompletes : Obligations.LampMemoryCompletes := by
  unfold Obligations.LampMemoryCompletes
  intro s n d aa mm pm off err hheld hn hd haa hmm hpm hoff
  refine ⟨?_, ?_, ?_, ?_, ?_, ?_, ?_, ?_, ⟨?_, ?_⟩, ?_, fun sh cj hsh hcj => ?_, fun ac hac hoff' => ?_, ?_, ?_,
    fun a b rows dir pk ha hb hrows hdir hpk halign hfree => ?_⟩
  · exact lamp_runs rfl hheld nofun rfl rfl
  · exact lamp_runs rfl hheld nofun rfl rfl
  · exact lamp_runs rfl hheld nofun rfl rfl
  · exact lamp_runs rfl hheld nofun rfl rfl
  · exact lamp_runs rfl hheld nofun rfl rfl
  · exact lamp_runs rfl hheld nofun rfl rfl
  · exact lamp_runs rfl hheld nofun rfl rfl
  · exact lamp_runs rfl hheld nofun rfl rfl
  · exact lamp_runs rfl hheld nofun rfl rfl
  · exact lamp_runs rfl hheld (by decide) rfl rfl
  · exact lamp_runs rfl hheld nofun rfl rfl
  · exact lamp_runs rfl hheld nofun rfl rfl
  · exact lamp_runs rfl hheld nofun rfl (lampExec_tap n err ac d _ _)
  · exact lamp_runs rfl hheld nofun rfl rfl
  · exact lamp_runs rfl hheld (by decide) rfl rfl
  · exact lamp_runs rfl hheld nofun rfl (fetchStart_free halign hfree)

/-- Settles O31. -/
theorem lampVectorCompletes : Obligations.LampVectorCompletes := by
  unfold Obligations.LampVectorCompletes
  intro s n d a b ac sh cj hheld hn hd ha hb hac hsh hcj
  refine ⟨?_, ?_, ?_, ?_, ?_, ?_, ?_, fun r hr => ?_, ?_, ?_, ?_, ?_, ?_, ?_, ?_, ?_⟩
  · exact lamp_runs rfl hheld nofun rfl (putV_eq_flies n d _ _)
  · exact lamp_runs rfl hheld nofun rfl (putV_eq_flies n d _ _)
  · exact lamp_runs rfl hheld nofun rfl (putV_eq_flies n d _ _)
  · exact lamp_runs rfl hheld nofun rfl (putV_eq_flies n d _ _)
  · exact lamp_runs rfl hheld nofun rfl rfl
  · exact lamp_runs rfl hheld nofun rfl rfl
  · exact lamp_runs rfl hheld nofun rfl rfl
  · exact lamp_runs rfl hheld nofun rfl (putV_eq_flies n d _ _)
  · exact lamp_runs rfl hheld nofun rfl (putV_eq_flies n d _ _)
  · exact lamp_runs rfl hheld nofun rfl rfl
  · exact lamp_runs rfl hheld nofun rfl (lampExec_mul n 0 d a b sh cj _)
  · exact lamp_runs rfl hheld nofun rfl (lampExec_mpy n 0 ac a b cj _)
  · exact lamp_runs rfl hheld nofun rfl (lampExec_mac n 0 ac a b cj _)
  · exact lamp_runs rfl hheld nofun rfl (lampExec_msu n 0 ac a b cj _)
  · exact lamp_runs rfl hheld nofun rfl (lampExec_pwr n 0 ac a _)
  · exact lamp_runs rfl hheld nofun rfl (lampExec_rnd n 0 d ac sh _)

end Sys2Proof.Proofs

/-! Proofs about a lamp's page and its ports (05_lamps.md): run control, interrupts, the timer, the outbox and SOUT. -/

namespace Sys2Proof.Machine

/-! ## The lamp's clocks and ports -/

/-- A TIMER that runs out counts what it showed into CYCLE. -/
theorem clock_timer (l : Lamp) (h : l.sp 0x56 ≠ 0) :
    l.clock (l.sp 0x56) = { l.setSp 0x56 0 with timerPend := true, cycleOff := (l.cycleOff + l.sp 0x56) % 2 ^ 36 } := by
  simp [Lamp.clock, Lamp.timer, h]

theorem lampTimerExpiry_of_running {n : Nat} {s : State} (h : (s.lamp n).sp 0x56 ≠ 0) :
    lampTimerExpiry n s = updLamp n (fun l => { l.setSp 0x56 0 with
      timerPend := true, cycleOff := (l.cycleOff + l.sp 0x56) % 2 ^ 36 }) s := by
  rw [lampTimerExpiry, if_neg h, updLamp, updLamp, clock_timer _ h]

/-- An interrupt enters at a boundary where it is enabled (R223 to R226). -/
theorem lampInterrupt_enters {n : Nat} {s : State} (hrun : lampRunning s n = true) (hen : (lampAtBoundary n s).statusBit 0 = true)
    (hpend : (lampAtBoundary n s).intPend &&& (lampAtBoundary n s).sp 0x44 ≠ 0) (hint : (lampAtBoundary n s).interruptible = true)
    (hreti : (lampAtBoundary n s).afterReti = false) :
    lampInterrupt n s =
      (let x := landAll n s
       let k := x.lamp n
       let active := b2n (k.sp 0x50 != 0) + 2 * b2n (k.sp 0x51 != 0) + 4 * b2n (k.sp 0x52 != 0)
       let k' := ((((k.setSp 0x42 k.status).setSp 0x41 (lampPc x n)).setStatus 0 0 0).setStatus 4 4 1).setStatus 7 5 active
       (perfEvent (bankLmp n) 0x15 1 (x.setLamp n k')).setF (Reg.LMP_PC n) (k'.sp 0x43)) := by
  rw [lampInterrupt]
  exact if_neg (by simp [hrun, hen, hpend, hint, hreti])

theorem outboxAnswer_of_cons {n : Nat} {s : State} {e : List Nat} {r : List (List Nat)} (h : (s.lamp n).outbox = e :: r) :
    outboxAnswer n s = ((s.setLamp n { s.lamp n with outbox := r }).unproduce (0x40 + n) 1 2).respond true
      (e.flatMap fun v => leBytes 4 (wrap 32 (sext 18 v))) := by
  simp [outboxAnswer, outboxRead, h]

theorem outboxAnswer_of_nil {n : Nat} {s : State} (h : (s.lamp n).outbox = []) :
    outboxAnswer n s = (s.incF (Reg.LMP_CNT_OBX_UNDER n) 1).respond true (List.replicate 64 0) := by
  simp [outboxAnswer, outboxRead, h]

theorem soutRecordEnter_of_due {n : Nat} {s : State} {r : Record} {rest : List (Record × Nat)} (overload : Bool)
    (h : (s.lamp n).soutPend = (r, 0) :: rest) :
    soutRecordEnter n overload s = soutEnter n r overload (s.setLamp n { s.lamp n with soutPend := rest }) := by
  simp [soutRecordEnter, h]

theorem lampIllegalWord_of_none {n w : Nat} {s : State} (hrun : lampRunning s n = true) (hw : decodeLamp w = none) :
    lampIllegalWord n w s = lampIllegal n (issueTick n s) := by
  simp [lampIllegalWord, hrun, hw]

/-- The commit of a lamp's page. -/
theorem groupCommit_lamp {n : Nat} {s : State} (hn : n < 64) (hh : groupHeld s (16 * (0x40 + n)) = false) :
    groupCommit (16 * (0x40 + n)) s = lmpCommit n s := by
  have hb : 16 * (0x40 + n) / 16 = 0x40 + n := by omega
  have hne : ∀ k, k < 0x40 → 0x40 + n ≠ k := by omega
  rw [groupCommit_of_free hh (pageGated_of_page (by omega)), hb]
  dsimp only
  rw [if_neg (hne _ (by decide)), if_neg (hne _ (by decide)), if_neg (hne _ (by decide)), if_neg (hne _ (by decide)),
    if_neg (hne _ (by decide)), if_neg (hne _ (by decide)), if_neg (hne _ (by decide)), if_neg (hne _ (by decide)),
    if_neg (hne _ (by decide)), if_neg (hne _ (by decide)), if_neg (hne _ (by decide)), if_neg (by omega), if_pos (by omega),
    Nat.add_sub_cancel_left]

end Sys2Proof.Machine

namespace Sys2Proof.Proofs
open Sys2Proof.Machine

/-- Settles O27. -/
theorem lampControlCompletes : Obligations.LampControlCompletes := by
  unfold Obligations.LampControlCompletes
  intro s m n hheld hm hn
  have hok : (anyMaster m && decide (n < 64)) = true := by simp [anyMaster_of_regMaster hm, hn]
  have hn' : decide (n < 64) = true := by simp [hn]
  refine ⟨fun h0 => ⟨?_, fun err => ?_, fun hb hs => ?_⟩, fun h1 => ?_, ?_, fun v hv => ?_, fun hh => ?_, ?_, ?_, fun w h1 => ?_, ?_,
    fun ht => ?_, fun j hj err => ?_, fun e r he => ?_, fun he => ?_, fun r rest overload hr => ?_, fun w hw hrun hd => ?_⟩
  · exact reg_runs rfl hheld hok hm (by omega) (by omega) (if_pos h0)
  · exact reg_runs rfl hheld hok hm (by omega) (by omega) (if_neg (by omega))
  · exact reg_runs rfl hheld hok hm (by omega) (by omega) (if_pos ⟨h0, hb, hs⟩)
  · exact reg_runs rfl hheld hok hm (by omega) (by omega) (if_pos (by simp [lampRunning, h1]))
  · exact reg_runs rfl hheld hok hm (by omega) (by omega) rfl
  · exact reg_runs rfl hheld (by simp only [hok, hv, decide_true, Bool.and_self]) hm (by omega) (by omega) rfl
  · exact commit_runs rfl hheld hok hm (by omega) (groupCommit_lamp hn hh)
  · exact reg_runs rfl hheld hok hm (by omega) (by omega) rfl
  · exact reg_runs rfl hheld hok hm (by omega) (by omega) rfl
  · exact reg_runs rfl hheld hok hm (by omega) (by omega) rfl
  · intro l hrun hen hpend hint hreti
    exact dev_runs rfl hheld hn' (lampInterrupt_enters hrun hen hpend hint hreti)
  · exact dev_runs rfl hheld hn' (lampTimerExpiry_of_running ht)
  · exact dev_runs rfl hheld hn' rfl
  · exact dev_runs rfl hheld hn' (outboxAnswer_of_cons he)
  · exact dev_runs rfl hheld hn' (outboxAnswer_of_nil he)
  · exact dev_runs rfl hheld hn' (soutRecordEnter_of_due overload hr)
  · exact dev_runs rfl hheld (by simp only [hn, hw, decide_true, Bool.and_self]) (lampIllegalWord_of_none hrun hd)

end Sys2Proof.Proofs

/-! Proofs about the Lens: the gates of a page, the domain that the delays due leave, and the commands of chapter 04. -/

namespace Sys2Proof.Machine

/-! ## Groups that a personality gates (R166, R315, R349, R390) -/

section Gated

variable {c : Instr} {s t : State} {ok : Bool} {f h : State → State} {m key g : Nat} {w : Word}

/-- A register command of a page that a personality may gate, while it does not. -/
theorem reg_runs_ungated (hc : exec c = dev ok (regCmd m key w f)) (hheld : held s = false) (hok : ok = true) (hm : regMaster m = true)
    (hk : 0x101 ≤ key) (hg : pageGated s (key / 0x10000) = false) (hf : f (requested s) = h (requested s)) :
    exec c s = .next (finish s (taken m key w h (requested s))) :=
  reg_runs_of_open hc hheld hok hm (refusedWrite_of_ge m _ hk) ((pageGated_requested s _).trans hg) hf

/-- The commit of a gated group that passes puts the staged values back. -/
theorem commit_runs_restaged (hc : exec c = dev ok (commitCmd m key w (groupCommit g))) (hheld : held s = false) (hok : ok = true)
    (hm : regMaster m = true) (hk : 0x101 ≤ key) (hg : pageGated s (g / 16) = true) (hh : groupHeld (requested s) g = false)
    (hf : stagedFail g (requested s) = none) : exec c s = .next (finish s (taken m key w (groupRestage g) (requested s))) :=
  commit_runs hc hheld hok hm hk
    ((groupCommit_of_gated hh ((pageGated_requested s _).trans hg)).trans (by rw [gatedCommit, hf]))

/-- The commit of a gated group that fails is refused, with the status its failure has. -/
theorem commit_runs_refused {fl : ApplyFail} (hc : exec c = dev ok (commitCmd m key w (groupCommit g))) (hheld : held s = false)
    (hok : ok = true) (hm : regMaster m = true) (hk : 0x101 ≤ key) (hg : pageGated s (g / 16) = true)
    (hh : groupHeld (requested s) g = false) (hf : stagedFail g (requested s) = some fl) :
    exec c s = .next (finish s (taken m key w (fun _ => fl.state) (requested s))) :=
  commit_runs hc hheld hok hm hk
    ((groupCommit_of_gated hh ((pageGated_requested s _).trans hg)).trans (by rw [gatedCommit, hf]))

end Gated

/-! ## The commit of the Lens (R165) -/

theorem lensCommit_of_ok {s : State} (h : lensErr s (s.commitRange 0xE0000 0xF0000) = 0) :
    lensCommit s = lensTrans s none (s.commitRange 0xE0000 0xF0000) := by
  simp [lensCommit, h]

theorem lensCoefData_of_open {s : State} {w : Nat} (hs : s.flag Reg.LENS_COEF_STATUS_SEALED = false) (hp : s.lens.ptr < 1048576) :
    lensCoefData w s =
      ({ s with lens := { s.lens with coef := mapSet 0 s.lens.coef ((1 - lensLive s) * 1048576 + s.lens.ptr) (w % 2 ^ 18),
                                      ptr := s.lens.ptr + 1 } }).incF Reg.LENS_COEF_STATUS_WR_COUNT 1 := by
  rw [lensCoefData, if_neg (by simp [hs, hp])]

theorem lensSeal_of_full {s : State} (h : s.f Reg.LENS_COEF_STATUS_WR_COUNT = lensTaps s * lensF s) :
    lensSeal s = setSealShape (1 - lensLive s) (some (lensShape s)) (s.setF Reg.LENS_COEF_STATUS_SEALED 1) := by
  rw [lensSeal, if_pos h]

theorem lensSwapNow_of_sealed {s : State} (he : s.flag Reg.LENS_CTRL_EN = false) (hs : s.flag Reg.LENS_COEF_STATUS_SEALED = true) :
    lensSwapNow s = { lensExchange 0 s with lens := { (lensExchange 0 s).lens with
      banks := [(0, lensLive (lensExchange 0 s))], stale := [(0, false)] } } := by
  simp only [lensSwapNow, he, hs, Bool.not_false, Bool.and_self, if_true]

/-! ## The domain of the Lens through its delay steps -/

theorem lensDom_setSlotState (n st : Nat) (s : State) : lensDom (setSlotState n st s) = lensDom s :=
  f_setSlotState n st s (by simp only [Field.apart, Reg.SLOT_CTRL_STATE, Reg.LENS_CTRL_DOMAIN]; omega)

theorem lensDom_endDone (n : Nat) (starved : Bool) (s : State) : lensDom (endDone n starved s) = lensDom s := by
  have hend : ∀ (status executed : Nat), lensDom (endOccurrence n status executed s) = lensDom s := fun status executed => by
    unfold endOccurrence
    dsimp only
    split
    · exact (lensDom_setSlotState n 1 _).trans (f_of_reg (reg_writeRecord n status _ _ executed s (by decide)))
    · exact (lensDom_setSlotState n 0 _).trans (f_of_reg (reg_writeRecord n status _ _ executed s (by decide)))
  exact hend _ _

theorem lensDom_stepDelay (arg T i : Nat) (s : State) : lensDom (stepDelay arg T i s) = lensDom s := by
  have hset : ∀ (F : Field) (v : Nat) (x : State), 0xE1008 ≤ F.key → lensDom (x.setF F v) = lensDom x := fun F v x hF =>
    f_setF_apart x v (.inl (by simp only [Reg.LENS_CTRL_DOMAIN]; omega))
  have hdelay : 0xE1008 ≤ (Reg.LENS_IN_STATUS_DELAY i).key := Nat.le_add_right _ _
  unfold stepDelay
  dsimp only
  split
  · refine (f_of_reg (reg_raise_of_page _ _ (by decide : FK.LENS_DELAY_RANGE < 4096) (by decide))).trans ?_
    exact (hset _ _ _ (Nat.le_add_right _ _)).trans (hset _ _ _ hdelay)
  · exact hset _ _ _ hdelay

/-- What a fold of steps that keep the domain keeps. -/
theorem lensDom_foldl {α : Type} {g : State → α → State} (hg : ∀ x a, lensDom (g x a) = lensDom x) (l : List α) (s : State) :
    lensDom (l.foldl g s) = lensDom s := by
  induction l generalizing s with
  | nil => rfl
  | cons a l ih => exact (ih (g s a)).trans (hg s a)

theorem lensDom_delayStep (slot : Nat) (starved : Bool) (s : State) : lensDom (delayStep slot starved s) = lensDom s := by
  unfold delayStep
  refine (lensDom_endDone slot starved _).trans ?_
  split
  · exact lensDom_foldl (fun x i => lensDom_stepDelay _ _ i x) _ s
  · rfl

/-- The delay steps that are due never change the domain of the Lens. -/
theorem lensDom_delaysDue (n : Nat) (s : State) : lensDom (delaysDue n s) = lensDom s := by
  unfold delaysDue runDue
  refine (lensDom_foldl (fun x slot => lensDom_delayStep slot false x) _ _).trans ?_
  exact lensDom_foldl (fun x a => lensDom_stepDelay _ _ _ x) _ _

/-- The output count of a Lens that may go on (R186). -/
theorem lensOutputCount_of_may {first : Nat} {s : State}
    (h : lensMay (delaysDue (s.lens.nextOut.getD first) s) (s.lens.nextOut.getD first) = true) :
    lensOutputCount first s =
      (let n := s.lens.nextOut.getD first
       let x := (delaysDue n s).setF Reg.LENS_STATUS_RUNNING 1
       let y := (lensIns x).foldl (fun y i => reach (tgtDelay i) (lensDom (delaysDue n s)) n (lensRead i n y)) x
       let z := perfEvent 0x0E 0x10 1 { y with lens := { y.lens with nextOut := some (n + 1) } }
       if (n + 1) % max 1 (lensF z) = 0 then lensSpectra (n / max 1 (lensF z)) z else z) := by
  simp only [lensOutputCount, h, Bool.not_true, Bool.false_eq_true, if_false, lensDom_delaysDue]

end Sys2Proof.Machine

namespace Sys2Proof.Proofs

open Sys2Proof.Machine

/-- Settles O10: each command is its meaning in its condition; the page 0x0E is gated, or it is not. -/
theorem lensCompletes : Obligations.LensCompletes := by
  unfold Obligations.LensCompletes
  intro s m hheld hm
  have hany : anyMaster m = true := anyMaster_of_regMaster hm
  refine ⟨fun hg hh he => ?_, fun hg => ⟨fun hh => ⟨fun hf => ?_, fun fl hf => ?_⟩, fun w => ?_, ?_, ?_, ?_, ?_⟩,
    fun hg => ⟨fun w hs hp => ?_, fun hfull => ?_, ?_, fun hen hs => ?_, ?_⟩, fun first hfirst hmay => ?_⟩
  · exact commit_runs rfl hheld hany hm (by decide)
      ((groupCommit_of_free hh ((pageGated_requested s _).trans hg)).trans (lensCommit_of_ok he))
  · exact commit_runs_restaged rfl hheld hany hm (by decide) hg hh hf
  · exact commit_runs_refused rfl hheld hany hm (by decide) hg hh hf
  · exact reg_runs_gated rfl hheld hany hm (by decide) ((pageGated_requested s _).trans hg)
  · exact reg_runs_gated rfl hheld hany hm (by decide) ((pageGated_requested s _).trans hg)
  · exact reg_runs_gated rfl hheld hany hm (by decide) ((pageGated_requested s _).trans hg)
  · exact reg_runs_gated rfl hheld hany hm (by decide) ((pageGated_requested s _).trans hg)
  · exact reg_runs_gated rfl hheld hany hm (by decide) ((pageGated_requested s _).trans hg)
  · exact reg_runs_ungated rfl hheld hany hm (by decide) hg (lensCoefData_of_open hs (by rwa [requested_lens]))
  · exact reg_runs_ungated rfl hheld hany hm (by decide) hg (lensSeal_of_full hfull)
  · exact reg_runs_ungated rfl hheld hany hm (by decide) hg rfl
  · exact reg_runs_ungated rfl hheld hany hm (by decide) hg (lensSwapNow_of_sealed hen hs)
  · exact reg_runs_ungated rfl hheld hany hm (by decide) hg rfl
  · exact dev_runs (f := lensOutputCount first) rfl hheld (decide_eq_true hfirst) (lensOutputCount_of_may hmay)

end Sys2Proof.Proofs

/-! Proofs about staging and the capture writer. -/

namespace Sys2Proof.Machine

/-! ## Staging (chapter 07) -/

theorem stgCommit_of_ok {s : State} (hs : stgErr s (s.commitRange 0xF0000 0x100000) none = 0)
    (hl : (lanErr s (s.commitRange 0xF0000 0x100000)).1 = 0) : stgCommit s = stgTrans s none (s.commitRange 0xF0000 0x100000) := by
  simp only [stgCommit, hs, hl, ne_eq, not_true_eq_false, if_false]

theorem windowTimeout_of_open {s : State} {j k : Nat} {w : Win} (hw : findWin s j k = some w) (h1 : w.state = 1) :
    windowTimeout j k s = raise (stgEv FK.STG_WINDOW_TIMEOUT j k) (closeWin j k s) := by
  simp only [windowTimeout, hw, h1, if_true]

/-- A window that waits for verdicts, in a personality that inspects it, is let go without the ones it misses (R299). -/
theorem verdictWaitExpiry_of_waiting {s : State} {j k : Nat} {w : Win} (hw : findWin s j k = some w) (h2 : w.state = 2)
    (hi : inspects s j = true) :
    verdictWaitExpiry j k s =
      ((List.range w.nch).flatMap fun c => (w.missing c).map fun b => (c, b)).foldl (fun y x =>
        match findWin y j k with
        | none => y
        | some v =>
          let bits := List.replicate (v.blockSize x.2) (y.f (Reg.SET_CFG_MISS_VALID j))
          raise (stgEv FK.STG_VERDICT_MISS j k) (setCount j .verdictMiss 1
            (putWin j { v with verdicts := mapSet [] v.verdicts (x.1 * 64 + x.2) bits } y))) s := by
  unfold verdictWaitExpiry
  rw [hw]
  dsimp only
  exact if_neg (by simp [h2, hi])

/-- A closed window's channel is handed out once its verdicts are there (R300). -/
theorem windowHandOut_of_closed {s : State} {j c : Nat} {w : Win} (hw : handable s j = some w) (h2 : w.state = 2) (hc : c < w.nch)
    (hv : mapGet [] w.valid c = []) (hi : inspects s j = false ∨ w.missing c = []) :
    windowHandOut j c s =
      (let v := validity s j w c
       let whole := (List.range w.nch).all fun i => !(mapGet [] (mapSet [] w.valid c v) i).isEmpty
       let x := putWin j { w with valid := mapSet [] w.valid c v, state := if whole then 3 else 2 } s
       let y := if x.flag (Reg.JOB_CFG_EN j) then x.incF (Reg.JOB_CLAMP j) (clampCount x { w with valid := mapSet [] w.valid c v } c v) else x
       lanHand j w.k w.nch c (if whole then perfEvent 0x0F 0x13 1 y else y)) := by
  unfold windowHandOut
  rw [hw]
  dsimp only
  rw [if_neg]
  rintro (h | h | h | ⟨h, hm⟩)
  · exact h h2
  · omega
  · simp [hv] at h
  · rcases hi with hi | hi
    · simp [hi] at h
    · simp [hi] at hm

/-! ## The capture writer (R311, R312) -/

theorem capArm_of_lt {s : State} (h : s.f Reg.CAP_POST < s.f Reg.CAP_SIZE) :
    capArm s = (((capSet (fun _ => { Capture.reset with base := s.f Reg.CAP_BASE, size := s.f Reg.CAP_SIZE, post := s.f Reg.CAP_POST }) s).setF
      Reg.CAP_WR 0).setF Reg.CAP_STATUS_STATE 1).drainSource 9 := by
  rw [capArm, if_neg (by omega)]

theorem capTrigger_of_armed {s : State} (h : capState s = 1) :
    capTrigger s = (capSet (fun c => { c with trigNext := true, postLeft := c.post * 0x10000 })
      (((s.setF Reg.CAP_TRIG_POS (s.f Reg.CAP_WR)).setF Reg.CAP_TRIG_TIME_SEC s.time.sec).setF Reg.CAP_TRIG_TIME_NS s.time.ns)).setF
      Reg.CAP_STATUS_STATE 2 := by
  rw [capTrigger, if_neg (by simp [h])]

theorem capTrigIn_of_edge {s : State} {rising : Bool} (hen : s.flag Reg.CAP_CTRL_TRIG_EN = true)
    (he : s.f Reg.CAP_CTRL_TRIG_EDGE = (if rising then 0 else 1)) : capTrigIn rising s = capTrigger s := by
  rw [capTrigIn, if_pos (by simp [hen, he])]

end Sys2Proof.Machine

namespace Sys2Proof.Proofs

open Sys2Proof.Machine

/-- Settles O32: each command is its meaning in its condition; the page is never gated. -/
theorem stagingCompletes : Obligations.StagingCompletes := by
  unfold Obligations.StagingCompletes
  intro s m hheld hm
  have hany : anyMaster m = true := anyMaster_of_regMaster hm
  refine ⟨fun hh hs hl => ?_, ?_, fun j k w hj hk hw => ⟨fun h1 => ?_, fun h2 hi => ?_⟩, fun j c w hj hc hw h2 hn hv hi => ?_,
    fun hp => ?_, ?_, fun h1 => ?_, fun rising hen he => ?_⟩
  · exact commit_runs rfl hheld hany hm (by decide)
      ((groupCommit_of_free hh (pageGated_of_page (by decide))).trans (stgCommit_of_ok hs hl))
  · exact reg_runs rfl hheld hany hm (by decide) (by decide) rfl
  · exact dev_runs (f := windowTimeout j k) rfl hheld (by simp only [hj, hk, decide_true, Bool.and_self]) (windowTimeout_of_open hw h1)
  · exact dev_runs (f := verdictWaitExpiry j k) rfl hheld (by simp only [hj, hk, decide_true, Bool.and_self])
      (verdictWaitExpiry_of_waiting hw h2 hi)
  · exact dev_runs (f := windowHandOut j c) rfl hheld (by simp only [hj, hc, decide_true, Bool.and_self])
      (windowHandOut_of_closed hw h2 hn hv hi)
  · exact reg_runs rfl hheld hany hm (by decide) (by decide) (capArm_of_lt hp)
  · exact reg_runs rfl hheld hany hm (by decide) (by decide) rfl
  · exact reg_runs rfl hheld hany hm (by decide) (by decide) (capTrigger_of_armed h1)
  · exact dev_runs (f := capTrigIn rising) rfl hheld rfl (capTrigIn_of_edge hen he)

end Sys2Proof.Proofs

/-! Proofs about the lantern array. -/

namespace Sys2Proof.Machine

/-! ## The registers of the array (R315, R496) -/

theorem lanCommit_of_ok {s : State} (hl : (lanErr s (s.commitRange 0x100000 0x110000)).1 = 0)
    (hd : dumpErrs (s.commitRange 0x100000 0x110000) = 0) : lanCommit s = lanTrans s (s.commitRange 0x100000 0x110000) := by
  simp only [lanCommit, hl, hd, ne_eq, not_true_eq_false, if_false]

/-- The pages of the lanterns, the mantle and the Candelabra are gated where the personality acts as F does. -/
theorem pageGated_of_actsF {s : State} {page : Nat} {b : Bool} (hp : page = 0x10 ∨ page = 0x11 ∨ page = 0x12) (h : s.actsF = b) :
    pageGated s page = b := by
  rcases hp with rfl | rfl | rfl <;> simp [pageGated, h]

/-- The words of the debug port lie in the array's page. -/
theorem lanDebug_page {off : Nat} (h : off = 0x300 ∨ 0x310 ≤ off ∧ off ≤ 0x32C) : (0x100000 + off) / 0x10000 = 0x10 := by omega

/-! ## Tasks (R320, R321, R333 to R338) -/

/-- The next task of a window that is running and handed out enters its lantern's queue (R320). -/
theorem taskDispatch_of_handed {s : State} {j : Nat} {w : HandWin}
    (hq : (s.lantern (((jobGeo s j).lantOffset + (jobRun s j).q) % 256)).queue.length < 64) (ha : (jobRun s j).absent = [])
    (hw : (jobRun s j).wins.find? (fun v => !v.dispatched) = some w) (hk : (jobRun s j).wins.find? (fun v => v.k == w.k) = some w)
    (hb : w.begun = true) (hr : w.run = true) (hc : w.c < w.limit) (hh : w.handed.contains w.c = true) :
    taskDispatch j s =
      (let r := jobRun s j
       let g := jobGeo s j
       let t := mkTask g j w (periodNum s j w.serial) w.c w.i r.q (if r.reseedAt > 0 ∧ w.k = r.reseedWin then r.reseedAt else 0)
       let lan := s.lantern ((g.lantOffset + r.q) % 256)
       let last := w.i + 1 ≥ chanTasks g
       let w' := { w with left := w.left + 1, i := if last then 0 else w.i + 1, c := if last then w.c + 1 else w.c }
       lanTurn j ((putJobRun j { r with q := r.q + 1, stream := r.stream ++ [.task t],
                                        wins := r.wins.map fun v => if v.k = w.k then w' else v }
         (putLantern ((g.lantOffset + r.q) % 256) { lan with queue := lan.queue ++ [t] } s)).setF64
           (Reg.JOB_TASKS_LO j) (Reg.JOB_TASKS_HI j) (r.q + 1))) := by
  unfold taskDispatch
  dsimp only
  rw [if_neg (by omega), hw]
  dsimp only
  rw [if_neg (by simp [ha]), if_neg (by simp [hb]), if_pos hb, hk]
  dsimp only
  rw [if_neg (by simp only [hr, hh, decide_eq_false (by omega : ¬ w.limit ≤ w.c), Bool.not_true, Bool.or_self, Bool.false_eq_true,
    not_false_eq_true])]

/-- An idle lantern with a free plane starts the task at the head of its queue (R333). -/
theorem taskStart_of_idle {s : State} {l : Nat} {t : Task} {r : List Task} (hq : (s.lantern l).queue = t :: r)
    (hr : (s.lantern l).running = none) (hh : (s.lantern l).halted = false)
    (hp : ((s.lantern l).plane (s.lantern l).act).held = false) (h0 : t.reseed = 0) :
    taskStart l s = perfEvent 0x10 0x10 1 (putLantern l (
      ({ s.lantern l with queue := r, running := some t, done := false }).setPlane (s.lantern l).act
        { task := some t, held := true, acc := [], vr := [], vc := [] }) s) := by
  unfold taskStart
  dsimp only
  rw [hq]
  dsimp only
  rw [if_neg (by simp [hr, hh, hp])]
  simp [h0]

/-- A completed task that nothing halts swaps the planes unless the other one is still held (R321). -/
theorem trySwap_completed (x : Lantern) :
    ({ x with done := true, halted := false }).trySwap =
      if (x.plane (1 - x.act)).held then { x with done := true, halted := false }
      else { x with running := none, done := false, halted := false, act := 1 - x.act } := by
  change (if (true && !false && !(x.plane (1 - x.act)).held) = true then _ else _) = _
  cases (x.plane (1 - x.act)).held
  · rfl
  · rfl

/-- A running task of a lantern that debug does not mask completes, and the planes are swapped when the other one is free (R334). -/
theorem taskComplete_of_running {s : State} {l : Nat} {t : Task} (hr : (s.lantern l).running = some t) (hd : (s.lantern l).done = false)
    (hm : debugMasked s l = false) :
    taskComplete l s = putLantern l (
      let r := taskResult s t
      let x := (s.lantern l).setPlane (s.lantern l).act { task := some t, held := true, acc := r.1, vr := r.2.1, vc := r.2.2 }
      if (x.plane (1 - x.act)).held then { x with done := true, halted := false }
      else { x with running := none, done := false, halted := false, act := 1 - x.act }) s := by
  unfold taskComplete
  dsimp only
  rw [hr]
  dsimp only
  rw [if_neg (by simp [hd]), hm]
  exact congrArg (putLantern l · s) (trySwap_completed _)

/-! ## Notices (R341) -/

theorem noticeStep_all {s : State} {j : Nat} {c : Notice} {rest : List StreamItem} (h : (jobRun s j).stream = .notice c :: rest)
    (ha : c.all = true) :
    noticeStep j s = lanTurn j (pumpMarkers j (rest.length + 1)
      (skipChan j c.serial c.c 1 false (putJobRun j { jobRun s j with stream := rest } s))) := by
  simp only [noticeStep, h, ha, if_true]

theorem noticeStep_tasks {s : State} {j : Nat} {c : Notice} {rest : List StreamItem} (h : (jobRun s j).stream = .notice c :: rest)
    (ha : c.all = false) :
    noticeStep j s = lanTurn j (pumpMarkers j (rest.length + 1)
      (c.tasks.foldl (fun y t => slotArrive t.slot (.notice t) y) (putJobRun j { jobRun s j with stream := rest } s))) := by
  simp only [noticeStep, h, ha, Bool.false_eq_true, if_false]

end Sys2Proof.Machine

namespace Sys2Proof.Proofs

open Sys2Proof.Machine

/-- Settles O33: each command is its meaning in its condition; the page 0x10 is gated, or it is not. -/
theorem lanternCompletes : Obligations.LanternCompletes := by
  unfold Obligations.LanternCompletes
  intro s m hheld hm
  have hany : anyMaster m = true := anyMaster_of_regMaster hm
  have hdebug : ∀ off : Nat, off = 0x300 ∨ 0x310 ≤ off ∧ off ≤ 0x32C → off % 4 = 0 →
      (anyMaster m && (decide (off = 0x300) || (decide (0x310 ≤ off) && decide (off ≤ 0x32C))) && decide (off % 4 = 0)) = true :=
    fun off ho h4 => by simp only [hany, h4, ← Bool.decide_and, ← Bool.decide_or, decide_eq_true ho, decide_true, Bool.and_self]
  refine ⟨fun hf hh hl hd => ?_, fun hf => ⟨fun hh => ⟨fun hs => ?_, fun fl hs => ?_⟩, ?_, fun off w ho h4 => ?_⟩,
    fun hf => ⟨?_, fun off w ho h4 => ?_⟩, fun j w hj hq ha hw hk hb hr hc hha => ?_, fun l t r hl hq hr hh hp h0 => ?_,
    fun l t hl hr hd hdm => ?_, fun j n t rest errs hj _ _ _ => ?_, fun j c rest hj hs ha => ?_, fun j c rest hj hs ha => ?_⟩
  · exact commit_runs rfl hheld hany hm (by decide) ((groupCommit_of_free hh
      ((pageGated_requested s _).trans (pageGated_of_actsF (by decide) hf))).trans (lanCommit_of_ok hl hd))
  · exact commit_runs_restaged rfl hheld hany hm (by decide) (pageGated_of_actsF (by decide) hf) hh hs
  · exact commit_runs_refused rfl hheld hany hm (by decide) (pageGated_of_actsF (by decide) hf) hh hs
  · exact reg_runs_gated rfl hheld hany hm (by decide) ((pageGated_requested s _).trans (pageGated_of_actsF (by decide) hf))
  · exact reg_runs_gated rfl hheld (hdebug off ho h4) hm (by omega)
      ((pageGated_requested s _).trans (pageGated_of_actsF (.inl (lanDebug_page ho)) hf))
  · exact reg_runs_ungated rfl hheld hany hm (by decide) (pageGated_of_actsF (by decide) hf) rfl
  · exact reg_runs_ungated rfl hheld (hdebug off ho h4) hm (by omega) (pageGated_of_actsF (.inl (lanDebug_page ho)) hf) rfl
  · exact dev_runs (f := taskDispatch j) rfl hheld (decide_eq_true hj) (taskDispatch_of_handed hq ha hw hk hb hr hc hha)
  · exact dev_runs (f := taskStart l) rfl hheld (decide_eq_true hl) (taskStart_of_idle hq hr hh hp h0)
  · exact dev_runs (f := taskComplete l) rfl hheld (decide_eq_true hl) (taskComplete_of_running hr hd hdm)
  · exact dev_runs (f := Machine.promotion j n errs) rfl hheld (decide_eq_true hj) rfl
  · exact dev_runs (f := noticeStep j) rfl hheld (decide_eq_true hj) (noticeStep_all hs ha)
  · exact dev_runs (f := noticeStep j) rfl hheld (decide_eq_true hj) (noticeStep_tasks hs ha)

end Sys2Proof.Proofs

/-! Proofs about the mantle. -/

namespace Sys2Proof.Machine

/-! ## What a commit leaves (R496) -/

theorem reg_commitReg_ne (s : State) {j k : Nat} (h : j ≠ k) : (s.commitReg j).reg k = s.reg k := reg_setReg_ne s _ (Ne.symm h)

/-- A commit changes no active value outside its range. -/
theorem reg_commitRange_of_lt (s : State) {lo hi k : Nat} (h : k < lo) : (s.commitRange lo hi).reg k = s.reg k := by
  have hfold : ∀ (l : List Nat) (x : State), (∀ j ∈ l, k < j) → (l.foldl State.commitReg x).reg k = x.reg k := by
    intro l
    induction l with
    | nil => exact fun x _ => rfl
    | cons j l ih =>
      intro x hl
      have hj : k < j := hl j (by simp)
      exact (ih (x.commitReg j) (fun i hi => hl i (by simp [hi]))).trans (reg_commitReg_ne x (by omega))
  refine hfold _ s fun j hj => ?_
  have hlo : lo ≤ j := by simpa using (Bool.and_eq_true_iff.mp (List.mem_filter.mp hj).2).1
  omega

theorem actsF_commitRange (s : State) {lo : Nat} (hi : Nat) (h : 0x1000 ≤ lo) : (s.commitRange lo hi).actsF = s.actsF := by
  have hpers : (s.commitRange lo hi).pers = s.pers :=
    f_of_reg (reg_commitRange_of_lt s (by simp only [Reg.TOP_STATUS_PERSONALITY]; omega))
  simp only [State.actsF, State.isF, State.noPers, hpers]

theorem actsF_requested (s : State) : (requested s).actsF = s.actsF := by
  have hpers : (requested s).pers = s.pers := requested_f s (by decide)
  simp only [State.actsF, State.isF, State.noPers, hpers]

/-! ## The commit of the group (R349) -/

theorem mntCommit_of_ok {s : State} (h : mntErr s (s.commitRange 0x110000 0x120000) = 0) :
    mntCommit s = geoRegs (s.commitRange 0x110000 0x120000) := by
  simp only [mntCommit, h, ne_eq, not_true_eq_false, if_false]

/-- Where the personality acts as F does, the group's commit fails with code 1. -/
theorem stagedFail_mantle {s : State} (h : s.actsF = true) :
    stagedFail 0x110 s = some ⟨0x11, 1, (s.setF Reg.MNT_STATUS_COMMIT_ERR 1).setF Reg.MNT_STATUS_ERR_CODE 1⟩ := by
  have herr : mntErr s (s.commitRange 0x110000 0x120000) = 1 := by
    rw [mntErr, if_pos ((actsF_commitRange s _ (by decide)).trans h)]
  have hfail : groupFail s (s.commitRange 0x110000 0x120000) none 0x110 =
      some ⟨0x11, 1, (s.setF Reg.MNT_STATUS_COMMIT_ERR 1).setF Reg.MNT_STATUS_ERR_CODE 1⟩ := by
    simp [groupFail, herr]
  simp [stagedFail, groupRange, hfail]

/-! ## The queues of the slots (R354, R355, R367, R370) -/

theorem periodEndMarker_of_some {s : State} {j k : Nat} {p : Period}
    (h : (s.mjob j).periods.find? (fun p => p.markerIn && mapGet 0 p.slicesDone k == 0) = some p) :
    periodEndMarker j k s =
      (let y := (((List.range p.geo.bankSlots).map (p.geo.bankFirst p.num + ·)).filter fun n => n % 256 == k).foldl
        (fun x n => slotArrive n (.drain p.serial) x)
        (updPeriod j p.serial (fun q => { q with slicesDone := mapSet 0 q.slicesDone k 1 }) s)
       if y.snuffed then snuffDrains y else y) := by
  simp only [periodEndMarker, h]

theorem slotDrain_of_turn {s : State} {n serial : Nat} {r : List SlotOp} (errs : List (Nat × Nat))
    (hq : (s.mslot n).queue = .drain serial :: r) (ht : drainTurn s serial = true) :
    slotDrain n errs s = slotFlush (r.length + 1) n (drainApply n serial errs (putSlot n { s.mslot n with queue := r } s)) := by
  simp only [slotDrain, hq, ht, if_true]

theorem slotClear_of_free {s : State} {n j serial : Nat} {r : List SlotOp} (hq : (s.mslot n).queue = .clear j serial :: r)
    (hp : ((s.mjob j).periods.any fun p => decide (p.serial < serial) && p.drainAhead n) = false) :
    slotClear n s = slotFlush (r.length + 1) n
      (let x := putSlot n { MSlot.reset with queue := r } s;
        dumpStateReg j (putMjob j { x.mjob j with clears := (x.mjob j).clears - 1 } x)) := by
  simp only [slotClear, hq, hp, Bool.false_eq_true, if_false]

theorem slotTagSet_of_head {s : State} {n t : Nat} {r : List SlotOp} (hq : (s.mslot n).queue = .tagSet t :: r) :
    slotTagSet n s = slotFlush (r.length + 1) n (putSlot n { s.mslot n with tag := t, queue := r } s) := by
  simp only [slotTagSet, hq]

/-! ## Dumps and initialisation (R372, R383, R387) -/

theorem dumpCopyComplete_of_ready {s : State} {j n : Nat} {h : List Byte} {r : List (Nat × List Byte)} (hr : (s.mjob j).ready = (n, h) :: r) :
    dumpCopyComplete j s =
      (let x := putMjob j { s.mjob j with ready := r, begun := (s.mjob j).begun - 1, newest := some (n, leAt h 120 8) } s
       (((dramOut n h x).incF (Reg.DUMP_WR j) 1).intPend (4 + j)).produce (1 + j) (leAt h 120 8 / 64)) := by
  simp only [dumpCopyComplete, hr]

theorem mantleInitClear_of_pending {s : State} (h : s.flag Reg.MNT_STATUS_INIT_DONE = false) (hf : s.actsF = false) :
    mantleInitClear s = s.setF Reg.MNT_STATUS_INIT_DONE 1 := by
  simp only [mantleInitClear, h, hf, Bool.false_eq_true, or_self, if_false]

end Sys2Proof.Machine

namespace Sys2Proof.Proofs

open Sys2Proof.Machine

/-- Settles O34: each command is its meaning in its condition; in F personality the commit fails with code 1. -/
theorem mantleCompletes : Obligations.MantleCompletes := by
  unfold Obligations.MantleCompletes
  intro s hheld
  refine ⟨fun j k p hj hk h => ?_, fun n serial r errs hn hq ht => ?_, fun n j serial r hn hq hp => ?_, fun n t r hn hq => ?_,
    fun j n h r hj hr => ?_, fun hi hf => ?_, fun m hm hf hh => ?_, fun m hm hf hh he => ?_⟩
  · exact dev_runs (f := periodEndMarker j k) rfl hheld (by simp only [hj, hk, decide_true, Bool.and_self]) (periodEndMarker_of_some h)
  · exact dev_runs (f := slotDrain n errs) rfl hheld (decide_eq_true hn) (slotDrain_of_turn errs hq ht)
  · exact dev_runs (f := slotClear n) rfl hheld (decide_eq_true hn) (slotClear_of_free hq hp)
  · exact dev_runs (f := slotTagSet n) rfl hheld (decide_eq_true hn) (slotTagSet_of_head hq)
  · exact dev_runs (f := dumpCopyComplete j) rfl hheld (decide_eq_true hj) (dumpCopyComplete_of_ready hr)
  · exact dev_runs (f := mantleInitClear) rfl hheld rfl (mantleInitClear_of_pending hi hf)
  · have hs := stagedFail_mantle ((actsF_requested s).trans hf)
    exact ⟨_, hs, rfl, commit_runs_refused rfl hheld (anyMaster_of_regMaster hm) hm (by decide) (pageGated_of_actsF (by decide) hf) hh hs⟩
  · exact commit_runs rfl hheld (anyMaster_of_regMaster hm) hm (by decide) ((groupCommit_of_free hh
      ((pageGated_requested s _).trans (pageGated_of_actsF (by decide) hf))).trans (mntCommit_of_ok he))

end Sys2Proof.Proofs

/-! Proofs about the Candelabra. -/

namespace Sys2Proof.Machine

section Weights

variable {s : State}

theorem canCommit_of_ok (h : canErr s (s.commitRange 0x120000 0x130000) none = 0) :
    canCommit s = canTrans s none (s.commitRange 0x120000 0x130000) := by
  simp only [canCommit, h, ne_eq, not_true_eq_false, if_false]

/-! ## The weight banks (R400, R403) -/

theorem canData_of_open (w : Word) (hb : canBusy s = false) (he : s.can.ptrEnd = false) :
    canData w s =
      (let p := s.f Reg.CAN_W_PTR / 2 * 2
       let base := (1 - canLive s) * 8388608
       (canSet (fun c => { c with
         weights := mapSet 0 (mapSet 0 c.weights (base + p) (getBits w 15 0)) (base + p + 1) (getBits w 31 16),
         ptrEnd := decide (p + 2 ≥ 8388608) }) s).setF Reg.CAN_W_PTR (p + 2)) := by
  unfold canData
  dsimp only
  rw [if_neg (by simp [hb, he])]

theorem canCopyLive_of_free (hb : canBusy s = false) : canCopyLive s = s.setF Reg.CAN_W_STATUS_BUSY 1 := by
  rw [canCopyLive, if_neg (by simp [hb])]

theorem canSeal_of_free (hb : s.flag Reg.CAN_W_STATUS_BUSY = false) (hr : retiring s = false) :
    canSeal s = s.setF Reg.CAN_W_STATUS_SEALED 1 := by
  rw [canSeal, if_neg (by simp [hb, hr])]

theorem canSwapNow_of_sealed (he : s.flag Reg.CAN_CTRL_EN = false) (hs : s.flag Reg.CAN_W_STATUS_SEALED = true) :
    canSwapNow s = canSet (fun c => { c with
      banks := ([0, 1, 2, 3] : List Nat).map fun d => (d, [(0, canLive (canExchange 0 0 s))]),
      stales := ([0, 1, 2, 3] : List Nat).map fun d => (d, [(0, false)]) }) (canExchange 0 0 s) := by
  simp only [canSwapNow, he, hs, Bool.not_false, Bool.and_self, if_true]

theorem canCopyDone_of_busy (hb : s.flag Reg.CAN_W_STATUS_BUSY = true) :
    canCopyDone s =
      (let moved := (s.can.weights.filter fun x => x.1 / 8388608 == canLive s).map fun x => ((1 - canLive s) * 8388608 + x.1 % 8388608, x.2)
       let kept := s.can.weights.filter fun x => x.1 / 8388608 == canLive s
       (canSet (fun c => { c with weights := if canLive s = 0 then kept ++ moved else moved ++ kept }) s).setF Reg.CAN_W_STATUS_BUSY 0) := by
  simp only [canCopyDone, hb, Bool.not_true, Bool.false_eq_true, if_false]

end Weights

end Sys2Proof.Machine

namespace Sys2Proof.Proofs

open Sys2Proof.Machine

/-- Settles O35: each command is its meaning in its condition; the page 0x12 is gated, or it is not. -/
theorem candelabraCompletes : Obligations.CandelabraCompletes := by
  unfold Obligations.CandelabraCompletes
  intro s m hheld hm
  have hany : anyMaster m = true := anyMaster_of_regMaster hm
  refine ⟨fun hf hh he => ?_, fun k b hk hb => ?_, fun hf => ?_, fun hf => ?_, fun hb => ?_⟩
  · exact commit_runs rfl hheld hany hm (by decide) ((groupCommit_of_free hh
      ((pageGated_requested s _).trans (pageGated_of_actsF (by decide) hf))).trans (canCommit_of_ok he))
  · exact dev_runs (f := closeBlock k b true) rfl hheld (by simp only [hk, hb, decide_true, Bool.and_self]) rfl
  · have hgate : pageGated (requested s) 0x12 = true := (pageGated_requested s _).trans (pageGated_of_actsF (by decide) hf)
    refine ⟨fun hh => ⟨fun hs => ?_, fun fl hs => ?_⟩, fun w => ?_, ?_, ?_, ?_, ?_⟩
    · exact commit_runs_restaged rfl hheld hany hm (by decide) (pageGated_of_actsF (by decide) hf) hh hs
    · exact commit_runs_refused rfl hheld hany hm (by decide) (pageGated_of_actsF (by decide) hf) hh hs
    · exact reg_runs_gated rfl hheld hany hm (by decide) hgate
    · exact reg_runs_gated rfl hheld hany hm (by decide) hgate
    · exact reg_runs_gated rfl hheld hany hm (by decide) hgate
    · exact reg_runs_gated rfl hheld hany hm (by decide) hgate
    · exact reg_runs_gated rfl hheld hany hm (by decide) hgate
  · have hgate : pageGated s 0x12 = false := pageGated_of_actsF (by decide) hf
    refine ⟨fun hb he w => ?_, fun hb => ?_, fun hb hr => ?_, ?_, fun he hs => ?_⟩
    · exact reg_runs_ungated rfl hheld hany hm (by decide) hgate (canData_of_open w hb (by rwa [requested_can]))
    · exact reg_runs_ungated rfl hheld hany hm (by decide) hgate (canCopyLive_of_free hb)
    · exact reg_runs_ungated rfl hheld hany hm (by decide) hgate (canSeal_of_free hb hr)
    · exact reg_runs_ungated rfl hheld hany hm (by decide) hgate rfl
    · exact reg_runs_ungated rfl hheld hany hm (by decide) hgate (canSwapNow_of_sealed he hs)
  · exact dev_runs (f := canCopyDone) rfl hheld rfl (canCopyDone_of_busy hb)

end Sys2Proof.Proofs

/-! Proofs about the registers of the DMA engine. -/

namespace Sys2Proof.Machine

section Registers

variable {s : State} {c : Nat}

/-! ## START, DOORBELL and ABORT (R437, R439, R443) -/

theorem dmaStart_of_idle (he : s.flag Reg.DMA_CTRL_EN = true) (h0 : chState s c = 0) (hr : s.dma.resetDue = false) :
    dmaStart c s =
      (let base := paceSources.foldl (fun b p => mapSet 0 b p ((paceMade s p : Int) - paceHeld s p)) []
       let y := putChan c { DmaChan.reset with fetch := some (s.f64 (Reg.CH_DESC_LO c) (Reg.CH_DESC_HI c) / 64 * 64), paceBase := base } s
       setChState c 1 ((y.setF (Reg.CH_STATUS_DB_PEND c) 0).setF (Reg.CH_STATUS_PACE_REQ c) 0)) := by
  rw [dmaStart, if_neg (by simp [he, h0, hr])]

theorem dmaDoorbell_of_busy (err : Nat) (host : List Byte) (he : s.flag Reg.DMA_CTRL_EN = true) (h0 : chState s c ≠ 0)
    (hr : s.dma.resetDue = false) : dmaDoorbell c err host s = s.setF (Reg.CH_STATUS_DB_PEND c) 1 := by
  rw [dmaDoorbell, if_neg (by simp [he, hr]), if_pos h0]

theorem dmaDoorbell_of_idle (err : Nat) (host : List Byte) (he : s.flag Reg.DMA_CTRL_EN = true) (h0 : chState s c = 0)
    (hl : hasLast s c = true) (hr : s.dma.resetDue = false) : dmaDoorbell c err host s = doorbellRead c err host s := by
  rw [dmaDoorbell, if_neg (by simp [he, hr]), if_neg (by simp [h0]), if_pos hl]

/-- ABORT of a descriptor in progress that has no error (R443). -/
theorem dmaAbort_of_running (h1 : chState s c = 1) (hd : (s.chan c).desc ≠ []) (he : (s.chan c).ending ≠ 2) :
    dmaAbort c s = setChState c 3 (updChan c (fun d => { d with ending := 3 }) s) := by
  unfold dmaAbort
  dsimp only
  rw [if_neg (by omega), if_neg (by omega), if_neg (by simp [hd])]
  exact congrArg (fun x => setChState c 3 (putChan c x s)) (if_neg he)

theorem dmaAbort_of_waiting (h2 : chState s c = 2) :
    dmaAbort c s = updChan c (fun d => { d with held := d.held.map (fun h => (h.1, h.2.1, none)), aborted := true }) s := by
  unfold dmaAbort
  dsimp only
  rw [if_neg (by omega), if_pos h2]

theorem dmaEnable_off (he : s.flag Reg.DMA_CTRL_EN = true) :
    dmaEnable false s = (List.range 16).foldl (fun y i => dmaAbort i y) (s.setF Reg.DMA_CTRL_EN 0) := by
  simp only [dmaEnable, he, Bool.not_false, Bool.and_self, if_true]
  rfl

theorem dmaEnable_on (s : State) : dmaEnable true s = s.setF Reg.DMA_CTRL_EN 1 := by
  simp only [dmaEnable, Bool.not_true, Bool.and_false, Bool.false_eq_true, if_false]
  rfl

/-! ## The reset of the block (R447) -/

/-- The block's reset is done at once when no channel has a descriptor, a record or a burst to end. -/
theorem dmaBlockReset_eq (s : State) :
    dmaBlockReset s =
      (let x := (List.range 16).foldl (fun y i => dmaResetChan i y) s
       if x.dma.chans.all (fun y => y.2.desc.isEmpty && y.2.held.isNone && y.2.reads.isEmpty && y.2.writes.isEmpty) then
         { x.resetRange 0xD0000 0xE0000 with dma := { x.dma with chans := [], last := [], resetDue := false } }
       else { x with dma := { x.dma with resetDue := true } }) := by
  unfold dmaBlockReset dmaResetEnd
  generalize (List.range 16).foldl (fun y i => dmaResetChan i y) s = x
  rfl

/-! ## Conditions through the requested state -/

theorem chState_requested (s : State) (c : Nat) : chState (requested s) c = chState s c :=
  requested_f s (by simp only [Reg.CH_STATUS_STATE]; omega)

theorem chan_requested (s : State) (c : Nat) : (requested s).chan c = s.chan c := by simp [State.chan]

theorem hasLast_requested (s : State) (c : Nat) : hasLast (requested s) c = hasLast s c := by
  have hlo : (requested s).f (Reg.CH_LAST_LO c) = s.f (Reg.CH_LAST_LO c) := requested_f s (by simp only [Reg.CH_LAST_LO]; omega)
  have hhi : (requested s).f (Reg.CH_LAST_HI c) = s.f (Reg.CH_LAST_HI c) := requested_f s (by simp only [Reg.CH_LAST_HI]; omega)
  simp only [hasLast, chLast, State.f64, hlo, hhi, chan_requested]

end Registers

end Sys2Proof.Machine

namespace Sys2Proof.Proofs

open Sys2Proof.Machine

/-- Settles O36: each command is its meaning in its condition. -/
theorem dmaRegistersComplete : Obligations.DmaRegistersComplete := by
  unfold Obligations.DmaRegistersComplete
  intro s m c err host hheld hm hc
  have hany : anyMaster m = true := anyMaster_of_regMaster hm
  have hok : (anyMaster m && decide (c < 16)) = true := by simp only [hany, hc, decide_true, Bool.and_self]
  have hkey : ∀ o : Nat, 0x101 ≤ 0xD0100 + c * 64 + o := fun o => by omega
  have hpage : ∀ o : Nat, o < 64 → (0xD0100 + c * 64 + o) / 0x10000 = 0xD := fun o ho => by omega
  have hfree : ∀ o : Nat, o < 64 → (0xD0100 + c * 64 + o) / 0x10000 ≠ 0x0E ∧ (0xD0100 + c * 64 + o) / 0x10000 ≠ 0x10 ∧
      (0xD0100 + c * 64 + o) / 0x10000 ≠ 0x11 ∧ (0xD0100 + c * 64 + o) / 0x10000 ≠ 0x12 := fun o ho => by
    rw [hpage o ho]; decide
  have hen : (requested s).flag Reg.DMA_CTRL_EN = s.flag Reg.DMA_CTRL_EN := requested_flag s (by decide)
  refine ⟨fun he h0 hr => ?_, fun he h0 hr => ?_, fun he h0 hl hr => ?_, fun h1 hd h2 => ?_, fun h2 => ?_, ?_, ?_, fun he => ?_,
    fun v hv => ?_, ?_⟩
  · exact reg_runs (f := dmaStart c) rfl hheld hok hm (hkey 0) (hfree 0 (by decide))
      (dmaStart_of_idle (hen.trans he) ((chState_requested s c).trans h0) (by rwa [requested_dma]))
  · exact reg_runs (f := dmaDoorbell c err host) rfl hheld hok hm (hkey 0) (hfree 0 (by decide))
      (dmaDoorbell_of_busy err host (hen.trans he) (by rwa [chState_requested]) (by rwa [requested_dma]))
  · exact reg_runs (f := dmaDoorbell c err host) rfl hheld hok hm (hkey 0) (hfree 0 (by decide))
      (dmaDoorbell_of_idle err host (hen.trans he) ((chState_requested s c).trans h0) ((hasLast_requested s c).trans hl)
        (by rwa [requested_dma]))
  · exact reg_runs (f := dmaAbort c) rfl hheld hok hm (hkey 0) (hfree 0 (by decide))
      (dmaAbort_of_running ((chState_requested s c).trans h1) (by rwa [chan_requested]) (by rwa [chan_requested]))
  · exact reg_runs (f := dmaAbort c) rfl hheld hok hm (hkey 0) (hfree 0 (by decide))
      (dmaAbort_of_waiting ((chState_requested s c).trans h2))
  · exact reg_runs (f := dmaClearCnt c) rfl hheld hok hm (hkey 0) (hfree 0 (by decide)) rfl
  · exact reg_runs (f := dmaEnable true) rfl hheld hany hm (by decide) (by decide) (dmaEnable_on _)
  · exact reg_runs (f := dmaEnable false) rfl hheld hany hm (by decide) (by decide) (dmaEnable_off (hen.trans he))
  · exact reg_runs (f := cmpRdWrite c v err host) rfl hheld (by simp only [hok, hv, decide_true, Bool.and_self]) hm (hkey 0x28)
      (hfree 0x28 (by decide)) rfl
  · exact dev_runs (f := dmaBlockReset) rfl hheld rfl (dmaBlockReset_eq s)

end Sys2Proof.Proofs

/-! Proofs about the bursts of a DMA channel. -/

namespace Sys2Proof.Machine

section Bursts

variable {s : State} {c : Nat}

/-! ## A descriptor is fetched (R424 to R430) -/

/-- A channel whose fetch is taken: what it held of the descriptor before is cleared. -/
def fetchTaken (c a : Nat) (s : State) : State :=
  updChan c (fun d => { clearDesc d with fetch := none, seq := d.seq + 1 })
    ((s.setF64 (Reg.CH_LAST_LO c) (Reg.CH_LAST_HI c) a).incF (Reg.CNT_DESC c) 1)

theorem descFetch_of_some {a : Nat} (err : Nat) (host : List Byte) (hf : (s.chan c).fetch = some a)
    (he : s.flag Reg.DMA_CTRL_EN = true) (h1 : chState s c = 1) (hb : busHolds s a 64 = false) :
    descFetch c err host s =
      (let r := memRead (dmaMaster c) 4 a 64 err host (fetchTaken c a s)
       if !r.1.1 then
         raise { dmaEv FK.DMA_BUS_ERR c r.2 with addr := a % 2 ^ 48, access := 4, master := dmaMaster c }
           (updChan c (fun x => { endWith 2 1 0 x with desc := zeros 64, paceSrc := 0 }) r.2)
       else
         let y := updChan c (fun x => { x with desc := r.1.2, paceSrc := descPace r.1.2 }) r.2
         paceShow c (if descErr r.1.2 ≠ 0 then raise (dmaEv FK.DMA_DESC_INVALID c y) (updChan c (endWith 2 (descErr r.1.2) 0) y)
           else if hostClosed y ∧ descMode r.1.2 ≠ 2 ∧ 2 ^ 63 ≤ descDst r.1.2 then updChan c (endWith 4 0 0) y else y)) := by
  unfold descFetch
  rw [hf]
  dsimp only
  rw [if_neg (by simp [he, h1, hb])]
  rfl

theorem hostClosed_updChan (f : DmaChan → DmaChan) (s : State) : hostClosed (updChan c f s) = hostClosed s := rfl

/-- A descriptor that is read and well formed, with the host's gate open, is the channel's. -/
theorem descFetch_of_ok {a err : Nat} {host : List Byte} (hf : (s.chan c).fetch = some a) (he : s.flag Reg.DMA_CTRL_EN = true)
    (h1 : chState s c = 1) (hb : busHolds s a 64 = false)
    (hok : (memRead (dmaMaster c) 4 a 64 err host (fetchTaken c a s)).1.1 = true)
    (hd : descErr (memRead (dmaMaster c) 4 a 64 err host (fetchTaken c a s)).1.2 = 0)
    (hc : hostClosed (memRead (dmaMaster c) 4 a 64 err host (fetchTaken c a s)).2 = false) :
    descFetch c err host s =
      (let r := memRead (dmaMaster c) 4 a 64 err host (fetchTaken c a s)
       paceShow c (updChan c (fun d => { d with desc := r.1.2, paceSrc := descPace r.1.2 }) r.2)) := by
  rw [descFetch_of_some err host hf he h1 hb]
  simp only [hok, hd, hostClosed_updChan, hc, Bool.not_true, Bool.false_eq_true, if_false, ne_eq, not_true_eq_false, false_and]

/-! ## Bursts (R431 to R436) -/

theorem readPending_of_room {dst : Bool} (h1 : chState s c = 1) (hd : (s.chan c).desc ≠ []) (he : (s.chan c).ending = 0)
    (hm : (s.chan c).mismatch = none) (hr : (s.chan c).reads.length < 8)
    (hp : (if dst then (s.chan c).dstPos else (s.chan c).srcPos) <
      (if dst then dstSide (s.chan c).desc else srcSide (s.chan c).desc).len)
    (hk : if dst then descMode (s.chan c).desc = 2 else descMode (s.chan c).desc ≠ 1) : readPending s c dst = true := by
  cases dst
  · simp_all [readPending]
  · simp_all [readPending]

theorem readBurst_of_turn {dst : Bool} (hp : readPending s c dst = true) (ht : dmaTurn s c = true)
    (hq : descPace (s.chan c).desc = 0 ∨ (paceShow c s).flag (Reg.CH_STATUS_PACE_REQ c) = true) :
    readBurst c dst s =
      (let x := s.chan c
       let side := if dst then dstSide x.desc else srcSide x.desc
       let pos := if dst then x.dstPos else x.srcPos
       let n := side.burst pos (!dst)
       let y := paceShow c s
       perfEvent 0x0D 0x10 1 (paceShow c (dmaServed c (putChan c { x with
         reads := x.reads ++ [{ pos := pos, n := n, addr := side.addr pos, dst := dst, data := [], wrAt := x.wrPos }],
         srcPos := if dst then x.srcPos else pos + n, dstPos := if dst then pos + n else x.dstPos,
         cons := if descPace x.desc = 0 then x.cons else x.cons + beatsOf (side.addr pos) n } y)))) := by
  unfold readBurst
  dsimp only
  rw [if_neg (by simp [hp, ht]), if_neg]
  rintro ⟨h0, hf⟩
  rcases hq with hq | hq
  · exact h0 hq
  · simp [hq] at hf

theorem writeBurst_of_turn {bs : List Byte} (hp : writePending s c = true) (hc : hostClosed s = false) (ht : dmaTurn s c = true)
    (hb : writeData s c = some bs) :
    writeBurst c s =
      (let x := s.chan c
       let side := dstSide x.desc
       let n := side.burst x.wrPos false
       perfEvent 0x0D 0x11 1 (dmaServed c (putChan c (dropUsed { x with
         writes := x.writes ++ [{ pos := x.wrPos, n := n, addr := side.addr x.wrPos, dst := true, data := bs, wrAt := 0 }],
         wrPos := x.wrPos + n }) s))) := by
  simp only [writeBurst, hp, hc, ht, hb, Bool.not_true, Bool.false_eq_true, false_and, if_false]

/-! ## Answers (R440 to R442) -/

theorem dmaReadResponse_of_some {k err : Nat} {host : List Byte} {b : DmaBurst} (hb : (s.chan c).reads[k]? = some b) :
    dmaReadResponse c k err host s =
      if readHeldBack c b s then s
      else
        let r := burstBeats c err b host s
        readDone c k r.1 r.2 := by
  unfold dmaReadResponse
  rw [hb]

theorem dmaWriteAck_of_some {k err : Nat} {b : DmaBurst} (hb : (s.chan c).writes[k]? = some b) (hh : busHolds s b.addr b.n = false)
    (hp : (inPages b.addr && pageSilent (dmaMaster c) b.addr err true) = false) :
    dmaWriteAck c k err s =
      (let r := busWrite { master := dmaMaster c, err := err, host := [] } b.addr b.n (enabledCells b.addr (2 ^ b.n - 1) b.data) s
       writeDone c k r.1 r.2) := by
  unfold dmaWriteAck
  rw [hb]
  dsimp only
  rw [if_neg (by simp [hh]), if_neg (by simp [hp])]

/-! ## The end of a descriptor (R444) -/

/-- A descriptor that ends without error, once the word that names the next one is read. -/
theorem endDesc_of_read {err : Nat} {host : List Byte} (again : List Byte) (hr : descReady s c = true) (h1 : chState s c = 1)
    (he : (s.chan c).ending = 0) (hb : busHolds s ((chLast s c + 56) % 2 ^ 64) 8 = false)
    (hok : (memRead (dmaMaster c) 4 ((chLast s c + 56) % 2 ^ 64) 8 err host s).1.1 = true) :
    endDesc c err host again s =
      (let r := memRead (dmaMaster c) 4 ((chLast s c + 56) % 2 ^ 64) 8 err host s
       let next := ofLe r.1.2
       if next = 0 then recordOut c (recordBytes r.2 c 1 1) (descInt (s.chan c).desc) none true 0 again r.2
       else if next % 64 ≠ 0 then
         recordOut c (recordBytes r.2 c 1 8) (descInt (s.chan c).desc) none false 0 [] (raise (dmaEv FK.DMA_NEXT_BAD c r.2) r.2)
       else recordOut c (recordBytes r.2 c 1 0) (descInt (s.chan c).desc) (some next) false 0 [] r.2) := by
  unfold endDesc
  dsimp only
  rw [if_neg (by simp only [hr, h1, hb, Bool.not_true, Bool.false_eq_true, ne_eq, not_true_eq_false, false_and, or_self, not_false_eq_true]),
    if_neg (by omega), he]
  change (if (!(memRead (dmaMaster c) 4 ((chLast s c + 56) % 2 ^ 64) 8 err host s).1.1) = true then _ else _) = _
  rw [hok]
  rfl

end Bursts

end Sys2Proof.Machine

namespace Sys2Proof.Proofs

open Sys2Proof.Machine

/-- Settles O37: each command is its meaning in its condition. -/
theorem dmaBurstsComplete : Obligations.DmaBurstsComplete := by
  unfold Obligations.DmaBurstsComplete
  intro s c k err host again hheld hc
  refine ⟨fun a hf he h1 hb hok hd hcl => ?_, fun dst h1 hd he hm hr hp hk ht hq => ?_, fun h1 hd he hm hw hp hcl ht bs hbs => ?_,
    fun b hb => ?_, fun b hb hh hp => ?_, fun hr h1 he hb hok => ⟨fun h0 => ?_, fun h0 h64 => ?_⟩⟩
  · exact dev_runs (f := descFetch c err host) rfl hheld (decide_eq_true hc) (descFetch_of_ok hf he h1 hb hok hd hcl)
  · exact dev_runs (f := readBurst c dst) rfl hheld (decide_eq_true hc)
      (readBurst_of_turn (readPending_of_room h1 hd he hm hr hp hk) ht hq)
  · exact dev_runs (f := writeBurst c) rfl hheld (decide_eq_true hc)
      (writeBurst_of_turn (by simp [writePending, h1, hd, he, hm, hw]; exact hp) hcl ht hbs)
  · exact dev_runs (f := dmaReadResponse c k err host) rfl hheld (decide_eq_true hc) (dmaReadResponse_of_some hb)
  · exact dev_runs (f := dmaWriteAck c k err) rfl hheld (decide_eq_true hc) (dmaWriteAck_of_some hb hh hp)
  · refine dev_runs (f := descEnd c err host again) rfl hheld (decide_eq_true hc) (congrArg dmaResetEnd ?_)
    exact (endDesc_of_read again hr h1 he hb hok).trans (if_pos h0)
  · refine dev_runs (f := descEnd c err host again) rfl hheld (decide_eq_true hc) (congrArg dmaResetEnd ?_)
    refine (endDesc_of_read again hr h1 he hb hok).trans ?_
    dsimp only
    rw [if_neg h0, if_neg (not_not_intro h64)]

end Sys2Proof.Proofs

/-! Proofs about the control of LPDDR6: training, set points, refresh and self-refresh. -/

namespace Sys2Proof.Machine

section Control

variable {s : State} {c : Nat}

/-! ## Conditions through the requested state -/

theorem memReady_requested (s : State) : memReady (requested s) = memReady s := requested_flag s (by decide)

theorem memActive_requested (s : State) : memActive (requested s) = memActive s := requested_f s (by decide)

theorem objNat_requested (s : State) (key dflt : Nat) : objNat (requested s) key dflt = objNat s key dflt := by simp [objNat]

/-! ## Initialisation and training (R459 to R462) -/

theorem memInit_of_unready (hr : memReady s = false) (hi : s.mem.initing = false)
    (hc : (s.reg Reg.MEM_GEOM_CHANNELS.key).toNat = objNat s 0x000008 0xA) :
    memInit s = memSet (fun y => { y with initing := true })
      (((s.setFlag Reg.MEM_STATUS_MODE (memChannels s == 8)).setF Reg.MEM_STATUS_TRAINING 1).setF Reg.MEM_TRAIN_STATUS_FAIL_CH 0) := by
  rw [memInit, if_neg (by simp [hr, hi]), if_neg (not_not_intro hc)]

theorem memTrainingComplete_of_initing (fail : Nat) (hi : s.mem.initing = true) :
    memTrainingComplete fail s =
      (let f := fail &&& popMask s
       let x := memSet (fun y => { y with initing := false }) ((s.setF Reg.MEM_STATUS_TRAINING 0).setF Reg.MEM_TRAIN_STATUS_FAIL_CH f)
       if f = 0 then memShow (markTrained 0 (x.setF Reg.MEM_STATUS_READY 1)) else trainFail f x) := by
  rw [memTrainingComplete, if_neg (by simp [hi])]

theorem periodicRetrain_of_awake (hr : memReady s = true) (hc : c < memChannels s) (hw : s.flag Reg.MEM_STATUS_SWITCHING = false)
    (hs : s.flag (Reg.CH_TEMP_IN_SR c) = false) :
    periodicRetrain c s = memSet (fun y => { y with periodic := y.periodic ||| 2 ^ c }) (s.setF Reg.MEM_STATUS_TRAINING 1) := by
  rw [periodicRetrain, if_neg (by simp [hr, hw, hc]), if_neg (by simp [hs])]

/-- The last retraining ends: training ends with it, and no deferred switch waits for it (R462, R463). -/
theorem periodicComplete_of_last (hp : s.mem.periodic = 2 ^ c) (hd : s.flag Reg.MEM_TRAIN_STATUS_DEFERRED = false) :
    periodicComplete c s =
      (memSet (fun y => { y with periodic := y.periodic ^^^ 2 ^ c,
                                 setTemp := mapSet 0 y.setTemp (memActive s * 8 + c) (s.f (Reg.CH_TEMP_VALUE c)) }) s).setF
        Reg.MEM_STATUS_TRAINING 0 := by
  have hbit : s.mem.periodic.testBit c = true := by rw [hp]; exact Nat.testBit_two_pow_self
  have hnone : s.mem.periodic ^^^ 2 ^ c = 0 := by rw [hp]; exact Nat.xor_self _
  unfold periodicComplete
  dsimp only
  rw [if_neg (by simp [hbit])]
  generalize hx : memSet _ s = x
  have hx0 : x.mem.periodic = 0 := by rw [← hx]; exact hnone
  have hxd : (x.setF Reg.MEM_STATUS_TRAINING 0).flag Reg.MEM_TRAIN_STATUS_DEFERRED = false := by
    rw [flag_setF_apart x 0 (by decide), ← hx]
    exact hd
  rw [if_neg (not_not_intro hx0), if_neg (by simp [hxd])]

/-! ## Set points (R463 to R465) -/

theorem fspReq_of_ready (hr : memReady s = true) (hw : s.flag Reg.MEM_STATUS_SWITCHING = false)
    (hd : s.flag Reg.MEM_TRAIN_STATUS_DEFERRED = false) (ht : s.flag Reg.MEM_STATUS_TRAINING = false) : fspReq s = fspBegin s := by
  rw [fspReq, if_neg (by simp [hr, hw, hd]), if_neg (by simp [ht])]

theorem fspRateWrite_of_inactive {k v : Nat} (hv : v ≤ 4) (hk : k ≠ memActive s) :
    fspRateWrite k v s = unTrain k (s.setF (if k = 0 then Reg.MEM_FSP0_RATE else Reg.MEM_FSP1_RATE) v) := by
  rw [fspRateWrite, if_neg (by omega)]

/-- A switch without training succeeds, whatever the pins say of failures (R464). -/
theorem fspSwitchComplete_of_trained (fail : Nat) (hw : s.flag Reg.MEM_STATUS_SWITCHING = true)
    (ht : s.flag Reg.MEM_STATUS_TRAINING = false) :
    fspSwitchComplete fail s = raise (fev FK.MEM_FSP_SWITCH 0x0C 0 0) (memShow
      ((((s.setF Reg.MEM_STATUS_SWITCHING 0).setF Reg.MEM_STATUS_TRAINING 0).setF Reg.MEM_STATUS_FSP_ACTIVE (1 - memActive s)).incF
        Reg.CNT_SWITCH 1)) := by
  simp only [fspSwitchComplete, hw, ht, Bool.not_true, Bool.false_eq_true, if_false, if_true]

/-! ## Self-refresh (R467, R468) -/

theorem srEntry_of_idle (he : s.flag Reg.MEM_CTRL_SR_EN = true) (hr : memReady s = true) (hc : c < memChannels s)
    (hs : s.flag (Reg.CH_TEMP_IN_SR c) = false) (hp : s.mem.periodic.testBit c = false) (hw : s.flag Reg.MEM_STATUS_SWITCHING = false)
    (hq : ∀ q ∈ s.mem.queue, subChannel s q.off / 2 ≠ c) :
    srEntry c s = memSet (fun y => { y with entering := y.entering ||| 2 ^ c })
      ((s.setF (Reg.CH_TEMP_IN_SR c) 1).incF ⟨0xC010C + c * 32, 31, 0⟩ 1) := by
  have hnone : s.mem.queue.any (fun q => reqChannel s q == c) = false := by
    rw [List.any_eq_false]
    exact fun q hm => by simpa [reqChannel] using hq q hm
  rw [srEntry, if_neg (by simp [he, hr, hc, hs, chanHolds, hp, hw, hnone])]

/-- A request for a channel in self-refresh takes it out, and no retraining waits for that (R468). -/
theorem srExit_of_waiting {q : MemReq} (entering : Bool) (hs : s.flag (Reg.CH_TEMP_IN_SR c) = true)
    (ht : s.mem.srRetrain.testBit c = false) (hq : q ∈ s.mem.queue) (hqc : reqChannel s q = c) :
    srExit c entering s =
      (let x := memSet (fun y => { y with entering := if y.entering.testBit c then y.entering ^^^ 2 ^ c else y.entering })
         (s.setF (Reg.CH_TEMP_IN_SR c) 0)
       if entering && s.mem.entering.testBit c then x.incF ⟨0xC0110 + c * 32, 31, 0⟩ 1 else x) := by
  have hany : s.mem.queue.any (fun q => reqChannel s q == c) = true := List.any_eq_true.2 ⟨q, hq, by simp [hqc]⟩
  have hwake : (srWake c entering s).mem.srRetrain = s.mem.srRetrain := by
    unfold srWake
    dsimp only
    split
    · rfl
    · rfl
  unfold srExit
  dsimp only
  rw [if_neg (by simp [hs, hany]), hwake, if_neg (by simp [ht])]
  rfl

theorem memCommit_of_ok (h : memGroupErr (s.commitRange 0xC0000 0xD0000) = 0) : memCommit s = s.commitRange 0xC0000 0xD0000 := by
  simp only [memCommit, h, ne_eq, not_true_eq_false, if_false]

end Control

end Sys2Proof.Machine

namespace Sys2Proof.Proofs

open Sys2Proof.Machine

/-- Settles O38: each command is its meaning in its condition. -/
theorem memoryControlCompletes : Obligations.MemoryControlCompletes := by
  unfold Obligations.MemoryControlCompletes
  intro s m c hheld hm hc
  have hany : anyMaster m = true := anyMaster_of_regMaster hm
  have hflag : ∀ F : Field, 0x4F200 ≤ F.key → (requested s).flag F = s.flag F := fun F hF => requested_flag s (.inr hF)
  refine ⟨fun hr hi hg => ?_, fun fail hf hi => ?_, fun hr hcc hw hs => ?_, fun hp hd => ?_, fun hr hw hd ht => ?_, ?_,
    fun k v hk hv hka => ?_, fun fail hf hw ht => ?_, fun ts hts => ?_, fun he hr hcc hs hp hw hq => ?_,
    fun entering q hs ht hq hqc => ?_, fun hh he => ?_⟩
  · exact reg_runs rfl hheld hany hm (by decide) (by decide) (memInit_of_unready ((memReady_requested s).trans hr)
      (by rwa [requested_mem]) (by rw [requested_reg s (by decide), objNat_requested, hg]))
  · exact dev_runs (f := memTrainingComplete fail) rfl hheld (decide_eq_true hf) (memTrainingComplete_of_initing fail hi)
  · exact dev_runs (f := periodicRetrain c) rfl hheld (decide_eq_true hc) (periodicRetrain_of_awake hr hcc hw hs)
  · exact dev_runs (f := periodicComplete c) rfl hheld (decide_eq_true hc) (periodicComplete_of_last hp hd)
  · exact reg_runs rfl hheld hany hm (by decide) (by decide) (fspReq_of_ready ((memReady_requested s).trans hr)
      ((hflag _ (by decide)).trans hw) ((hflag _ (by decide)).trans hd) ((hflag _ (by decide)).trans ht))
  · exact reg_runs rfl hheld hany hm (by decide) (by decide) rfl
  · exact reg_runs (f := fspRateWrite k v) rfl hheld
      (by simp only [hany, hk, (by omega : v < 8), decide_true, Bool.and_self]) hm (by omega) (by omega)
      (fspRateWrite_of_inactive hv (by rwa [memActive_requested]))
  · exact dev_runs (f := fspSwitchComplete fail) rfl hheld (decide_eq_true hf) (fspSwitchComplete_of_trained fail hw ht)
  · exact dev_runs (f := tempPoll ts) rfl hheld (decide_eq_true hts) rfl
  · exact dev_runs (f := srEntry c) rfl hheld (decide_eq_true hc) (srEntry_of_idle he hr hcc hs hp hw hq)
  · exact dev_runs (f := srExit c entering) rfl hheld (decide_eq_true hc) (srExit_of_waiting entering hs ht hq hqc)
  · exact commit_runs rfl hheld hany hm (by decide)
      ((groupCommit_of_free hh (pageGated_of_page (by decide))).trans (memCommit_of_ok he))

end Sys2Proof.Proofs

/-! Proofs about accesses of LPDDR6: requests, their order, and the bytes that a read without errors answers. -/

namespace Sys2Proof.Machine

/-! ## Bytes of consecutive parts -/

theorem mapGetList_append {β : Type} (d : β) (m : List (Nat × β)) (a b : Nat) : ∀ k : Nat,
    mapGetList d m k (a + b) = mapGetList d m k a ++ mapGetList d m (k + a) b := by
  induction a with
  | zero => intro k; simp [mapGetList]
  | succ a ih =>
    intro k
    rw [Nat.succ_add_eq_add_succ, Nat.add_succ, mapGetList, mapGetList, ih (k + 1), List.cons_append,
      Nat.succ_add_eq_add_succ]

/-- Where the first j parts of [off, off + n) end, cut at multiples of 64. -/
def partsEnd (off n j : Nat) : Nat := max off (min (off + n) ((off / 64 + j) * 64))

/-- The bytes of the first parts are those up to where they end. -/
theorem flatMap_parts (s : State) (off n : Nat) : ∀ j : Nat, j ≤ (if n = 0 then 0 else (off + n - 1) / 64 + 1 - off / 64) →
    ((List.range j).map fun i =>
      let lo := max off ((off / 64 + i) * 64)
      (lo, min (off + n) ((off / 64 + i + 1) * 64) - lo)).flatMap (fun p => dramPeek s p.1 p.2) =
      dramPeek s off (partsEnd off n j - off) := by
  intro j
  induction j with
  | zero =>
    intro _
    have h0 : partsEnd off n 0 - off = 0 := by unfold partsEnd; omega
    rw [h0]
    rfl
  | succ j ih =>
    intro hj
    have hn : n ≠ 0 := by rintro rfl; simp at hj
    rw [if_neg hn] at hj ih
    have hlo : max off ((off / 64 + j) * 64) = off + (partsEnd off n j - off) := by unfold partsEnd; omega
    have hlen : partsEnd off n (j + 1) - off =
        (partsEnd off n j - off) + (min (off + n) ((off / 64 + j + 1) * 64) - max off ((off / 64 + j) * 64)) := by
      unfold partsEnd
      omega
    rw [List.range_succ, List.map_append, List.flatMap_append, ih (by omega), hlen]
    simp only [dramPeek, mapGetList_append, List.map_cons, List.map_nil, List.flatMap_cons, List.flatMap_nil, List.append_nil, hlo]

/-- The parts of a range hold its bytes, in order. -/
theorem flatMap_alignedParts (s : State) (off n : Nat) :
    (alignedParts 64 off n).flatMap (fun p => dramPeek s p.1 p.2) = dramPeek s off n := by
  refine (flatMap_parts s off n _ (Nat.le_refl _)).trans (congrArg (dramPeek s off) ?_)
  unfold partsEnd
  split
  · omega
  · omega

/-! ## A burst without errors -/

section Clean

variable {s : State} {e : MemErrs}

theorem injectCheck_of_none (src sub chk : Nat) (h : s.flt.inj = none) : injectCheck src sub chk s = (none, s) := by
  simp only [injectCheck, h]

theorem memHalf_of_clean (half off access master : Nat) (h : s.flt.inj = none) : memHalf half 0 off access master s = (0, s) := by
  unfold memHalf
  rw [injectCheck_of_none _ _ _ h]
  rfl

theorem burstCheck_of_clean (off access master : Nat) (h : s.flt.inj = none) : burstCheck off 0 0 false access master s = (true, s) := by
  unfold burstCheck
  dsimp only
  rw [memHalf_of_clean _ _ _ _ h]
  dsimp only
  rw [memHalf_of_clean _ _ _ _ h]
  dsimp only
  rw [injectCheck_of_none _ _ _ h]
  rfl

/-- What a read's errors are when there are none. -/
structure MemErrs.Clean (e : MemErrs) : Prop where
  half : ∀ h i, e.half h i = 0
  tag : ∀ i, e.tag i = false
  slip : e.slip = 0

theorem burstOf_of_clean (he : e.Clean) (base access master b : Nat) (h : s.flt.inj = none) :
    burstOf base e access master s b = (true, s) := by
  unfold burstOf
  dsimp only
  rw [he.half, he.half, he.tag, he.slip]
  exact burstCheck_of_clean b access master h

theorem burstChecks_of_clean (he : e.Clean) (base access master : Nat) (l : List Nat) (h : s.flt.inj = none) :
    burstChecks base l e access master s = (true, s) := by
  unfold burstChecks
  induction l with
  | nil => rfl
  | cons b l ih =>
    rw [List.foldl_cons, burstOf_of_clean he base access master b h]
    exact ih

/-- One part of a read: its bursts are checked, and its bytes are sent. -/
def readPart (q : MemReq) (e : MemErrs) (a : ReadAns × State) (p : Nat × Nat) : ReadAns × State :=
  let r := burstChecks q.off (burstList p.1 p.2) e q.access q.master a.2
  let bs := if r.1 then slipPeek r.2 p.1 p.2 e.slip else zeros p.2
  ((a.1.1 && r.1, a.1.2 ++ bs), r.2.emit (.memAnswer q.master p.1 r.1 bs))

theorem serveRead_eq (q : MemReq) (e : MemErrs) (s : State) :
    serveRead q e s = (alignedParts 64 q.off q.n).foldl (readPart q e) ((true, []), perfEvent 0x0C 0x10 (burstsOf q.off q.n) s) := rfl

theorem readPart_of_clean (he : e.Clean) (q : MemReq) (bs : List Byte) (p : Nat × Nat) (h : s.flt.inj = none) :
    readPart q e ((true, bs), s) p =
      ((true, bs ++ dramPeek s p.1 p.2), s.emit (.memAnswer q.master p.1 true (dramPeek s p.1 p.2))) := by
  simp only [readPart, burstChecks_of_clean he _ _ _ _ h, slipPeek, he.slip, if_true, Bool.and_self]

theorem readParts_of_clean (he : e.Clean) (q : MemReq) (l : List (Nat × Nat)) : ∀ (bs : List Byte) (s : State), s.flt.inj = none →
    ∃ o, l.foldl (readPart q e) ((true, bs), s) = ((true, bs ++ l.flatMap fun p => dramPeek s p.1 p.2), { s with out := o }) := by
  induction l with
  | nil => exact fun bs s _ => ⟨s.out, by simp⟩
  | cons p l ih =>
    intro bs s h
    obtain ⟨o, ho⟩ := ih (bs ++ dramPeek s p.1 p.2) (s.emit (.memAnswer q.master p.1 true (dramPeek s p.1 p.2))) h
    refine ⟨o, ?_⟩
    rw [List.foldl_cons, readPart_of_clean he q bs p h, ho, List.flatMap_cons, List.append_assoc]
    rfl

/-- A read without errors answers the bytes there are, and changes counters and outputs alone. -/
theorem serveRead_of_clean (he : e.Clean) (q : MemReq) (h : s.flt.inj = none) :
    ∃ o, serveRead q e s = ((true, dramPeek s q.off q.n), { perfEvent 0x0C 0x10 (burstsOf q.off q.n) s with out := o }) := by
  obtain ⟨r, hr, _⟩ := perfEvent_same 0x0C 0x10 (burstsOf q.off q.n) s
  obtain ⟨o, ho⟩ := readParts_of_clean he q (alignedParts 64 q.off q.n) [] (perfEvent 0x0C 0x10 (burstsOf q.off q.n) s) (by rw [hr]; exact h)
  refine ⟨o, ?_⟩
  rw [serveRead_eq, ho, flatMap_alignedParts, hr]
  rfl

end Clean

/-! ## What issuing a read keeps -/

/-- What serving a read keeps: what the end of a step looks at, and the bytes. -/
structure ServeKept (s t : State) : Prop where
  links : t.links = s.links
  lmp : t.lmp = s.lmp
  flt : t.flt = s.flt
  snuffed : t.snuffed = s.snuffed
  dram : t.mem.dram = s.mem.dram

section Serve

variable {s t u : State}

theorem ServeKept.trans (h : ServeKept s t) (g : ServeKept t u) : ServeKept s u :=
  ⟨g.links.trans h.links, g.lmp.trans h.lmp, g.flt.trans h.flt, g.snuffed.trans h.snuffed, g.dram.trans h.dram⟩

theorem ServeKept.setF (s : State) {F : Field} (v : Nat) (h : 0xC0000 ≤ F.key) : ServeKept s (s.setF F v) :=
  ⟨rfl, rfl, rfl, flag_setF_apart s v (.inl (by simp only [Reg.FLT_STATUS_SNUFFED]; omega)), rfl⟩

theorem ServeKept.incF (s : State) {F : Field} (n : Nat) (h : 0xC0000 ≤ F.key) : ServeKept s (s.incF F n) := .setF s _ h

theorem ServeKept.memSet (f : MemState → MemState) (s : State) (h : (f s.mem).dram = s.mem.dram) : ServeKept s (memSet f s) :=
  ⟨rfl, rfl, rfl, rfl, h⟩

theorem perfEvent_serveKept (b k n : Nat) (s : State) : ServeKept s (perfEvent b k n s) ∧ (perfEvent b k n s).mem = s.mem := by
  obtain ⟨r, hr, hk⟩ := perfEvent_same b k n s
  have hsn : (perfEvent b k n s).snuffed = s.snuffed := flag_congr (f_of_reg (hk _ (by decide)))
  rw [hr] at hsn ⊢
  exact ⟨⟨rfl, rfl, rfl, hsn, rfl⟩, rfl⟩

theorem srOut_serveKept (c : Nat) (s : State) : ServeKept s (srOut c s) ∧ (srOut c s).mem.queue = s.mem.queue := by
  have hwake : ServeKept s (srWake c true s) ∧ (srWake c true s).mem.queue = s.mem.queue := by
    unfold srWake
    dsimp only
    generalize hy : memSet _ (s.setF (Reg.CH_TEMP_IN_SR c) 0) = y
    have hin : ServeKept s y := by
      rw [← hy]
      exact (ServeKept.setF s 0 (by simp only [Reg.CH_TEMP_IN_SR]; omega)).trans (.memSet _ _ rfl)
    have hqueue : y.mem.queue = s.mem.queue := by rw [← hy]; rfl
    split
    · exact ⟨hin.trans (.incF y 1 (Nat.le_add_right_of_le (by decide))), hqueue⟩
    · exact ⟨hin, hqueue⟩
  have hretrained : ∀ x : State, ServeKept x (srRetrained c x) ∧ (srRetrained c x).mem.queue = x.mem.queue := fun x => by
    unfold srRetrained
    split
    · exact ⟨⟨rfl, rfl, rfl, rfl, rfl⟩, rfl⟩
    · exact ⟨⟨rfl, rfl, rfl, rfl, rfl⟩, rfl⟩
  unfold srOut
  split
  · exact ⟨hwake.1.trans (hretrained _).1, (hretrained _).2.trans hwake.2⟩
  · exact ⟨⟨rfl, rfl, rfl, rfl, rfl⟩, rfl⟩

/-- The request that issues leaves the queue. -/
theorem memTake_serveKept (c : Nat) (q : MemReq) (s : State) :
    ServeKept s (memTake c q s) ∧ (memTake c q s).mem.queue = s.mem.queue.erase q := by
  unfold memTake
  dsimp only
  split
  · obtain ⟨hk, hm⟩ := perfEvent_serveKept 0x0C 0x14 1 s
    exact ⟨hk.trans ⟨rfl, rfl, rfl, rfl, rfl⟩, congrArg (fun m => m.queue.erase q) hm⟩
  · exact ⟨⟨rfl, rfl, rfl, rfl, rfl⟩, rfl⟩

/-- The end of a step keeps the answer and LPDDR6 when nothing waits for it. -/
theorem finish_of_serveKept {v : State} (hs : Settled s) (hv : ServeKept s v) : (finish s v).resp = v.resp ∧ (finish s v).mem = v.mem := by
  have hlanes : lanesQuiet v = true := by
    have h := hs.lanes
    simp only [lanesQuiet, hv.links, hv.snuffed] at h ⊢
    exact h
  have hlost : v.links.lost = [] := by rw [hv.links, hs.lost]
  have hcut : v.lmp.cut = [] := by rw [hv.lmp, hs.cuts]
  have hres : v.flt.blockResets = [] := by rw [hv.flt, hs.resets]
  have hset : settle v = stageSettle (clearLost (clearCuts (psetSettle v))) := by
    rw [settle, settleLost_of_nil _ hlost, settleCuts_of_nil hcut, settleResets_of_nil _ _ hres hlanes]
  have hstage : ∀ x : State, (stageSettle x).resp = x.resp ∧ (stageSettle x).mem = x.mem := fun x => by
    rcases stageSettle_eq_regs x with h | ⟨n, h⟩
    · rw [h]; exact ⟨rfl, rfl⟩
    · rw [h]; exact ⟨rfl, rfl⟩
  have hclear : ∀ x : State, (clearLost (clearCuts x)).resp = x.resp ∧ (clearLost (clearCuts x)).mem = x.mem := fun _ => ⟨rfl, rfl⟩
  have hend : ∀ x : State, ({ x with pending := s.pending } : State).resp = x.resp ∧ ({ x with pending := s.pending } : State).mem = x.mem :=
    fun _ => ⟨rfl, rfl⟩
  unfold finish
  rw [(hend _).1, (hend _).2, hset, (hstage _).1, (hstage _).2, (hclear _).1, (hclear _).2]
  exact ⟨psetSettle_resp v, psetSettle_mem v⟩

end Serve

/-! ## Requests (R456 to R458, R471) -/

section Requests

variable {s : State}

theorem memRequest_of_room {m off len : Nat} {write : Bool} {data : List Byte} (hr : memReady s = true) (hb : off + len ≤ dramBytes s)
    (hf : memFull s m = false) :
    memRequest m write off len data s =
      (let cells := if write then atOffset off (fitBytes len data) else []
       (alignedParts 256 off len).foldl (fun x p => memQueue (memReq x m (if write then 2 else 1) p.1 p.2
         (cells.filter fun b => decide (p.1 ≤ b.1) && decide (b.1 < p.1 + p.2))) x) s) := by
  rw [memRequest, memArrive, if_neg (by omega), if_neg (by simp [hr]), if_neg (by simp [hf])]

theorem memIssue_of_chosen {c : Nat} (e0 e1 slip : Nat) {q : MemReq} (hr : memReady s = true) (hh : chanHolds s c = false)
    (hq : memChoose s.draw.2 c s.draw.1 = some q) :
    memIssue c e0 e1 slip s =
      (let r := memServe q { half := fun h i => errDigit (if h = 0 then e0 else e1) i, tag := fun _ => false, slip := slip }
         (memTake c q (srOut c s.draw.2))
       r.2.respond r.1.1 r.1.2) := by
  unfold memIssue
  rw [if_neg (by simp [hr, hh])]
  dsimp only
  rw [hq]

/-- A read that issues without errors answers its bytes and leaves the queue. -/
theorem memIssue_of_clean {c : Nat} {q : MemReq} (hr : memReady s = true) (hh : chanHolds s c = false)
    (hq : memChoose s.draw.2 c s.draw.1 = some q) (hw : q.write = false) (hi : s.flt.inj = none) :
    ServeKept s (memIssue c 0 0 0 s) ∧ (memIssue c 0 0 0 s).resp = { ok := true, data := dramPeek s q.off q.n } ∧
      (memIssue c 0 0 0 s).mem.queue = s.mem.queue.erase q := by
  have hclean : MemErrs.Clean { half := fun h i => errDigit (if h = 0 then 0 else 0) i, tag := fun _ => false, slip := 0 } :=
    ⟨fun h i => by simp [errDigit], fun _ => rfl, rfl⟩
  obtain ⟨hout, hqueue⟩ := srOut_serveKept c s.draw.2
  obtain ⟨htake, herase⟩ := memTake_serveKept c q (srOut c s.draw.2)
  have hkept : ServeKept s (memTake c q (srOut c s.draw.2)) := ((⟨rfl, rfl, rfl, rfl, rfl⟩ : ServeKept s s.draw.2).trans hout).trans htake
  have hinj : (memTake c q (srOut c s.draw.2)).flt.inj = none := by rw [hkept.flt]; exact hi
  obtain ⟨o, ho⟩ := serveRead_of_clean hclean q hinj
  have hpeek : dramPeek (memTake c q (srOut c s.draw.2)) q.off q.n = dramPeek s q.off q.n := by rw [dramPeek, dramPeek, hkept.dram]
  obtain ⟨hperf, hmem⟩ := perfEvent_serveKept 0x0C 0x10 (burstsOf q.off q.n) (memTake c q (srOut c s.draw.2))
  rw [memIssue_of_chosen 0 0 0 hr hh hq]
  dsimp only
  rw [memServe, hw, if_neg Bool.false_ne_true, ho, hpeek]
  exact ⟨(hkept.trans hperf).trans ⟨rfl, rfl, rfl, rfl, rfl⟩, rfl, (congrArg MemState.queue hmem).trans (herase.trans (congrArg (·.erase q) hqueue))⟩

theorem burstRead_eq (off e0 e1 slip m : Nat) (s : State) :
    burstRead off e0 e1 slip m s =
      if memHolds s off 32 then s
      else
        let r := dramAccess m 1 off 32 [] (MemErrs.one e0 e1 slip) s
        r.2.respond r.1.1 r.1.2 := rfl

theorem patrolScrub_of_free (e0 e1 slip : Nat) (hr : memReady s = true) (he : s.flag Reg.MEM_CTRL_SCRUB_EN = true)
    (hh : memHolds s (s.mem.scrub * 32) 32 = false) :
    patrolScrub e0 e1 slip s =
      (let r := dramAccess 0xFF 6 (s.mem.scrub * 32) 32 [] (MemErrs.one e0 e1 slip) s
       memSet (fun y => { y with scrub := (y.scrub + 1) % max 1 (dramBytes r.2 / 32) }) r.2) := by
  rw [patrolScrub, if_neg (by simp [hr, he, hh])]

end Requests

end Sys2Proof.Machine

namespace Sys2Proof.Proofs

open Sys2Proof.Machine

/-- Settles O39: a request without errors is followed through its parts; each other command is its meaning in its condition. -/
theorem memoryAccessCompletes : Obligations.MemoryAccessCompletes := by
  unfold Obligations.MemoryAccessCompletes
  intro s m c off e0 e1 slip hheld hm hc
  refine ⟨fun len write data h1 h2 ho hr hb hf => ?_, fun q hr hh hq => ⟨?_, fun hs hw hi => ?_⟩, fun ho ha => ?_, fun hr he hh => ?_,
    fun hread => ?_⟩
  · exact dev_runs (f := memRequest m write off len data) rfl hheld
      (by simp only [hm, h1, h2, ho, decide_true, Bool.true_or, Bool.and_self]) (memRequest_of_room hr hb hf)
  · exact dev_runs (f := memIssue c e0 e1 slip) rfl hheld (decide_eq_true hc) (memIssue_of_chosen e0 e1 slip hr hh hq)
  · obtain ⟨hkept, hresp, hqueue⟩ := memIssue_of_clean hr hh hq hw hi
    obtain ⟨hfr, hfm⟩ := finish_of_serveKept hs hkept
    exact ⟨_, dev_runs (f := memIssue c 0 0 0) rfl hheld (decide_eq_true hc) rfl, hfr.trans hresp,
      (congrArg MemState.dram hfm).trans hkept.dram, (congrArg MemState.queue hfm).trans hqueue⟩
  · exact dev_runs (f := burstRead off e0 e1 slip m) rfl hheld
      (by simp only [hm, ho, ha, decide_true, Bool.true_or, Bool.and_self]) (burstRead_eq off e0 e1 slip m s)
  · exact dev_runs (f := patrolScrub e0 e1 slip) rfl hheld rfl (patrolScrub_of_free e0 e1 slip hr he hh)
  · exact read_runs rfl hheld hm hread (by decide) (by decide) (by decide)

end Sys2Proof.Proofs

/-! Proofs about the host link and configuration space. -/

namespace Sys2Proof.Machine

/-! ## Words kept in a list of writes -/

theorem find_mapIns_same {β : Type} (k : Nat) (v : β) (m : List (Nat × β)) : (mapIns k v m).find? (fun x => x.1 == k) = some (k, v) := by
  induction m with
  | nil => simp [mapIns]
  | cons p m ih =>
    rw [mapIns]
    split
    · rw [List.find?_cons_of_neg (by simp; omega), ih]
    · split
      · simp
      · simp

theorem find_mapIns_ne {β : Type} {j k : Nat} (v : β) (h : j ≠ k) (m : List (Nat × β)) :
    (mapIns k v m).find? (fun x => x.1 == j) = m.find? (fun x => x.1 == j) := by
  have hkj : (k == j) = false := by simp; omega
  induction m with
  | nil => simp [mapIns, hkj]
  | cons p m ih =>
    obtain ⟨p, w⟩ := p
    rw [mapIns]
    split
    · rw [List.find?_cons, ih, List.find?_cons]
    · split
      · next hpk => rw [List.find?_cons_of_neg (by simp [hkj]), List.find?_cons_of_neg (by simp [hpk]; omega)]
      · rw [List.find?_cons_of_neg (by simp [hkj])]

/-! ## Configuration space and the CXL registers (R507, R513, R526) -/

section Words

variable {s : State}

theorem cfgWrite_eq {o : Nat} (v : Word) (s : State) (h : cfgMask o ≠ 0) :
    cfgWrite o v s = hifSet (fun x => { x with cfg := mapIns o (v &&& cfgMask o) x.cfg }) s := if_neg h

theorem find_cfgWrite_same {o : Nat} (v : Word) (s : State) (h : cfgMask o ≠ 0) :
    (cfgWrite o v s).hif.cfg.find? (fun x => x.1 == o) = some (o, v &&& cfgMask o) := by
  rw [cfgWrite_eq v s h]
  exact find_mapIns_same o (v &&& cfgMask o) s.hif.cfg

theorem find_cfgWrite_ne {o p : Nat} (v : Word) (s : State) (h : p ≠ o) :
    (cfgWrite o v s).hif.cfg.find? (fun x => x.1 == p) = s.hif.cfg.find? (fun x => x.1 == p) := by
  unfold cfgWrite
  split
  · rfl
  · exact find_mapIns_ne (v &&& cfgMask o) h s.hif.cfg

theorem cfg_compWrite (o : Nat) (v : Word) (s : State) : (compWrite o v s).hif.cfg = s.hif.cfg := by
  unfold compWrite
  split
  · rfl
  · rfl

/-- A bit that the host may write reads as it was written. -/
theorem cfgWord_bit {o i : Nat} {v : Word} (h : s.hif.cfg.find? (fun x => x.1 == o) = some (o, v &&& cfgMask o))
    (hi : (cfgMask o).getLsbD i = true) : (cfgWord s o).getLsbD i = v.getLsbD i := by
  rw [cfgWord, h]
  simp [hi]

/-- What a write of a component register leaves in it (R513). -/
def compWritten (o : Nat) (v : Word) : Word :=
  let w := (compInit o &&& ~~~compMask o) ||| (v &&& compMask o)
  if o = 0x1320 ∧ v.getLsbD 9 then (if getBits v 7 4 = 0 then w ||| 0x400 else w ||| 0x800) else w

theorem compWord_compWrite_same {o : Nat} (v : Word) (s : State) (h : compMask o ≠ 0) : compWord (compWrite o v s) o = compWritten o v := by
  rw [compWrite, if_neg h, compWord]
  dsimp only [hifSet]
  rw [find_mapIns_same]
  rfl

theorem compWord_compWrite_ne {o p : Nat} (v : Word) (s : State) (h : p ≠ o) : compWord (compWrite o v s) p = compWord s p := by
  unfold compWrite
  split
  · rfl
  · rw [compWord, compWord]
    dsimp only [hifSet]
    rw [find_mapIns_ne _ h]

theorem compWord_cfgWrite (o p : Nat) (v : Word) (s : State) : compWord (cfgWrite o v s) p = compWord s p := by
  unfold cfgWrite
  split
  · rfl
  · rfl

/-! ## The host's enables -/

theorem decoderOn_hostControl (cache mem msixEn : Bool) (base : Nat) (s : State) : decoderOn (hostControl cache mem base msixEn s) = true := by
  rw [decoderOn, hostControl, compWord_cfgWrite, compWord_compWrite_same _ _ (by decide)]
  decide

/-- The base's low word holds the bits above 256 MiB. -/
theorem compWritten_baseLo {base : Nat} (h : base % 2 ^ 28 = 0) : (compWritten 0x1310 (BitVec.ofNat 32 base)).toNat = base % 2 ^ 32 := by
  have hmask : ∀ k : Fin 16, (2 ^ 28 * k.val) &&& 0xF0000000 = 2 ^ 28 * k.val := by decide
  have hw : compWritten 0x1310 (BitVec.ofNat 32 base) = BitVec.ofNat 32 base &&& 0xF0000000 := by simp [compWritten, compInit, compMask]
  have hb : base % 2 ^ 32 = 2 ^ 28 * (base % 2 ^ 32 / 2 ^ 28) := by omega
  rw [hw, BitVec.toNat_and, BitVec.toNat_ofNat, hb]
  exact hmask ⟨base % 2 ^ 32 / 2 ^ 28, by omega⟩

theorem compWritten_baseHi {base : Nat} (h : base < 2 ^ 52) : (compWritten 0x1314 (BitVec.ofNat 32 (base / 2 ^ 32))).toNat = base / 2 ^ 32 := by
  have hw : compWritten 0x1314 (BitVec.ofNat 32 (base / 2 ^ 32)) = BitVec.ofNat 32 (base / 2 ^ 32) &&& BitVec.allOnes 32 := by
    simp [compWritten, compInit, compMask]
  rw [hw, BitVec.and_allOnes, BitVec.toNat_ofNat]
  omega

theorem decoderBase_hostControl (cache mem msixEn : Bool) {base : Nat} (hb : base < 2 ^ 52) (h28 : base % 2 ^ 28 = 0) (s : State) :
    decoderBase (hostControl cache mem base msixEn s) = base := by
  have hlo : compWord (hostControl cache mem base msixEn s) 0x1310 = compWritten 0x1310 (BitVec.ofNat 32 base) := by
    rw [hostControl, compWord_cfgWrite, compWord_compWrite_ne _ _ (by decide), compWord_compWrite_ne _ _ (by decide),
      compWord_compWrite_ne _ _ (by decide), compWord_compWrite_ne _ _ (by decide), compWord_compWrite_same _ _ (by decide)]
  have hhi : compWord (hostControl cache mem base msixEn s) 0x1314 = compWritten 0x1314 (BitVec.ofNat 32 (base / 2 ^ 32)) := by
    rw [hostControl, compWord_cfgWrite, compWord_compWrite_ne _ _ (by decide), compWord_compWrite_ne _ _ (by decide),
      compWord_compWrite_ne _ _ (by decide), compWord_compWrite_same _ _ (by decide)]
  rw [decoderBase, hlo, hhi, compWritten_baseLo h28, compWritten_baseHi hb]
  omega

theorem msix_hostControl (cache mem msixEn : Bool) (base : Nat) (s : State) :
    (cfgWord (hostControl cache mem base msixEn s) 0xB0).getLsbD 31 = msixEn := by
  refine (cfgWord_bit (find_cfgWrite_same _ _ (by decide)) (by decide)).trans ?_
  cases msixEn
  · decide
  · decide

/-- The word of CXL.cache and CXL.mem, behind the writes that follow it. -/
theorem cxlBits_hostControl (cache mem msixEn : Bool) (base : Nat) (s : State) {i : Nat} (hi : (cfgMask 0x16C).getLsbD i = true) :
    (cfgWord (hostControl cache mem base msixEn s) 0x16C).getLsbD i = (BitVec.ofNat 32 (b2n cache + 4 * b2n mem)).getLsbD i := by
  refine cfgWord_bit ?_ hi
  rw [hostControl, find_cfgWrite_ne _ _ (by decide), cfg_compWrite, cfg_compWrite, cfg_compWrite, cfg_compWrite, cfg_compWrite,
    find_cfgWrite_same _ _ (by decide)]

end Words

/-! ## The link (R506, R507) -/

section Link

variable {s : State}

theorem hifPerst_low (s : State) :
    hifPerst false s = (let x := bringSet (fun b => { b with hifPerstN := false }) s
      hifSet (fun h => { h with cfgReady := false })
        (if s.flag Reg.HIF_STATUS_LINK_UP then
          raise (fev FK.HIF_LINK_DOWN 0x0B 0 0) ((linkGone (retire (x.draw.1 % 65) x.draw.2)).incF Reg.HIF_CNT_LINK_DOWN 1)
        else linkGone x)) := by
  unfold hifPerst
  dsimp only
  generalize hx : bringSet (fun b => { b with hifPerstN := false }) s = x
  have hflag : x.flag Reg.HIF_STATUS_LINK_UP = s.flag Reg.HIF_STATUS_LINK_UP := by rw [← hx]; rfl
  rw [if_neg Bool.false_ne_true, hflag]
  split
  · next hup => rw [linkLost_of_linkUp (hflag.trans hup)]
  · rfl

theorem hifLinkUp_of_fit {width rate : Nat} (cxl flit256 : Bool) (hp : s.bring.hifPerstN = true) (hw : maxWidth s ≤ width)
    (hr : maxRate s ≤ rate) :
    hifLinkUp width rate cxl flit256 s =
      (let x := (((((s.setF Reg.HIF_STATUS_LINK_UP 1).setF Reg.HIF_STATUS_WIDTH width).setF Reg.HIF_STATUS_RATE rate).setFlag
         Reg.HIF_STATUS_CXL_MODE cxl).setFlag Reg.HIF_STATUS_FLIT256 (flit256 || (cxl && rate == 0)))
       hostBack (resendAll (if width > maxWidth x ∨ rate > maxRate x then raise (fev FK.HIF_LINK_DEGRADED 0x0B 0 0) x else x))) := by
  simp only [hifLinkUp, hp, Nat.max_eq_left hw, Nat.max_eq_left hr, Bool.not_true, Bool.false_eq_true, if_false]

/-- Configuration space answers on a link that is up, once it is ready or loaded (R682). -/
theorem configRequest_open {loaded : Bool} (hup : s.flag Reg.HIF_STATUS_LINK_UP = true) (hr : (loaded || s.hif.cfgReady) = true) :
    ¬ ((!(if loaded then cfgLoad s else s).flag Reg.HIF_STATUS_LINK_UP) = true ∨ (!(if loaded then cfgLoad s else s).hif.cfgReady) = true) := by
  have hload : (cfgLoad s).hif.cfgReady = true ∧ (cfgLoad s).flag Reg.HIF_STATUS_LINK_UP = true := by
    unfold cfgLoad
    split
    · next h => exact ⟨h, hup⟩
    · exact ⟨rfl, hup⟩
  cases loaded with
  | true => simp [hload]
  | false => simpa [hup] using hr

end Link

end Sys2Proof.Machine

namespace Sys2Proof.Proofs

open Sys2Proof.Machine

/-- Settles O40: the link by its condition, configuration space by what a write leaves in each word. -/
theorem hostLinkCompletes : Obligations.HostLinkCompletes := by
  unfold Obligations.HostLinkCompletes
  intro s m hm
  refine ⟨?_, ?_, fun hheld => ⟨fun width rate cxl flit256 hw hr hp hmw hmr => ?_, fun retired h64 hup => ?_, ?_,
    fun loaded hup hr => ⟨fun off hwf => ?_, fun off v hwf => ?_, fun cache mem base msixEn hwf => ⟨?_, ?_, ?_, ?_, ?_, ?_⟩⟩⟩⟩
  · exact pin_runs (f := hifPerst true) rfl rfl rfl
  · exact pin_runs (f := hifPerst false) rfl rfl (hifPerst_low s)
  · exact dev_runs (f := hifLinkUp width rate cxl flit256) rfl hheld (by simp only [hw, hr, decide_true, Bool.and_self])
      (hifLinkUp_of_fit cxl flit256 hp hmw hmr)
  · refine dev_runs (f := fun s => hifLinkDown (if s.flag Reg.HIF_STATUS_LINK_UP then retire retired s else s)) rfl hheld
      (decide_eq_true h64) ?_
    rw [if_pos hup]
    exact hifLinkDown_of_linkUp ((flag_retire _ (by decide)).trans hup)
  · exact reg_runs rfl hheld (anyMaster_of_regMaster hm) hm (by decide) (by decide) rfl
  · exact dev_runs (f := configRequest loaded (.read off)) rfl hheld hwf (if_neg (configRequest_open hup hr))
  · exact dev_runs (f := configRequest loaded (.write off v)) rfl hheld hwf (if_neg (configRequest_open hup hr))
  · exact dev_runs (f := configRequest loaded (.control cache mem base msixEn)) rfl hheld hwf (if_neg (configRequest_open hup hr))
  · exact decoderOn_hostControl cache mem msixEn base _
  · simp only [CfgReq.wf, Bool.and_eq_true, decide_eq_true_eq] at hwf
    exact decoderBase_hostControl cache mem msixEn hwf.1 hwf.2 _
  · exact msix_hostControl cache mem msixEn base _
  · refine (cxlBits_hostControl cache mem msixEn base _ (by decide)).trans ?_
    cases cache <;> cases mem <;> decide
  · refine (cxlBits_hostControl cache mem msixEn base _ (by decide)).trans ?_
    cases cache <;> cases mem <;> decide

end Sys2Proof.Proofs

/-! Proofs about the host's accesses, snoops, interrupts and mailbox. -/

namespace Sys2Proof.Machine

section Host

variable {s : State}

/-! ## BARs (R510 to R512) -/

theorem barAccess_of_word {b : Writer} {write : Bool} {off : Nat} (w : Word) (hup : s.flag Reg.HIF_STATUS_LINK_UP = true) (h4 : off % 4 = 0) :
    barAccess b write off 4 w s = busAccess b write (0x40000000 + off) 4 15 (leBytes 4 w.toNat) s := by
  rw [barAccess, if_neg (by simp [hup]), if_neg (by simp [h4])]

theorem apertureAccess_of_inside {write : Bool} {off len : Nat} (en : Nat) (data : List Byte) (err : Nat)
    (hup : s.flag Reg.HIF_STATUS_LINK_UP = true) (hl : off % len = 0) (h64 : off / 64 = (off + len - 1) / 64)
    (h4 : routeTo (apertureAddr s off) len ≠ some 4) (h0 : routeTo (apertureAddr s off) len ≠ some 0) :
    apertureAccess write off len en data err s =
      busAccess { master := 2, err := err, host := [] } write (apertureAddr s off) len en data s := by
  unfold apertureAccess
  dsimp only
  rw [if_neg (by simp [hup, hl, h64]), if_neg (by simp [h4, h0])]

theorem bar2Access_component {off : Nat} (w : Word) (hup : s.flag Reg.HIF_STATUS_LINK_UP = true) (ho : off < 0x11000) (h4 : off % 4 = 0) :
    bar2Access true off w.toNat s = (hostEnables (compWrite off w s)).respond true [] := by
  have hword : off / 4 * 4 = off := by omega
  simp only [bar2Access, hup, hword, ho, BitVec.ofNat_toNat, BitVec.setWidth_eq, Bool.not_true, Bool.false_eq_true, if_false, if_true]

/-- The words of the MSI-X table start at 0x11000 (R526). -/
theorem msix_offset (k : Nat) : (0x11000 + 4 * k) / 4 * 4 = 0x11000 + 4 * k ∧ (0x11000 + 4 * k - 0x11000) / 4 = k := by omega

theorem bar2Access_msixWrite {k : Nat} (w : Word) (hup : s.flag Reg.HIF_STATUS_LINK_UP = true) (hk : k < 128) :
    bar2Access true (0x11000 + 4 * k) w.toNat s =
      (hifSet (fun h => { h with msix := mapSet (if k % 4 = 3 then 1 else 0) h.msix k w }) s).respond true [] := by
  obtain ⟨hword, hix⟩ := msix_offset k
  unfold bar2Access
  dsimp only
  rw [if_neg (by simp [hup]), if_pos rfl, hword, hix, if_neg (by omega), if_pos (by omega), BitVec.ofNat_toNat, BitVec.setWidth_eq]

theorem bar2Access_msixRead {k : Nat} (w : Nat) (hup : s.flag Reg.HIF_STATUS_LINK_UP = true) (hk : k < 128) :
    bar2Access false (0x11000 + 4 * k) w s = s.respond true (leBytes 4 (msixWord s k).toNat) := by
  obtain ⟨hword, hix⟩ := msix_offset k
  unfold bar2Access
  dsimp only
  rw [if_neg (by simp [hup]), if_neg Bool.false_ne_true, hword, hix, if_neg (by omega), if_pos (by omega)]

/-! ## CXL.mem (R513 to R516) -/

/-- Counters stand in another page than a field outside theirs. -/
theorem f_perfEvent {F : Field} (b k n : Nat) (s : State) (h : F.key < 0x4C000 ∨ 0x4F200 ≤ F.key) : (perfEvent b k n s).f F = s.f F :=
  (perfEvent_same b k n s).f h

theorem memReady_perfEvent (b k n : Nat) (s : State) : memReady (perfEvent b k n s) = memReady s :=
  flag_congr (f_perfEvent b k n s (by decide))

theorem dramBytes_perfEvent (b k n : Nat) (s : State) : dramBytes (perfEvent b k n s) = dramBytes s := by
  simp only [dramBytes, memChannels, f_perfEvent b k n s (F := Reg.MEM_GEOM_DENSITY) (by decide),
    f_perfEvent b k n s (F := Reg.MEM_GEOM_CHANNELS) (by decide)]

/-- A read of a line that memory holds. -/
theorem cxlMemRead_of_ready {addr err o : Nat} (ho : cxlOffset s addr = some o) (hh : memHolds s (o / 64 * 64) 64 = false)
    (hr : memReady s = true) (hb : o / 64 * 64 + 64 ≤ dramBytes s) :
    cxlMemRead addr err s =
      (let r := cxlLine (o / 64 * 64) err (perfEvent 0x0B 0x10 1 s)
       if r.1.1 then r.2.respond true r.1.2 else (memPoison r.2).respond false r.1.2) := by
  unfold cxlMemRead
  rw [ho]
  dsimp only
  rw [if_neg (by simp [hh])]
  simp only [memReady_perfEvent, dramBytes_perfEvent, hr, hb, decide_true, Bool.and_self, if_true]

theorem cxlMemWrite_of_open {addr err o en : Nat} {data : List Byte} (ho : cxlOffset s addr = some o)
    (hh : memHolds s (o / 64 * 64) 64 = false) (hp : s.flag Reg.HIF_CTRL_WPROT_EN = false) :
    cxlMemWrite addr en data err s =
      (let r := memWrite 3 (0x1000000000 + o / 64 * 64) 64
         ((enabledCells (o / 64 * 64) en (fitBytes 64 data)).map fun c => (0x1000000000 + c.1, c.2)) err s
       (if r.1 then r.2 else memPoison r.2).respond true []) := by
  unfold cxlMemWrite
  rw [ho]
  dsimp only
  rw [if_neg (by simp [hh]), if_neg (by simp [hp])]

theorem snoop_of_cxl (hup : s.flag Reg.HIF_STATUS_LINK_UP = true) (hc : s.flag Reg.HIF_STATUS_CXL_MODE = true) :
    snoop s = s.respond true [0x04] := by
  rw [snoop, if_pos (by simp [hup, hc])]

/-! ## The mailbox and MSI-X (R522, R523, R526) -/

theorem mbxDoorbell_of_free (m : Nat) (h : s.flag Reg.MBX_STATUS_BUSY = false) :
    mbxDoorbell m s = hifSet (fun h => { h with mbxTaken := true, mbxMaster := m }) (s.setF Reg.MBX_STATUS_BUSY 1) := by
  rw [mbxDoorbell, if_neg (by simp [h])]

theorem mbxDoorbell_of_busy (m : Nat) (h : s.flag Reg.MBX_STATUS_BUSY = true) :
    mbxDoorbell m s = raise (fev FK.HIF_MBX_OVERRUN 0x0B 0 0) (s.incF Reg.HIF_CNT_MBX_OVERRUN 1) := if_pos h

/-- A request in the mailbox that has the magic is answered, and the answer put in its place. -/
theorem mbxResponse_of_taken (host : List Byte) (bad : Bool) (ht : s.hif.mbxTaken = true) (hs : mailboxServed s = true)
    (hl : leAt (mbxRequest s) 16 2 ≤ 4072) (hz : leAt (mbxRequest s) 0 2 = zmpMagic) :
    mbxResponse host bad s =
      (let q := parseMsg (mbxRequest s)
       let r := mailboxAnswer host bad q s
       let l := msgBytes (answerMsg q r.1)
       if held r.2 then r.2 else mbxEnd 0 l.length (putResponse l r.2)) := by
  unfold mbxResponse
  rw [if_neg (by simp [ht, hs])]
  dsimp only
  rw [if_neg (by omega), if_pos hz]

theorem msixMessage_of_due {v : Nat} (h : msixDue s v = true) :
    msixMessage v s = hifSet (fun h => { h with sent := h.sent ||| 2 ^ v, lastSent := mapSet 0 h.lastSent v (s.tb0 + 1) })
      (s.emit (.hostWrite ((msixWord s (4 * v)).toNat + 2 ^ 32 * (msixWord s (4 * v + 1)).toNat)
        (leBytes 4 (msixWord s (4 * v + 2)).toNat))) := by
  rw [msixMessage, if_neg (by simp [h])]
  rfl

end Host

end Sys2Proof.Machine

namespace Sys2Proof.Proofs

open Sys2Proof.Machine

/-- Settles O41: each command is its meaning in its condition. -/
theorem hostAccessCompletes : Obligations.HostAccessCompletes := by
  unfold Obligations.HostAccessCompletes
  intro s m write hheld hm
  have hany : anyMaster m = true := anyMaster_of_regMaster hm
  have hbusy : (requested s).flag Reg.MBX_STATUS_BUSY = s.flag Reg.MBX_STATUS_BUSY := requested_flag s (by decide)
  refine ⟨fun hup => ⟨fun off w err host ho h4 he => ?_, fun off len en data err ho h1 h64 hl hc h4 h0 => ?_, fun off w ho h4 => ?_,
      fun k w hk => ?_, fun k w hk => ?_⟩, fun addr err o ha hoff hh => ⟨fun hr hb => ?_, fun en data hen hd hp => ?_⟩,
    fun addr ha hup hc => ?_, fun hb => ?_, fun hb => ?_, fun host bad ht hs hl hz => ?_, fun v hv hd => ?_⟩
  · exact dev_runs (f := barAccess { master := 2, err := err, host := host } write off 4 w) rfl hheld
      (by simp only [ho, decide_true]; decide) (barAccess_of_word w hup h4)
  · exact dev_runs (f := apertureAccess write off len en data err) rfl hheld (by simp only [ho, h1, h64, decide_true, Bool.and_self])
      (apertureAccess_of_inside en data err hup hl hc h4 h0)
  · exact dev_runs (f := bar2Access true off w.toNat) rfl hheld
      (by simp only [h4, (by omega : off < 0x40000), decide_true, Bool.and_self]) (bar2Access_component w hup ho h4)
  · exact dev_runs (f := bar2Access true (0x11000 + 4 * k) w.toNat) rfl hheld
      (by simp only [(by omega : 0x11000 + 4 * k < 0x40000), (by omega : (0x11000 + 4 * k) % 4 = 0), decide_true, Bool.and_self])
      (bar2Access_msixWrite w hup hk)
  · exact dev_runs (f := bar2Access false (0x11000 + 4 * k) w.toNat) rfl hheld
      (by simp only [(by omega : 0x11000 + 4 * k < 0x40000), (by omega : (0x11000 + 4 * k) % 4 = 0), decide_true, Bool.and_self])
      (bar2Access_msixRead w.toNat hup hk)
  · exact dev_runs (f := cxlMemRead addr err) rfl hheld (decide_eq_true ha) (cxlMemRead_of_ready hoff hh hr hb)
  · exact dev_runs (f := cxlMemWrite addr en data err) rfl hheld (by simp only [ha, hen, hd, decide_true, Bool.and_self])
      (cxlMemWrite_of_open hoff hh hp)
  · exact dev_runs (f := snoop) rfl hheld (decide_eq_true ha) (snoop_of_cxl hup hc)
  · exact reg_runs rfl hheld hany hm (by decide) (by decide) (mbxDoorbell_of_free m (hbusy.trans hb))
  · exact reg_runs rfl hheld hany hm (by decide) (by decide) (mbxDoorbell_of_busy m (hbusy.trans hb))
  · exact dev_runs (f := mbxResponse host bad) rfl hheld rfl (mbxResponse_of_taken host bad ht hs hl hz)
  · exact dev_runs (f := msixMessage v) rfl hheld (decide_eq_true hv) (msixMessage_of_due hd)

end Sys2Proof.Proofs

/-! Proofs about the dictionary's requests. -/

namespace Sys2Proof.Machine

section Served

variable {s : State} {origin ix el count : Nat} {f : State → Answer × State}

/-- The Lamplighter's answer to a request that it serves outside recovery mode (R534). -/
theorem served_of_taken (ht : takesOrigin s origin = true) (hr : s.flag Reg.NVM_STATUS_RECOVERY = false) :
    served origin ix f s = (f s).2.respond ((f s).1.1 == St.ok) (leBytes 1 (f s).1.1 ++ (f s).1.2) := by
  rw [served, if_neg (by simp [ht]), if_neg (by simp [hr])]

theorem servedElems_of_count (hb : badCount el count = false) : servedElems origin ix el count f s = served origin ix f s := by
  simp only [servedElems, hb, Bool.false_eq_true, if_false]

/-- A COUNT of 0, or one that is not 1 with element 0xFF, answers RANGE (R533). -/
theorem servedElems_of_badCount (ht : takesOrigin s origin = true) (hr : s.flag Reg.NVM_STATUS_RECOVERY = false)
    (hb : badCount el count = true) : servedElems origin ix el count f s = s.respond false (leBytes 1 St.range) := by
  rw [servedElems, served_of_taken ht hr, if_pos hb]
  rfl

end Served

end Sys2Proof.Machine

namespace Sys2Proof.Proofs

open Sys2Proof.Machine

/-- Settles O42: the guard on COUNT decides between RANGE and the operation's answer. -/
theorem dictionaryCompletes : Obligations.DictionaryCompletes := by
  unfold Obligations.DictionaryCompletes
  refine ⟨fun s origin session ix el count p value host bad hheld ho hs hix hel hc hbad hv hp ht hr => ?_,
    fun s origin session ix el count p value host bad hheld ho hs hix hel h1 hc hgood hv hp ht hr => ?_⟩
  · have hb : badCount el count = true := by simpa [badCount] using hbad
    refine ⟨?_, ?_, ?_, fun h1 mode interval hm hi => ?_⟩
    · exact dev_runs (f := servedElems origin ix el count (dictRead origin ix el count (payloadLimit origin))) rfl hheld
        (by simp only [ho, hs, hix, hel, hc, decide_true, Bool.and_self]) (servedElems_of_badCount ht hr hb)
    · exact dev_runs (f := servedElems origin ix el count (dictWrite origin session ix el count value host bad)) rfl hheld
        (by simp only [ho, hs, hix, hel, hc, hv, decide_true, Bool.and_self]) (servedElems_of_badCount ht hr hb)
    · exact dev_runs (f := servedElems origin ix el count (dictStage origin session p ix el count value)) rfl hheld
        (by simp only [ho, hs, hix, hel, hc, hv, hp, decide_true, Bool.and_self]) (servedElems_of_badCount ht hr hb)
    · subst h1
      exact dev_runs (f := servedElems 1 ix el count (dictSubscribe session ix el count (leBytes 1 mode ++ leBytes 1 0 ++ leBytes 2 interval)))
        rfl hheld (by simp only [hs, hix, hel, hc, hm, hi, decide_true, Bool.and_self]) (servedElems_of_badCount ht hr hb)
  · have hb : badCount el count = false := by
      have h0 : count ≠ 0 := by omega
      rcases hgood with h | h
      · simp [badCount, h, h0]
      · simp [badCount, h]
    refine ⟨?_, ?_, ?_, ?_, fun n dom policy trig ns hn hd hpo htr hns => ⟨fun hd8 hp2 => ?_, fun hout => ?_⟩, fun off len hoff hlen => ?_,
      fun off hoff hv' => ?_, fun first len hf hlen => ?_, fun h1 mode interval hm hi => ?_⟩
    · exact dev_runs (f := servedElems origin ix el count (dictRead origin ix el count (payloadLimit origin))) rfl hheld
        (by simp only [ho, hs, hix, hel, hc, decide_true, Bool.and_self]) ((servedElems_of_count hb).trans (served_of_taken ht hr))
    · exact dev_runs (f := servedElems origin ix el count (dictWrite origin session ix el count value host bad)) rfl hheld
        (by simp only [ho, hs, hix, hel, hc, hv, decide_true, Bool.and_self]) ((servedElems_of_count hb).trans (served_of_taken ht hr))
    · exact dev_runs (f := servedElems origin ix el count (dictStage origin session p ix el count value)) rfl hheld
        (by simp only [ho, hs, hix, hel, hc, hv, hp, decide_true, Bool.and_self]) ((servedElems_of_count hb).trans (served_of_taken ht hr))
    · exact dev_runs (f := served origin 0x1200 (fun s => applyNow p origin session (logDrain s))) rfl hheld
        (by simp only [ho, hs, hp, decide_true, Bool.and_self]) (served_of_taken ht hr)
    · refine dev_runs (f := served origin 0x1200 (applyFields origin session p n dom policy trig ns)) rfl hheld
        (by simp only [ho, hs, hp, hn, hd, hpo, htr, hns, decide_true, Bool.and_self]) ((served_of_taken ht hr).trans ?_)
      rw [applyFields, if_neg (by omega)]
    · refine dev_runs (f := served origin 0x1200 (applyFields origin session p n dom policy trig ns)) rfl hheld
        (by simp only [ho, hs, hp, hn, hd, hpo, htr, hns, decide_true, Bool.and_self]) ((served_of_taken ht hr).trans ?_)
      rw [applyFields, if_pos (by omega)]
    · exact dev_runs (f := served origin ix (blockRead origin ix el (leBytes 8 off ++ leBytes 4 len) (payloadLimit origin))) rfl hheld
        (by simp only [ho, hix, hel, hoff, hlen, decide_true, Bool.and_self]) (served_of_taken ht hr)
    · exact dev_runs (f := served origin ix (blockWrite origin session ix el (leBytes 8 off ++ value))) rfl hheld
        (by simp only [ho, hs, hix, hel, hoff, hv', decide_true, Bool.and_self]) (served_of_taken ht hr)
    · exact dev_runs (f := served origin 0x1100 (logRead (leBytes 8 first ++ leBytes 2 len) (if origin = 1 then 43 else 126) (payloadLimit origin)))
        rfl hheld (by simp only [ho, hf, hlen, decide_true, Bool.and_self]) (served_of_taken ht hr)
    · subst h1
      exact dev_runs (f := servedElems 1 ix el count (dictSubscribe session ix el count (leBytes 1 mode ++ leBytes 1 0 ++ leBytes 2 interval)))
        rfl hheld (by simp only [hs, hix, hel, hc, hm, hi, decide_true, Bool.and_self])
        ((servedElems_of_count hb).trans (served_of_taken ht hr))

end Sys2Proof.Proofs

/-! Proofs about the command objects. -/

namespace Sys2Proof.Machine

/-- A checked write is of one command object: of this kind, index and value. -/
def soleCommand (k : OSpec) (i v : Nat) (r : Nat × List ElemWrite) : Bool :=
  r.1 == St.ok && decide (r.2.length = 1) &&
    r.2.all fun w => decide (w.row.home = .spec k) && (elemWords w).isEmpty && !w.row.persist && w.i == i && ofLe w.value == v

theorem exists_of_soleCommand {k : OSpec} {i v : Nat} {r : Nat × List ElemWrite} (h : soleCommand k i v r = true) :
    ∃ w : ElemWrite, r = (St.ok, [w]) ∧ w.row.home = .spec k ∧ elemWords w = [] ∧ w.row.persist = false ∧ w.i = i ∧ ofLe w.value = v := by
  obtain ⟨st, l⟩ := r
  simp only [soleCommand, Bool.and_eq_true, beq_iff_eq, decide_eq_true_eq, List.length_eq_one_iff] at h
  obtain ⟨⟨hst, w, rfl⟩, hw⟩ := h
  simp only [List.all_cons, List.all_nil, Bool.and_true, Bool.and_eq_true, decide_eq_true_eq, List.isEmpty_iff, Bool.not_eq_true', beq_iff_eq] at hw
  obtain ⟨⟨⟨⟨hk, he⟩, hp⟩, hi⟩, hv⟩ := hw
  exact ⟨w, by rw [hst], hk, he, hp, hi, hv⟩

/-- The objects of the parameter sets take their commands from the three interfaces (R543). -/
theorem checkWrite_psetCommand : ∀ o < 3, ∀ p < 4, ∀ v ∈ [1, 2, 3],
    soleCommand .psetCommand p v (checkWrite o 1 (0x1200 + p) 1 1 [BitVec.ofNat 8 v]) = true := by decide +kernel

theorem checkWrite_restoreDefaults : ∀ o < 3,
    soleCommand .restoreDefaults 0 0x44464C54 (checkWrite o 1 0x1000 8 1 [0x54, 0x4C, 0x46, 0x44]) = true := by decide +kernel

theorem checkWrite_lifetimeClear :
    soleCommand .lifetimeClear 0 0x434C5252 (checkWrite 3 1 0x9000 4 1 [0x52, 0x52, 0x4C, 0x43]) = true := by decide +kernel

/-- A WRITE of one command object is its command, logged (R536, R564). -/
theorem served_soleCommand {o session jx ix el i v : Nat} {value : List Byte} {k : OSpec} {f : State → State} {s : State}
    (ht : takesOrigin s o = true) (hr : s.flag Reg.NVM_STATUS_RECOVERY = false ∨ jx = 0xA000)
    (hc : soleCommand k i v (checkWrite o 1 ix el 1 value) = true)
    (hx : ∀ w : ElemWrite, w.i = i → ofLe w.value = v → writeSpec k w o session false (logDrain s) = ((St.ok, []), f (logDrain s))) :
    served o jx (dictWrite o session ix el 1 value [] false) s = objectCommand o session ix el value f s := by
  obtain ⟨w, hw, hk, he, hp, hi, hv⟩ := exists_of_soleCommand hc
  exact served_command ht hr hw hk he hp (hx w hi hv)

section Commands

variable {s : State} {w : ElemWrite} {o session p : Nat}

theorem writeSpec_clear (hi : w.i = p) (hv : ofLe w.value = 1) (hs : (s.pset p).state ≠ 2) :
    writeSpec .psetCommand w o session false (logDrain s) =
      ((St.ok, []), logPut (logCtrl 3 2 0 0x020000) 0 p ((logDrain s).putPset p PSet.reset)) := by
  simp only [writeSpec, hi, hv, if_true, psetClear, logDrain_pset, hs, if_false]

theorem writeSpec_applyNow (hi : w.i = p) (hv : ofLe w.value = 2) (hs : (s.pset p).state ≠ 2)
    (hh : (shadowGroups (setShadow (s.pset p))).find? (groupHeld (logDrain s)) = none)
    (hf : applyFail (setShadow (s.pset p)) none (logDrain s) = none) :
    writeSpec .psetCommand w o session false (logDrain s) =
      ((St.ok, []), applySet p (setShadow ((logDrain s).pset p)) none 0 0 false o session (logDrain s)) := by
  simp only [writeSpec, hi, hv, OfNat.ofNat_ne_one, if_false, if_true, applyNow, logDrain_pset, hh, hs, hf]

theorem writeSpec_check (hi : w.i = p) (hv : ofLe w.value = 3) (hs : (s.pset p).state ≠ 2)
    (hf : applyFail (setShadow (s.pset p)) none (logDrain s) = none) :
    writeSpec .psetCommand w o session false (logDrain s) = ((St.ok, []), logDrain s) := by
  simp only [writeSpec, hi, hv, (by decide : ¬ (3 : Nat) = 1), (by decide : ¬ (3 : Nat) = 2), if_false, psetCheck, logDrain_pset, hs, hf]

end Commands

end Sys2Proof.Machine

namespace Sys2Proof.Proofs

open Sys2Proof.Machine

/-- Settles O43: each command is the write of one object, whose value passes its checks. -/
theorem commandObjectsComplete : Obligations.CommandObjectsComplete := by
  unfold Obligations.CommandObjectsComplete
  intro s origin session p hheld hs hp hr
  refine ⟨fun ho ht => ⟨fun h2 => ?_, fun h2 hh hf => ?_, fun h2 hf => ?_, ?_⟩, fun ht => ?_⟩
  · exact dev_runs (f := served origin 0x1200 (dictWrite origin session (0x1200 + p) 1 1 [1] [] false)) rfl hheld
      (by simp only [(by omega : origin < 4), hs, hp, decide_true, Bool.and_self])
      (served_soleCommand ht (.inl hr) (checkWrite_psetCommand origin ho p hp 1 (by decide)) fun w hi hv => writeSpec_clear hi hv h2)
  · exact dev_runs (f := served origin 0x1200 (dictWrite origin session (0x1200 + p) 1 1 [2] [] false)) rfl hheld
      (by simp only [(by omega : origin < 4), hs, hp, decide_true, Bool.and_self])
      (served_soleCommand ht (.inl hr) (checkWrite_psetCommand origin ho p hp 2 (by decide)) fun w hi hv => writeSpec_applyNow hi hv h2 hh hf)
  · exact dev_runs (f := served origin 0x1200 (dictWrite origin session (0x1200 + p) 1 1 [3] [] false)) rfl hheld
      (by simp only [(by omega : origin < 4), hs, hp, decide_true, Bool.and_self])
      (served_soleCommand ht (.inl hr) (checkWrite_psetCommand origin ho p hp 3 (by decide)) fun w hi hv => writeSpec_check hi hv h2 hf)
  · exact dev_runs (f := served origin 0x1000 (dictWrite origin session 0x1000 8 1 (leBytes 4 0x44464C54) [] false)) rfl hheld
      (by simp only [(by omega : origin < 4), hs, decide_true, Bool.true_and]; decide)
      (served_soleCommand ht (.inl hr) (checkWrite_restoreDefaults origin ho) fun w _ hv => by rw [writeSpec, hv]; rfl)
  · exact dev_runs (ok := decide (0x434C5252 < 2 ^ 32)) (f := served 3 0x9000 (dictWrite 3 0 0x9000 4 1 (leBytes 4 0x434C5252) [] false)) rfl
      hheld (by decide) (served_soleCommand ht (.inl hr) checkWrite_lifetimeClear fun w _ hv => by rw [writeSpec, hv])

end Sys2Proof.Proofs

/-! Proofs about ZMP and the persistent stores. -/

namespace Sys2Proof.Machine

section Zmp

variable {s : State} {ip udp : Nat}

/-! ## Datagrams (R549 to R559) -/

/-- A session's number is below 8, so it is never DISCOVER's. -/
theorem sessionEnabled_ne {n : Nat} (h : sessionEnabled s n = true) : n ≠ 0xFF := by
  simp only [sessionEnabled, Bool.and_eq_true, decide_eq_true_eq] at h
  omega

/-- A datagram of the right form and tag, from outside the multicast groups, is its session's (R549, R551). -/
theorem zmpDatagram_of_tagged {port : Nat} {l : List Byte} (host : List Byte) (bad : Bool)
    (hen : s.flag (Reg.MNET_PORT_CFG_EN port) = true) (hz : s.mgmt.zmpOn = true) (h40 : 40 ≤ l.length)
    (hl : l.length = 40 + leAt l 16 2) (hmax : l.length ≤ 1440) (hmagic : leAt l 0 2 = zmpMagic)
    (h0 : (parseMsg l).flags.testBit 0 = false) (h2 : (parseMsg l).flags.testBit 2 = false)
    (hses : sessionEnabled (zmpCount 0 (s.incF (Reg.MNET_CNT_RX port) 1)) (parseMsg l).session = true)
    (htag : l.drop (l.length - 16) = zmpTag (zmpCount 0 (s.incF (Reg.MNET_CNT_RX port) 1)) (parseMsg l).session (l.take (l.length - 16))) :
    zmpDatagram port ip udp 0 l host bad s =
      sessionRequest ip udp host bad (parseMsg l) (zmpCount 0 (s.incF (Reg.MNET_CNT_RX port) 1)) := by
  have hen' : (s.incF (Reg.MNET_CNT_RX port) 1).flag (Reg.MNET_PORT_CFG_EN port) = true :=
    (flag_incF_apart s 1 (by simp only [Field.apart, Reg.MNET_CNT_RX, Reg.MNET_PORT_CFG_EN]; omega)).trans hen
  unfold zmpDatagram
  dsimp only
  rw [if_pos hen, if_neg (by simp [hen', hz]), if_neg (by rintro (h | h | h | h) <;> omega), if_neg (by simp [h0]),
    if_neg (sessionEnabled_ne hses), if_neg (by simp [hses, htag]), if_neg (by simp [multicastTaken, flagMulticast, h2])]

theorem discoverNow_of_on (seq : Nat) (hz : s.mgmt.zmpOn = true) (hd : objNat s 0x100006 1 ≠ 0) :
    discoverNow ip udp seq s = zmpSend ip udp (msgBytes
      { version := 1, opcode := 0xA, flags := 1, session := 0xFF, seq := seq, ix := 0, el := 0, count := 0, status := 0, reserved := 0,
        group := 0, payload := identityRecord s } ++ zeros 16) s := by
  rw [discoverNow, if_neg (by simp [hz]), dictDiscover, if_neg (by simp [hd, flagNoReply])]
  simp only [answerMsg, Nat.zero_or, St.ok]

/-- A subscription in mode 2 is sent when its interval has passed (R557). -/
theorem notifySend_of_due {n k : Nat} {u : Subscription} (hu : (sessionOf s n).subs[k]? = some u) (hp : (sessionOf s n).peer ≠ none)
    (hz : s.mgmt.zmpOn = true) (hm : u.mode = 2) (hd : u.lastNs = 0 ∨ u.lastNs - 1 + u.interval * 1000000 ≤ s.tb0) :
    notifySend n k s =
      (let r := coveredValues u.index u.element u.count s
       let y := sessionOf r.2 n
       sendNotify n u.index u.element u.count r.1
         (putSession n { y with subs := y.subs.set k { u with last := r.1, lastNs := s.tb0 + 1 } } r.2)) := by
  unfold notifySend
  dsimp only
  rw [hu]
  dsimp only
  rw [if_neg (by simp [hp, hz]), if_pos ⟨hd, .inl hm⟩]

/-! ## Stores (R539, R567) -/

theorem logPersist_of_new (hb : s.mgmt.bootSteps = 5) (hn : tailNext (logDrain s) < (logDrain s).dict.logNext) :
    logPersist s =
      (let x := logDrain s
       let first := max (tailNext x) (x.dict.logNext - 16384) / 31
       (List.range ((x.dict.logNext - 1) / 31 + 1 - first)).foldl (fun s i =>
         tailWrite ((tailSeq x (tailNext x) + 1 + i) % 2 ^ 32) (first + i) x.dict.logNext (fun n => mapGet [] x.dict.log (n % 65536)) s) x) := by
  unfold logPersist
  dsimp only
  rw [if_neg (not_not_intro hb), if_neg (by omega)]

end Zmp

end Sys2Proof.Machine

namespace Sys2Proof.Proofs

open Sys2Proof.Machine

/-- Settles O44: each command is its meaning in its condition. -/
theorem zmpCompletes : Obligations.ZmpCompletes := by
  unfold Obligations.ZmpCompletes
  intro s ip udp hheld hip hudp
  refine ⟨fun port l host bad hp hen hz h40 hl hmax hmagic h0 h2 hses htag => ?_, fun seq hs hz hd => ?_, fun n hn => ?_,
    fun n k u hn hk hu hp hz hm hd => ?_, fun _ => ?_, fun hb hn => ?_⟩
  · exact dev_runs (f := zmpDatagram port ip udp 0 l host bad) rfl hheld
      (by simp only [hp, hip, hudp, (by omega : l.length ≤ 1472), decide_true, Bool.and_self]; decide)
      (zmpDatagram_of_tagged host bad hen hz h40 hl hmax hmagic h0 h2 hses htag)
  · exact dev_runs (f := discoverNow ip udp seq) rfl hheld (by simp only [hip, hudp, hs, decide_true, Bool.and_self])
      (discoverNow_of_on seq hz hd)
  · exact dev_runs (f := sessionTimeout n) rfl hheld (decide_eq_true hn) rfl
  · exact dev_runs (f := notifySend n k) rfl hheld (by simp only [hn, hk, decide_true, Bool.and_self]) (notifySend_of_due hu hp hz hm hd)
  · exact dev_runs (f := journalWrite) rfl hheld rfl rfl
  · exact dev_runs (f := logPersist) rfl hheld rfl (logPersist_of_new hb hn)

end Sys2Proof.Proofs

/-! Proofs about firmware updates and the boot ROM. -/

namespace Sys2Proof.Machine

/-! ## The update commands (R593 to R595) -/

/-- The update object takes its commands from the three interfaces. -/
theorem checkWrite_updateCommand : ∀ o < 3, ∀ v ∈ [1, 2, 3, 4, 5, 6],
    soleCommand .updateCommand 0 v (checkWrite o 1 0xA000 2 1 [BitVec.ofNat 8 v]) = true := by decide +kernel

section Update

variable {s : State} {w : ElemWrite} {o session : Nat}

theorem imageErr_logDrain (s : State) (n : Nat) : imageErr (logDrain s) n = imageErr s n := by
  obtain ⟨_, _, _, _, h⟩ := logDrain_same s
  rw [h]
  rfl

theorem inactiveSlot_logDrain (s : State) : inactiveSlot (logDrain s) = inactiveSlot s := by
  obtain ⟨_, _, _, _, h⟩ := logDrain_same s
  rw [h]
  rfl

theorem imageBody_logDrain (s : State) (n : Nat) : imageBody (logDrain s) n = imageBody s n := by
  obtain ⟨_, _, _, _, h⟩ := logDrain_same s
  rw [h]
  rfl

theorem updBegin_of_accepting (h : s.mgmt.updState = 0 ∨ s.mgmt.updState = 1 ∨ s.mgmt.updState = 2 ∨ s.mgmt.updState = 5) :
    updBegin s = (true, setUpd 1 0 (dictSet (fun d => { d with updPtr := 0 }) (nvmPut (slotBase (inactiveSlot s) + 0x3FFFF0) (zeros 16)
      (setNvm (fun n => { n with slotSeq := slotSeqLast s }) s)))) := by
  rw [updBegin, if_neg (by omega)]
  rfl

/-- A whole image that passes its checks is committed (R594). -/
theorem updCommit_of_image (h1 : s.mgmt.updState = 1) (he : imageErr s (inactiveSlot s) = 0)
    (hp : s.dict.updPtr = 256 + imageBody s (inactiveSlot s)) :
    updCommit false s = (true,
      (let n := inactiveSlot s
       let q := (slotSeqLast s + 1) % 2 ^ 32
       setUpd 2 0 (nvmPut (slotBase n + 0x3FFFF0) (commitRecord q (nvmPeek s (slotBase n) (256 + imageBody s n)))
         (setNvm (fun m => { m with slotSeq := q }) s)))) := by
  simp only [updCommit, h1, he, hp, bne_self_eq_false, Bool.and_false, Bool.false_eq_true, ne_eq, not_true_eq_false, if_false]

theorem updActivate_of_committed (h2 : s.mgmt.updState = 2) :
    updActivate s = (true, setUpd 3 0 (lifeKeep (storeWrite ucrCopies
      (ucrBytes { ucrNow s with trial := true, trialSlot := inactiveSlot s, attempts := 0 }) s))) := by
  rw [updActivate, if_neg (not_not_intro h2)]
  rfl

theorem updConfirm_of_trial (h4 : s.mgmt.updState = 4) :
    updConfirm s = (true,
      (let n := s.f Reg.NVM_STATUS_RUN_SLOT
       histAdd (imageVersion s n) 1 n (setUpd 0 0 (storeWrite ucrCopies (ucrBytes { ucrNow s with preferred := n, trial := false }) s)))) := by
  rw [updConfirm, if_neg (not_not_intro h4)]
  rfl

theorem updRevert_of_trial (h : s.mgmt.updState = 3 ∨ s.mgmt.updState = 4) :
    updRevert s = (true,
      (let n := (ucrNow s).trialSlot
       histAdd (imageVersion s n) 2 n (setUpd 0 0 (storeWrite ucrCopies (ucrBytes { ucrNow s with trial := false }) s)))) := by
  rw [updRevert, if_neg (by omega)]
  rfl

theorem updAbort_of_begun (h : s.mgmt.updState = 1 ∨ s.mgmt.updState = 2 ∨ s.mgmt.updState = 5) :
    updAbort s = (true, setUpd 0 0 (nvmPut (slotBase (inactiveSlot s) + 0x3FFFF0) (zeros 16)
      (setNvm (fun n => { n with slotSeq := slotSeqLast s }) s))) := by
  rw [updAbort, if_pos h]
  rfl

/-- An update command that is accepted answers OK. -/
theorem served_updateCommand {v : Nat} {t : State → State} {cmd : State → Bool × State} (ht : takesOrigin s o = true) (ho : o < 3)
    (hv : v ∈ [1, 2, 3, 4, 5, 6]) (hx : ∀ w : ElemWrite, ofLe w.value = v → ∀ x, writeSpec .updateCommand w o session false x = ofAccept (cmd x))
    (ha : cmd (logDrain s) = (true, t (logDrain s))) :
    served o 0xA000 (dictWrite o session 0xA000 2 1 [BitVec.ofNat 8 v] [] false) s = objectCommand o session 0xA000 2 [BitVec.ofNat 8 v] t s :=
  served_soleCommand ht (.inr rfl) (checkWrite_updateCommand o ho v hv) fun w _ hw => by rw [hx w hw, ha]; rfl

end Update

end Sys2Proof.Machine

namespace Sys2Proof.Proofs

open Sys2Proof.Machine

/-- Settles O13: each command is the write of the update object, accepted in its states. -/
theorem updateCompletes : Obligations.UpdateCompletes := by
  unfold Obligations.UpdateCompletes
  intro s origin session hheld ho hs ht
  have hok : (decide (origin < 3) && decide (session < 8)) = true := by simp only [ho, hs, decide_true, Bool.and_self]
  have hst : (logDrain s).mgmt.updState = s.mgmt.updState := by rw [logDrain_mgmt]
  refine ⟨fun h => ?_, fun h1 he hp => ?_, fun h => ?_, fun h => ?_, fun h => ?_, fun h => ?_⟩
  · refine dev_runs (f := served origin 0xA000 (dictWrite origin session 0xA000 2 1 [1] [] false)) rfl hheld hok
      (served_updateCommand ht ho (v := 1) (cmd := updBegin) (by decide) (fun w hw x => by simp only [writeSpec, hw, if_true]) ?_)
    exact updBegin_of_accepting (by rwa [hst])
  · refine dev_runs (f := served origin 0xA000 (dictWrite origin session 0xA000 2 1 [2] [] false)) rfl hheld hok
      (served_updateCommand ht ho (v := 2) (cmd := updCommit false) (by decide) (fun w hw x => by simp [writeSpec, hw]) ?_)
    exact updCommit_of_image (hst.trans h1) (by rw [inactiveSlot_logDrain, imageErr_logDrain, he])
      (by rw [logDrain_updPtr, inactiveSlot_logDrain, imageBody_logDrain, hp])
  · refine dev_runs (f := served origin 0xA000 (dictWrite origin session 0xA000 2 1 [3] [] false)) rfl hheld hok
      (served_updateCommand ht ho (v := 3) (cmd := updActivate) (by decide) (fun w hw x => by simp [writeSpec, hw]) ?_)
    exact updActivate_of_committed (hst.trans h)
  · refine dev_runs (f := served origin 0xA000 (dictWrite origin session 0xA000 2 1 [4] [] false)) rfl hheld hok
      (served_updateCommand ht ho (v := 4) (cmd := updConfirm) (by decide) (fun w hw x => by simp [writeSpec, hw]) ?_)
    exact updConfirm_of_trial (hst.trans h)
  · refine dev_runs (f := served origin 0xA000 (dictWrite origin session 0xA000 2 1 [5] [] false)) rfl hheld hok
      (served_updateCommand ht ho (v := 5) (cmd := updRevert) (by decide) (fun w hw x => by simp [writeSpec, hw]) ?_)
    exact updRevert_of_trial (by rwa [hst])
  · refine dev_runs (f := served origin 0xA000 (dictWrite origin session 0xA000 2 1 [6] [] false)) rfl hheld hok
      (served_updateCommand ht ho (v := 6) (cmd := updAbort) (by decide) (fun w hw x => by simp [writeSpec, hw]) ?_)
    exact updAbort_of_begun (by rwa [hst])

end Sys2Proof.Proofs

/-! Proofs about the boot ROM and the firmware's start. -/

namespace Sys2Proof.Machine

section Boot

variable {s : State}

/-- The state in which the boot ROM tries its slots, once the update record is put in order (R571). -/
def bootOrdered (s : State) : State :=
  if (bootOrder (ucrNow s)).1 = ucrNow s then s else storeWrite ucrCopies (ucrBytes (bootOrder (ucrNow s)).1) s

/-- The slot that the boot ROM tries first (R571). -/
def bootFirst (s : State) : Nat := (bootOrder (ucrNow s)).2

theorem bootRom_of_start (ue : List Nat) (hw : s.flag Reg.TOP_REMAP_SWAP = false) (h0 : s.f Reg.TOP_STATUS_STAGE = 0) :
    bootRom ue s =
      (let y := bootOrdered (bootFind ue s)
       let first := bootFirst (bootFind ue s)
       if slotPasses y first then bootSlot first first y
       else if slotPasses y (1 - first) then bootSlot (1 - first) first (slotStale first y)
       else bootRecovery y) := by
  by_cases hu : (bootOrder (ucrNow (bootFind ue s))).1 = ucrNow (bootFind ue s)
  · simp only [bootRom, hw, h0, Bool.false_eq_true, ne_eq, not_true_eq_false, or_self, if_false, bootOrdered, bootFirst, if_pos hu]
  · simp only [bootRom, hw, h0, Bool.false_eq_true, ne_eq, not_true_eq_false, or_self, if_false, bootOrdered, bootFirst, if_neg hu, setUcr]

theorem firmwareInit_of_stage (ue : List Nat) (h2 : s.f Reg.TOP_STATUS_STAGE = 2) (h0 : s.mgmt.bootSteps = 0) :
    firmwareInit ue s = mgmtSet (fun m => { m with bootSteps := 5, zmpOn := true })
      (watchdogEnable (initGroups (initMemory (initPersonality (initRecords (initStores ue s)))))) := by
  rw [firmwareInit, if_neg (by simp [h2, h0])]

end Boot

end Sys2Proof.Machine

namespace Sys2Proof.Proofs

open Sys2Proof.Machine

/-- Settles O11: the slots are tried in the order of the update record; the other commands are their meanings in their conditions. -/
theorem bootCompletes : Obligations.BootCompletes := by
  unfold Obligations.BootCompletes
  intro s hheld
  refine ⟨fun hw h0 slots update boot hsl hup hbo => ?_, fun h2 h0 dict stores hd hs => ?_, fun retired h64 => ?_⟩
  · have hok : (wordsIn 0 0x800000 slots && wordsIn 0xE10000 0xE20000 update && wordsIn 0xE00000 0xE10000 boot) = true := by
      rw [hsl, hup, hbo]; rfl
    have hstart := bootRom_of_start (slots ++ update ++ boot) hw h0
    refine ⟨fun h1 => ?_, fun h1 h2 => ?_, fun h1 h2 => ?_⟩
    · exact dev_runs (f := bootRom (slots ++ update ++ boot)) rfl hheld hok (hstart.trans (if_pos h1))
    · exact dev_runs (f := bootRom (slots ++ update ++ boot)) rfl hheld hok
        (hstart.trans ((if_neg (Bool.eq_false_iff.1 h1)).trans (if_pos h2)))
    · exact dev_runs (f := bootRom (slots ++ update ++ boot)) rfl hheld hok
        (hstart.trans ((if_neg (Bool.eq_false_iff.1 h1)).trans (if_neg (Bool.eq_false_iff.1 h2))))
  · exact dev_runs (f := firmwareInit (dict ++ stores)) rfl hheld (by rw [hd, hs]; rfl) (firmwareInit_of_stage (dict ++ stores) h2 h0)
  · exact dev_runs (f := fun s => retire retired (Machine.lamplighterReset s)) rfl hheld (decide_eq_true h64) rfl

end Sys2Proof.Proofs

/-! Proofs about received wicks: what the framing of a lane makes of one, and what its type does (R99 to R153). -/

namespace Sys2Proof.Machine

section Wicks

variable {s : State} {f g body : State → State} {l seq credit : Nat} {sync train flagged csync : Bool}

/-! ## The two arrivals of a wick -/

/-- A wick acts on the state as it is, or, its SYNC bits being free, once they are drawn. -/
theorem rxWick_congr (type : Nat) (payload : List Byte) (h : f (if sync then s else s.draw.2) = g (if sync then s else s.draw.2)) :
    rxWick l type sync seq credit payload f s = rxWick l type sync seq credit payload g s := by
  cases sync with
  | true => exact congrArg (farLoop l (wickHeader type seq credit) (fitBytes 120 payload)) h
  | false => exact congrArg (farLoop l (s.draw.1 % 1024 * 2 ^ 22 + wickHeader type seq credit % 2 ^ 22) (fitBytes 120 payload)) h

/-! ## An injection at the wick-CRC checker (R620) -/

theorem wickInject_of_unarmed (h : wickArmed l s = false) : wickInject l s = (false, s) := by
  cases hi : s.flt.inj with
  | none => simp only [wickInject, injectCheck, hi, Option.isSome_none]
  | some i =>
    have hn : i.names (lnkSrc l) (l % 8) 0 = false := by simpa [wickArmed, hi] using h
    simp only [wickInject, injectCheck, hi, hn, Bool.false_eq_true, if_false, Option.isSome_none]

theorem wickInject_of_armed (h : wickArmed l s = true) : (wickInject l s).1 = true := by
  cases hi : s.flt.inj with
  | none => simp [wickArmed, hi] at h
  | some i =>
    have hn : i.names (lnkSrc l) (l % 8) 0 = true := by simpa [wickArmed, hi] using h
    simp only [wickInject, injectCheck, hi, hn, if_true, Option.isSome_some]

/-! ## What becomes of a wick whose check passes -/

/-- A wick in sequence has its header taken, then its body, then the steps that any good wick may complete. -/
theorem goodWick_of_taken (h : wickTaken l sync seq s) :
    goodWick l sync seq credit train flagged csync body s =
      wickEnd l (body (rxHeader l seq credit train flagged csync (syncStep l sync s))) := by
  obtain ⟨hf, hs, ha, hu, hq⟩ := h
  cases hr : ((syncStep l sync s).rxLane l).lastRaw with
  | none => simp only [goodWick, hf, hs, wickInject_of_unarmed ha, hu, hr, Bool.not_true, Bool.or_self, Bool.false_eq_true, if_false]
  | some q =>
    simp only [goodWick, hf, hs, wickInject_of_unarmed ha, hu, hr, hq q hr, bne_self_eq_false, Bool.not_true, Bool.or_self,
      Bool.false_eq_true, if_false]

/-- A wick that the armed injection strikes fails. -/
theorem goodWick_of_struck (h : wickStruck l sync s) :
    goodWick l sync seq credit train flagged csync body s = wickFails l none true (wickInject l (syncStep l sync s)).2 := by
  obtain ⟨hf, hs, ha⟩ := h
  simp only [goodWick, hf, hs, wickInject_of_armed ha, Bool.not_true, Bool.false_eq_true, if_false, if_true]

/-- A command of a wick that its lane takes. -/
theorem wick_runs {c : Instr} {ok : Bool} {type : Nat} {payload : List Byte} (hc : exec c = dev ok (rxWick l type sync seq credit payload
      (goodWick l sync seq credit train flagged csync body))) (hheld : held s = false) (hok : ok = true)
    (h : wickTaken l sync seq (if sync then s else s.draw.2)) :
    exec c s = .next (finish s (rxWick l type sync seq credit payload
      (fun x => wickEnd l (body (rxHeader l seq credit train flagged csync (syncStep l sync x)))) s)) :=
  dev_runs hc hheld hok (rxWick_congr type payload (goodWick_of_taken h))

/-- A command of a wick that the armed injection strikes. -/
theorem wick_fails {c : Instr} {ok : Bool} {type : Nat} {payload : List Byte} (hc : exec c = dev ok (rxWick l type sync seq credit payload
      (goodWick l sync seq credit train flagged csync body))) (hheld : held s = false) (hok : ok = true)
    (h : wickStruck l sync (if sync then s else s.draw.2)) :
    exec c s = .next (finish s (rxWick l type sync seq credit payload
      (fun x => wickFails l none true (wickInject l (syncStep l sync x)).2) s)) :=
  dev_runs hc hheld hok (rxWick_congr type payload (goodWick_of_struck h))

/-! ## What three types of wick do after their header -/

/-- A FLAGGED_IDLE (R151, R152). -/
def flaggedBody (l : Nat) (x : State) : State :=
  let y := ((abandonRx passLost l x).incF (lf Reg.CNT_FLAGGED_IDLE l) 1).setF (lf Reg.LANE_STATUS_PEER_SNUFF l) 1
  if (y.rxLane l).lastFlagged then y
  else laneFault FK.LNK_PEER_SNUFF l Reg.CNT_FLAGGED_IDLE (updRx l (fun r => { r with lastFlagged := true }) y)

/-- A CTRL wick (R153). -/
def ctrlBody (l : Nat) (payload : List Byte) (x : State) : State :=
  let y := x.incF (lf Reg.CNT_CTRL_RX l) 1
  if leAt payload 0 1 = 1 then laneRetrain passLost l y else y

/-- A wick of a reserved type (R109). -/
def reservedBody (l : Nat) (x : State) : State :=
  laneRxOnce FK.LNK_MALFORMED l Reg.CNT_PKT_MALFORMED false (x.incF (lf Reg.CNT_PKT_MALFORMED l) 1)

end Wicks

end Sys2Proof.Machine

namespace Sys2Proof.Proofs

open Sys2Proof.Machine

/-- Settles O7: a wick in sequence has its header taken, then the effect of its type. -/
theorem wicksComplete : Obligations.WicksComplete := by
  unfold Obligations.WicksComplete
  intro s l seq credit sync hheld hl hseq hcr ht
  dsimp only
  have hok : (decide (l < 128) && decide (seq < 1024) && decide (credit < 256)) = true := by
    simp only [hl, hseq, hcr, decide_true, Bool.and_self]
  refine ⟨fun desc used => ?_, ?_, ?_, fun payload hp => ?_⟩
  · exact wick_runs (body := headBody l desc used) rfl hheld hok ht
  · exact wick_runs (body := id) rfl hheld hok ht
  · exact wick_runs (body := flaggedBody l) rfl hheld hok ht
  have hokp : (decide (l < 128) && decide (seq < 1024) && decide (credit < 256) && decide (payload.length = 120)) = true := by
    simp only [hl, hseq, hcr, hp, decide_true, Bool.and_self]
  refine ⟨fun overload => ⟨?_, fun capOk => ?_⟩, ?_, ?_, ?_, fun type h8 h16 => ?_⟩
  · exact wick_runs (body := bodyBody l false payload overload true) rfl hheld hokp ht
  · exact wick_runs (body := bodyBody l true payload overload capOk) rfl hheld hokp ht
  · exact wick_runs (body := ctrlBody l payload) rfl hheld hokp ht
  · exact wick_runs (body := trainBody l payload) rfl hheld hokp ht
  · exact wick_runs (body := creditSyncBody l payload) rfl hheld hokp ht
  · exact wick_runs (body := reservedBody l) rfl hheld (by simp only [hl, hseq, hcr, hp, h8, h16, decide_true, Bool.and_self]) ht

end Sys2Proof.Proofs

/-! Proofs about the receive lanes: wicks that fail, the states of a lane and of its group's clock, and test patterns (R136 to R156). -/

namespace Sys2Proof.Machine

section Lanes

variable {s : State} {l : Nat}

/-! ## Wicks that fail (R107) -/

theorem wickCrcFail_of_framed {sync : Bool} (hf : rxFrames s l = true) (hs : rxFrames (syncStep l sync s) l = true) :
    wickCrcFail l sync s =
      wickFails l none (wickInject l (syncStep l sync s)).1 (wickInject l (syncStep l sync s)).2 := by
  simp only [wickCrcFail, hf, hs, Bool.not_true, Bool.false_eq_true, if_false]

/-! ## The states of a lane (R136, R142, R145 to R147) -/

theorem deskewDone_of_deskew (h : rxState s l = 2) :
    deskewDone l s = txUpdate l ((setRxState l 3 s).setFlag (lf Reg.LANE_STATUS_FFE_FALLBACK l) (!reverse s l)) :=
  if_neg (not_not_intro h)

theorem ffeDone_of_adapting (h : rxState s l = 3) :
    ffeDone l s = txUpdate l (updRx l (fun r => { r with goodRun := 0 }) (setRxState l 4 s)) :=
  if_neg (not_not_intro h)

theorem ffeFallback_of_unseen (h : rxState s l = 3) (ht : (s.rxLane l).trainSeen = false) :
    ffeFallback l s = s.setF (lf Reg.LANE_STATUS_FFE_FALLBACK l) 1 :=
  if_pos ⟨h, by simp [ht]⟩

theorem backoffExpiry_of_acquired (h : rxState s l = 8 ∨ rxState s l = 9) (hc : clkAcquired s (l / 8) = true) :
    backoffExpiry l s = laneStart deferLost l 2 s := by
  rw [backoffExpiry, if_neg (by omega), if_pos hc]

theorem backoffExpiry_of_unacquired (h : rxState s l = 8 ∨ rxState s l = 9) (hc : clkAcquired s (l / 8) = false) :
    backoffExpiry l s = laneStart deferLost l 1 (s.setF (Reg.LNK_GRP_STATUS_CLK_STATE (l / 8)) 1) := by
  rw [backoffExpiry, if_neg (by omega), if_neg (by simp [hc])]

theorem creditReset_of_due (h : rxState s l = 5) (hr : (s.rxLane l).rxGot = (s.rxLane l).rxReleased) (ht : (s.rxLane l).trainLeft = true)
    (hc : (s.rxLane l).creditReset = false) :
    creditReset l s = putRx l { s.rxLane l with rxGot := 0, rxReleased := 0, creditReset := true, epochSync := false, csRecv := 0 }
      (updTx l (fun t => { t with csSent := 0 }) s) :=
  if_pos ⟨h, hr, ht, by simp [hc]⟩

/-- A group's clock starts: its lanes that back off start an attempt. -/
theorem clockStart_of_still {g : Nat} (h : s.flag (Reg.LNK_GRP_STATUS_CLK_ACTIVITY g) = false) :
    clockStart g s = (lanesOf g).foldl (fun x i => backoffExpiry i x) (s.setF (Reg.LNK_GRP_STATUS_CLK_ACTIVITY g) 1) := by
  simp only [clockStart, h, Bool.not_false, if_true]

/-! ## Test patterns (R154 to R156) -/

/-- The checker of a lane writes registers of that lane, none of its group. -/
theorem farLoop_prbsBit (l code : Nat) (s : State) (b : Bool) :
    (prbsBit l code s b).flag (Reg.LNK_GRP_CTRL_FAR_LOOP (l / 8)) = s.flag (Reg.LNK_GRP_CTRL_FAR_LOOP (l / 8)) := by
  have hset : ∀ (F : Field) (v : Nat) (x : State), 0x200100 + l / 8 * 0x10000 ≤ F.key →
      (x.setF F v).flag (Reg.LNK_GRP_CTRL_FAR_LOOP (l / 8)) = x.flag (Reg.LNK_GRP_CTRL_FAR_LOOP (l / 8)) := fun F v x hF =>
    flag_setF_apart x v (.inl (by simp only [Reg.LNK_GRP_CTRL_FAR_LOOP]; omega))
  have hif : ∀ {p : Prop} [Decidable p] {x y : State}, x.flag (Reg.LNK_GRP_CTRL_FAR_LOOP (l / 8)) = s.flag (Reg.LNK_GRP_CTRL_FAR_LOOP (l / 8)) →
      y.flag (Reg.LNK_GRP_CTRL_FAR_LOOP (l / 8)) = s.flag (Reg.LNK_GRP_CTRL_FAR_LOOP (l / 8)) →
      (if p then x else y).flag (Reg.LNK_GRP_CTRL_FAR_LOOP (l / 8)) = s.flag (Reg.LNK_GRP_CTRL_FAR_LOOP (l / 8)) := fun hx hy => by
    split
    · exact hx
    · exact hy
  refine hif (hif rfl ?_) (hif ?_ rfl)
  · rw [State.setF64, hset _ _ _ (by simp only [lf, Reg.PRBS_ERR_HI]; omega), hset _ _ _ (by simp only [lf, Reg.PRBS_ERR_LO]; omega)]
    rfl
  · rw [hset _ _ _ (by simp only [lf, Reg.LANE_STATUS_PRBS_LOCK]; omega)]
    rfl

theorem farLoop_prbsBits (l code : Nat) (bits : List Bool) (s : State) :
    (bits.foldl (prbsBit l code) s).flag (Reg.LNK_GRP_CTRL_FAR_LOOP (l / 8)) = s.flag (Reg.LNK_GRP_CTRL_FAR_LOOP (l / 8)) := by
  induction bits generalizing s with
  | nil => rfl
  | cons b bits ih => exact (ih (prbsBit l code s b)).trans (farLoop_prbsBit l code s b)

/-- Bits at the pins of a lane in TEST, without a loop, are checked. -/
theorem prbsBitsIn_of_checked (bits : List Bool) (h : rxState s l = 10) (h1 : 1 ≤ s.f (lf Reg.LANE_CFG_PRBS_CHK l))
    (h4 : s.f (lf Reg.LANE_CFG_PRBS_CHK l) ≤ 4) (hn : s.f (lf Reg.LANE_CFG_LOOP l) = 0)
    (hf : s.flag (Reg.LNK_GRP_CTRL_FAR_LOOP (l / 8)) = false) :
    prbsBitsIn l bits s = bits.foldl (prbsBit l (s.f (lf Reg.LANE_CFG_PRBS_CHK l))) s := by
  have hc : prbsCheck l bits s = bits.foldl (prbsBit l (s.f (lf Reg.LANE_CFG_PRBS_CHK l))) s := if_neg (by omega)
  have hl : nearLoop s l = false := by simp [nearLoop, hn]
  simp only [prbsBitsIn, hl, hc, farLoop_prbsBits, hf, Bool.false_and, Bool.false_eq_true, if_false]

/-- Bits at the pins of a lane under both loops go back (R156). -/
theorem prbsBitsIn_of_looped {bits : List Bool} (hn : s.f (lf Reg.LANE_CFG_LOOP l) ≠ 0)
    (hf : s.flag (Reg.LNK_GRP_CTRL_FAR_LOOP (l / 8)) = true) (he : rxEn s l = true) (hb : bits ≠ []) :
    prbsBitsIn l bits s = s.emit (.pattern l bits) := by
  have hl : nearLoop s l = true := by simpa [nearLoop] using hn
  have hi : bits.isEmpty = false := by simpa using hb
  simp only [prbsBitsIn, hl, hf, he, hi, Bool.not_false, Bool.and_self, if_true]

end Lanes

end Sys2Proof.Machine

namespace Sys2Proof.Proofs

open Sys2Proof.Machine

/-- Settles O8: each event of a lane or a clock acts in the state that awaits it. -/
theorem lanesComplete : Obligations.LanesComplete := by
  unfold Obligations.LanesComplete
  intro s l hheld hl
  have hok : decide (l < 128) = true := decide_eq_true hl
  refine ⟨fun sync header payload hh hp hf hs => ?_, fun sync seq credit desc used hseq hcr hst => ?_, fun h => ?_, fun h => ?_,
    fun h ht => ?_, fun activity => ?_, fun h hc => ?_, fun h hc => ?_, fun h hr ht hc => ?_, fun bits h h1 h4 hn hf => ?_,
    fun bits hn hf he hb => ?_, fun g hg => ?_⟩
  · refine dev_runs (f := fun x => farLoop l header payload (wickCrcFail l sync x)) rfl hheld ?_ (by rw [wickCrcFail_of_framed hf hs])
    simp only [hl, hh, hp, decide_true, Bool.and_self]
  · have hokw : (decide (l < 128) && decide (seq < 1024) && decide (credit < 256)) = true := by
      simp only [hl, hseq, hcr, decide_true, Bool.and_self]
    exact ⟨wick_fails (body := id) rfl hheld hokw hst, wick_fails (body := headBody l desc used) rfl hheld hokw hst⟩
  · exact dev_runs (f := deskewDone l) rfl hheld hok (deskewDone_of_deskew h)
  · exact dev_runs (f := ffeDone l) rfl hheld hok (ffeDone_of_adapting h)
  · exact dev_runs (f := ffeFallback l) rfl hheld hok (ffeFallback_of_unseen h ht)
  · refine ⟨fun h => ?_, fun h => ?_, fun h => ?_, fun h => ?_, fun h => ?_⟩ <;>
      exact dev_runs (f := stageTimeout l activity) rfl hheld hok (by simp only [stageTimeout, h])
  · exact dev_runs (f := backoffExpiry l) rfl hheld hok (backoffExpiry_of_acquired h hc)
  · exact dev_runs (f := backoffExpiry l) rfl hheld hok (backoffExpiry_of_unacquired h hc)
  · exact dev_runs (f := creditReset l) rfl hheld hok (creditReset_of_due h hr ht hc)
  · exact dev_runs (f := prbsBitsIn l bits) rfl hheld hok (prbsBitsIn_of_checked bits h h1 h4 hn hf)
  · exact dev_runs (f := prbsBitsIn l bits) rfl hheld hok (prbsBitsIn_of_looped hn hf he hb)
  · have hokg : decide (g < 16) = true := decide_eq_true hg
    exact ⟨dev_runs (f := clockAcquired g) rfl hheld hokg rfl,
      fun h => dev_runs (f := clockStart g) rfl hheld hokg (clockStart_of_still h),
      fun activity => dev_runs (f := clockLoss passLost g activity) rfl hheld hokg rfl⟩

end Sys2Proof.Proofs

/-! Proofs about the transmit lanes, the commands of the link registers and the packetiser (R124 to R164). -/

namespace Sys2Proof.Machine

/-! ## The link registers -/

section Registers

variable {s : State} {l g : Nat}

/-- The page of a lane's registers is never gated, and its command word never restricted. -/
theorem laneCmdKey_open (hl : l < 128) : 0x101 ≤ laneCmdKey l ∧
    laneCmdKey l / 0x10000 ≠ 0x0E ∧ laneCmdKey l / 0x10000 ≠ 0x10 ∧ laneCmdKey l / 0x10000 ≠ 0x11 ∧ laneCmdKey l / 0x10000 ≠ 0x12 := by
  have hk : 0x200108 ≤ laneCmdKey l := by unfold laneCmdKey; omega
  generalize laneCmdKey l = k at hk ⊢
  omega

/-- The page of a lane group is never gated, and its command word never restricted. -/
theorem linkKey_open (g : Nat) : 0x101 ≤ 0x200004 + g * 0x10000 ∧
    (0x200004 + g * 0x10000) / 0x10000 ≠ 0x0E ∧ (0x200004 + g * 0x10000) / 0x10000 ≠ 0x10 ∧
    (0x200004 + g * 0x10000) / 0x10000 ≠ 0x11 ∧ (0x200004 + g * 0x10000) / 0x10000 ≠ 0x12 := by omega

theorem laneRetrain_of_receiving (he : rxEn s l = true) (ht : laneTest s l = false) :
    laneRetrain passLost l s = laneStart passLost l (if clkAcquired s (l / 8) then 2 else 1) s := by
  simp only [laneRetrain, he, ht, Bool.not_true, Bool.false_eq_true, or_self, if_false]

theorem lnkCommit_of_ok (he : (lnkErr (s.commitRange (0x200000 + g * 0x10000) (0x210000 + g * 0x10000)) g).1 = 0)
    (hu : lnkUserErr (s.commitRange (0x200000 + g * 0x10000) (0x210000 + g * 0x10000)) g
      (s.setF (Reg.LNK_GRP_STATUS_COMMIT_ERR g) 1) = none) :
    lnkCommit g s = lnkTrans g s (s.commitRange (0x200000 + g * 0x10000) (0x210000 + g * 0x10000)) := by
  simp only [lnkCommit, he, hu, ne_eq, not_true_eq_false, if_false]

/-- The commit of a lane group that no armed set holds is its own. -/
theorem groupCommit_of_link (hg : g < 16) (hh : groupHeld s (16 * (0x20 + g)) = false) :
    groupCommit (16 * (0x20 + g)) s = lnkCommit g s := by
  have hb : 16 * (0x20 + g) / 16 = 0x20 + g := by omega
  rw [groupCommit_of_free hh (by rw [hb]; exact pageGated_of_page (by omega))]
  dsimp only
  rw [hb, if_neg (by omega), if_neg (by omega), if_neg (by omega), if_neg (by omega), if_neg (by omega), if_neg (by omega),
    if_neg (by omega), if_neg (by omega), if_neg (by omega), if_neg (by omega), if_neg (by omega), if_pos (by omega),
    Nat.add_sub_cancel_left]

theorem egrCommit_of_ok (he : egrErr (s.commitRange 0x130000 0x140000) = none) :
    egrCommit s = egrTrans s none (s.commitRange 0x130000 0x140000) := by
  simp only [egrCommit, he]

end Registers

/-! ## What a transmit lane sends next -/

section Transmit

variable {s : State} {l : Nat}

/-- A CREDIT_SYNC is due on an active lane (R132). -/
def syncDueOn (l : Nat) (x : State) : Prop :=
  (x.txLane l).syncDue = true ∧ rxState x l = 6 ∧ pairCredited x l = true ∧ (x.txLane l).training = false

/-- A RETRAIN_REQ is due (R153). -/
def requestDueOn (l : Nat) (x : State) : Prop := (x.txLane l).retrainReq = true ∧ x.snuffed = false

/-- What a lane that sends no pattern sends, once its training is brought up to date. -/
def sendNext (l : Nat) (x : State) : State :=
  let t := x.txLane l
  if t.syncDue ∧ rxState x l = 6 ∧ pairCredited x l ∧ !t.training then sendWick l 6 (creditPayload x l) x
  else if t.retrainReq ∧ !x.snuffed then sendWick l 4 [1] (updTx l (fun t => { t with retrainReq := false }) x)
  else if t.training then sendWick l 5 (trainPayload (newRequest l x) l) (newRequest l x)
  else if rxState x l = 5 then
    if (x.rxLane l).creditReset then
      creditCheck l (updTx l (fun t => { t with csSent := t.csSent + 1 }) (sendWick l 6 (creditPayload x l) x))
    else sendIdle l x
  else packetFlow l x

theorem wickTransmit_of_pattern (he : txEn s l = true) (hf : s.flag (Reg.LNK_GRP_CTRL_FAR_LOOP (l / 8)) = false)
    (hg : s.f (lf Reg.LANE_CFG_PRBS_GEN l) ≠ 0) : wickTransmit l s = prbsSend l (s.f (lf Reg.LANE_CFG_PRBS_GEN l)) s := by
  simp only [wickTransmit, he, hf, Bool.not_true, Bool.false_eq_true, or_self, if_false, if_pos hg]

theorem wickTransmit_of_wicks (he : txEn s l = true) (hf : s.flag (Reg.LNK_GRP_CTRL_FAR_LOOP (l / 8)) = false)
    (hg : s.f (lf Reg.LANE_CFG_PRBS_GEN l) = 0) : wickTransmit l s = sendNext l (txUpdate l s) := by
  simp only [wickTransmit, he, hf, hg, Bool.not_true, Bool.false_eq_true, or_self, ne_eq, not_true_eq_false, if_false, sendNext]

theorem sendNext_of_sync (h : syncDueOn l s) : sendNext l s = sendWick l 6 (creditPayload s l) s := by
  obtain ⟨hd, h6, hp, ht⟩ := h
  exact if_pos ⟨hd, h6, hp, by simp [ht]⟩

theorem sendNext_of_noSync (h : ¬syncDueOn l s) : sendNext l s =
    (if (s.txLane l).retrainReq ∧ !s.snuffed then sendWick l 4 [1] (updTx l (fun t => { t with retrainReq := false }) s)
     else if (s.txLane l).training then sendWick l 5 (trainPayload (newRequest l s) l) (newRequest l s)
     else if rxState s l = 5 then
       if (s.rxLane l).creditReset then
         creditCheck l (updTx l (fun t => { t with csSent := t.csSent + 1 }) (sendWick l 6 (creditPayload s l) s))
       else sendIdle l s
     else packetFlow l s) :=
  if_neg fun ⟨hd, h6, hp, ht⟩ => h ⟨hd, h6, hp, by simpa using ht⟩

theorem sendNext_of_request (h : ¬syncDueOn l s) (hr : requestDueOn l s) :
    sendNext l s = sendWick l 4 [1] (updTx l (fun t => { t with retrainReq := false }) s) := by
  obtain ⟨hd, hs⟩ := hr
  exact (sendNext_of_noSync h).trans (if_pos ⟨hd, by simp [hs]⟩)

theorem sendNext_of_neither (h : ¬syncDueOn l s) (hr : ¬requestDueOn l s) : sendNext l s =
    (if (s.txLane l).training then sendWick l 5 (trainPayload (newRequest l s) l) (newRequest l s)
     else if rxState s l = 5 then
       if (s.rxLane l).creditReset then
         creditCheck l (updTx l (fun t => { t with csSent := t.csSent + 1 }) (sendWick l 6 (creditPayload s l) s))
       else sendIdle l s
     else packetFlow l s) :=
  (sendNext_of_noSync h).trans (if_neg fun ⟨hd, hs⟩ => hr ⟨hd, by simpa using hs⟩)

theorem not_syncDueOn_of_state (h : rxState s l ≠ 6) : ¬syncDueOn l s := fun ⟨_, h6, _, _⟩ => h h6

end Transmit

/-! ## The packetiser -/

section Packetiser

variable {s : State} {e b : Nat}

/-- An entry that the gate of the pair or its full queue holds back. -/
theorem egressPacket_of_blocked {els : List ((Int × Int) × Nat)} (hb : egrBlock (egrRebase e s) e = some b)
    (ho : egrOn (egrRebase e s) e b = true) (he : egrElems (egrRebase e s) e b = some els) :
    egressPacket e true s =
      (let r := egrRebase e s
       let x := perfEvent 0x13 0x10 1 (outputUnit (egrField r b (Reg.EGR_ENT0_DOMAIN e)) b r)
       if gateDrops x (egrUnit r e b) then egrPrune (egrNext e b (x.incF Reg.PAIR_CNT_GATED 1))
       else egrPrune (egrNext e b (egrMarker e b
         (raiseOnce (Reg.EGR_CNT_DROP e).key (fev FK.EGR_OVERFLOW 0x13 0 0) (perfEvent 0x13 0x11 1 (x.incF (Reg.EGR_CNT_DROP e) 1)))))) := by
  simp only [egressPacket, hb, ho, he, Bool.not_true, Bool.false_eq_true, if_false, true_and, if_true]

theorem countMarker_of_passed {p : Nat} (hb : egrBlock (egrRebase e s) e = some b) (ho : egrOn (egrRebase e s) e b = true)
    (he : egrElems (egrRebase e s) e b = none) (hp : (egrRebase e s).lmp.lensPassed = some p) (hc : egrBlockEnd (egrRebase e s) e b ≤ p + 1) :
    countMarker e s = egrPrune (egrNext e b (egrMarker e b (egrRebase e s))) := by
  simp only [countMarker, hb, ho, he, hp, Bool.not_true, Bool.false_eq_true, if_false, if_pos hc]

end Packetiser

end Sys2Proof.Machine

namespace Sys2Proof.Proofs

open Sys2Proof.Machine

/-- Settles O9: the commands of a lane and of its group act on their registers, and a transmit lane sends the first that is due. -/
theorem linksComplete : Obligations.LinksComplete := by
  unfold Obligations.LinksComplete
  intro s m l g hheld hm hl hg
  have hany : anyMaster m = true := anyMaster_of_regMaster hm
  have hokl : (anyMaster m && decide (l < 128)) = true := by simp only [hany, hl, decide_true, Bool.and_self]
  have hokg : (anyMaster m && decide (g < 16)) = true := by simp only [hany, hg, decide_true, Bool.and_self]
  have hokw : decide (l < 128) = true := decide_eq_true hl
  obtain ⟨hk, hp⟩ := laneCmdKey_open hl
  obtain ⟨hkg, hpg⟩ := linkKey_open g
  refine ⟨fun he ht => ?_, ?_, ?_, ?_, fun hh he hu => ?_, fun hh he => ?_, fun he hf => ⟨fun hgen => ?_, fun hgen => ?_⟩,
    fun e b els he hb ho hels => ?_, fun e b p he hb ho hels hlens hc => ?_⟩
  · exact reg_runs (f := laneRetrain passLost l) rfl hheld hokl hm hk hp (laneRetrain_of_receiving he ht)
  · exact reg_runs (f := sendRetrainReq l) rfl hheld hokl hm hk hp rfl
  · exact reg_runs (f := laneClearCnt l) rfl hheld hokl hm hk hp rfl
  · exact reg_runs (f := retrainAll passLost g) rfl hheld hokg hm hkg hpg rfl
  · exact commit_runs (f := groupCommit (16 * (0x20 + g))) rfl hheld hokg hm hkg ((groupCommit_of_link hg hh).trans (lnkCommit_of_ok he hu))
  · exact commit_runs (f := groupCommit 0x130) rfl hheld hany hm (by decide) ((groupCommit_of_free hh (pageGated_of_page (by decide))).trans
      (egrCommit_of_ok he))
  · exact dev_runs (f := wickTransmit l) rfl hheld hokw (wickTransmit_of_pattern he hf hgen)
  · have hsends : ∀ {t : State}, sendNext l (txUpdate l s) = t → exec (.wickTransmit l) s = .next (finish s t) := fun ht =>
      dev_runs (f := wickTransmit l) rfl hheld hokw ((wickTransmit_of_wicks he hf hgen).trans ht)
    refine ⟨fun hs hr ht => ?_, fun hr ht h5 hc => ?_, fun hr ht h5 hc => ?_, fun hs => ?_, fun hs hr => ?_, fun hs hr ht h5 => ?_⟩
    · exact hsends ((sendNext_of_neither hs hr).trans (if_pos ht))
    · refine hsends ((sendNext_of_neither (not_syncDueOn_of_state (by omega)) hr).trans ?_)
      rw [if_neg (by simp [ht]), if_pos h5, if_pos hc]
    · refine hsends ((sendNext_of_neither (not_syncDueOn_of_state (by omega)) hr).trans ?_)
      rw [if_neg (by simp [ht]), if_pos h5, if_neg (by simp [hc])]
    · exact hsends (sendNext_of_sync hs)
    · exact hsends (sendNext_of_request hs hr)
    · refine hsends ((sendNext_of_neither hs hr).trans ?_)
      rw [if_neg (by simp [ht]), if_neg h5]
  · have hoke : decide (e < 256) = true := decide_eq_true he
    refine ⟨⟨fun hd => ?_, fun hd => ?_⟩, dev_runs (f := egressPacket e false) rfl hheld hoke rfl⟩
    · exact dev_runs (f := egressPacket e true) rfl hheld hoke ((egressPacket_of_blocked hb ho hels).trans (if_pos hd))
    · exact dev_runs (f := egressPacket e true) rfl hheld hoke ((egressPacket_of_blocked hb ho hels).trans (if_neg (by simp [hd])))
  · exact dev_runs (f := countMarker e) rfl hheld (decide_eq_true he) (countMarker_of_passed hb ho hels hlens hc)

end Sys2Proof.Proofs

/-! Proofs about the bytes of a ZMP message (R550). -/

namespace Sys2Proof.Machine

/-! ## Fields read back from the bytes they were written as -/

/-- The field at the front. -/
theorem leAt_leBytes_append {n v : Nat} (r : List Byte) (h : v < 2 ^ (8 * n)) : leAt (leBytes n v ++ r) 0 n = v := by
  have ht : (leBytes n v ++ r).take n = leBytes n v := by
    rw [List.take_append_of_le_length (leBytes_length n v).ge, List.take_of_length_le (leBytes_length n v).le]
  rw [leAt, List.drop_zero, ht, ofLe_leBytes, Nat.mod_eq_of_lt h]

/-- A field behind another one. -/
theorem leAt_append_of_le {k v o n : Nat} (r : List Byte) (h : k ≤ o) : leAt (leBytes k v ++ r) o n = leAt r (o - k) n := by
  rw [leAt, leAt, List.drop_append, List.drop_eq_nil_of_le (by simpa using h), leBytes_length, List.nil_append]

/-- What is behind a field. -/
theorem drop_leBytes_append {k v o : Nat} (r : List Byte) (h : k ≤ o) : (leBytes k v ++ r).drop o = r.drop (o - k) := by
  rw [List.drop_append, List.drop_eq_nil_of_le (by simpa using h), leBytes_length, List.nil_append]

/-- A message is a run of fields, its reserved bytes among them, and its payload. -/
theorem msgBytes_append (m : ZmpMsg) (tag : List Byte) :
    msgBytes m ++ tag = leBytes 2 zmpMagic ++ (leBytes 1 m.version ++ (leBytes 1 m.opcode ++ (leBytes 1 m.flags ++ (leBytes 1 m.session ++
      (leBytes 4 m.seq ++ (leBytes 2 m.ix ++ (leBytes 1 m.el ++ (leBytes 1 m.count ++ (leBytes 1 m.status ++ (leBytes 1 0 ++
      (leBytes 2 m.payload.length ++ (leBytes 2 m.group ++ (leBytes 4 0 ++ (m.payload ++ tag)))))))))))))) := by
  have h1 : zeros 1 = leBytes 1 0 := rfl
  have h4 : zeros 4 = leBytes 4 0 := rfl
  simp only [msgBytes, List.append_assoc, h1, h4]

theorem msgBytes_length (m : ZmpMsg) : (msgBytes m).length = 24 + m.payload.length := by
  simp only [msgBytes, zeros, List.length_append, leBytes_length, List.length_replicate]

end Sys2Proof.Machine

namespace Sys2Proof.Proofs

open Sys2Proof.Machine

/-- Settles O60: each field is found behind those before it. -/
theorem zmpMessagesRoundTrip : Obligations.ZmpMessagesRoundTrip := by
  unfold Obligations.ZmpMessagesRoundTrip
  intro m tag hver hop hfl hses hseq hix hel hcount hst hres hgr hlen
  refine ⟨?_, ?_, msgBytes_length m⟩
  · obtain ⟨version, opcode, flags, session, seq, ix, el, count, status, reserved, group, payload⟩ := m
    dsimp only at *
    subst hres
    simp (disch := omega) only [parseMsg, msgBytes_append, leAt_append_of_le, drop_leBytes_append, leAt_leBytes_append,
      Nat.reduceSub, List.drop_zero, List.take_left]
  · rw [msgBytes_append, leAt_leBytes_append _ (by decide)]

end Sys2Proof.Proofs

/-! Proofs about the end of CLEAR_ALL (R660). -/

namespace Sys2Proof.Machine

/-! ## Counters reset to zero -/

/-- A register of the counter page that is not zero at reset is a single word below the counters. -/
theorem pmrRows_reset : regTablePmr.all (fun r => decide (rowReset r = 0) || (r.dims == [] && decide (r.off < 0xC000))) = true := by
  decide

theorem regReset_of_counter {k : Nat} (h : isCounter k = true) : regReset k = 0 := by
  simp only [isCounter, Bool.and_eq_true, decide_eq_true_eq] at h
  have hpage : k / 0x10000 = 4 := by omega
  rw [regReset, if_neg (by omega)]
  cases hrow : rowAt k with
  | none => rfl
  | some r =>
    simp only [rowAt, hpage] at hrow
    have hmatch := List.find?_some hrow
    have hall := List.all_eq_true.1 pmrRows_reset r (List.mem_of_find?_eq_some hrow)
    simp only [Bool.or_eq_true, Bool.and_eq_true, decide_eq_true_eq, beq_iff_eq] at hall
    rcases hall with hzero | ⟨hdims, hoff⟩
    · exact hzero
    · simp only [hdims, Bool.and_eq_true, decide_eq_true_eq] at hmatch
      omega

/-! ## A range of registers returned to reset -/

/-- An entry that a filter by the key keeps is found, one that it drops is not. -/
theorem mapGet_filter {β : Type} (d : β) (p : Nat → Bool) (m : List (Nat × β)) (k : Nat) :
    mapGet d (m.filter fun x => p x.1) k = if p k then mapGet d m k else d := by
  induction m with
  | nil => simp only [List.filter_nil, mapGet, ite_self]
  | cons x m ih =>
    obtain ⟨j, v⟩ := x
    by_cases hj : j = k
    · subst hj
      cases hp : p j <;> simp [hp, mapGet, ih]
    · cases hp : p j <;> simp [hp, mapGet, ih, hj]

theorem reg_resetRange (s : State) (lo hi k : Nat) :
    (s.resetRange lo hi).reg k = if decide (k < lo) || decide (hi ≤ k) then s.reg k else regReset k :=
  mapGet_filter _ (fun j => decide (j < lo) || decide (hi ≤ j)) _ k

theorem reg_pmrClearAll_of_counter (s : State) {k : Nat} (h : isCounter k = true) : (pmrClearAll s).reg k = 0 := by
  have hk : (decide (k < 0x4C000) || decide (0x4F200 ≤ k)) = false := by
    simp only [isCounter, Bool.and_eq_true, decide_eq_true_eq] at h
    simp only [Bool.or_eq_false_iff, decide_eq_false_iff_not]
    omega
  rw [pmrClearAll, reg_resetRange, hk, if_neg Bool.false_ne_true, regReset_of_counter h]

/-- CLEAR_ALL writes the counters alone. -/
theorem pmrClearAll_written (s : State) : Written s (pmrClearAll s) := by
  refine ⟨⟨_, _, _, _, _, rfl⟩, fun k _ hc => ?_⟩
  have hk : (decide (k < 0x4C000) || decide (0x4F200 ≤ k)) = true := by
    simp only [isCounter, Bool.and_eq_false_iff, decide_eq_false_iff_not] at hc
    simp only [Bool.or_eq_true, decide_eq_true_eq]
    omega
  rw [pmrClearAll, reg_resetRange, hk, if_pos rfl]

/-! ## Registers through the log and the end of a write -/

theorem reg_logWrite_ne (origin key : Nat) (old new : Word) (s : State) {k : Nat} (h : k ≠ Reg.BMX_CNT_LOG_HOLD.key) :
    (logWrite origin key old new s).reg k = s.reg k := by
  have hhold : ((logDrain s.draw.2).satF Reg.BMX_CNT_LOG_HOLD (s.draw.1 % 2 ^ 32)).reg k = s.reg k :=
    (reg_setF_ne _ _ h).trans (reg_congr (logDrain_regs _) k)
  unfold logWrite
  dsimp only
  split
  · rfl
  · exact hhold

theorem reg_logAfter_ne (m key : Nat) (old w : Word) (s : State) {k : Nat} (h : k ≠ Reg.BMX_CNT_LOG_HOLD.key) :
    (logAfter m key old w s).reg k = s.reg k := by
  unfold logAfter
  split
  · exact reg_logWrite_ne _ _ _ _ s h
  · split
    · exact reg_logWrite_ne _ _ _ _ s h
    · rfl

/-- The end of a write changes no register word. -/
theorem reg_finish_written {s u : State} (hs : Settled s) (hu : Written s u) (k : Nat) :
    (finish s (u.respond true [])).reg k = u.reg k := by
  obtain ⟨hlinks, hlmp, hflt, hmgmt⟩ := hu.rest
  have hends : EndsLike s (u.respond true []) :=
    .of_regs hlinks hlmp (congrArg FaultState.blockResets hflt) (congrArg Mgmt.bootSteps hmgmt)
      fun k hk hc => hu.2 k (fun h => hk (by rw [h]; decide)) hc
  have hsnuff : u.snuffed = s.snuffed := by
    rw [State.snuffed, State.snuffed, State.flag, State.flag, State.f, State.f, hu.2 _ (by decide) (by decide)]
  rw [finish_eq_psetSettle hs hends fun h => hsnuff ▸ h]
  exact congrArg (mapGet (regReset k) · k) (psetSettle_regs (u.respond true []))

/-- The words of counter k of a bank. -/
theorem isCounter_of_word {bank k : Nat} (hb : bank < 100) (hk : k < 16) :
    isCounter (Reg.CTR_LO bank k).key = true ∧ isCounter (Reg.CTR_HI bank k).key = true := by
  have hlo : (Reg.CTR_LO bank k).key = 0x4C000 + bank * 128 + k * 8 := rfl
  have hhi : (Reg.CTR_HI bank k).key = 0x4C004 + bank * 128 + k * 8 := rfl
  rw [hlo, hhi]
  simp only [isCounter, Bool.and_eq_true, decide_eq_true_eq]
  omega

end Sys2Proof.Machine

namespace Sys2Proof.Proofs

open Sys2Proof.Machine

/-- Settles O55: the counters are returned to reset, where they are zero, and what ends the write leaves them. -/
theorem countersCleared : Obligations.CountersCleared := by
  unfold Obligations.CountersCleared
  intro s m hs hheld hm
  have hexec : exec (.clearAll m) s = .next (finish s (taken m 0x40000 8 pmrClearAll (requested s))) :=
    reg_runs rfl hheld (anyMaster_of_regMaster hm) hm (by decide) (by decide) rfl
  have hwritten : Written s (logAfter m 0x40000 (shownWord (requested s) 0x40000) 8 (pmrClearAll (requested s))) :=
    ((requested_written s).trans (pmrClearAll_written _)).trans (logAfter_logged _ _ _ _ _).written
  have hends := finish_written hs hwritten
  have hzero : ∀ k, isCounter k = true → (finish s (taken m 0x40000 8 pmrClearAll (requested s))).reg k = 0 := fun k hk => by
    have hne : k ≠ Reg.BMX_CNT_LOG_HOLD.key := fun h => absurd (h ▸ hk) (by decide)
    exact (reg_finish_written hs hwritten k).trans ((reg_logAfter_ne _ _ _ _ _ hne).trans (reg_pmrClearAll_of_counter _ hk))
  refine ⟨_, hexec, fun bank k hb hk => ?_, f_of_reg (hends.reg _ (by decide) (by decide)), hends.same,
    fun k hc hk => hends.reg k hk hc⟩
  obtain ⟨hlo, hhi⟩ := isCounter_of_word hb hk
  have hovf : isCounter (Reg.CTR_HI_OVF bank k).key = true := hhi
  refine ⟨?_, ?_, ?_⟩
  · rw [State.f, hzero _ hlo]; rfl
  · rw [State.f, hzero _ hhi]; rfl
  · rw [State.flag, State.f, hzero _ hovf]; rfl

end Sys2Proof.Proofs

/-! Proofs about the results of a lamp that land (R215, R216), and what the issue of one instruction leaves of the rest of the device. -/

namespace Sys2Proof.Machine

/-! ## What the operations of a lamp leave of its results -/

/-- The V, accumulator and S registers, the results in flight and the HALT request of a lamp are those of another. -/
structure ResultsKept (l k : Lamp) : Prop where
  v : k.v = l.v
  sr : k.sr = l.sr
  flight : k.flight = l.flight
  haltReq : k.haltReq = l.haltReq

theorem ResultsKept.refl (l : Lamp) : ResultsKept l l := ⟨rfl, rfl, rfl, rfl⟩

theorem ResultsKept.trans {l k j : Lamp} (h : ResultsKept l k) (g : ResultsKept k j) : ResultsKept l j :=
  ⟨g.v.trans h.v, g.sr.trans h.sr, g.flight.trans h.flight, g.haltReq.trans h.haltReq⟩

theorem resultsKept_clock (k : Nat) (l : Lamp) : ResultsKept l (l.clock k) := by
  unfold Lamp.clock Lamp.timer
  dsimp only
  split
  · exact ⟨rfl, rfl, rfl, rfl⟩
  · exact ⟨rfl, rfl, rfl, rfl⟩

theorem resultsKept_sat (l : Lamp) (b : Bool) : ResultsKept l (l.sat b) := by
  cases b
  · exact .refl l
  · exact ⟨rfl, rfl, rfl, rfl⟩

theorem resultsKept_loopNext (l : Lamp) (p : Nat) : ResultsKept l (l.loopNext p).1 := by
  unfold Lamp.loopNext
  refine List.foldlRecOn [0, 1, 2] _ (motive := fun a : Lamp × Option Nat => ResultsKept l a.1) (.refl l) fun a ha k _ => ?_
  dsimp only
  split
  · exact ha
  · split
    · exact ha.trans ⟨rfl, rfl, rfl, rfl⟩
    · exact ha.trans ⟨rfl, rfl, rfl, rfl⟩

/-- An instruction goes on by its lamp's program counter and loop state. -/
theorem lampAdvance_eq (n pc : Nat) (op : LampOp) (tgt : Option Nat) (s : State) :
    ∃ l p, lampAdvance n pc op tgt s = (s.setLamp n l).setF (Reg.LMP_PC n) p ∧ ResultsKept (s.lamp n) l := by
  unfold lampAdvance
  dsimp only
  split
  · exact ⟨_, _, rfl, rfl, rfl, rfl, rfl⟩
  · split
    · exact ⟨_, _, rfl, rfl, rfl, rfl, rfl⟩
    · split
      · split
        · exact ⟨_, _, rfl, rfl, rfl, rfl, rfl⟩
        · exact ⟨_, _, rfl, rfl, rfl, rfl, rfl⟩
      · refine ⟨_, _, rfl, ?_⟩
        exact ResultsKept.trans (k := { s.lamp n with afterReti := false }) ⟨rfl, rfl, rfl, rfl⟩ (resultsKept_loopNext _ pc)

/-! ## Where a result lands -/

theorem haltReq_landReg (l : Lamp) (f : Flight) : (l.landReg f).haltReq = l.haltReq := by
  unfold Lamp.landReg
  rw [(resultsKept_sat _ f.sat).haltReq]
  cases f.dest with
  | spec k v => dsimp only; split <;> rfl
  | _ => rfl

theorem flight_landReg (l : Lamp) (f : Flight) : (l.landReg f).flight = l.flight := by
  unfold Lamp.landReg
  rw [(resultsKept_sat _ f.sat).flight]
  cases f.dest with
  | spec k v => dsimp only; split <;> rfl
  | _ => rfl

theorem haltReq_landFold (fs : List Flight) (l : Lamp) : (fs.foldl Lamp.landReg l).haltReq = l.haltReq := by
  induction fs generalizing l with
  | nil => rfl
  | cons f fs ih => exact (ih _).trans (haltReq_landReg l f)

theorem flight_landFold (fs : List Flight) (l : Lamp) : (fs.foldl Lamp.landReg l).flight = l.flight := by
  induction fs generalizing l with
  | nil => rfl
  | cons f fs ih => exact (ih _).trans (flight_landReg l f)

/-- Of results that land in order, the last that reaches what is read stands. -/
theorem landFold_getD {β : Type} (rd : Lamp → β) (reach : Flight → Option β) (fs : List Flight)
    (h : ∀ f ∈ fs, ∀ l : Lamp, rd (l.landReg f) = (reach f).getD (rd l)) (l : Lamp) :
    rd (fs.foldl Lamp.landReg l) = (fs.reverse.findSome? reach).getD (rd l) := by
  induction fs generalizing l with
  | nil => rfl
  | cons f fs ih =>
    have hrest := ih (fun g hg => h g (List.mem_cons_of_mem f hg)) (l.landReg f)
    rw [List.foldl_cons, hrest, h f List.mem_cons_self, List.reverse_cons, List.findSome?_append]
    cases fs.reverse.findSome? reach <;> simp [List.findSome?_cons]
    cases reach f <;> rfl

theorem s_landReg_sreg {f : Flight} {q v : Nat} (hd : f.dest = .sreg q v) (l : Lamp) (r : Nat) :
    (l.landReg f).s r = if q = r then v % 2 ^ 36 else l.s r := by
  unfold Lamp.landReg
  rw [Lamp.s, (resultsKept_sat _ f.sat).sr, hd]
  by_cases h : q = r
  · subst h
    rw [if_pos rfl]
    exact mapGet_mapSet_same _ _ _ _
  · rw [if_neg h]
    exact mapGet_mapSet_ne _ _ _ (Ne.symm h) _

theorem s_landReg_other {f : Flight} (hd : ∀ q v, f.dest ≠ .sreg q v) (l : Lamp) (r : Nat) : (l.landReg f).s r = l.s r := by
  unfold Lamp.landReg
  rw [Lamp.s, (resultsKept_sat _ f.sat).sr]
  cases hf : f.dest with
  | sreg q v => exact absurd hf (hd q v)
  | spec k v => dsimp only; split <;> rfl
  | _ => rfl

/-- Consecutive entries as a list of their keys. -/
theorem mapGetList_eq_map {β : Type} (d : β) (m : List (Nat × β)) (k n : Nat) :
    (List.range n).map (fun j => mapGet d m (k + j)) = mapGetList d m k n := by
  induction n generalizing k with
  | zero => rfl
  | succ n ih =>
    rw [List.range_succ_eq_map, List.map_cons, List.map_map, mapGetList, ← ih (k + 1)]
    refine congrArg _ (List.map_congr_left fun j _ => ?_)
    rw [Function.comp_apply, Nat.succ_eq_add_one, Nat.add_right_comm, Nat.add_assoc]

theorem vNats_landReg_vreg {f : Flight} {q : Nat} {x : List Nat} (hd : f.dest = .vreg q x) (hx : x.length = 16) (l : Lamp) (r : Nat) :
    (l.landReg f).vNats r = if q = r then x else l.vNats r := by
  have hv : (l.landReg f).v = mapSetList 0 l.v (q * 16) x := by
    unfold Lamp.landReg
    rw [(resultsKept_sat _ f.sat).v, hd]
    exact congrArg (mapSetList 0 l.v (q * 16)) (List.take_of_length_le hx.le)
  by_cases h : q = r
  · subst h
    have hget := mapGetList_mapSetList 0 x l.v (q * 16)
    rw [hx, ← mapGetList_eq_map] at hget
    rw [if_pos rfl, ← hget, Lamp.vNats]
    simp only [Lamp.vLane, hv]
  · rw [if_neg h, Lamp.vNats, Lamp.vNats]
    refine List.map_congr_left fun j hj => ?_
    have hj16 : j < 16 := List.mem_range.1 hj
    rw [Lamp.vLane, Lamp.vLane, hv]
    rcases Nat.lt_or_gt_of_ne h with hlt | hgt
    · exact mapGet_mapSetList_of_ge 0 x l.v _ _ (by omega)
    · exact mapGet_mapSetList_of_lt 0 x l.v _ _ (by omega)

theorem vNats_landReg_other {f : Flight} (hd : ∀ q x, f.dest ≠ .vreg q x) (l : Lamp) (r : Nat) : (l.landReg f).vNats r = l.vNats r := by
  have hv : (l.landReg f).v = l.v := by
    unfold Lamp.landReg
    rw [(resultsKept_sat _ f.sat).v]
    cases hf : f.dest with
    | vreg q x => exact absurd hf (hd q x)
    | spec k v => dsimp only; split <;> rfl
    | _ => rfl
  simp only [Lamp.vNats, Lamp.vLane, hv]

/-! ## The cycle in which an instruction issues -/

/-- What the lamps and the registers that the lamps write leave of the device. -/
def LampStep (s t : State) : Prop :=
  (∃ r l d, t = { s with regs := r, lmp := { s.lmp with lamps := l, dmem := d } }) ∧ t.snuffed = s.snuffed

theorem LampStep.trans {s t u : State} (h : LampStep s t) (g : LampStep t u) : LampStep s u := by
  obtain ⟨⟨_, _, _, rfl⟩, hs⟩ := h
  obtain ⟨⟨_, _, _, rfl⟩, gs⟩ := g
  exact ⟨⟨_, _, _, rfl⟩, gs.trans hs⟩

theorem lampStep_setLamp (s : State) (n : Nat) (l : Lamp) : LampStep s (s.setLamp n l) := ⟨⟨_, _, _, rfl⟩, rfl⟩

theorem lampStep_setPc (s : State) (n p : Nat) : LampStep s (s.setF (Reg.LMP_PC n) p) :=
  ⟨⟨_, _, _, rfl⟩, flag_setF_apart s p (.inl (by simp only [Reg.LMP_PC, Reg.FLT_STATUS_SNUFFED]; omega))⟩

theorem lampStep_perfEvent (b c k : Nat) (s : State) : LampStep s (perfEvent b c k s) := by
  obtain ⟨r, h, hreg⟩ := perfEvent_same b c k s
  exact ⟨⟨r, s.lmp.lamps, s.lmp.dmem, h⟩, flag_congr (f_of_reg (hreg _ (by decide)))⟩

/-- Landing changes the lamp by its results in order, and the data memory by the words stored. -/
theorem landAllOf_eq (n : Nat) (fs : List Flight) (s : State) :
    ∃ d, landAllOf n fs s = { s.setLamp n (fs.foldl Lamp.landReg (s.lamp n)) with
      lmp := { (s.setLamp n (fs.foldl Lamp.landReg (s.lamp n))).lmp with dmem := d } } := by
  have hwords : ∀ (l : List Flight) (x : State), ∃ d, l.foldl (fun s f => storeWords n f.memWords s) x = { x with lmp := { x.lmp with dmem := d } } := by
    intro l
    induction l with
    | nil => exact fun x => ⟨x.lmp.dmem, rfl⟩
    | cons f l ih =>
      intro x
      obtain ⟨d, hd⟩ := ih (storeWords n f.memWords x)
      exact ⟨d, hd⟩
  exact hwords fs _

theorem lampStep_landAllOf (n : Nat) (fs : List Flight) (s : State) : LampStep s (landAllOf n fs s) := by
  obtain ⟨d, hd⟩ := landAllOf_eq n fs s
  rw [hd]
  exact ⟨⟨_, _, _, rfl⟩, rfl⟩

theorem lamp_landAllOf (n : Nat) (fs : List Flight) (s : State) : (landAllOf n fs s).lamp n = fs.foldl Lamp.landReg (s.lamp n) := by
  obtain ⟨d, hd⟩ := landAllOf_eq n fs s
  rw [hd]
  exact lamp_setLamp_same s n _

/-- What lands before the next issue, and what comes one issue nearer. -/
def Lamp.due (l : Lamp) : List Flight := l.flight.filter fun f => decide (f.delay ≤ 1)

def Lamp.later (l : Lamp) : List Flight := (l.flight.filter fun f => decide (f.delay > 1)).map fun f => { f with delay := f.delay - 1 }

theorem lamp_landTick (n : Nat) (s : State) :
    (landTick n s).lamp n = (s.lamp n).due.foldl Lamp.landReg
      { s.lamp n with flight := (s.lamp n).later, soutPend := (s.lamp n).soutPend.map fun p => (p.1, p.2 - 1) } := by
  rw [landTick, lamp_landAllOf, lamp_setLamp_same]
  rfl

theorem lampStep_landTick (n : Nat) (s : State) : LampStep s (landTick n s) := by
  exact (lampStep_setLamp s n _).trans (lampStep_landAllOf n _ _)

/-- No HALT request appears as results land. -/
theorem haltReq_landTick (n : Nat) (s : State) : ((landTick n s).lamp n).haltReq = (s.lamp n).haltReq := by
  rw [lamp_landTick, haltReq_landFold]

/-- A lamp that no HALT waits for goes on. -/
theorem haltCheck_of_unasked {n : Nat} {s : State} (h : (s.lamp n).haltReq = false) : haltCheck n s = s := by
  have hreq : (lampAtBoundary n s).haltReq = false := (haltReq_landTick n s).trans h
  exact if_neg (by simp [hreq])

theorem lampStep_lampIssued (n : Nat) (s : State) : LampStep s (lampIssued n s) :=
  ((lampStep_setLamp s n _).trans (lampStep_landTick n _)).trans (lampStep_perfEvent _ _ _ _)

/-- The lamp once its clock has counted and the results due have landed. -/
theorem lamp_lampIssued (n : Nat) (s : State) :
    ∃ l : Lamp, (lampIssued n s).lamp n = (s.lamp n).due.foldl Lamp.landReg l ∧
      l.v = (s.lamp n).v ∧ l.sr = (s.lamp n).sr ∧ l.flight = (s.lamp n).later ∧ l.haltReq = (s.lamp n).haltReq := by
  have hclock := resultsKept_clock 1 (s.lamp n)
  rw [lampIssued_lamp, issueTick, lamp_landTick, updLamp, lamp_setLamp_same, Lamp.due, Lamp.later, hclock.flight]
  exact ⟨_, rfl, hclock.v, hclock.sr, rfl, hclock.haltReq⟩

/-- A legal NOP on a lamp that no HALT waits for: the results due land, and the lamp goes on. -/
theorem lampGoesOn_nop {n : Nat} {s : State} (h : (s.lamp n).haltReq = false) (tgt : Option Nat) :
    ∃ u, lampGoesOn n .nop tgt (lampIssued n s) (lampIssued n s) = u ∧ LampStep s u ∧ ResultsKept ((lampIssued n s).lamp n) (u.lamp n) := by
  obtain ⟨l, hl, -, -, -, hreq⟩ := lamp_lampIssued n s
  have hreq' : ((lampIssued n s).lamp n).haltReq = false := by rw [hl, haltReq_landFold, hreq, h]
  unfold lampGoesOn
  split
  · obtain ⟨k, p, hadv, hkept⟩ := lampAdvance_eq n (lampPc (lampIssued n s) n) .nop tgt (lampIssued n s)
    have hlamp : (((lampIssued n s).setLamp n k).setF (Reg.LMP_PC n) p).lamp n = k := lamp_setLamp_same _ n k
    rw [hadv, haltCheck_of_unasked (by rw [hlamp, hkept.haltReq, hreq'])]
    exact ⟨_, rfl, ((lampStep_lampIssued n s).trans (lampStep_setLamp _ n k)).trans (lampStep_setPc _ n p), by rw [hlamp]; exact hkept⟩
  · rw [haltCheck_of_unasked hreq']
    exact ⟨_, rfl, lampStep_lampIssued n s, .refl _⟩

/-- The end of the command leaves the lamp as it is. -/
theorem lamp_finish_of_lampStep {s u : State} (hs : Settled s) (hu : LampStep s u) (n : Nat) : (finish s u).lamp n = u.lamp n := by
  obtain ⟨⟨r, l, d, hshape⟩, hsnuff⟩ := hu
  have hlinks : u.links = s.links := by rw [hshape]
  have hcut : u.lmp.cut = [] := by rw [hshape]; exact hs.cuts
  have hresets : u.flt.blockResets = [] := by rw [hshape]; exact hs.resets
  have hlanes : lanesQuiet u = true := by rw [lanesQuiet, hsnuff, hlinks]; exact hs.lanes
  have hlost : u.links.lost = [] := by rw [hlinks, hs.lost]
  have hstage : ∀ x : State, (stageSettle x).lamp n = x.lamp n := fun x => by
    rcases stageSettle_eq_regs x with h | ⟨v, h⟩
    · rw [h]
    · rw [h]; rfl
  have hpset : (psetSettle u).lamp n = u.lamp n := by rw [State.lamp, psetSettle_lmp]; rfl
  rw [finish, settle, settleLost_of_nil _ hlost, settleCuts_of_nil hcut, settleResets_of_nil _ _ hresets hlanes,
    clearCuts_of_nil (by rw [psetSettle_lmp, hcut]), clearLost_of_nil (by rw [psetSettle_links, hlost])]
  exact (hstage _).trans hpset

end Sys2Proof.Machine

namespace Sys2Proof.Proofs

open Sys2Proof.Machine

/-- Settles O57: the results due land in order, and a NOP leaves them there. -/
theorem laterResultIsKept : Obligations.LaterResultIsKept := by
  unfold Obligations.LaterResultIsKept
  intro s n hheld hs hn hr hreq hlanes
  obtain ⟨u, hu, hstep, hkept⟩ := lampGoesOn_nop hreq (branchTarget ((lampIssued n s).lamp n) (lampPc (lampIssued n s) n) .nop)
  obtain ⟨l, hl, hv, hsr, hflight, -⟩ := lamp_lampIssued n s
  have hexec : exec (.nop n) s = .next (finish s u) :=
    dev_runs (f := lampIssue n .nop 0) rfl hheld (decide_eq_true hn) ((lampIssue_ready hr nofun).trans hu)
  refine ⟨_, hexec, fun r => ?_, fun r => ?_, ?_⟩
  · have hland := landFold_getD (fun l => l.s r) (fun f => match f.dest with
        | .sreg q v => if q = r then some (v % 2 ^ 36) else none
        | _ => none) (s.lamp n).due (fun f _ l => ?_) l
    · rw [lamp_finish_of_lampStep hs hstep, Lamp.s, hkept.sr, hl]
      rw [Lamp.s, Lamp.s, hsr] at hland
      exact hland
    · cases hd : f.dest with
      | sreg q v =>
        dsimp only
        rw [s_landReg_sreg hd]
        split <;> rfl
      | _ => exact s_landReg_other (fun q v h => by rw [hd] at h; cases h) l r
  · have hland := landFold_getD (fun l => l.vNats r) (fun f => match f.dest with
        | .vreg q x => if q = r then some x else none
        | _ => none) (s.lamp n).due (fun f hf l => ?_) l
    · rw [lamp_finish_of_lampStep hs hstep, Lamp.vNats]
      simp only [Lamp.vLane, hkept.v, hl]
      simp only [Lamp.vNats, Lamp.vLane, hv] at hland
      exact hland
    · cases hd : f.dest with
      | vreg q x =>
        dsimp only
        rw [vNats_landReg_vreg hd (hlanes f (List.mem_of_mem_filter hf) q x hd)]
        split <;> rfl
      | _ => exact vNats_landReg_other (fun q x h => by rw [hd] at h; cases h) l r
  · rw [lamp_finish_of_lampStep hs hstep, hkept.flight, hl, flight_landFold, hflight]
    rfl

end Sys2Proof.Proofs

/-! A lamp's counter that a parameter set armed for a slot past the table reads as that slot's state. -/

namespace Sys2Proof.Machine

/-- A slot number past the 256 of the table, whose words would fall on the first counter of lamp 0. -/
def counterSlot : Nat := 5648

/-- Lamp 0 runs, its first counter counts issued instructions and stands before the carry into the bits that a slot's state has, and a
parameter set is ARMED for `counterSlot`. -/
def aliasedState : State :=
  { (((State.reset.setF (Reg.LMP_STATE_STATE 0) 1).setF (Reg.CTR_CFG_MODE (bankLmp 0) 0) 1).setF (Reg.CTR_CFG_EVENT (bankLmp 0) 0) 0x10).setF
      (Reg.CTR_LO (bankLmp 0) 0) 0x3FFFFFFF with
    dict := { State.reset.dict with psets := [(0, { PSet.reset with state := 2, slot := counterSlot })] } }

theorem counterSlot_key : (Reg.SLOT_CTRL_STATE counterSlot).key = (Reg.CTR_LO (bankLmp 0) 0).key := by decide

theorem aliasedState_settled : Settled aliasedState :=
  ⟨by decide +kernel, by decide +kernel, by decide +kernel, by decide +kernel, by decide +kernel, by decide +kernel⟩

theorem aliasedState_ready : lampReady 0 .nop aliasedState := ⟨by decide +kernel, by decide +kernel⟩

theorem psetState_aliasedState : (aliasedState.pset 0).state = 2 := by decide +kernel

/-- The count clears the bits that the slot's state has, and the set returns to OPEN as the command ends. -/
theorem psetState_after_nop : ((finish aliasedState (lampIssue 0 .nop 0 aliasedState)).pset 0).state = 1 := by decide +kernel

end Sys2Proof.Machine

namespace Sys2Proof.Proofs

open Sys2Proof.Machine

/-- Refutes O56 by `aliasedState`, which is settled: the issue that a NOP counts changes what the armed set takes for its slot's state, so
the set returns to OPEN (R548) and the dictionary is not what it was. -/
theorem not_lampComputesAlone : ¬ Obligations.LampComputesAlone := by
  unfold Obligations.LampComputesAlone
  intro h
  obtain ⟨t, hexec, -, -, -, -, -, -, -, -, -, -, -, -, -, -, -, -, -, -, -, -, hdict, -⟩ :=
    h (.nop 0) 0 .nop aliasedState rfl rfl (by decide +kernel) aliasedState_settled aliasedState_ready (by decide +kernel)
  have hruns : exec (.nop 0) aliasedState = .next (finish aliasedState (lampIssue 0 .nop 0 aliasedState)) :=
    dev_runs (f := lampIssue 0 .nop 0) rfl (by decide +kernel) rfl rfl
  have ht : finish aliasedState (lampIssue 0 .nop 0 aliasedState) = t := Host.Outcome.next.inj (hruns.symm.trans hexec)
  have hpset : t.pset 0 = aliasedState.pset 0 := by rw [State.pset, State.pset, hdict]
  have hstate := psetState_after_nop
  rw [ht, hpset, psetState_aliasedState] at hstate
  exact absurd hstate (by decide)

end Sys2Proof.Proofs

/-! Proofs about a write of LPDDR6 that no request, no held channel and no injection disturbs (R457, R481, R482). -/

namespace Sys2Proof.Machine

/-! ## Bytes written one after another -/

/-- Writes that agree on an offset leave their byte there when one of them is of it, and the old byte else. -/
theorem mapGet_pokes {β : Type} [DecidableEq β] (d v : β) (o : Nat) (l : List (Nat × β)) (h : ∀ c ∈ l, c.1 = o → c.2 = v)
    (m : List (Nat × β)) :
    mapGet d (l.foldl (fun m c => mapSet d m c.1 c.2) m) o = if ∃ c ∈ l, c.1 = o then v else mapGet d m o := by
  induction l generalizing m with
  | nil => simp
  | cons c l ih =>
    rw [List.foldl_cons, ih (fun x hx => h x (List.mem_cons_of_mem c hx))]
    by_cases hl : ∃ x ∈ l, x.1 = o
    · obtain ⟨x, hx, he⟩ := hl
      rw [if_pos ⟨x, hx, he⟩, if_pos ⟨x, List.mem_cons_of_mem c hx, he⟩]
    · rw [if_neg hl]
      by_cases hc : c.1 = o
      · rw [if_pos ⟨c, List.mem_cons_self, hc⟩, ← hc, mapGet_mapSet_same, h c List.mem_cons_self hc]
      · rw [mapGet_mapSet_ne _ _ _ (Ne.symm hc), if_neg]
        rintro ⟨x, hx, he⟩
        rcases List.mem_cons.1 hx with rfl | hx
        · exact hc he
        · exact hl ⟨x, hx, he⟩

/-- Bytes within the populated capacity are all written. -/
theorem dramPoke_of_fit {s : State} (l : List (Nat × Byte)) (h : ∀ c ∈ l, c.1 < dramBytes s) :
    dramPoke l s = { s with mem := { s.mem with dram := l.foldl (fun m c => mapSet 0 m c.1 c.2) s.mem.dram } } := by
  have hfold : ∀ m : List (Nat × Byte), l.foldl (fun m x => if x.1 < dramBytes s then mapSet 0 m x.1 x.2 else m) m =
      l.foldl (fun m c => mapSet 0 m c.1 c.2) m := by
    generalize dramBytes s = cap at h
    induction l with
    | nil => exact fun _ => rfl
    | cons c l ih =>
      intro m
      rw [List.foldl_cons, List.foldl_cons, if_pos (h c List.mem_cons_self), ih fun x hx => h x (List.mem_cons_of_mem c hx)]
  rw [dramPoke, hfold]

/-- The bytes of a write whose enables are set. -/
theorem mem_enabledCells {off en : Nat} {bytes : List Byte} {c : Nat × Byte} :
    c ∈ enabledCells off en bytes ↔ ∃ i, bytes[i]? = some c.2 ∧ en.testBit i = true ∧ c.1 = off + i := by
  simp only [enabledCells, List.mem_map, List.mem_filter]
  constructor
  · rintro ⟨x, ⟨hx, he⟩, rfl⟩
    exact ⟨x.2, List.mem_zipIdx_iff_getElem?.1 hx, he, rfl⟩
  · rintro ⟨i, hi, he, hc⟩
    exact ⟨(c.2, i), ⟨List.mem_zipIdx_iff_getElem?.2 hi, he⟩, Prod.ext hc.symm rfl⟩

/-! ## The parts of an access -/

/-- The granule that holds an offset of the access. -/
theorem exists_granule {off n o : Nat} (h1 : off ≤ o) (h2 : o < off + n) :
    ∃ p ∈ alignedParts 256 off n, p.1 ≤ o ∧ o < p.1 + p.2 := by
  have hn : n ≠ 0 := by omega
  simp only [alignedParts, if_neg hn]
  exact ⟨_, List.mem_map.2 ⟨o / 256 - off / 256, List.mem_range.2 (by omega), rfl⟩, by dsimp only; omega, by dsimp only; omega⟩

/-- Every part lies within its access. -/
theorem granule_within {off n : Nat} {p : Nat × Nat} (hp : p ∈ alignedParts 256 off n) : off ≤ p.1 ∧ p.1 + p.2 ≤ off + n := by
  obtain ⟨i, hi, rfl⟩ := List.mem_map.1 hp
  have hlt := List.mem_range.1 hi
  dsimp only
  split at hlt <;> omega

/-- The burst of an offset of the access is one of its bursts. -/
theorem mem_burstList {off n o : Nat} (h1 : off ≤ o) (h2 : o < off + n) : o / 32 * 32 ∈ burstList off n := by
  simp only [burstList, burstsOf, List.mem_map, List.mem_range]
  exact ⟨o / 32 - off / 32, by split <;> omega, by omega⟩

/-! ## What a write's service keeps -/

/-- Two states differ in the controller, the outputs, the counters and the channels' registers alone, and hold their traffic alike. -/
structure WriteKept (s t : State) : Prop where
  shape : ∃ r m o, t = { s with regs := r, mem := m, out := o }
  reg : ∀ k, k < 0x4C000 ∨ 0x4F200 ≤ k → k < 0xC0100 → t.reg k = s.reg k
  periodic : t.mem.periodic = s.mem.periodic

namespace WriteKept

variable {s t u : State}

theorem refl (s : State) : WriteKept s s := ⟨⟨_, _, _, rfl⟩, fun _ _ _ => rfl, rfl⟩

theorem trans (h : WriteKept s t) (g : WriteKept t u) : WriteKept s u := by
  obtain ⟨⟨_, _, _, rfl⟩, hreg, hper⟩ := h
  obtain ⟨⟨_, _, _, rfl⟩, greg, gper⟩ := g
  exact ⟨⟨_, _, _, rfl⟩, fun k hk hc => (greg k hk hc).trans (hreg k hk hc), gper.trans hper⟩

theorem setF (s : State) {F : Field} (v : Nat) (h : 0xC0100 ≤ F.key) : WriteKept s (s.setF F v) :=
  ⟨⟨_, _, _, rfl⟩, fun _ _ hc => reg_setF_ne s v (by omega), rfl⟩

theorem memSet (f : MemState → MemState) (s : State) (h : (f s.mem).periodic = s.mem.periodic) : WriteKept s (memSet f s) :=
  ⟨⟨_, _, _, rfl⟩, fun _ _ _ => rfl, h⟩

theorem emit (s : State) (o : Out) : WriteKept s (s.emit o) := ⟨⟨_, _, _, rfl⟩, fun _ _ _ => rfl, rfl⟩

theorem perfEvent (b c n : Nat) (s : State) : WriteKept s (perfEvent b c n s) := by
  obtain ⟨r, h, hreg⟩ := perfEvent_same b c n s
  rw [h] at hreg ⊢
  exact ⟨⟨r, s.mem, s.out, rfl⟩, fun k hk _ => hreg k hk, rfl⟩

theorem f (h : WriteKept s t) {F : Field} (hk : F.key < 0x4C000 ∨ 0x4F200 ≤ F.key) (hc : F.key < 0xC0100) : t.f F = s.f F :=
  f_of_reg (h.reg _ hk hc)

theorem dramBytes (h : WriteKept s t) : dramBytes t = dramBytes s := by
  have h1 : t.f Reg.MEM_GEOM_CHANNELS = s.f Reg.MEM_GEOM_CHANNELS := h.f (by decide) (by decide)
  have h2 : t.f Reg.MEM_GEOM_DENSITY = s.f Reg.MEM_GEOM_DENSITY := h.f (by decide) (by decide)
  simp only [Machine.dramBytes, memChannels, h1, h2]

theorem memReady (h : WriteKept s t) : memReady t = memReady s := flag_congr (h.f (by decide) (by decide))

theorem chanHolds (h : WriteKept s t) (c : Nat) : chanHolds t c = chanHolds s c := by
  have hsw : t.flag Reg.MEM_STATUS_SWITCHING = s.flag Reg.MEM_STATUS_SWITCHING := flag_congr (h.f (by decide) (by decide))
  simp only [Machine.chanHolds, hsw, h.periodic]

theorem snuffed (h : WriteKept s t) : t.snuffed = s.snuffed := flag_congr (h.f (by decide) (by decide))

theorem flt (h : WriteKept s t) : t.flt = s.flt := by
  obtain ⟨⟨_, _, _, rfl⟩, -, -⟩ := h
  rfl

end WriteKept

section Service

variable {s : State} {e : MemErrs}

/-- What a step of the service leaves of the queue and of the bytes. -/
structure StoreKept (s t : State) : Prop extends WriteKept s t where
  queue : t.mem.queue = s.mem.queue
  dram : t.mem.dram = s.mem.dram

theorem StoreKept.trans {s t u : State} (h : StoreKept s t) (g : StoreKept t u) : StoreKept s u :=
  ⟨h.toWriteKept.trans g.toWriteKept, g.queue.trans h.queue, g.dram.trans h.dram⟩

theorem perfEvent_storeKept (b c n : Nat) (s : State) : StoreKept s (perfEvent b c n s) := by
  have hmem := (perfEvent_serveKept b c n s).2
  exact ⟨.perfEvent b c n s, congrArg MemState.queue hmem, congrArg MemState.dram hmem⟩

theorem countMerges_storeKept (n : Nat) (s : State) : StoreKept s (countMerges n s) := by
  unfold countMerges
  split
  · exact ⟨.refl s, rfl, rfl⟩
  · exact (perfEvent_storeKept _ _ _ _).trans (perfEvent_storeKept _ _ _ _)

theorem srRetrained_storeKept (c : Nat) (s : State) : StoreKept s (srRetrained c s) := by
  unfold srRetrained
  split
  · exact ⟨⟨⟨_, _, _, rfl⟩, fun _ _ _ => rfl, rfl⟩, rfl, rfl⟩
  · exact ⟨.refl s, rfl, rfl⟩

theorem srWake_storeKept (c : Nat) (entering : Bool) (s : State) : StoreKept s (srWake c entering s) := by
  have hin : StoreKept s (memSet (fun m => { m with entering := if m.entering.testBit c then m.entering ^^^ 2 ^ c else m.entering })
      (s.setF (Reg.CH_TEMP_IN_SR c) 0)) :=
    ⟨(WriteKept.setF s 0 (by simp only [Reg.CH_TEMP_IN_SR]; omega)).trans (.memSet _ _ rfl), rfl, rfl⟩
  unfold srWake
  dsimp only
  split
  · exact hin.trans ⟨.setF _ _ (Nat.le_add_right_of_le (by decide)), rfl, rfl⟩
  · exact hin

theorem srOut_storeKept (c : Nat) (s : State) : StoreKept s (srOut c s) := by
  unfold srOut
  split
  · exact (srWake_storeKept c true s).trans (srRetrained_storeKept c _)
  · exact ⟨.refl s, rfl, rfl⟩

/-- The request that issues leaves the queue, and the bytes as they are. -/
theorem memTake_writeKept (c : Nat) (q : MemReq) (s : State) :
    WriteKept s (memTake c q s) ∧ (memTake c q s).mem.queue = s.mem.queue.erase q ∧ (memTake c q s).mem.dram = s.mem.dram := by
  obtain ⟨hserve, hqueue⟩ := memTake_serveKept c q s
  refine ⟨?_, hqueue, hserve.dram⟩
  unfold memTake
  dsimp only
  split
  · exact (WriteKept.perfEvent _ _ _ _).trans (.memSet _ _ rfl)
  · exact .memSet _ _ rfl

/-- The bytes of a write are all of bursts that it writes. -/
theorem cells_written {q : MemReq} (hq : ∀ c ∈ q.cells, q.off ≤ c.1 ∧ c.1 < q.off + q.n) :
    (q.cells.filter fun c => (writtenBursts q).contains (c.1 / 32 * 32)) = q.cells := by
  refine List.filter_eq_self.2 fun c hc => ?_
  obtain ⟨h1, h2⟩ := hq c hc
  refine List.contains_iff_mem.2 (List.mem_filter.2 ⟨mem_burstList h1 h2, ?_⟩)
  exact List.any_eq_true.2 ⟨c, hc, by simp⟩

/-- A write without errors writes its bytes and answers well. -/
theorem serveWrite_of_clean (he : e.Clean) {q : MemReq} (hi : s.flt.inj = none) (hq : ∀ c ∈ q.cells, q.off ≤ c.1 ∧ c.1 < q.off + q.n)
    (hcap : ∀ c ∈ q.cells, c.1 < dramBytes s) :
    ∃ y, serveWrite q e s = ((true, []), y) ∧ WriteKept s y ∧ y.mem.queue = s.mem.queue ∧
      y.mem.dram = q.cells.foldl (fun m c => mapSet 0 m c.1 c.2) s.mem.dram := by
  have hmerge := countMerges_storeKept (partBursts q).length s
  have hgood : ∀ (l : List Nat) (x : State), x.flt.inj = none →
      l.foldl (fun (a : List Nat × State) b => (if (burstOf q.off e 2 q.master a.2 b).1 then a.1 else b :: a.1,
        (burstOf q.off e 2 q.master a.2 b).2)) (([], x) : List Nat × State) = ([], x) := by
    intro l x hx
    induction l with
    | nil => rfl
    | cons b l ih => rw [List.foldl_cons, burstOf_of_clean he q.off 2 q.master b hx]; exact ih
  have hkept := hmerge.trans (perfEvent_storeKept 0x0C 0x11 (writtenBursts q).length (countMerges (partBursts q).length s))
  have hall : ((writtenBursts q).filter fun b => !([] : List Nat).contains b) = writtenBursts q :=
    List.filter_eq_self.2 fun b _ => by simp
  unfold serveWrite
  dsimp only
  rw [hgood _ _ (by rw [hmerge.flt, hi])]
  simp only [List.isEmpty_nil, Bool.not_true, Bool.false_eq_true, and_false, if_false, hall, mergePoke, he.slip, if_true,
    cells_written hq]
  rw [dramPoke_of_fit _ (by rw [hkept.dramBytes]; exact hcap)]
  refine ⟨_, rfl, hkept.toWriteKept.trans ⟨⟨_, _, _, rfl⟩, fun _ _ _ => rfl, rfl⟩, hkept.queue, ?_⟩
  rw [← hkept.dram]
  rfl

/-- A write that nothing waits before and no channel holds is served at once. -/
theorem memAccess_of_clean (he : e.Clean) {q : MemReq} (hw : q.write = true) (hh : ∀ c, chanHolds s c = false) (hz : s.mem.queue = [])
    (hi : s.flt.inj = none) (hq : ∀ c ∈ q.cells, q.off ≤ c.1 ∧ c.1 < q.off + q.n) (hcap : ∀ c ∈ q.cells, c.1 < dramBytes s) :
    ∃ y, memAccess q e s = ((true, []), y) ∧ WriteKept s y ∧ y.mem.queue = [] ∧
      y.mem.dram = q.cells.foldl (fun m c => mapSet 0 m c.1 c.2) s.mem.dram := by
  have hout := srOut_storeKept (reqChannel s q) s
  have hone : (memQueue q (srOut (reqChannel s q) s)).mem.queue = [q] := by
    change (srOut (reqChannel s q) s).mem.queue ++ [q] = [q]
    rw [hout.queue, hz, List.nil_append]
  have hwaits : WriteKept s (memQueue q (srOut (reqChannel s q) s)) := hout.toWriteKept.trans (.memSet _ _ rfl)
  obtain ⟨htake, hqueue, hdram⟩ := memTake_writeKept (reqChannel s q) q (memQueue q (srOut (reqChannel s q) s))
  have hkept := hwaits.trans htake
  obtain ⟨y, hy, hyk, hyq, hyd⟩ := serveWrite_of_clean he (s := memTake (reqChannel s q) q (memQueue q (srOut (reqChannel s q) s)))
    (q := q) (by rw [hkept.flt, hi]) hq (by rw [hkept.dramBytes]; exact hcap)
  refine ⟨y, ?_, hkept.trans hyk, ?_, ?_⟩
  · unfold memAccess
    dsimp only
    rw [if_neg (by simp [hh]), memUntil, if_pos hone, memServe, if_pos hw, hy]
  · rw [hyq, hqueue, hone, List.erase_cons_head]
  · rw [hyd, hdram]
    exact congrArg (fun m => q.cells.foldl (fun m c => mapSet 0 m c.1 c.2) m) hout.dram

/-- One granule of a write. -/
def writePart (m off : Nat) (cells : List (Nat × Byte)) (e : MemErrs) (a : ReadAns × State) (p : Nat × Nat) : ReadAns × State :=
  let r := memAccess (memReq a.2 m 2 p.1 p.2 (cells.filter fun c => decide (p.1 ≤ c.1) && decide (c.1 < p.1 + p.2)))
    (e.from (p.1 / 32 - off / 32)) a.2
  ((a.1.1 && r.1.1, a.1.2 ++ r.1.2), r.2)

theorem dramAccess_of_ready {m off n : Nat} {cells : List (Nat × Byte)} (hb : off + n ≤ dramBytes s) (hr : memReady s = true) :
    dramAccess m 2 off n cells e s = (alignedParts 256 off n).foldl (writePart m off cells e) ((true, []), s) := by
  rw [dramAccess, if_neg (by omega), if_neg (by simp [hr])]
  rfl

/-- Nothing delays a write: no request waits, no channel holds its traffic, no injection is armed. -/
structure WriteFree (s : State) : Prop where
  queue : s.mem.queue = []
  holds : ∀ c, chanHolds s c = false
  inj : s.flt.inj = none

theorem MemErrs.Clean.from (he : e.Clean) (k : Nat) : (e.from k).Clean := ⟨fun h i => he.half h (i + k), fun i => he.tag (i + k), he.slip⟩

/-- A granule of a write leaves the bytes that are its own. -/
theorem writePart_of_clean (he : e.Clean) {m off : Nat} {cells : List (Nat × Byte)} {v : Nat → Byte} (hf : WriteFree s)
    (hv : ∀ c ∈ cells, c.2 = v c.1) (hcap : ∀ c ∈ cells, c.1 < dramBytes s) (p : Nat × Nat) :
    ∃ y, writePart m off cells e ((true, []), s) p = ((true, []), y) ∧ WriteKept s y ∧ WriteFree y ∧
      ∀ o, mapGet 0 y.mem.dram o = if (p.1 ≤ o ∧ o < p.1 + p.2) ∧ ∃ c ∈ cells, c.1 = o then v o else mapGet 0 s.mem.dram o := by
  have hmem : ∀ c, c ∈ (cells.filter fun c => decide (p.1 ≤ c.1) && decide (c.1 < p.1 + p.2)) ↔ c ∈ cells ∧ p.1 ≤ c.1 ∧ c.1 < p.1 + p.2 :=
    fun c => by simp [List.mem_filter]
  obtain ⟨y, hy, hkept, hqueue, hdram⟩ := memAccess_of_clean (he.from (p.1 / 32 - off / 32)) (s := s)
    (q := memReq s m 2 p.1 p.2 (cells.filter fun c => decide (p.1 ≤ c.1) && decide (c.1 < p.1 + p.2))) rfl hf.holds hf.queue hf.inj
    (fun c hc => ((hmem c).1 hc).2) (fun c hc => hcap c ((hmem c).1 hc).1)
  refine ⟨y, ?_, hkept, ⟨hqueue, fun c => (hkept.chanHolds c).trans (hf.holds c), by rw [hkept.flt, hf.inj]⟩, fun o => ?_⟩
  · simp only [writePart, hy, Bool.and_self, List.append_nil]
  · have hpokes := mapGet_pokes 0 (v o) o (cells.filter fun c => decide (p.1 ≤ c.1) && decide (c.1 < p.1 + p.2))
      (fun c hc h => by rw [hv c ((hmem c).1 hc).1, h]) s.mem.dram
    rw [hdram]
    refine hpokes.trans (if_congr ⟨?_, ?_⟩ rfl rfl)
    · rintro ⟨c, hc, rfl⟩
      exact ⟨((hmem c).1 hc).2, c, ((hmem c).1 hc).1, rfl⟩
    · rintro ⟨hp, c, hc, rfl⟩
      exact ⟨c, (hmem c).2 ⟨hc, hp⟩, rfl⟩

theorem writeParts_of_clean (he : e.Clean) {m off : Nat} {cells : List (Nat × Byte)} {v : Nat → Byte} (hv : ∀ c ∈ cells, c.2 = v c.1)
    (l : List (Nat × Nat)) : ∀ s : State, WriteFree s → (∀ c ∈ cells, c.1 < dramBytes s) →
    ∃ y, l.foldl (writePart m off cells e) ((true, []), s) = ((true, []), y) ∧ WriteKept s y ∧
      ∀ o, mapGet 0 y.mem.dram o = if (∃ p ∈ l, p.1 ≤ o ∧ o < p.1 + p.2) ∧ ∃ c ∈ cells, c.1 = o then v o else mapGet 0 s.mem.dram o := by
  induction l with
  | nil => exact fun s _ _ => ⟨s, rfl, .refl s, fun o => by simp⟩
  | cons p l ih =>
    intro s hf hcap
    obtain ⟨x, hx, hxk, hxf, hxd⟩ := writePart_of_clean he (m := m) (off := off) hf hv hcap p
    obtain ⟨y, hy, hyk, hyd⟩ := ih x hxf (by rw [hxk.dramBytes]; exact hcap)
    refine ⟨y, by rw [List.foldl_cons, hx, hy], hxk.trans hyk, fun o => ?_⟩
    rw [hyd, hxd]
    by_cases hc : ∃ c ∈ cells, c.1 = o
    · by_cases hl : ∃ p ∈ l, p.1 ≤ o ∧ o < p.1 + p.2
      · obtain ⟨r, hr, ho⟩ := hl
        rw [if_pos ⟨⟨r, hr, ho⟩, hc⟩, if_pos ⟨⟨r, List.mem_cons_of_mem p hr, ho⟩, hc⟩]
      · rw [if_neg fun h => hl h.1]
        refine if_congr ⟨fun h => ⟨⟨p, List.mem_cons_self, h.1⟩, hc⟩, fun h => ⟨?_, hc⟩⟩ rfl rfl
        obtain ⟨⟨r, hr, ho⟩, -⟩ := h
        rcases List.mem_cons.1 hr with rfl | hr
        · exact ho
        · exact absurd ⟨r, hr, ho⟩ hl
    · rw [if_neg fun h => hc h.2, if_neg fun h => hc h.2, if_neg fun h => hc h.2]

/-- The bytes of LPDDR6 after an access writes its enabled bytes. -/
theorem dramAccess_of_clean (he : e.Clean) {m off n en : Nat} {data : List Byte} (hf : WriteFree s) (hb : off + n ≤ dramBytes s)
    (hr : memReady s = true) :
    ∃ y, dramAccess m 2 off n (enabledCells off en (fitBytes n data)) e s = ((true, []), y) ∧ WriteKept s y ∧
      (∀ i, i < n → mapGet 0 y.mem.dram (off + i) = if en.testBit i then (fitBytes n data).getD i 0 else mapGet 0 s.mem.dram (off + i)) ∧
      ∀ o, o < off ∨ off + n ≤ o → mapGet 0 y.mem.dram o = mapGet 0 s.mem.dram o := by
  have hlen : (fitBytes n data).length = n := fitBytes_length n data
  have hbound : ∀ c ∈ enabledCells off en (fitBytes n data), off ≤ c.1 ∧ c.1 < off + n := fun c hc => by
    obtain ⟨i, hi, -, ho⟩ := mem_enabledCells.1 hc
    obtain ⟨hlt, -⟩ := List.getElem?_eq_some_iff.1 hi
    omega
  have hv : ∀ c ∈ enabledCells off en (fitBytes n data), c.2 = (fun o => (fitBytes n data).getD (o - off) 0) c.1 := fun c hc => by
    obtain ⟨i, hi, -, ho⟩ := mem_enabledCells.1 hc
    dsimp only
    rw [ho, Nat.add_sub_cancel_left, List.getD_eq_getElem?_getD, hi]
    rfl
  obtain ⟨y, hy, hkept, hdram⟩ := writeParts_of_clean he (m := m) (off := off)
    (v := fun o => (fitBytes n data).getD (o - off) 0) hv (alignedParts 256 off n) s hf
    fun c hc => lt_of_lt_of_le (hbound c hc).2 hb
  refine ⟨y, (dramAccess_of_ready hb hr).trans hy, hkept, fun i hi => ?_, fun o ho => ?_⟩
  · have hpart : ∃ p ∈ alignedParts 256 off n, p.1 ≤ off + i ∧ off + i < p.1 + p.2 := exists_granule (by omega) (by omega)
    rw [hdram, Nat.add_sub_cancel_left]
    refine if_congr ⟨?_, fun h => ⟨hpart, ?_⟩⟩ rfl rfl
    · rintro ⟨-, c, hc, ho⟩
      obtain ⟨j, -, he, hj⟩ := mem_enabledCells.1 hc
      have hij : i = j := by omega
      exact hij ▸ he
    · exact ⟨(off + i, (fitBytes n data)[i]'(by omega)), mem_enabledCells.2 ⟨i, List.getElem?_eq_getElem (by omega), h, rfl⟩, rfl⟩
  · rw [hdram, if_neg]
    rintro ⟨-, c, hc, rfl⟩
    have := hbound c hc
    omega

/-! ## The bus, and the end of the command -/

/-- LPDDR6 has the region 8 to itself. -/
theorem routeTo_dram {off n : Nat} (h : off + n ≤ 0x1000000000) : routeTo (0x1000000000 + off) n = some 8 := by
  have hspan : ∀ t < 8, (regionSpan t).1 + (regionSpan t).2 < 0x1000000000 := by decide
  rw [routeTo, if_neg (by omega), List.range_succ, List.find?_append, List.find?_eq_none.2, Option.none_or, List.find?_singleton, if_pos]
  · simp only [Bool.and_eq_true, decide_eq_true_eq]
    exact ⟨Nat.le_add_right _ _, by rw [Nat.add_assoc]; exact Nat.add_le_add_left h _⟩
  · intro t ht
    have hlt := hspan t (List.mem_range.1 ht)
    simp only [Bool.and_eq_true, decide_eq_true_eq]
    omega

/-- Cells at bus addresses are those at the offsets of their region. -/
theorem enabledCells_rel (base off en : Nat) (bytes : List Byte) :
    ((enabledCells (base + off) en bytes).map fun c => (c.1 - base, c.2)) = enabledCells off en bytes := by
  simp only [enabledCells, List.map_map]
  refine List.map_congr_left fun x _ => Prod.ext ?_ rfl
  simp only [Function.comp_apply]
  omega

theorem memHolds_of_free (off n : Nat) (hh : ∀ c, chanHolds s c = false) : memHolds s off n = false := by
  simp only [memHolds, hh, Bool.and_eq_false_iff]
  exact .inr (List.any_eq_false.2 fun _ _ => Bool.false_ne_true)

/-- A write that the matrix sends to LPDDR6. -/
theorem targetWrite_dram {m addr off len err : Nat} {cells rel : List (Nat × Byte)} {r : ReadAns × State} (hoff : addr - 0x1000000000 = off)
    (hcells : (cells.map fun c => (c.1 - 0x1000000000, c.2)) = rel) (hr : dramAccess m 2 off len rel (MemErrs.ofDigits err) s = r) :
    targetWrite 8 m addr len cells err s = (r.1.1, r.2) := by
  have hmap : (fun b => cells.map fun c => (c.1 - b, c.2)) 0x1000000000 = rel := hcells
  unfold targetWrite
  rw [if_neg (by decide), if_neg (by decide), if_neg (by decide), if_neg (by decide), if_pos rfl, hoff, hmap, hr]

/-- A write of LPDDR6 on the bus is one access of its controller. -/
theorem busAccess_dramWrite {m addr off len en err : Nat} {data host : List Byte} (hm : masterReach m 8 true = true)
    (hh : ∀ c, chanHolds s c = false) (hroute : routeTo addr len = some 8) (hoff : addr - 0x1000000000 = off)
    (hcells : (enabledCells addr en (fitBytes len data)).map (fun c => (c.1 - 0x1000000000, c.2)) = enabledCells off en (fitBytes len data)) :
    busAccess { master := m, err := err, host := host } true addr len en data s =
      (let r := dramAccess m 2 off len (enabledCells off en (fitBytes len data)) (MemErrs.ofDigits err) (perfEvent 0x07 0x10 1 s)
       r.2.respond r.1.1 []) := by
  have hfree : busHolds s addr len = false := by rw [busHolds, memHolds_of_free _ _ hh, Bool.and_false]
  have hwrite : busWrite { master := m, err := err, host := host } addr len (enabledCells addr en (fitBytes len data)) s =
      targetWrite 8 m addr len (enabledCells addr en (fitBytes len data)) err (perfEvent 0x07 0x10 1 s) := by
    rw [busWrite, if_neg (by rw [hroute]; decide), memWrite, hroute]
    dsimp only
    rw [if_pos hm]
  rw [busAccess, hfree, Bool.false_and, if_neg Bool.false_ne_true, if_pos rfl, hwrite]
  generalize hr : dramAccess m 2 off len (enabledCells off en (fitBytes len data)) (MemErrs.ofDigits err) (perfEvent 0x07 0x10 1 s) = r
  rw [targetWrite_dram hoff hcells hr]

/-- Where nothing was snuffed, cut or lost, the end of a command leaves the answer and the stores. -/
theorem finish_stores {v : State} (hs : Settled s) (hlinks : v.links = s.links) (hlmp : v.lmp = s.lmp) (hflt : v.flt = s.flt)
    (hsn : v.snuffed = s.snuffed) :
    (finish s v).resp = v.resp ∧ (finish s v).mem = v.mem ∧ (finish s v).lmp = v.lmp ∧ (finish s v).mgmt = v.mgmt ∧
      (finish s v).nvm = v.nvm ∧ (finish s v).stg = v.stg := by
  have hlanes : lanesQuiet v = true := by rw [lanesQuiet, hlinks, hsn]; exact hs.lanes
  have hlost : v.links.lost = [] := by rw [hlinks, hs.lost]
  have hcut : v.lmp.cut = [] := by rw [hlmp, hs.cuts]
  have hres : v.flt.blockResets = [] := by rw [hflt, hs.resets]
  have hstage : ∀ x : State, ∃ r, stageSettle x = { x with regs := r } := fun x => by
    rcases stageSettle_eq_regs x with h | ⟨n, h⟩
    · exact ⟨x.regs, h⟩
    · exact ⟨_, h⟩
  have hkept : (psetSettle v).resp = v.resp ∧ (psetSettle v).mem = v.mem ∧ (psetSettle v).lmp = v.lmp ∧ (psetSettle v).mgmt = v.mgmt ∧
      (psetSettle v).nvm = v.nvm ∧ (psetSettle v).stg = v.stg :=
    ⟨psetSettle_resp v, psetSettle_mem v, psetSettle_lmp v, psetSettle_mgmt v, psetSettle_nvm v, psetSettle_stg v⟩
  obtain ⟨r, hr⟩ := hstage (psetSettle v)
  rw [finish, settle, settleLost_of_nil _ hlost, settleCuts_of_nil hcut, settleResets_of_nil _ _ hres hlanes,
    clearCuts_of_nil (by rw [psetSettle_lmp, hcut]), clearLost_of_nil (by rw [psetSettle_links, hlost]), hr]
  generalize psetSettle v = x at hkept ⊢
  exact hkept

end Service

end Sys2Proof.Machine

namespace Sys2Proof.Proofs

open Sys2Proof.Machine

/-- Settles O59: nothing waits before the write, so its granules are served at once, and each leaves its enabled bytes. -/
theorem dramBytesWritten : Obligations.DramBytesWritten := by
  unfold Obligations.DramBytesWritten
  intro s m off len en data host hs hheld hany hm h1 h256 hr hz hi hsw hper hcap hspan
  have hholds : ∀ c, chanHolds s c = false := fun c => by simp [chanHolds, hsw, hper]
  have hreq := WriteKept.perfEvent 0x07 0x10 1 s
  have hstore := perfEvent_storeKept 0x07 0x10 1 s
  have hfree : WriteFree (perfEvent 0x07 0x10 1 s) :=
    ⟨hstore.queue.trans hz, fun c => (hreq.chanHolds c).trans (hholds c), by rw [hreq.flt, hi]⟩
  have hclean : (MemErrs.ofDigits 0).Clean := ⟨fun h i => by simp [MemErrs.ofDigits], fun i => by simp [MemErrs.ofDigits], rfl⟩
  obtain ⟨y, hy, hkept, hin, hout⟩ := dramAccess_of_clean hclean (m := m) (off := off) (n := len) (en := en) (data := data) hfree
    (by rw [hreq.dramBytes]; exact hcap) (hreq.memReady.trans hr)
  have hexec : exec (.busAccess m true (0x1000000000 + off) len en data 0 host) s = .next (finish s (y.respond true [])) := by
    refine dev_runs (f := busAccess { master := m, err := 0, host := host } true (0x1000000000 + off) len en data) rfl hheld ?_ ?_
    · simp only [hany, h1, h256, show 0x1000000000 + off < 2 ^ 64 by omega, decide_true, Bool.and_self]
    · rw [busAccess_dramWrite hm hholds (routeTo_dram hspan) (Nat.add_sub_cancel_left _ _) (enabledCells_rel _ _ _ _), hy]
  have hall : WriteKept s y := hreq.trans hkept
  obtain ⟨r, mm, o, hshape⟩ := hall.shape
  obtain ⟨hresp, hmem, hlmp, hmgmt, hnvm, hstg⟩ := finish_stores (v := y.respond true []) hs (by rw [hshape]; rfl) (by rw [hshape]; rfl)
    hall.flt hall.snuffed
  refine ⟨_, hexec, hresp, fun i hlt => ?_, fun o ho => ?_, fun hwf => ?_, hlmp.trans (by rw [hshape]; rfl), hmgmt.trans (by rw [hshape]; rfl),
    hnvm.trans (by rw [hshape]; rfl), hstg.trans (by rw [hshape]; rfl)⟩
  · rw [hmem]
    exact (hin i hlt).trans (by rw [hstore.dram])
  · rw [hmem]
    exact (hout o ho).trans (by rw [hstore.dram])
  · have hwfy : Memory.wf y = true := by
      have hacc := dramAccess_wf m 2 off len (enabledCells off en (fitBytes len data)) (MemErrs.ofDigits 0) (perfEvent 0x07 0x10 1 s)
        ((perfEvent_wf _ _ _ s).trans hwf)
      rwa [hy] at hacc
    refine (Memory.wf_of_same (s := y.respond true []) ?_).trans hwfy
    simp only [Memory.same, hmem, hlmp, hmgmt, hnvm, hstg, and_self]

end Sys2Proof.Proofs

/-! Proofs about the ring of fault messages (R598, R602 to R606): an event that neither snuffs, resets nor takes a snapshot. -/

namespace Sys2Proof.Machine

/-! ## Words of a message -/

theorem leBytes_add (n k v : Nat) : leBytes (n + k) v = leBytes n v ++ leBytes k (v / 2 ^ (8 * n)) := by
  induction n generalizing v with
  | zero => simp [leBytes]
  | succ n ih =>
    rw [Nat.add_right_comm, leBytes, leBytes, ih, List.cons_append, Nat.div_div_eq_div_mul]
    congr 4
    rw [show 8 * (n + 1) = 8 + 8 * n by ring, Nat.pow_add]

/-- Consecutive words of a register range written with a number show its digits. -/
theorem reg_putWords (n : Nat) : ∀ (s : State) (k v i : Nat), i < n →
    (putWords s k n (leBytes (4 * n) v)).reg (k + 4 * i) = BitVec.ofNat 32 (v / 2 ^ (32 * i)) := by
  induction n with
  | zero => exact fun _ _ _ i hi => absurd hi (Nat.not_lt_zero i)
  | succ n ih =>
    intro s k v i hi
    have hsplit : leBytes (4 * (n + 1)) v = leBytes 4 v ++ leBytes (4 * n) (v / 2 ^ 32) := by
      rw [Nat.mul_succ, Nat.add_comm]
      exact leBytes_add 4 (4 * n) v
    have hword : BitVec.ofNat 32 (leAt (leBytes (4 * (n + 1)) v) 0 4) = BitVec.ofNat 32 v := by
      rw [hsplit, leAt, List.drop_zero, List.take_left' (leBytes_length 4 v), ofLe_leBytes]
      exact BitVec.eq_of_toNat_eq (by simp)
    have hrest : (leBytes (4 * (n + 1)) v).drop 4 = leBytes (4 * n) (v / 2 ^ 32) := by rw [hsplit, List.drop_left' (leBytes_length 4 v)]
    rw [putWords, hword, hrest]
    cases i with
    | zero =>
      rw [reg_putWords_ne n _ _ (.inl (by omega)), Nat.mul_zero, Nat.add_zero, reg_setReg_same, Nat.pow_zero, Nat.div_one]
    | succ i =>
      rw [show k + 4 * (i + 1) = k + 4 + 4 * i by ring, ih _ _ _ i (by omega), Nat.div_div_eq_div_mul, ← Nat.pow_add,
        show 32 * (i + 1) = 32 + 32 * i by ring]

/-! ## A message kept (R604, R605) -/

section Ring

variable {s : State} {e : FaultEv} {sev k : Nat}

/-- The first error since it was last cleared (R605). -/
def captureFirst (sev msg : Nat) (s : State) : State :=
  if sev ≥ s.f Reg.FLT_CFG_FIRST_MIN ∧ !s.flag Reg.FLT_FIRST_VALID then
    let s := putMsg s (Reg.FLT_FIRST_MSG 0).key msg
    ((s.setF64 Reg.FLT_FIRST_SEC_LO Reg.FLT_FIRST_SEC_HI s.time.sec).setF Reg.FLT_FIRST_NS s.time.ns).setF
      Reg.FLT_FIRST_VALID 1
  else s

/-- The entry written, the write pointer advanced, and what the collector keeps of the message. -/
def ringEntry (e : FaultEv) (sev : Nat) (s : State) : State :=
  let msg := faultMsg s e sev s.flt.lost
  let s := (putMsg s (Reg.FLT_RING0 (s.f Reg.FLT_RING_WR % 1024)).key msg).incF Reg.FLT_RING_WR 1
  { s with flt := { s.flt with lost := false, lastMsg := msg,
                               notifyQueue := if sev ≥ 1 then s.flt.notifyQueue ++ [msg] else s.flt.notifyQueue } }

theorem keepMsg_eq (e : FaultEv) (sev : Nat) (s : State) :
    keepMsg e sev s = captureFirst sev (faultMsg s e sev s.flt.lost) (ringEntry e sev s) := rfl

theorem putWords_flt (n : Nat) : ∀ (s : State) (j : Nat) (l : List Byte), (putWords s j n l).flt = s.flt := by
  induction n with
  | zero => exact fun _ _ _ => rfl
  | succ n ih => exact fun s j l => (ih _ _ _).trans (State.setReg_flt s j _)

theorem captureFirst_flt (sev msg : Nat) (s : State) : (captureFirst sev msg s).flt = s.flt := by
  unfold captureFirst
  split
  · simp only [State.setF_flt, State.setF64, putMsg, putWords_flt]
  · rfl

theorem reg_captureFirst (sev msg : Nat) (s : State) (h : k < 0x30040 ∨ 0x30060 ≤ k) : (captureFirst sev msg s).reg k = s.reg k := by
  have hset : ∀ (F : Field) (v : Nat) (x : State), 0x30040 ≤ F.key → F.key < 0x30060 → (x.setF F v).reg k = x.reg k := fun F v x h1 h2 =>
    reg_setF_ne x v (by omega)
  unfold captureFirst
  split
  · dsimp only
    rw [hset _ _ _ (by decide) (by decide), hset _ _ _ (by decide) (by decide), State.setF64, hset _ _ _ (by decide) (by decide),
      hset _ _ _ (by decide) (by decide)]
    exact reg_putWords_ne 4 s _ (by simp only [Reg.FLT_FIRST_MSG]; omega)
  · rfl

/-- The collector's own state is beside the registers. -/
theorem reg_ringEntry : (ringEntry e sev s).reg k =
    ((putMsg s (Reg.FLT_RING0 (s.f Reg.FLT_RING_WR % 1024)).key (faultMsg s e sev s.flt.lost)).incF Reg.FLT_RING_WR 1).reg k := by
  unfold ringEntry
  exact reg_withFlt _ _ k

theorem reg_ringEntry_ne (hw : k ≠ 0x30018)
    (hr : k < 0x38000 + 16 * (s.f Reg.FLT_RING_WR % 1024) ∨ 0x38000 + 16 * (s.f Reg.FLT_RING_WR % 1024) + 16 ≤ k) :
    (ringEntry e sev s).reg k = s.reg k := by
  rw [reg_ringEntry, State.incF, reg_setF_ne _ _ (F := Reg.FLT_RING_WR) hw, putMsg]
  refine reg_putWords_ne 4 s _ ?_
  simp only [Reg.FLT_RING0]
  omega

theorem reg_ringEntry_word {i : Nat} (hi : i < 4) :
    (ringEntry e sev s).reg (0x38000 + 16 * (s.f Reg.FLT_RING_WR % 1024) + 4 * i) =
      BitVec.ofNat 32 (faultMsg s e sev s.flt.lost / 2 ^ (32 * i)) := by
  have hkey : (Reg.FLT_RING0 (s.f Reg.FLT_RING_WR % 1024)).key = 0x38000 + 16 * (s.f Reg.FLT_RING_WR % 1024) := by
    simp only [Reg.FLT_RING0]
    omega
  have hne : 0x38000 + 16 * (s.f Reg.FLT_RING_WR % 1024) + 4 * i ≠ Reg.FLT_RING_WR.key := by
    simp only [Reg.FLT_RING_WR]
    omega
  rw [reg_ringEntry, State.incF, reg_setF_ne _ _ hne, hkey]
  exact reg_putWords 4 s _ _ i hi

theorem ringWr_ringEntry : (ringEntry e sev s).f Reg.FLT_RING_WR = (s.f Reg.FLT_RING_WR + 1) % 2048 := by
  have hput : (putMsg s (Reg.FLT_RING0 (s.f Reg.FLT_RING_WR % 1024)).key (faultMsg s e sev s.flt.lost)).f Reg.FLT_RING_WR =
      s.f Reg.FLT_RING_WR := f_of_reg (reg_putWords_ne 4 s _ (.inl (by simp only [Reg.FLT_RING0, Reg.FLT_RING_WR]; omega)))
  have hentry : (ringEntry e sev s).f Reg.FLT_RING_WR =
      ((putMsg s (Reg.FLT_RING0 (s.f Reg.FLT_RING_WR % 1024)).key (faultMsg s e sev s.flt.lost)).incF Reg.FLT_RING_WR 1).f Reg.FLT_RING_WR :=
    f_of_reg reg_ringEntry
  rw [hentry, State.incF, f_setF_same _ _ (F := Reg.FLT_RING_WR) (by decide), hput]
  rfl

/-- The registers that a kept message leaves. -/
theorem reg_keepMsg_ne (hw : k ≠ 0x30018) (hf : k < 0x30040 ∨ 0x30060 ≤ k)
    (hr : k < 0x38000 + 16 * (s.f Reg.FLT_RING_WR % 1024) ∨ 0x38000 + 16 * (s.f Reg.FLT_RING_WR % 1024) + 16 ≤ k) :
    (keepMsg e sev s).reg k = s.reg k := by
  rw [keepMsg_eq, reg_captureFirst _ _ _ hf, reg_ringEntry_ne hw hr]

theorem lost_keepMsg : (keepMsg e sev s).flt.lost = false ∧ (keepMsg e sev s).flt.blockResets = s.flt.blockResets := by
  rw [keepMsg_eq, captureFirst_flt]
  unfold ringEntry
  dsimp only
  rw [State.incF_flt, putMsg, putWords_flt]
  exact ⟨rfl, rfl⟩

/-! ## A message dropped (R603) -/

/-- The ring is full: the event is counted, and the message dropped and counted. -/
def dropMsg (kind : Nat) (s : State) : State :=
  let s := ((s.incF (Reg.FLT_KIND_CNT kind) 1).incF Reg.FLT_CNT_DROP 1).setOnce Reg.FLT_RING_WR.key true
  { s with flt := { s.flt with lost := true } }

theorem reg_dropMsg_ne {kind : Nat} (hk : k ≠ 0x34000 + 4 * kind) (hd : k ≠ 0x30020) : (dropMsg kind s).reg k = s.reg k :=
  (reg_setF_ne _ _ (F := Reg.FLT_CNT_DROP) hd).trans (reg_setF_ne s _ (F := Reg.FLT_KIND_CNT kind) (by simp only [Reg.FLT_KIND_CNT]; omega))

theorem dropCount_dropMsg (kind : Nat) : (dropMsg kind s).f Reg.FLT_CNT_DROP = (s.f Reg.FLT_CNT_DROP + 1) % 2 ^ 32 := by
  have hkind : (s.incF (Reg.FLT_KIND_CNT kind) 1).f Reg.FLT_CNT_DROP = s.f Reg.FLT_CNT_DROP :=
    f_incF_apart s 1 (.inl (by simp only [Reg.FLT_KIND_CNT, Reg.FLT_CNT_DROP]; omega))
  refine (f_setF_same _ _ (F := Reg.FLT_CNT_DROP) (by decide)).trans ?_
  rw [hkind]
  rfl

theorem kindCount_incF (kind : Nat) : (s.incF (Reg.FLT_KIND_CNT kind) 1).f (Reg.FLT_KIND_CNT kind) = (s.f (Reg.FLT_KIND_CNT kind) + 1) % 2 ^ 32 :=
  f_setF_same s _ (F := Reg.FLT_KIND_CNT kind) (by simp only [Field.fits, Reg.FLT_KIND_CNT]; omega)

theorem kindCount_dropMsg (kind : Nat) : (dropMsg kind s).f (Reg.FLT_KIND_CNT kind) = (s.f (Reg.FLT_KIND_CNT kind) + 1) % 2 ^ 32 :=
  (f_setF_apart _ _ (F := Reg.FLT_CNT_DROP) (.inl (by simp only [Reg.FLT_KIND_CNT, Reg.FLT_CNT_DROP]; omega))).trans (kindCount_incF kind)

/-- Whether the ring is full is read of two registers. -/
theorem fltRingFull_of_reg {t : State} (hw : t.reg 0x30018 = s.reg 0x30018) (hr : t.reg 0x3001C = s.reg 0x3001C) :
    fltRingFull t = fltRingFull s := by
  have h1 : t.f Reg.FLT_RING_WR = s.f Reg.FLT_RING_WR := f_of_reg hw
  have h2 : t.f Reg.FLT_RING_RD = s.f Reg.FLT_RING_RD := f_of_reg hr
  rw [fltRingFull, fltRingFull, h1, h2]

theorem fltRingFull_incF (kind : Nat) : fltRingFull (s.incF (Reg.FLT_KIND_CNT kind) 1) = fltRingFull s := by
  refine fltRingFull_of_reg ?_ ?_ <;>
    exact reg_setF_ne s _ (by simp only [Reg.FLT_KIND_CNT]; omega)

theorem collectKeep_of_room (h : fltRingFull s = false) : collectKeep e sev s = (keepMsg e sev (s.incF (Reg.FLT_KIND_CNT e.kind) 1), []) := by
  simp only [collectKeep, fltRingFull_incF, h, Bool.false_eq_true, if_false]

theorem collectKeep_of_full (h : fltRingFull s = true) :
    collectKeep e sev s = (dropMsg e.kind s, if s.once Reg.FLT_RING_WR.key then [] else [fev FK.FLT_RING_FULL 0x03 0 0]) := by
  simp only [collectKeep, fltRingFull_incF, h, if_true]
  rfl

/-! ## An event of class C0 or C1 that takes no snapshot (R602, R606) -/

/-- The reaction of class C1: interrupt vector 1. -/
def lightEnd (sev : Nat) (s : State) : State := if sev ≥ 1 then s.intPend 1 else s

theorem reg_lightEnd_ne (hk : k ≠ 0xB0010) : (lightEnd sev s).reg k = s.reg k := by
  unfold lightEnd
  split
  · exact reg_setReg_ne s _ hk
  · rfl

theorem lightEnd_flt : (lightEnd sev s).flt = s.flt := by
  unfold lightEnd
  split <;> rfl

theorem lightEnd_onceRaised : (lightEnd sev s).onceRaised = s.onceRaised := by
  unfold lightEnd
  split <;> rfl

theorem pending_lightEnd (h : sev = 1) : ((lightEnd sev s).reg Reg.HIF_INT_PEND.key).getLsbD 1 = true := by
  rw [lightEnd, if_pos (by omega), State.intPend, reg_setReg_same, BitVec.getLsbD_or]
  exact Bool.or_eq_true_iff.2 (.inr (by decide))

theorem pending_lightEnd_of_pending (h : (s.reg Reg.HIF_INT_PEND.key).getLsbD 1 = true) :
    ((lightEnd sev s).reg Reg.HIF_INT_PEND.key).getLsbD 1 = true := by
  unfold lightEnd
  split
  · rw [State.intPend, reg_setReg_same, BitVec.getLsbD_or, h, Bool.true_or]
  · exact h

/-- The collection of such an event. -/
theorem collectOne_of_light (hc : classOf s e.kind ≤ 1)
    (hm : classOf s e.kind < (lightEnd (classOf s e.kind) (collectKeep e (classOf s e.kind) s).1).f Reg.PMR_CFG_FAULT_MIN) :
    collectOne e s = (lightEnd (classOf s e.kind) (collectKeep e (classOf s e.kind) s).1, (collectKeep e (classOf s e.kind) s).2) := by
  have hact : actingClass (classOf s e.kind) e.src = classOf s e.kind := if_neg (by omega)
  have hsnap : ∀ x : State, classOf s e.kind < x.f Reg.PMR_CFG_FAULT_MIN → collectSnap e (classOf s e.kind) x = (x, []) := fun x hx => by
    simp only [collectSnap, ge_iff_le, decide_eq_false (Nat.not_le.2 hx), Bool.false_and, Bool.false_eq_true, if_false]
  have hreset : ∀ (lost : Bool) (x : State), collectReset e (classOf s e.kind) lost x = x := fun lost x => by
    simp only [collectReset, hact, if_neg (show classOf s e.kind ≠ 3 by omega), if_neg (show classOf s e.kind ≠ 4 by omega)]
  have hlight : ∀ x : State, (if classOf s e.kind ≥ 1 then x.intPend 1 else x) = lightEnd (classOf s e.kind) x := fun _ => rfl
  simp only [collectOne, hact, hlight, hsnap _ hm, hreset,
    if_neg (show ¬ (classOf s e.kind = 2 ∨ classOf s e.kind = 4) by omega), List.append_nil]

/-- The threshold of the snapshots and the class of a kind are beside what an event writes. -/
theorem faultMin_collectKeep (hkind : e.kind < 4096) : (collectKeep e sev s).1.f Reg.PMR_CFG_FAULT_MIN = s.f Reg.PMR_CFG_FAULT_MIN := by
  refine f_of_reg ?_
  simp only [Reg.PMR_CFG_FAULT_MIN]
  cases h : fltRingFull s with
  | false =>
    have hcnt : (s.incF (Reg.FLT_KIND_CNT e.kind) 1).reg 0x40008 = s.reg 0x40008 :=
      reg_setF_ne s _ (by simp only [Reg.FLT_KIND_CNT]; omega)
    rw [collectKeep_of_room h, reg_keepMsg_ne (by decide) (by decide) (by omega), hcnt]
  | true => rw [collectKeep_of_full h, reg_dropMsg_ne (by omega) (by decide)]

theorem collectOne_light (hkind : e.kind < 4096) (hc : classOf s e.kind ≤ 1) (hm : classOf s e.kind < s.f Reg.PMR_CFG_FAULT_MIN) :
    collectOne e s = (lightEnd (classOf s e.kind) (collectKeep e (classOf s e.kind) s).1, (collectKeep e (classOf s e.kind) s).2) := by
  refine collectOne_of_light hc ?_
  rw [f_of_reg (reg_lightEnd_ne (by decide)), faultMin_collectKeep hkind]
  exact hm

/-- An event that raises no other is the whole of its collection. -/
theorem collect_of_done {v : State} (n : Nat) (h : collectOne e s = (v, [])) : collect (n + 1) [e] s = v := by
  rw [collect, h]
  cases n <;> rfl

/-- With room in the ring the event is counted and its message kept. -/
theorem raise_of_room (hkind : e.kind < 4096) (hc : classOf s e.kind ≤ 1) (hm : classOf s e.kind < s.f Reg.PMR_CFG_FAULT_MIN)
    (h : fltRingFull s = false) :
    raise e s = lightEnd (classOf s e.kind) (keepMsg e (classOf s e.kind) (s.incF (Reg.FLT_KIND_CNT e.kind) 1)) :=
  collect_of_done 7 (by rw [collectOne_light hkind hc hm, collectKeep_of_room h])

/-- A later event that finds the ring full is dropped alone. -/
theorem raise_of_full (hkind : e.kind < 4096) (hc : classOf s e.kind ≤ 1) (hm : classOf s e.kind < s.f Reg.PMR_CFG_FAULT_MIN)
    (h : fltRingFull s = true) (ho : s.once Reg.FLT_RING_WR.key = true) :
    raise e s = lightEnd (classOf s e.kind) (dropMsg e.kind s) :=
  collect_of_done 7 (by rw [collectOne_light hkind hc hm, collectKeep_of_full h, if_pos ho])

theorem once_dropMsg (kind : Nat) : (dropMsg kind s).once Reg.FLT_RING_WR.key = true := mapGet_mapSet_same false true _ _

theorem once_lightEnd (key : Nat) : (lightEnd sev s).once key = s.once key := by rw [State.once, State.once, lightEnd_onceRaised]

/-- The state after a drop of class C0 or C1: the collector's part of it. -/
theorem fltRingFull_dropped (hkind : e.kind < 4096) : fltRingFull (lightEnd sev (dropMsg e.kind s)) = fltRingFull s := by
  refine fltRingFull_of_reg ?_ ?_ <;>
    rw [reg_lightEnd_ne (by decide), reg_dropMsg_ne (by omega) (by decide)]

/-- The first event that finds the ring full raises FK_FLT_RING_FULL, which is dropped with it (R603). -/
theorem raise_of_full_first (hkind : e.kind < 4096) (hc : classOf s e.kind ≤ 1) (hm : classOf s e.kind < s.f Reg.PMR_CFG_FAULT_MIN)
    (hcf : classOf s FK.FLT_RING_FULL ≤ 1) (hmf : classOf s FK.FLT_RING_FULL < s.f Reg.PMR_CFG_FAULT_MIN)
    (h : fltRingFull s = true) (ho : s.once Reg.FLT_RING_WR.key = false) :
    raise e s = lightEnd (classOf s FK.FLT_RING_FULL) (dropMsg FK.FLT_RING_FULL (lightEnd (classOf s e.kind) (dropMsg e.kind s))) := by
  have hone : collectOne e s = (lightEnd (classOf s e.kind) (dropMsg e.kind s), [fev FK.FLT_RING_FULL 0x03 0 0]) := by
    rw [collectOne_light hkind hc hm, collectKeep_of_full h, ho]
    rfl
  have hclass : ∀ k', k' < 4096 → classOf (lightEnd (classOf s e.kind) (dropMsg e.kind s)) k' = classOf s k' := fun k' hk' => by
    refine classOf_congr ?_
    rw [reg_lightEnd_ne (by omega), reg_dropMsg_ne (by omega) (by omega)]
  have hmin : (lightEnd (classOf s e.kind) (dropMsg e.kind s)).f Reg.PMR_CFG_FAULT_MIN = s.f Reg.PMR_CFG_FAULT_MIN := by
    refine f_of_reg ?_
    simp only [Reg.PMR_CFG_FAULT_MIN]
    rw [reg_lightEnd_ne (by decide), reg_dropMsg_ne (by omega) (by decide)]
  have hfull : collectOne (fev FK.FLT_RING_FULL 0x03 0 0) (lightEnd (classOf s e.kind) (dropMsg e.kind s)) =
      (lightEnd (classOf s FK.FLT_RING_FULL) (dropMsg FK.FLT_RING_FULL (lightEnd (classOf s e.kind) (dropMsg e.kind s))), []) := by
    have hone' := collectOne_light (e := fev FK.FLT_RING_FULL 0x03 0 0) (s := lightEnd (classOf s e.kind) (dropMsg e.kind s)) (by decide)
      ((hclass _ (by decide)).trans_le hcf) (by rw [hmin]; exact (hclass _ (by decide)).trans_lt hmf)
    rw [hone', collectKeep_of_full ((fltRingFull_dropped hkind).trans h), if_pos ((once_lightEnd _).trans (once_dropMsg _))]
    exact congrArg (fun c => (lightEnd c _, [])) (hclass _ (by decide))
  change collect 7 ([] ++ (collectOne e s).2) (collectOne e s).1 = _
  rw [hone]
  exact collect_of_done 6 hfull

/-! ## What an event leaves in the collector -/

/-- What the event does wherever its message goes: it is counted, pending interrupts are joined by its own, and the snuff and the block
resets are as before. -/
structure Counted (kind : Nat) (s v : State) : Prop where
  count : v.f (Reg.FLT_KIND_CNT kind) = (s.f (Reg.FLT_KIND_CNT kind) + 1) % 2 ^ 32
  pending : classOf s kind = 1 → (v.reg Reg.HIF_INT_PEND.key).getLsbD 1 = true
  snuffed : v.snuffed = s.snuffed
  resets : v.flt.blockResets = s.flt.blockResets

/-- The message stands in its place of the ring. -/
structure MessageStored (e : FaultEv) (s v : State) : Prop where
  ringWr : v.f Reg.FLT_RING_WR = (s.f Reg.FLT_RING_WR + 1) % 2048
  lost : v.flt.lost = false
  drops : v.f Reg.FLT_CNT_DROP = s.f Reg.FLT_CNT_DROP
  message : ∀ i, i < 4 → v.reg (0x38000 + 16 * (s.f Reg.FLT_RING_WR % 1024) + 4 * i) =
    BitVec.ofNat 32 (faultMsg s e (classOf s e.kind) s.flt.lost / 2 ^ (32 * i))
  others : ∀ j i, j < 1024 → j ≠ s.f Reg.FLT_RING_WR % 1024 → i < 4 → v.reg (0x38000 + 16 * j + 4 * i) = s.reg (0x38000 + 16 * j + 4 * i)

/-- The message was dropped, and the drop is marked; `n` messages are counted as dropped. -/
structure MessageDropped (n : Nat) (s v : State) : Prop where
  ringWr : v.f Reg.FLT_RING_WR = s.f Reg.FLT_RING_WR
  lost : v.flt.lost = true
  once : v.once Reg.FLT_RING_WR.key = true
  drops : v.f Reg.FLT_CNT_DROP = (s.f Reg.FLT_CNT_DROP + n) % 2 ^ 32
  ring : ∀ k, 0x38000 ≤ k → k < 0x3C000 → v.reg k = s.reg k

theorem reg_dropped_ne {kind : Nat} (hc : k ≠ 0x34000 + 4 * kind) (hd : k ≠ 0x30020) (hp : k ≠ 0xB0010) :
    (lightEnd sev (dropMsg kind s)).reg k = s.reg k := by rw [reg_lightEnd_ne hp, reg_dropMsg_ne hc hd]

/-- Another kind's count is beside a drop. -/
theorem kindCount_dropped_ne {kind other : Nat} (hne : other ≠ kind) (hk : other < 4096) :
    (lightEnd sev (dropMsg kind s)).f (Reg.FLT_KIND_CNT other) = s.f (Reg.FLT_KIND_CNT other) :=
  f_of_reg (reg_dropped_ne (by simp only [Reg.FLT_KIND_CNT]; omega) (by simp only [Reg.FLT_KIND_CNT]; omega)
    (by simp only [Reg.FLT_KIND_CNT]; omega))

section Room

variable (hkind : e.kind < 4096)
include hkind

theorem reg_kept_ne (hc : k ≠ 0x34000 + 4 * e.kind) (hp : k ≠ 0xB0010) (hw : k ≠ 0x30018) (hf : k < 0x30040 ∨ 0x30060 ≤ k)
    (hr : k < 0x38000 + 16 * (s.f Reg.FLT_RING_WR % 1024) ∨ 0x38000 + 16 * (s.f Reg.FLT_RING_WR % 1024) + 16 ≤ k) :
    (lightEnd sev (keepMsg e sev (s.incF (Reg.FLT_KIND_CNT e.kind) 1))).reg k = s.reg k := by
  have hwr : (s.incF (Reg.FLT_KIND_CNT e.kind) 1).f Reg.FLT_RING_WR = s.f Reg.FLT_RING_WR :=
    f_incF_apart s 1 (.inl (by simp only [Reg.FLT_KIND_CNT, Reg.FLT_RING_WR]; omega))
  rw [reg_lightEnd_ne hp, reg_keepMsg_ne hw hf (by rw [hwr]; exact hr)]
  exact reg_setF_ne s _ (by simp only [Reg.FLT_KIND_CNT]; omega)

theorem messageStored : MessageStored e s (lightEnd (classOf s e.kind) (keepMsg e (classOf s e.kind) (s.incF (Reg.FLT_KIND_CNT e.kind) 1))) := by
  have hwr : (s.incF (Reg.FLT_KIND_CNT e.kind) 1).f Reg.FLT_RING_WR = s.f Reg.FLT_RING_WR :=
    f_incF_apart s 1 (.inl (by simp only [Reg.FLT_KIND_CNT, Reg.FLT_RING_WR]; omega))
  have hentry : ∀ k, k ≠ 0xB0010 → (k < 0x30040 ∨ 0x30060 ≤ k) →
      (lightEnd (classOf s e.kind) (keepMsg e (classOf s e.kind) (s.incF (Reg.FLT_KIND_CNT e.kind) 1))).reg k =
        (ringEntry e (classOf s e.kind) (s.incF (Reg.FLT_KIND_CNT e.kind) 1)).reg k := fun k hp hf => by
    rw [reg_lightEnd_ne hp, keepMsg_eq, reg_captureFirst _ _ _ hf]
  refine ⟨?_, by rw [lightEnd_flt, lost_keepMsg.1], ?_, fun i hi => ?_, fun j i hj hne hi => ?_⟩
  · rw [f_of_reg (hentry _ (by decide) (by decide)), ringWr_ringEntry, hwr]
  · refine f_of_reg (reg_kept_ne hkind ?_ (by decide) (by decide) (by decide) ?_) <;>
      · simp only [Reg.FLT_CNT_DROP]
        omega
  · have hmsg := reg_ringEntry_word (e := e) (sev := classOf s e.kind) (s := s.incF (Reg.FLT_KIND_CNT e.kind) 1) hi
    rw [hwr] at hmsg
    rw [hentry _ (by omega) (by omega), hmsg, State.incF_flt]
    rfl
  · exact reg_kept_ne hkind (by omega) (by omega) (by omega) (by omega) (by omega)

theorem counted_of_kept : Counted e.kind s (lightEnd (classOf s e.kind) (keepMsg e (classOf s e.kind) (s.incF (Reg.FLT_KIND_CNT e.kind) 1))) := by
  refine ⟨?_, pending_lightEnd, ?_, ?_⟩
  · have hcnt : (lightEnd (classOf s e.kind) (keepMsg e (classOf s e.kind) (s.incF (Reg.FLT_KIND_CNT e.kind) 1))).f (Reg.FLT_KIND_CNT e.kind) =
        (s.incF (Reg.FLT_KIND_CNT e.kind) 1).f (Reg.FLT_KIND_CNT e.kind) := by
      refine f_of_reg ?_
      simp only [Reg.FLT_KIND_CNT]
      rw [reg_lightEnd_ne (by omega), reg_keepMsg_ne (by omega) (by omega) (by omega)]
    rw [hcnt, kindCount_incF]
  · rw [State.snuffed, State.snuffed, State.flag, State.flag,
      f_of_reg (reg_kept_ne hkind (by simp only [Reg.FLT_STATUS_SNUFFED]; omega) (by decide) (by decide) (by decide)
        (by simp only [Reg.FLT_STATUS_SNUFFED]; omega))]
  · rw [lightEnd_flt, lost_keepMsg.2, State.incF_flt]

theorem messageDropped : MessageDropped 1 s (lightEnd sev (dropMsg e.kind s)) := by
  refine ⟨f_of_reg (reg_dropped_ne ?_ (by decide) (by decide)), by rw [lightEnd_flt]; rfl, (once_lightEnd _).trans (once_dropMsg _), ?_,
    fun k h1 h2 => reg_dropped_ne (by omega) (by omega) (by omega)⟩
  · simp only [Reg.FLT_RING_WR]
    omega
  · rw [f_of_reg (reg_lightEnd_ne (by decide)), dropCount_dropMsg]

theorem counted_of_dropped : Counted e.kind s (lightEnd (classOf s e.kind) (dropMsg e.kind s)) := by
  refine ⟨?_, pending_lightEnd, ?_, by rw [lightEnd_flt]; rfl⟩
  · rw [f_of_reg (reg_lightEnd_ne (by simp only [Reg.FLT_KIND_CNT]; omega)), kindCount_dropMsg]
  · rw [State.snuffed, State.snuffed, State.flag, State.flag,
      f_of_reg (reg_dropped_ne (by simp only [Reg.FLT_STATUS_SNUFFED]; omega) (by decide) (by decide))]

end Room

theorem MessageDropped.trans {m n : Nat} {u v : State} (h : MessageDropped m s u) (g : MessageDropped n u v) : MessageDropped (m + n) s v where
  ringWr := g.ringWr.trans h.ringWr
  lost := g.lost
  once := g.once
  drops := by
    rw [g.drops, h.drops]
    omega
  ring k h1 h2 := (g.ring k h1 h2).trans (h.ring k h1 h2)

/-- The drop of FK_FLT_RING_FULL leaves what the drop before it has counted. -/
theorem Counted.ringFull {kind : Nat} {v : State} (h : Counted kind s v) (hkind : kind < 4096) (hne : kind ≠ FK.FLT_RING_FULL) :
    Counted kind s (lightEnd sev (dropMsg FK.FLT_RING_FULL v)) where
  count := (kindCount_dropped_ne hne hkind).trans h.count
  pending hc := pending_lightEnd_of_pending (by
    rw [reg_dropMsg_ne (by decide) (by decide)]
    exact h.pending hc)
  snuffed := by
    rw [State.snuffed, State.flag, f_of_reg (reg_dropped_ne (by decide) (by decide) (by decide))]
    exact h.snuffed
  resets := by
    rw [lightEnd_flt]
    exact h.resets

section Outcomes

variable (hkind : e.kind < 4096) (hc : classOf s e.kind ≤ 1) (hm : classOf s e.kind < s.f Reg.PMR_CFG_FAULT_MIN)
include hkind hc hm

theorem raise_stores (h : fltRingFull s = false) : Counted e.kind s (raise e s) ∧ MessageStored e s (raise e s) := by
  rw [raise_of_room hkind hc hm h]
  exact ⟨counted_of_kept hkind, messageStored hkind⟩

theorem raise_drops (hne : e.kind ≠ FK.FLT_RING_FULL) (h : fltRingFull s = true) (ho : s.once Reg.FLT_RING_WR.key = true) :
    Counted e.kind s (raise e s) ∧ MessageDropped 1 s (raise e s) ∧
      (raise e s).f (Reg.FLT_KIND_CNT FK.FLT_RING_FULL) = s.f (Reg.FLT_KIND_CNT FK.FLT_RING_FULL) := by
  rw [raise_of_full hkind hc hm h ho]
  exact ⟨counted_of_dropped hkind, messageDropped hkind, kindCount_dropped_ne hne.symm (by decide)⟩

theorem raise_drops_first (hne : e.kind ≠ FK.FLT_RING_FULL) (hcf : classOf s FK.FLT_RING_FULL ≤ 1)
    (hmf : classOf s FK.FLT_RING_FULL < s.f Reg.PMR_CFG_FAULT_MIN) (h : fltRingFull s = true) (ho : s.once Reg.FLT_RING_WR.key = false) :
    Counted e.kind s (raise e s) ∧ MessageDropped 2 s (raise e s) ∧
      (raise e s).f (Reg.FLT_KIND_CNT FK.FLT_RING_FULL) = (s.f (Reg.FLT_KIND_CNT FK.FLT_RING_FULL) + 1) % 2 ^ 32 := by
  have hcount : ∀ v : State, (lightEnd (classOf s FK.FLT_RING_FULL) (dropMsg FK.FLT_RING_FULL v)).f (Reg.FLT_KIND_CNT FK.FLT_RING_FULL) =
      (v.f (Reg.FLT_KIND_CNT FK.FLT_RING_FULL) + 1) % 2 ^ 32 := fun v => by
    rw [f_of_reg (reg_lightEnd_ne (by decide)), kindCount_dropMsg]
  rw [raise_of_full_first hkind hc hm hcf hmf h ho]
  refine ⟨(counted_of_dropped hkind).ringFull hkind hne,
    (messageDropped hkind).trans (messageDropped (e := fev FK.FLT_RING_FULL 0x03 0 0) (by decide)), ?_⟩
  rw [hcount, kindCount_dropped_ne hne.symm (by decide)]

end Outcomes

/-- The end of the command leaves what the collector holds. -/
theorem finish_counted {kind : Nat} {v : State} (hs : Settled s) (hv : SameButFaults s v) (h : Counted kind s v) :
    (finish s v).regs = v.regs ∧ (finish s v).flt = v.flt ∧ (finish s v).onceRaised = v.onceRaised ∧ Memory.same s (finish s v) := by
  rw [finish_eq_psetSettle hs (.of_faults hv h.resets) fun hsn => h.snuffed ▸ hsn]
  refine ⟨psetSettle_regs v, psetSettle_flt v, psetSettle_onceRaised v, hv.same.trans ?_⟩
  simp [Memory.same]

/-- What the collector holds is read of its registers, of its own state and of its once-raised marks. -/
theorem Counted.congr {kind : Nat} {v t : State} (h : Counted kind s v) (hr : t.regs = v.regs) (hf : t.flt = v.flt) : Counted kind s t where
  count := (f_of_reg (reg_congr hr _)).trans h.count
  pending hc := (congrArg (·.getLsbD 1) (reg_congr hr _)).trans (h.pending hc)
  snuffed := by
    rw [State.snuffed, State.flag, f_of_reg (reg_congr hr _)]
    exact h.snuffed
  resets := hf ▸ h.resets

theorem MessageStored.congr {v t : State} (h : MessageStored e s v) (hr : t.regs = v.regs) (hf : t.flt = v.flt) : MessageStored e s t where
  ringWr := (f_of_reg (reg_congr hr _)).trans h.ringWr
  lost := hf ▸ h.lost
  drops := (f_of_reg (reg_congr hr _)).trans h.drops
  message i hi := (reg_congr hr _).trans (h.message i hi)
  others j i hj hne hi := (reg_congr hr _).trans (h.others j i hj hne hi)

theorem MessageDropped.congr {n : Nat} {v t : State} (h : MessageDropped n s v) (hr : t.regs = v.regs) (hf : t.flt = v.flt)
    (ho : t.onceRaised = v.onceRaised) : MessageDropped n s t where
  ringWr := (f_of_reg (reg_congr hr _)).trans h.ringWr
  lost := hf ▸ h.lost
  once := by
    rw [State.once, ho]
    exact h.once
  drops := (f_of_reg (reg_congr hr _)).trans h.drops
  ring k h1 h2 := (reg_congr hr _).trans (h.ring k h1 h2)

end Ring

end Sys2Proof.Machine

namespace Sys2Proof.Proofs

open Sys2Proof.Machine

/-- Settles O49: the event raises nothing but, on the first drop, FK_FLT_RING_FULL, so that its collection is one keeping or dropping of a
message, or two droppings. -/
theorem messagesKept : Obligations.MessagesKept := by
  unfold Obligations.MessagesKept
  intro s kind src sub addr access master hs hheld hkind hsrc hsub haddr haccess hmaster hne hc hcf hm hmf e wr
  have hk : e.kind < 4096 := lt_of_isFaultKind hkind
  have hfaults := raise_faults e s hk
  refine ⟨_, exec_faultEvent_next hheld hkind hsrc hsub haddr haccess hmaster, ?_⟩
  cases hfull : fltRingFull s with
  | false =>
    obtain ⟨hcount, hstored⟩ := raise_stores hk hc hm hfull
    obtain ⟨hregs, hflt, -, hmem⟩ := finish_counted hs hfaults hcount
    obtain ⟨hn, hpend, hsn, -⟩ := hcount.congr hregs hflt
    obtain ⟨hwr, hlost, hdrop, hmsg, hothers⟩ := hstored.congr hregs hflt
    exact ⟨hn, hmem, hsn, hpend, fun _ => ⟨hwr, hlost, hdrop, hmsg, hothers⟩, fun h => absurd h Bool.false_ne_true⟩
  | true =>
    have hring : ∀ {n : Nat} {t : State}, MessageDropped n s t →
        ∀ j i, j < 1024 → i < 4 → t.reg (0x38000 + 16 * j + 4 * i) = s.reg (0x38000 + 16 * j + 4 * i) := fun hd j i hj hi =>
      hd.ring _ (by omega) (by omega)
    cases honce : s.once Reg.FLT_RING_WR.key with
    | true =>
      obtain ⟨hcount, hdropped, hkept⟩ := raise_drops hk hc hm hne hfull honce
      obtain ⟨hregs, hflt, ho, hmem⟩ := finish_counted hs hfaults hcount
      obtain ⟨hn, hpend, hsn, -⟩ := hcount.congr hregs hflt
      have hd := hdropped.congr hregs hflt ho
      exact ⟨hn, hmem, hsn, hpend, fun h => absurd h.symm Bool.false_ne_true, fun _ => ⟨hd.ringWr, hd.lost, hd.once,
        fun h => absurd h.symm Bool.false_ne_true, fun _ => ⟨hd.drops, (f_of_reg (reg_congr hregs _)).trans hkept⟩, hring hd⟩⟩
    | false =>
      obtain ⟨hcount, hdropped, hadded⟩ := raise_drops_first hk hc hm hne hcf hmf hfull honce
      obtain ⟨hregs, hflt, ho, hmem⟩ := finish_counted hs hfaults hcount
      obtain ⟨hn, hpend, hsn, -⟩ := hcount.congr hregs hflt
      have hd := hdropped.congr hregs hflt ho
      exact ⟨hn, hmem, hsn, hpend, fun h => absurd h.symm Bool.false_ne_true, fun _ => ⟨hd.ringWr, hd.lost, hd.once,
        fun _ => ⟨hd.drops, (f_of_reg (reg_congr hregs _)).trans hadded⟩, fun h => absurd rfl h, hring hd⟩⟩

end Sys2Proof.Proofs

/-! Proofs about the commands that are one register write (R8, R480): the bus takes the same write of the same register. -/

namespace Sys2Proof.Machine

/-! ## A register write through the matrix -/

/-- A register of the pages: an aligned word that the register tables list. -/
def isRegister (key : Nat) : Bool :=
  decide (key < 2 ^ 28) && decide (key % 4 = 0) && pageExists (key / 0x10000) && (rowAt key).isSome

/-- The operands of a command that has an index beside what it is well formed for. -/
theorem of_indexed {a : Bool} {n bound : Nat} (h : (a && decide (n < bound)) = true) : a = true ∧ n < bound := by
  simpa using h

/-- A field at the bottom of a word reads the number that it holds. -/
theorem getBits_ofNat {v hi : Nat} (hv : v < 2 ^ (hi + 1)) (hhi : hi < 32) : getBits (BitVec.ofNat 32 v) hi 0 = v := by
  have hword : v < 2 ^ 32 := hv.trans_le (Nat.pow_le_pow_right (by decide) hhi)
  rw [getBits_eq, BitVec.toNat_ofNat, Nat.mod_eq_of_lt hword, Nat.pow_zero, Nat.div_one, Nat.sub_zero, Nat.mod_eq_of_lt hv]

section Writes

variable {c : Instr} {s : State} {f : State → State} {m key err : Nat} {w w' : Word} {host : List Byte} {b : Writer}

/-- A bus write of a register, for every master: turned away by the matrix, refused at the register, or taken and logged. -/
theorem busAccess_writeRegister (hkey : isRegister key = true) : busAccess b true (0x40000000 + key) 4 15 (leBytes 4 w.toNat) s =
    if !masterReach b.master 4 true then (bmxFault FK.BMX_ACCESS 4 (0x40000000 + key) 2 b.master s).respond false []
    else if refusedWrite key b.master (requested s) then
      (bmxFault FK.BMX_ACCESS 4 (0x40000000 + key) 2 b.master (requested s)).respond false []
    else (writeLogged b key w (requested s)).respond true [] := by
  simp only [isRegister, Bool.and_eq_true, decide_eq_true_eq] at hkey
  obtain ⟨⟨⟨ho, ha⟩, hpage⟩, hrow⟩ := hkey
  have hroute := routeTo_page ho ha
  have hword := ofLe_enabledCells_word (0x40000000 + key) w
  have hcells := enabledCells_word (0x40000000 + key) w
  have halign : (0x40000000 + key) % 4 = 0 := by omega
  have hoff : 0x40000000 + key - 0x40000000 = key := by omega
  have hholds : busHolds s (0x40000000 + key) 4 = false := by simp [busHolds, hroute]
  simp only [busAccess, hholds, Bool.false_and, Bool.false_eq_true, if_false, if_true, busWrite, hroute]
  cases hreach : masterReach b.master 4 true with
  | false => simp
  | true =>
    simp only [pageBusWrite, hoff, hword]
    rw [hcells]
    by_cases hrefused : refusedWrite key b.master (perfEvent 0x07 0x10 1 s) = true
    · simp [hpage, isBroadcast_of_pageExists hpage, halign, pageWrite, hrow, requested, hrefused]
    · simp [hpage, isBroadcast_of_pageExists hpage, halign, pageWrite, hrow, requested, hrefused]

/-- A register command and a register write agree when the register acts alike and the log sees the same. -/
theorem writeCmd_eq_busAccess {gated : Bool} (hkey : isRegister key = true)
    (hact : writeReg b key w' (requested s) = if gated && pageGated (requested s) (key / 0x10000) then requested s else f (requested s))
    (hlog : ∀ old t, logAfter b.master key old w' t = logAfter b.master key old w t) :
    writeCmd gated b.master key w f s = busAccess b true (0x40000000 + key) 4 15 (leBytes 4 w'.toNat) s := by
  rw [busAccess_writeRegister hkey, writeLogged, hact, hlog]
  rfl

/-- Two device commands that do the same, where both are well formed. -/
theorem exec_eq_registerWrite (hc : exec c = dev (wellFormed c) f) (hwf : wellFormed c = true) (hm : anyMaster m = true)
    (hkey : isRegister key = true)
    (h : f s = busAccess { master := m, err := err, host := host } true (0x40000000 + key) 4 15 (leBytes 4 w.toNat) s) :
    exec c s = exec (.registerWrite m key w host err) s := by
  have hlt : key < 2 ^ 28 := by
    simp only [isRegister, Bool.and_eq_true, decide_eq_true_eq] at hkey
    exact hkey.1.1.1
  change _ = execRegisterWrite m key w host err s
  rw [hc, execRegisterWrite, hwf, hm, decide_eq_true hlt, Bool.and_self, dev, dev, h]

/-- A register command stands for the write of its word. -/
theorem regCmd_eq_write (hc : exec c = dev (wellFormed c) (regCmd m key w f)) (hwf : wellFormed c = true) (hm : anyMaster m = true)
    (hkey : isRegister key = true) (hact : ∀ x, writeReg { master := m, err := err, host := host } key w x =
      if pageGated x (key / 0x10000) then x else f x) :
    exec c s = exec (.registerWrite m key w host err) s :=
  exec_eq_registerWrite hc hwf hm hkey
    (writeCmd_eq_busAccess (b := { master := m, err := err, host := host }) hkey (hact _) fun _ _ => rfl)

/-- On a page that is never gated. -/
theorem regCmd_eq_write_open (hc : exec c = dev (wellFormed c) (regCmd m key w f)) (hwf : wellFormed c = true) (hm : anyMaster m = true)
    (hkey : isRegister key = true)
    (hp : key / 0x10000 ≠ 0x0E ∧ key / 0x10000 ≠ 0x10 ∧ key / 0x10000 ≠ 0x11 ∧ key / 0x10000 ≠ 0x12)
    (hact : ∀ x, writeReg { master := m, err := err, host := host } key w x = f x) :
    exec c s = exec (.registerWrite m key w host err) s :=
  regCmd_eq_write hc hwf hm hkey fun x => by
    rw [hact, pageGated_of_page hp, if_neg Bool.false_ne_true]

/-- A commit bit stands for the write that sets it. -/
theorem commitCmd_eq_write (hc : exec c = dev (wellFormed c) (commitCmd m key w f)) (hwf : wellFormed c = true) (hm : anyMaster m = true)
    (hkey : isRegister key = true) (hact : ∀ x, writeReg { master := m, err := err, host := host } key w x = f x) :
    exec c s = exec (.registerWrite m key w host err) s :=
  exec_eq_registerWrite hc hwf hm hkey
    (writeCmd_eq_busAccess (b := { master := m, err := err, host := host }) hkey (hact _) fun _ _ => rfl)

/-! ## The pages of lamps, lane groups and DMA channels -/

/-- Pages with the same rows have the same registers. -/
theorem isRegister_of_rows {p q o : Nat} (hrows : pageRows p = pageRows q) (hp : pageExists p = true) (ho : o < 0x10000)
    (h : isRegister (q * 0x10000 + o) = true) : isRegister (p * 0x10000 + o) = true := by
  have hlt : p < 0x80 := by
    simp only [pageExists, Bool.or_eq_true, Bool.and_eq_true, decide_eq_true_eq] at hp
    omega
  have hdiv : ∀ r, (r * 0x10000 + o) / 0x10000 = r := fun r => by omega
  have hmod : ∀ r, (r * 0x10000 + o) % 0x10000 = o := fun r => by omega
  have hword : ∀ r, (r * 0x10000 + o) % 4 = o % 4 := fun r => by omega
  have hbound : p * 0x10000 + o < 2 ^ 28 := by omega
  simp only [isRegister, rowAt_eq_find, hdiv, hmod, hword, hrows, Bool.and_eq_true, decide_eq_true_eq] at h ⊢
  obtain ⟨⟨⟨-, halign⟩, -⟩, hrow⟩ := h
  exact ⟨⟨⟨hbound, halign⟩, hp⟩, hrow⟩

theorem isRegister_lamp {n o : Nat} (hn : n < 64) (ho : o < 0x10000) (h : isRegister (0x40 * 0x10000 + o) = true) :
    isRegister (0x400000 + n * 0x10000 + o) = true := by
  have hrows : pageRows (0x40 + n) = pageRows 0x40 := by simp (disch := omega) only [pageRows, if_neg, if_pos]
  have hexists : pageExists (0x40 + n) = true := by
    simp only [pageExists, Bool.or_eq_true, Bool.and_eq_true, decide_eq_true_eq]
    omega
  rw [show 0x400000 + n * 0x10000 + o = (0x40 + n) * 0x10000 + o by ring]
  exact isRegister_of_rows hrows hexists ho h

theorem isRegister_link {g o : Nat} (hg : g < 16) (ho : o < 0x10000) (h : isRegister (0x20 * 0x10000 + o) = true) :
    isRegister ((0x20 + g) * 0x10000 + o) = true := by
  have hrows : pageRows (0x20 + g) = pageRows 0x20 := by simp (disch := omega) only [pageRows, if_neg, if_pos]
  have hexists : pageExists (0x20 + g) = true := by
    simp only [pageExists, Bool.or_eq_true, Bool.and_eq_true, decide_eq_true_eq]
    omega
  exact isRegister_of_rows hrows hexists ho h

theorem writeReg_lamp {n o : Nat} (hn : n < 64) (ho : o < 0x10000) (x : State) :
    writeReg b (0x400000 + n * 0x10000 + o) w x = lampPage n o b w x := by
  have hpage : (0x400000 + n * 0x10000 + o) / 0x10000 = 0x40 + n := by omega
  have hoff : (0x400000 + n * 0x10000 + o) % 0x10000 = o := by omega
  have hgate : pageGated x (0x40 + n) = false := pageGated_of_page (by omega)
  simp (disch := omega) only [writeReg, hpage, hoff, hgate, Bool.false_eq_true, if_false, if_neg, if_pos, Nat.add_sub_cancel_left]

theorem writeReg_link {g o : Nat} (hg : g < 16) (ho : o < 0x10000) (x : State) :
    writeReg b ((0x20 + g) * 0x10000 + o) w x = linkPage g o w x := by
  have hpage : ((0x20 + g) * 0x10000 + o) / 0x10000 = 0x20 + g := by omega
  have hoff : ((0x20 + g) * 0x10000 + o) % 0x10000 = o := by omega
  have hgate : pageGated x (0x20 + g) = false := pageGated_of_page (by omega)
  simp (disch := omega) only [writeReg, hpage, hoff, hgate, Bool.false_eq_true, if_false, if_neg, if_pos, Nat.add_sub_cancel_left]

theorem writeReg_dma {o : Nat} (ho : o < 0x10000) (x : State) : writeReg b (0xD0000 + o) w x = dmaPage o b w x := by
  have hpage : (0xD0000 + o) / 0x10000 = 0x0D := by omega
  have hoff : (0xD0000 + o) % 0x10000 = o := by omega
  have hgate : pageGated x 0x0D = false := pageGated_of_page (by decide)
  simp (disch := omega) only [writeReg, hpage, hoff, hgate, Bool.false_eq_true, if_false, if_neg, if_true]

theorem laneCmdKey_eq (l : Nat) : laneCmdKey l = (0x20 + l / 8) * 0x10000 + (0x108 + l % 8 * 128) := by
  unfold laneCmdKey
  ring

theorem isRegister_laneCmd {l : Nat} (hl : l < 128) : isRegister (laneCmdKey l) = true := by
  have h : ∀ k, k < 8 → isRegister (0x20 * 0x10000 + (0x108 + k * 128)) = true := by decide
  rw [laneCmdKey_eq]
  exact isRegister_link (by omega) (by omega) (h _ (by omega))

/-- A write of LANE_CMD reaches its lane. -/
theorem writeReg_laneCmd {l : Nat} (hl : l < 128) (x : State) : writeReg b (laneCmdKey l) w x =
    onBit w 2 (laneClearCnt l) (onBit w 1 (sendRetrainReq l) (onBit w 0 (laneRetrain passLost l) x)) := by
  have hlane : 8 * (l / 8) + ((0x108 + l % 8 * 128) / 128 - 2) = l := by omega
  rw [laneCmdKey_eq, writeReg_link (by omega) (by omega)]
  simp (disch := omega) only [linkPage, if_neg, if_pos, hlane]

theorem isRegister_dmaCmd {c : Nat} (hc : c < 16) : isRegister (0xD0100 + c * 64) = true :=
  (by decide : ∀ c, c < 16 → isRegister (0xD0100 + c * 64) = true) c hc

theorem isRegister_cmpRd {c : Nat} (hc : c < 16) : isRegister (0xD0128 + c * 64) = true :=
  (by decide : ∀ c, c < 16 → isRegister (0xD0128 + c * 64) = true) c hc

/-- A write of a channel's command word. -/
theorem writeReg_dmaCmd {c : Nat} (hc : c < 16) (x : State) : writeReg b (0xD0100 + c * 64) w x =
    onBit w 3 (dmaClearCnt c) (onBit w 2 (dmaAbort c) (onBit w 1 (dmaDoorbell c b.err b.host) (onBit w 0 (dmaStart c) x))) := by
  have hchan : (0x100 + c * 64) / 64 - 4 = c := by omega
  rw [show 0xD0100 + c * 64 = 0xD0000 + (0x100 + c * 64) by ring, writeReg_dma (by omega)]
  simp (disch := omega) only [dmaPage, if_neg, if_pos, hchan]

theorem writeReg_cmpRd {c : Nat} (hc : c < 16) (x : State) : writeReg b (0xD0128 + c * 64) w x =
    cmpRdWrite c (getBits w 16 0) b.err b.host x := by
  have hchan : (0x128 + c * 64) / 64 - 4 = c := by omega
  rw [show 0xD0128 + c * 64 = 0xD0000 + (0x128 + c * 64) by ring, writeReg_dma (by omega)]
  simp (disch := omega) only [dmaPage, if_neg, if_pos, hchan]

/-! ## CAP_CTRL (R311): a command bit beside two fields that keep what they hold -/

/-- A word that repeats the masked bits leaves a word as it is. -/
theorem keepMasked_eq (old mask k : Word) (h : k &&& mask = 0#32) : (old &&& ~~~mask) ||| (((old &&& mask) ||| k) &&& mask) = old := by
  refine BitVec.eq_of_getLsbD_eq fun i hi => ?_
  have hk : (k.getLsbD i && mask.getLsbD i) = false := by
    rw [← BitVec.getLsbD_and, h, BitVec.getLsbD_zero]
  simp only [BitVec.getLsbD_or, BitVec.getLsbD_and, BitVec.getLsbD_not, hi, decide_true, Bool.true_and]
  rw [Bool.and_or_distrib_right, hk]
  cases old.getLsbD i <;> cases mask.getLsbD i <;> rfl

/-- The fields TRIG_EN and TRIG_EDGE as they stand, with a command bit. -/
def capWord (s : State) (k : Word) : Word := (s.reg 0xF0500 &&& 0x18) ||| k

theorem onBit_capWord {k : Word} {i : Nat} (hi : i < 3) (x : State) : onBit (capWord s k) i f x = onBit k i f x := by
  have hmask : (0x18#32).getLsbD i = false := (by decide : ∀ i, i < 3 → (0x18#32).getLsbD i = false) i hi
  have hbit : (capWord s k).getLsbD i = k.getLsbD i := by
    rw [capWord, BitVec.getLsbD_or, BitVec.getLsbD_and]
    change (_ && (0x18#32).getLsbD i || _) = _
    rw [hmask, Bool.and_false, Bool.false_or]
  rw [onBit, onBit, hbit]

theorem plainWrite_capWord {k : Word} (h : k &&& 0x18 = 0) : plainWrite 0xF0500 (capWord s k) s = s := by
  have hrow : rowAt 0xF0500 = some ⟨"CAP_CTRL", 0x500, [],
      [⟨0, 0, .wo, 0⟩, ⟨1, 1, .wo, 0⟩, ⟨2, 2, .wo, 0⟩, ⟨3, 3, .rw, 0⟩, ⟨4, 4, .rw, 0⟩]⟩ := rfl
  have hnew : (s.reg 0xF0500 &&& ~~~(0x18 : Word) &&& ~~~(capWord s k &&& 0#32)) ||| (capWord s k &&& 0x18) |||
      (capWord s k &&& 0#32) = s.reg 0xF0500 := by
    rw [BitVec.and_zero, BitVec.not_zero, BitVec.and_allOnes, BitVec.or_zero]
    exact keepMasked_eq (s.reg 0xF0500) 0x18 k h
  simp only [plainWrite, hrow]
  exact if_pos hnew

/-- A command bit of CAP_CTRL stands for the write of it with the two fields as they stand. -/
theorem capCmd_eq_write {k : Word} (hc : exec c = dev (wellFormed c) (regCmd m 0xF0500 k f)) (hwf : wellFormed c = true)
    (hm : anyMaster m = true) (hk : k &&& 0x18 = 0) (hact : ∀ x, onBit k 2 capTrigger (onBit k 1 capStop (onBit k 0 capArm x)) = f x) :
    exec c s = exec (.registerWrite m 0xF0500 (capWord s k) [] 0) s := by
  have hreg : (requested s).reg 0xF0500 = s.reg 0xF0500 := requested_reg s (by decide)
  have hword : capWord s k = capWord (requested s) k := by rw [capWord, capWord, hreg]
  have hbits : ∀ v : Word, ¬ v &&& commitBits 0xF0500 ≠ 0 := fun v => by
    rw [show commitBits 0xF0500 = 0#32 by decide, BitVec.and_zero]
    exact fun h => h rfl
  refine exec_eq_registerWrite hc hwf hm (by decide) (writeCmd_eq_busAccess (b := { master := m, err := 0, host := [] }) (by decide) ?_
    fun old t => ?_)
  · rw [hword]
    change onBit _ 2 capTrigger (onBit _ 1 capStop (onBit _ 0 capArm (plainWrite 0xF0500 _ _))) = f (requested s)
    rw [plainWrite_capWord hk, onBit_capWord (by decide), onBit_capWord (by decide), onBit_capWord (by decide), hact]
  · rw [logAfter, logAfter, if_neg (hbits _), if_neg (hbits _)]

/-! ## Commands of a lamp, of a lane and of a lane group -/

theorem lampCmd_eq_write {n : Nat} (o : Nat) (hc : exec c = dev (wellFormed c) (regCmd m (0x400000 + n * 0x10000 + o) w f))
    (hwf : wellFormed c = true) (hm : anyMaster m = true) (hn : n < 64) (ho : o < 0x10000) (hkey : isRegister (0x40 * 0x10000 + o) = true)
    (hact : ∀ x, lampPage n o { master := m, err := err, host := host } w x = f x) :
    exec c s = exec (.registerWrite m (0x400000 + o + n * 0x10000) w host err) s := by
  rw [Nat.add_right_comm]
  exact regCmd_eq_write_open hc hwf hm (isRegister_lamp hn ho hkey) (by omega) fun x => (writeReg_lamp hn ho x).trans (hact x)

theorem lampCommit_eq_write {n : Nat} (o : Nat) (hc : exec c = dev (wellFormed c) (commitCmd m (0x400000 + n * 0x10000 + o) w f))
    (hwf : wellFormed c = true) (hm : anyMaster m = true) (hn : n < 64) (ho : o < 0x10000) (hkey : isRegister (0x40 * 0x10000 + o) = true)
    (hact : ∀ x, lampPage n o { master := m, err := err, host := host } w x = f x) :
    exec c s = exec (.registerWrite m (0x400000 + o + n * 0x10000) w host err) s := by
  rw [Nat.add_right_comm]
  exact commitCmd_eq_write hc hwf hm (isRegister_lamp hn ho hkey) fun x => (writeReg_lamp hn ho x).trans (hact x)

theorem laneCmd_eq_write {l : Nat} (hc : exec c = dev (wellFormed c) (regCmd m (laneCmdKey l) w f)) (hwf : wellFormed c = true)
    (hm : anyMaster m = true) (hl : l < 128)
    (hact : ∀ x, onBit w 2 (laneClearCnt l) (onBit w 1 (sendRetrainReq l) (onBit w 0 (laneRetrain passLost l) x)) = f x) :
    exec c s = exec (.registerWrite m (laneCmdKey l) w host err) s :=
  regCmd_eq_write_open hc hwf hm (isRegister_laneCmd hl) (laneCmdKey_open hl).2 fun x => (writeReg_laneCmd hl x).trans (hact x)

theorem groupKey_eq (g : Nat) : 0x200004 + g * 0x10000 = (0x20 + g) * 0x10000 + 4 := by ring

theorem isRegister_groupCmd {g : Nat} (hg : g < 16) : isRegister (0x200004 + g * 0x10000) = true := by
  rw [groupKey_eq]
  exact isRegister_link hg (by decide) (by decide)

theorem writeReg_groupCmd {g : Nat} (hg : g < 16) (x : State) :
    writeReg b (0x200004 + g * 0x10000) w x = onBit w 1 (retrainAll passLost g) (commitBit (0x20 + g) w x) := by
  rw [groupKey_eq, writeReg_link hg (by decide)]
  rfl

/-- A channel's command word. -/
theorem dmaCmd_eq_write {c' : Nat} (hc : exec c = dev (wellFormed c) (regCmd m (0xD0100 + c' * 64) w f)) (hwf : wellFormed c = true)
    (hm : anyMaster m = true) (hc' : c' < 16)
    (hact : ∀ x, onBit w 3 (dmaClearCnt c') (onBit w 2 (dmaAbort c') (onBit w 1 (dmaDoorbell c' err host) (onBit w 0 (dmaStart c') x))) = f x) :
    exec c s = exec (.registerWrite m (0xD0100 + c' * 64) w host err) s :=
  regCmd_eq_write_open hc hwf hm (isRegister_dmaCmd hc') (by omega) fun x => (writeReg_dmaCmd hc' x).trans (hact x)

end Writes

end Sys2Proof.Machine

namespace Sys2Proof.Proofs

open Sys2Proof.Machine

/-- Settles O48: command by command, the register that the word is written to does what the command does. -/
theorem commandsAreWrites : Obligations.CommandsAreWrites := by
  unfold Obligations.CommandsAreWrites
  intro c s m off err w host has hwf
  unfold asWrite at has
  split at has <;> simp only [Option.some.injEq, Prod.mk.injEq, reduceCtorEq] at has <;> obtain ⟨rfl, rfl, rfl, rfl, rfl⟩ := has
  · exact regCmd_eq_write_open (f := resetKey _) rfl hwf hwf (by decide) (by decide) fun _ => rfl
  · exact commitCmd_eq_write (f := groupCommit 0x120) rfl hwf hwf (by decide) fun x => ite_self (c := pageGated x 0x12 = true) _
  · exact regCmd_eq_write (f := canData _) rfl hwf hwf (by decide) fun _ => rfl
  · exact regCmd_eq_write (f := canCopyLive) rfl hwf hwf (by decide) fun _ => rfl
  · exact regCmd_eq_write (f := canSeal) rfl hwf hwf (by decide) fun _ => rfl
  · exact regCmd_eq_write (f := canUnseal) rfl hwf hwf (by decide) fun _ => rfl
  · exact regCmd_eq_write (f := canSwapNow) rfl hwf hwf (by decide) fun _ => rfl
  · exact regCmd_eq_write_open (f := snapNow) rfl hwf hwf (by decide) (by decide) fun _ => rfl
  · exact regCmd_eq_write_open (f := pmrFreeze) rfl hwf hwf (by decide) (by decide) fun _ => rfl
  · exact regCmd_eq_write_open (f := pmrUnfreeze) rfl hwf hwf (by decide) (by decide) fun _ => rfl
  · exact regCmd_eq_write_open (f := pmrClearAll) rfl hwf hwf (by decide) (by decide) fun _ => rfl
  · exact commitCmd_eq_write (f := groupCommit 0x40) rfl hwf hwf (by decide) fun _ => rfl
  · obtain ⟨hm, hc⟩ := of_indexed hwf
    exact dmaCmd_eq_write (f := dmaStart _) rfl hwf hm hc fun _ => rfl
  · obtain ⟨hm, hc⟩ := of_indexed hwf
    exact dmaCmd_eq_write (f := dmaDoorbell _ _ _) rfl hwf hm hc fun _ => rfl
  · obtain ⟨hm, hc⟩ := of_indexed hwf
    exact dmaCmd_eq_write (f := dmaAbort _) rfl hwf hm hc fun _ => rfl
  · obtain ⟨hm, hc⟩ := of_indexed hwf
    exact dmaCmd_eq_write (f := dmaClearCnt _) rfl hwf hm hc fun _ => rfl
  · next m en =>
    exact regCmd_eq_write_open (f := dmaEnable en) rfl hwf hwf (by decide) (by decide) fun x => by cases en <;> rfl
  · next m c v err host =>
    obtain ⟨hmc, hv⟩ := of_indexed hwf
    obtain ⟨hm, hc⟩ := of_indexed hmc
    rw [show 0xD0128 + c * 64 = 0xD0100 + c * 64 + 0x28 by ring]
    refine regCmd_eq_write_open (f := cmpRdWrite c v err host) rfl hwf hm ?_ (by omega) fun x => ?_ <;>
      rw [show 0xD0100 + c * 64 + 0x28 = 0xD0128 + c * 64 by ring]
    · exact isRegister_cmpRd hc
    · rw [writeReg_cmpRd hc, getBits_ofNat hv (by decide)]
  · exact regCmd_eq_write_open (f := snuffNow) rfl hwf hwf (by decide) (by decide) fun _ => rfl
  · exact regCmd_eq_write_open (f := snuffClear) rfl hwf hwf (by decide) (by decide) fun _ => rfl
  · exact regCmd_eq_write_open (f := firstClear) rfl hwf hwf (by decide) (by decide) fun _ => rfl
  · exact commitCmd_eq_write (f := groupCommit 0x30) rfl hwf hwf (by decide) fun _ => rfl
  · exact commitCmd_eq_write (f := injectArm) rfl hwf hwf (by decide) fun _ => rfl
  · exact regCmd_eq_write_open (f := injectEnd) rfl hwf hwf (by decide) (by decide) fun _ => rfl
  · exact regCmd_eq_write_open (f := mbxDoorbell _) rfl hwf hwf (by decide) (by decide) fun _ => rfl
  · obtain ⟨hm, hn⟩ := of_indexed hwf
    exact lampCmd_eq_write (f := lampRun _) 0 rfl hwf hm hn (by decide) (by decide) fun _ => rfl
  · obtain ⟨hm, hn⟩ := of_indexed hwf
    exact lampCmd_eq_write (f := lampHalt _) 0 rfl hwf hm hn (by decide) (by decide) fun _ => rfl
  · obtain ⟨hm, hn⟩ := of_indexed hwf
    exact lampCmd_eq_write (f := lampStep _ _) 0 rfl hwf hm hn (by decide) (by decide) fun _ => rfl
  · obtain ⟨hm, hn⟩ := of_indexed hwf
    exact lampCmd_eq_write (f := lampReset _) 0 rfl hwf hm hn (by decide) (by decide) fun _ => rfl
  · next m n v =>
    obtain ⟨hmn, hv⟩ := of_indexed hwf
    obtain ⟨hm, hn⟩ := of_indexed hmn
    exact lampCmd_eq_write (f := lampDoorbell n v) 0x10 rfl hwf hm hn (by decide) (by decide) fun x =>
      congrArg (fun v => lampDoorbell n v x) (getBits_ofNat hv (by decide))
  · obtain ⟨hm, hn⟩ := of_indexed hwf
    exact lampCommit_eq_write (f := groupCommit _) 0x18 rfl hwf hm hn (by decide) (by decide) fun _ => rfl
  · obtain ⟨hm, hn⟩ := of_indexed hwf
    exact lampCmd_eq_write (f := lampSeal _) 0x1C rfl hwf hm hn (by decide) (by decide) fun _ => rfl
  · obtain ⟨hm, hn⟩ := of_indexed hwf
    exact lampCmd_eq_write (f := lampUnseal _) 0x1C rfl hwf hm hn (by decide) (by decide) fun _ => rfl
  · obtain ⟨hm, hn⟩ := of_indexed hwf
    exact lampCmd_eq_write (f := lampSwapNow _) 0x1C rfl hwf hm hn (by decide) (by decide) fun _ => rfl
  · obtain ⟨hm, hn⟩ := of_indexed hwf
    exact lampCmd_eq_write (f := dbgWrite _ _) 0x34 rfl hwf hm hn (by decide) (by decide) fun _ => rfl
  · exact commitCmd_eq_write (f := groupCommit 0x100) rfl hwf hwf (by decide) fun x => ite_self (c := pageGated x 0x10 = true) _
  · exact regCmd_eq_write (f := reseedAll) rfl hwf hwf (by decide) fun _ => rfl
  · exact commitCmd_eq_write (f := groupCommit 0xE0) rfl hwf hwf (by decide) fun x => ite_self (c := pageGated x 0x0E = true) _
  · exact regCmd_eq_write (f := lensCoefData _) rfl hwf hwf (by decide) fun _ => rfl
  · exact regCmd_eq_write (f := lensSeal) rfl hwf hwf (by decide) fun _ => rfl
  · exact regCmd_eq_write (f := lensUnseal) rfl hwf hwf (by decide) fun _ => rfl
  · exact regCmd_eq_write (f := lensSwapNow) rfl hwf hwf (by decide) fun _ => rfl
  · exact regCmd_eq_write (f := lensResetPtr) rfl hwf hwf (by decide) fun _ => rfl
  · obtain ⟨hm, hl⟩ := of_indexed hwf
    exact laneCmd_eq_write (f := laneRetrain passLost _) rfl hwf hm hl fun _ => rfl
  · obtain ⟨hm, hl⟩ := of_indexed hwf
    exact laneCmd_eq_write (f := sendRetrainReq _) rfl hwf hm hl fun _ => rfl
  · obtain ⟨hm, hl⟩ := of_indexed hwf
    exact laneCmd_eq_write (f := laneClearCnt _) rfl hwf hm hl fun _ => rfl
  · next m g =>
    obtain ⟨hm, hg⟩ := of_indexed hwf
    exact commitCmd_eq_write (f := groupCommit (16 * (0x20 + g))) rfl hwf hm (isRegister_groupCmd hg) fun x => writeReg_groupCmd hg x
  · next m g =>
    obtain ⟨hm, hg⟩ := of_indexed hwf
    exact regCmd_eq_write_open (f := retrainAll passLost g) rfl hwf hm (isRegister_groupCmd hg) (linkKey_open g).2 fun x => writeReg_groupCmd hg x
  · exact commitCmd_eq_write (f := groupCommit 0x130) rfl hwf hwf (by decide) fun _ => rfl
  · exact commitCmd_eq_write (f := groupCommit 0x110) rfl hwf hwf (by decide) fun x => ite_self (c := pageGated x 0x11 = true) _
  · exact regCmd_eq_write_open (f := fspReq) rfl hwf hwf (by decide) (by decide) fun _ => rfl
  · exact regCmd_eq_write_open (f := fspInvalidate) rfl hwf hwf (by decide) (by decide) fun _ => rfl
  · next m k v =>
    obtain ⟨hmk, hv⟩ := of_indexed hwf
    obtain ⟨hm, hk⟩ := of_indexed hmk
    have hrate : getBits (BitVec.ofNat 32 v) 2 0 = v := getBits_ofNat hv (by decide)
    obtain rfl | rfl : k = 0 ∨ k = 1 := by omega
    · exact regCmd_eq_write_open (f := fspRateWrite 0 v) rfl hwf hm (by decide) (by decide) fun x => congrArg (fun v => fspRateWrite 0 v x) hrate
    · exact regCmd_eq_write_open (f := fspRateWrite 1 v) rfl hwf hm (by decide) (by decide) fun x => congrArg (fun v => fspRateWrite 1 v x) hrate
  · exact commitCmd_eq_write (f := groupCommit 0xC0) rfl hwf hwf (by decide) fun _ => rfl
  · exact commitCmd_eq_write (f := groupCommit 0x50) rfl hwf hwf (by decide) fun _ => rfl
  · exact regCmd_eq_write_open (f := remapWrite 1) rfl hwf hwf (by decide) (by decide) fun _ => rfl
  · exact commitCmd_eq_write (f := groupCommit 0xF0) rfl hwf hwf (by decide) fun _ => rfl
  · exact regCmd_eq_write_open (f := stgClearCnt) rfl hwf hwf (by decide) (by decide) fun _ => rfl
  · exact capCmd_eq_write (f := capArm) rfl hwf hwf (by decide) fun _ => rfl
  · exact capCmd_eq_write (f := capStop) rfl hwf hwf (by decide) fun _ => rfl
  · exact capCmd_eq_write (f := capTrigger) rfl hwf hwf (by decide) fun _ => rfl
  · exact regCmd_eq_write_open (f := timeCtrlWrite _) rfl hwf hwf (by decide) (by decide) fun _ => rfl
  · exact commitCmd_eq_write (f := stepNowSched) rfl hwf hwf (by decide) fun _ => rfl
  · exact commitCmd_eq_write (f := stepAtPps) rfl hwf hwf (by decide) fun _ => rfl
  · next m d =>
    obtain ⟨hm, hd⟩ := of_indexed hwf
    obtain rfl | rfl | rfl | rfl : d = 0 ∨ d = 1 ∨ d = 2 ∨ d = 3 := by omega
    · exact commitCmd_eq_write (f := groupCommit 16) rfl hwf hm (by decide) fun _ => rfl
    · exact commitCmd_eq_write (f := groupCommit 17) rfl hwf hm (by decide) fun _ => rfl
    · exact commitCmd_eq_write (f := groupCommit 18) rfl hwf hm (by decide) fun _ => rfl
    · exact commitCmd_eq_write (f := groupCommit 19) rfl hwf hm (by decide) fun _ => rfl
  · exact regCmd_eq_write_open (f := tb0Capture) rfl hwf hwf (by decide) (by decide) fun _ => rfl

end Sys2Proof.Proofs
